-- ==== Sys2Proof/Word.lean ====
section
/-!
DEFINITION. The word types of the chip set and their plainest arithmetic: a package register word has
32 bits, a Celduax register 16 bits, memory is made of bytes.
-/
namespace Sys2Proof

/-- A word of the package's register map and of a Polver general register. -/
abbrev Word := BitVec 32

/-- A Celduax register (R121: registers are 16 bits wide at 8-bit addresses). -/
abbrev Half := BitVec 16

/-- A byte of memory. -/
abbrev Byte := BitVec 8

/-- A Polver accumulator: 8 guard bits over 64 product bits (R236). -/
abbrev Acc72 := BitVec 72

end Sys2Proof
end

