-- ==== Sys2Proof/Syntax.lean ====
section
/-!
DEFINITION. The commands of the block as plain data: the operand types and the one inductive `Instr`, one constructor
per row of the opcode table. Operands that the world outside the part supplies (a received burst, a frame, a sample, an
instant) are plain numbers and bit vectors; a register number or a lane number is a natural number that the meanings
check against what the part has.
-/
namespace Sys2Proof

/-- The issuer of a register write: its master ID (R24) and whether it issues at supervisor privilege (R208). -/
structure Wr where
  mid : Nat
  sup : Bool
deriving DecidableEq, Repr

/-- A target of cycle writes (R34): the modulator of a K-die or the cell contexts of an L-die. -/
inductive Target where
  | mod (k : Nat)
  | ctx (l : Nat)
deriving DecidableEq, Repr

/-- One frame block of the downstream line as it arrives (R68): BTYPE, BIDX, SUBN, D0 to D7 and the CRC word. -/
structure Block where
  btype : BitVec 8
  bidx : BitVec 8
  subn : BitVec 16
  d0 : Word
  d1 : Word
  d2 : Word
  d3 : Word
  d4 : Word
  d5 : Word
  d6 : Word
  d7 : Word
  crc : Word
deriving DecidableEq, Repr

/-- Where a command word stood in its frame (R117). -/
inductive Place where
  | slot
  | acmd
  | bcast
deriving DecidableEq, Repr

/-- A command word a cell holds for its boundary: the word, its place, and the SEQ of an acknowledged entry (R72). -/
structure CmdEntry where
  word : Word
  place : Place
  ack : Option (BitVec 2)
deriving DecidableEq, Repr

/-- A slot of the upstream frame (R82): report slot `u`, or re-grant slot `m` of the maintenance window. -/
inductive RxSlot where
  | report (u : Nat)
  | regrant (m : Nat)
deriving DecidableEq, Repr

/-- A received burst: its 128 bits, its arrival error against the slot's instant in UI/16 (R88, R90; for a ranging burst
against B_0 + 2,280 ns, R89) and its seeing figure (R98). -/
structure BurstRx where
  bits : BitVec 128
  err : Int
  see : Nat
deriving DecidableEq, Repr

/-- Operands of a three-register instruction (format A, R244): destination, two sources. -/
structure OpA where
  d : BitVec 5
  a : BitVec 5
  b : BitVec 5
deriving DecidableEq, Repr

/-- Operands of a register-immediate instruction (format B). -/
structure OpB where
  d : BitVec 5
  a : BitVec 5
  imm : BitVec 16
deriving DecidableEq, Repr

/-- Operands of a pointer load or store (format C). -/
structure OpC where
  d : BitVec 5
  p : BitVec 3
  m : BitVec 3
  sz : BitVec 2
  mode : BitVec 2
  disp : BitVec 11
deriving DecidableEq, Repr

/-- Operands of a branch (format D). -/
structure OpD where
  cond : BitVec 4
  off : BitVec 22
deriving DecidableEq, Repr

/-- Operands of an accumulator instruction (format E). -/
structure OpE where
  acc : BitVec 2
  a : BitVec 5
  b : BitVec 5
  sh : BitVec 5
deriving DecidableEq, Repr

/-- Operands of a system instruction (format S). -/
structure OpS where
  r1 : BitVec 5
  r2 : BitVec 5
  imm : BitVec 10
deriving DecidableEq, Repr

/-- An Ethernet frame as a port receives it: its bytes without FCS, whether the FCS is good, and the MAC instant in
2^-16 ns of package time (R330, R336). -/
structure EthFrame where
  bytes : List Byte
  fcsOk : Bool
  macTs : Nat
deriving DecidableEq, Repr

/-- A sampled-value frame of the stream entry's port (R344): APPID, the last ASDU's smpCnt and smpSynch, its channels
(value, quality word) and the package time NS at reception. The entry's LAN B copy is told by `port`. -/
structure SvFrame where
  port : Nat
  appid : BitVec 16
  smpCnt : BitVec 16
  smpSynch : Nat
  chans : List (Word × Word)
deriving DecidableEq, Repr

/-- The injection tag of a detection (R367, R368): none, an injected error with the expected syndrome, or an injection
met by a real error (INJ_MISMATCH). -/
inductive InjTag where
  | real
  | injected
  | mismatch
deriving DecidableEq, Repr

/-- One arm of a pass record (R401). -/
structure PassArm where
  r : Word
  holder : BitVec 13
  hv : Bool
  amode : BitVec 2
deriving DecidableEq, Repr

/-- One entry of a pass record's change list (R401). -/
structure PassChange where
  st : BitVec 2
  cell : BitVec 13
deriving DecidableEq, Repr

/-- A pass record as it arrives (R401), with the verdict of its CRC-32C. -/
structure PassRec where
  n : Word
  active : Bool
  spr : Bool
  handing : Bool
  ovf : Bool
  drill : Bool
  h : BitVec 16
  arms : List PassArm
  changes : List PassChange
  crc : Word
deriving DecidableEq, Repr

/-- A status record as it arrives (R400), with what its header says of the sender's grid (R408). -/
structure StatusRec where
  good : Bool
  pstate : Nat
  pref : Bool
  stbyOk : Bool
  tbreq : Bool
  drreq : Bool
  flatch : Bool
  spr : Bool
  cyc : BitVec 48
deriving DecidableEq, Repr

/-- One cell of an epoch's cell slice (R403). -/
structure EpochCell where
  k : Nat
  klt : Nat
  pfcnt : Nat
  dwc : Nat
  swc : Nat
  pfx : Bool
  tripx : Bool
  bypr : Bool
  age : Bool
deriving DecidableEq, Repr

/-- One context of an epoch's lane slice (R403). -/
structure EpochCtx where
  cstate : Nat
  rtd : Nat
  ddn : Nat
  grantU : Nat
deriving DecidableEq, Repr

/-- One context change of an epoch (R403). -/
structure EpochChange where
  cell : Nat
  cstate : Nat
  rtd : Nat
  ddn : Nat
  fromFrame : Nat
deriving DecidableEq, Repr

/-- One arm of an epoch (R403). -/
structure EpochArm where
  amode : Nat
  holder : BitVec 13
  hv : Bool
  rot : Nat
  sww : Nat
deriving DecidableEq, Repr

/-- An epoch as it arrives (R403), with the verdict of its CRC-32C and whether it ended before the next one began. -/
structure EpochRec where
  good : Bool
  seq : BitVec 16
  cyc : BitVec 48
  capture : Word
  nsub : Nat
  align : Nat
  spr : Bool
  sprcause : Nat
  capsDies : Word
  mirCrc : Word
  cellBase : Nat
  laneBase : Nat
  cst : List (BitVec 2)
  arms : List EpochArm
  words : List Word
  cells : List EpochCell
  ctxs : List EpochCtx
  changes : List EpochChange
deriving DecidableEq, Repr

/-- One metering sample pair (R431): the two codes, over-range, and the REFBAD mark. -/
structure MSample where
  v : Int
  i : Int
  ovr : Bool
  refbad : Bool
deriving DecidableEq, Repr

/-- The commands the chip set takes: one constructor per row of the table, in the table's order. -/
inductive Instr where
  /-- REGISTER_WRITE (R12): A write lands on a register field that has no row of its own and takes effect by its change class and access code. -/
  | registerWrite (w : Wr) (addr : Nat) (v : Word)
  /-- CAPQ (R4): Returns the CAPS word selected by sel, or zero for sel above 5. -/
  | capq (m : Nat) (o : OpS)
  /-- ABSENT_CLR (R5): A write of 1 to ABSENT_CTL.CLR clears ABSENT_ADDR, ABSENT_INFO and COUNT. -/
  | absentClr (w : Wr)
  /-- PCIE_HOST_REQUEST (R8): A request from the PCIe host is window-checked and completed, with zero data for an absent unit and a completer abort while the host is frozen. -/
  | pcieHostRequest (wr : Bool) (addr : Nat) (v : Word)
  /-- CYCLE_WRITE_LAND (R34): A core's write to a modulator or cell-context range lands and is held in the staging buffer of its MID. -/
  | cycleWriteLand (m : Nat) (addr : Nat) (v : Word)
  /-- CYC_COMMIT (R35): A commit(n) arrives on the CYC channel and marks the covered staged writes for release at the cut-off of subframe n. -/
  | cycCommit (m n : Nat) (t : Target)
  /-- FLIT_CRC_FAIL (R29): A flit fails its CRC and is replayed, and a fifth failure of the same flit marks the link failed. -/
  | flitCrcFail (link : Nat)
  /-- FABRIC_TIMEOUT (R41): A transaction outstanding longer than TMO completes with an error, is recorded in FAB_ERR and fires source 0x011. -/
  | fabricTimeout (m : Nat) (wr : Bool) (addr : Nat)
  /-- FAB_ERRCLR (R42): A write of 1 to FAB_ERR_INFO.ERRCLR clears VALID, ADDR and MID. -/
  | fabErrclr (w : Wr)
  /-- WINDOW_TABLE_ECC_ERROR (R43): The access-window table reports a corrected or uncorrectable error, firing source 0x013 or 0x014. -/
  | windowTableEccError (ue : Bool)
  /-- SUBFRAME_BOUNDARY (R44): A grid boundary B_n is reached: the subframe number advances and, while the timer runs, the cycle events fire. -/
  | subframeBoundary
  /-- UPSTREAM_SLOTS_DONE (R54): At B_0 + 2,700 ns + 52 ns × UPSLOTS event 0x04 fires, because all report slots of the cycle have been received. -/
  | upstreamSlotsDone
  /-- CYCLE_TIMER_EN (R56): Writing CYC_CTL.EN = 1 while stopped requests a start at the next grid boundary. -/
  | cycleTimerEn (w : Wr) (v : Word)
  /-- CYCLE_TIMER_START (R56): The timer starts at the grid boundary, which becomes B_0 with the number in CYC_NUM, and n jumps to CYC_NUM × NSUB. -/
  | cycleTimerStart
  /-- CYCLE_TIMER_DIS (R56): Writing CYC_CTL.EN = 0 requests a stop at the end of the current cycle. -/
  | cycleTimerDis (w : Wr)
  /-- CYCLE_TIMER_STOP (R56): The timer stops at the end of the cycle, CYC_NUM holds the next number and every arm goes OFF. -/
  | cycleTimerStop
  /-- CYC_NUM_LO_READ (R58): A read of CYC_NUM_LO returns cycle-number bits 31:0 and latches bits 47:32 into CYC_NUM_HI. -/
  | cycNumLoRead (m : Nat)
  /-- MOD_BUILD_CUTOFF (R152): At B_n + 300 ns the modulator releases staged writes, settles intervals, applies reports, fixes eligibility and predictions, and begins the rank pass. -/
  | modBuildCutoff (k : Nat)
  /-- RANK_COMPLETE (R169): The rank engine finishes all arms and hands the words to the checker and the lanes. -/
  | rankComplete (k : Nat) (glitch : List (Nat × Word))
  /-- CHECKER_VERDICT (R173): The checker compares each arm's words with the recomputed counts, and on a failure it repeats the previous words and fires source 0x068. -/
  | checkerVerdict (k : Nat)
  /-- REFSTALE (R159): The consecutive reference-miss count reaches REFMISS_TH, setting REFSTALE and firing 0x06A, and with REFACT = 1 the arm goes to BLOCK. -/
  | refstale (k a : Nat)
  /-- PLAUSIBILITY_EXCLUSION (R166): PFCNT reaches PF_LIM: PFX is set, the cell is excluded and bypassed, and source 0x069 fires. -/
  | plausibilityExclusion (k c : Nat)
  /-- TREND_PERIOD_END (R168): After 2^TPER_EXP Meridians every seeded cell updates KLT and TREND, and a cell past AGE_TH sets its AGE bit. -/
  | trendPeriodEnd (k : Nat)
  /-- ARM_CNTCLR (R175): A write of 1 to ARM_CNTCLR clears ARM_CNT0 and ARM_CNT1. -/
  | armCntclr (w : Wr) (k a : Nat)
  /-- CV_AGE_CLEAR (R174): Clearing CV_STAT.AGE clears the AGE bit of cell SELD and decrements NAGE. -/
  | cvAgeClear (w : Wr) (k : Nat)
  /-- PFX_CLEAR (R176): Clearing CMAP.PFX also clears PFCNT of the cell. -/
  | pfxClear (w : Wr) (k c : Nat)
  /-- MOD_RAM_ERROR (R179): A table or estimator RAM error is corrected, or, if uncorrectable, puts the arm into BLOCK and clears the cell's SEED. -/
  | modRamError (k c : Nat) (ue : Bool)
  /-- LANE_BUILD_CUTOFF (R71): At B_n + 620 ns the lane fills slot words, ACMD entries, BCAST, GRANT and MAINT for downstream subframe n. -/
  | laneBuildCutoff (ln : Nat)
  /-- FRAME_START (R66): The lane begins the downstream frame of subframe n with START and HDR, setting BLK while SPR is asserted. -/
  | frameStart (ln : Nat)
  /-- CELL_HDR_ACCEPT (R69): A cell accepts an HDR on its CRC: it sets its subframe number and acts on BLK, OCCALL and ALIGN, and in ACQUIRE becomes LINKED. -/
  | cellHdrAccept (c : Nat) (b : Block)
  /-- CELL_CMD_BLOCK (R71): A cell accepts a CMD block and buffers its own slot word for the named boundary, restarting LOL_TIMEOUT. -/
  | cellCmdBlock (c : Nat) (b : Block) (margin : Int)
  /-- CELL_RPT_BLOCK (R77): A cell uses a repeat CMD block only when the first copy failed and R49 allows it. -/
  | cellRptBlock (c : Nat) (b : Block) (margin : Int)
  /-- CELL_ACMD (R72): A cell takes an ACMD entry addressed to its slot, deals with a new SEQ once and acknowledges duplicates. -/
  | cellAcmd (c : Nat) (b : Block) (margin : Int)
  /-- CELL_BCAST (R73): A cell executes each BCAST word as if addressed to it, without acknowledgement. -/
  | cellBcast (c : Nat) (b : Block) (margin : Int)
  /-- CELL_MER (R74): A cell takes the cycle number and package time of B_0 from the MER block. -/
  | cellMer (c : Nat) (b : Block)
  /-- CELL_GRANT (R75): A cell takes a GRANT block of the map that governs the next upstream frame. -/
  | cellGrant (c : Nat) (b : Block)
  /-- ENABLE_TX (R76): MAINT MOP 1 with the cell's serial assigns SLOT, clears EQV and clears the Occult latch. -/
  | enableTx (c : Nat) (b : Block)
  /-- OCCULT (R139): An OCCULT, by identity in MAINT or by slot in an ACMD entry, sets the cell's Occult latch. -/
  | occult (c : Nat) (byId : Bool) (b : Block)
  /-- RELEASE (R76): MAINT MOP 3 sets the Occult latch, clears EQV and forgets the slot. -/
  | release (c : Nat) (b : Block)
  /-- EQSET (R76): MAINT MOP 4 loads RTD and DDN together and sets EQV. -/
  | eqset (c : Nat) (b : Block)
  /-- NOP (R117): The command word with no effect. -/
  | nop (c : Nat) (e : CmdEntry)
  /-- SET_STATE (R122): At its boundary the cell sets its commanded state and stops the carrier, unless refused. -/
  | setState (c : Nat) (e : CmdEntry)
  /-- SET_PWM (R126): At its apply instant the cell loads PER and DUTY and starts a new carrier period, unless refused under R127. -/
  | setPwm (c : Nat) (e : CmdEntry)
  /-- FORCE (R129): The cell drives or releases LEVEL from the next period start or boundary, unless refused. -/
  | force (c : Nat) (e : CmdEntry)
  /-- CLEAR_TRIP (R133): Clears the selected trip latches, or is refused whole if a selected enabled input is active. -/
  | clearTrip (c : Nat) (e : CmdEntry)
  /-- READ_REG (R121): Samples a cell register at the apply instant and places it in the next report. -/
  | readReg (c : Nat) (e : CmdEntry)
  /-- WRITE_REG (R121): Writes a cell register at the apply instant under the field's class. -/
  | writeReg (c : Nat) (e : CmdEntry)
  /-- CELL_CLRCNT (R149): A write of CLR.CLRCNT clears the retained counters 0x30–0x36. -/
  | cellClrcnt (c : Nat)
  /-- BYPF_CLR (R135): A write of CLR with BYPF_CLR = 1 and KEY = 0xB5 clears BYPF. -/
  | bypfClr (c : Nat) (v : Half)
  /-- SLEEP (R116): A selected cell in block sets its Occult latch, clears AWREQ and turns its fast domain off. -/
  | sleep (c : Nat) (e : CmdEntry)
  /-- BIST_START (R148): A cell in block starts its logic and/or memory test, which acts as a block source. -/
  | bistStart (c : Nat) (e : CmdEntry)
  /-- CELL_BIST_END (R148): Cell BIST ends: the MISR is compared and PASS or FAIL set, and non-retained fields reset. -/
  | cellBistEnd (c : Nat) (misr golden : BitVec 64)
  /-- ARM_BYPASS (R135): Sets BYPA and opens a 1 ms window with its KEY. -/
  | armBypass (c : Nat) (e : CmdEntry)
  /-- FIRE_BYPASS (R135): With BYPA set and a matching KEY, raises BYP, sets BYPF, clears BYPA and blocks the outputs. -/
  | fireBypass (c : Nat) (e : CmdEntry)
  /-- BYPASS_WINDOW_EXPIRY (R135): The 1 ms arming window ends and BYPA clears. -/
  | bypassWindowExpiry (c : Nat)
  /-- BYP_PULSE_END (R135): The BYP pulse of BYPW × 100 µs ends. -/
  | bypPulseEnd (c : Nat)
  /-- RANGE (R88): A cell named in the ranging entry sends its ranging burst at R_0 + 1,620 ns − G. -/
  | range (c : Nat)
  /-- CELL_REPORT_TX (R88): A granted cell transmits its report burst at the start of its report slot. -/
  | cellReportTx (c : Nat)
  /-- CELL_REGRANT_TX (R86): A cell answers a re-grant entry by sending again its stored report of the named CYC. -/
  | cellRegrantTx (c : Nat) (slot : Nat)
  /-- CELL_REPORT_FREEZE (R142): At ALIGN_DELAY + 1,100 ns after the Meridian the report for the cycle is frozen and stored. -/
  | cellReportFreeze (c : Nat)
  /-- CELL_CONVERSION (R143): The cell's SARs convert on the fixed schedule at 100 ns after their aligned boundaries. -/
  | cellConversion (c idx : Nat) (va vb : Int)
  /-- CELL_CAL_SWITCH (R146): Every 100 ms the spare slice switches to calibrating the other SAR, keeping the old trim on failure. -/
  | cellCalSwitch (c : Nat) (inRange : Bool)
  /-- CARRIER_PERIOD_START (R126): The carrier reaches PER and starts a new period, transferring shadows, FORCE and pulsing SYNCO. -/
  | carrierPeriodStart (c : Nat)
  /-- TRIP_INPUT (R131): An enabled trip input active for 20 ns latches, drives the safe pattern, blocks the commanded state and counts. -/
  | tripInput (c i : Nat)
  /-- GSUP_LOW (R134): GSUP_OK low for 1 µs with GSUP_LOCK = 1 becomes a block source and sets GSUPLOW. -/
  | gsupLow (c : Nat)
  /-- LOSS_OF_LIGHT (R136): The cell declares LOL, blocks its outputs, drops TXEN and returns to ACQUIRE. -/
  | lossOfLight (c : Nat)
  /-- LOL_TIMEOUT (R137): No own CMD block for LOLT µs: the commanded state becomes block and cause LOLT is set. -/
  | lolTimeout (c : Nat)
  /-- TX_GUARD_VIOLATION (R141): The transmit guard cuts TXEN, sets the Occult latch and cause GUARD, and counts GUARDCNT. -/
  | txGuardViolation (c : Nat)
  /-- CELL_PLL_UNLOCK (R147): PLL unlock in LINKED blocks the cell and holds TXEN low until it relocks and accepts a full map. -/
  | cellPllUnlock (c : Nat)
  /-- CELL_PARITY_ERROR (R147): A parity error in configuration or pending commands blocks the cell and discards pending commands. -/
  | cellParityError (c : Nat)
  /-- CELL_DUPMIS (R147): The duplicated command decoders disagree, the command is discarded and the outputs block. -/
  | cellDupmis (c : Nat) (e : CmdEntry)
  /-- CELL_OVERTEMP (R147): Die temperature above 135 °C latches cause OVT. -/
  | cellOvertemp (c : Nat)
  /-- VAUXLOW (R147): VAUX below 2.7 V while above VAUX_OFF latches cause VAUXLOW. -/
  | vauxlow (c : Nat)
  /-- NEWT_COLD_START (R114): VNEWT rises above 1.00 V and the newt domain makes a cold start. -/
  | newtColdStart (c : Nat)
  /-- VAUX_ON_RISE (R114): In NEWT with AWREQ = 1, VAUX reaching VAUX_ON starts the regulators. -/
  | vauxOnRise (c : Nat)
  /-- WAKE (R115): The wake detector hears the wake tone for 1.0–1.6 ms, sets AWREQ and starts the regulators. -/
  | wake (c : Nat)
  /-- REGULATORS_IN_RANGE (R114): The fast-domain reset is released, FSTART increments and the cell enters ACQUIRE in block. -/
  | regulatorsInRange (c : Nat)
  /-- VAUX_OFF_FALL (R114): VAUX below VAUX_OFF turns the fast domain off, and the cell returns to NEWT. -/
  | vauxOffFall (c : Nat)
  /-- NEWT_BROWNOUT (R111): VNEWT below 0.90 V loses the newt domain, and the cell goes OFF. -/
  | newtBrownout (c : Nat)
  /-- LANE_REPORT_RX (R84): The lane receives a report or re-grant slot, judges it, hands good reports to the modulator and updates tracking, episodes and counters. -/
  | laneReportRx (ln : Nat) (slot : RxSlot) (rx : Option BurstRx)
  /-- LANE_RANGING_RX (R89): A burst in the ranging window is checked and sets RTD, or fails ranging for IDMIS or DLY. -/
  | laneRangingRx (ln : Nat) (rx : BurstRx)
  /-- RANGING_NO_BURST (R89): A ranging window stays dark, so the lane tries the next guess or fails with NOBURST. -/
  | rangingNoBurst (ln : Nat)
  /-- ACKWAIT_EXPIRY (R85): No acknowledgement by the Meridian cut-off of cycle c + ACKWAIT: the command is re-sent, or after two re-sends FAIL is set and the cell DEGRADED. -/
  | ackwaitExpiry (ln sl : Nat)
  /-- OUT_OF_GRANT_LIGHT (R96): The burst receiver sees light outside grants, and an identified babbler is occulted at once. -/
  | outOfGrantLight (ln : Nat) (who : Option (BitVec 128))
  /-- BABBLE_UNIDENTIFIED (R97): Unidentified light in BAB_TH consecutive cycles with BAB_ALL = 1 sets OCCALL and occults every enabled context. -/
  | babbleUnidentified (ln : Nat)
  /-- BABBLE_PERSIST (R97): Light persisting four cycles after OCCALL sets BABPERS and lane fault cause BABPERS. -/
  | babblePersist (ln : Nat)
  /-- SEE_ERR_PERSIST (R98): The seeing mean stays below SEE_ERR for 16 bursts, and source B + 25 fires. -/
  | seeErrPersist (ln sl : Nat)
  /-- RXLOS (R104): No burst light for 4 cycles with a cell ACTIVE sets lane fault cause RXLOS. -/
  | rxlos (ln : Nat)
  /-- CELL_CMD_ASSIGN (R93): Binds the serial number to the slot, EMPTY to ASSIGNED. -/
  | cellCmdAssign (ln sl : Nat)
  /-- CELL_CMD_ENABLE (R93): Starts initial ranging of an ASSIGNED or OCCULTED context, or sets ENREJ at UPSLOTS. -/
  | cellCmdEnable (ln sl : Nat)
  /-- CELL_CMD_OCCULT (R93): Occults an enabled context and withdraws its grant. -/
  | cellCmdOccult (ln sl : Nat)
  /-- CELL_CMD_RELEASE (R93): Sends RELEASE by identity, flushes the queue and empties the context. -/
  | cellCmdRelease (ln sl : Nat)
  /-- CELL_CMD_CNTCLR (R93): Clears CELL_CNT0 and CELL_CNT1 and sets CELL_SEE.MIN to 0xFF. -/
  | cellCmdCntclr (ln sl : Nat)
  /-- ACMD_PUSH (R105): Pushes a command onto the context's 4-entry queue, or sets OVF or REJ. -/
  | acmdPush (ln sl : Nat) (v : Word)
  /-- BCAST_PUSH (R104): Pushes a word onto the 8-word broadcast queue, or drops it with BC_OVF. -/
  | bcastPush (w : Wr) (ln : Nat) (v : Word)
  /-- LANE_CNT_CLR (R104): Clears the six lane counters. -/
  | laneCntClr (w : Wr) (ln : Nat)
  /-- LANE_EN_SET (R100): EN = 1 moves an OFF lane to RUN or LISTEN, or is held until the lane is locked. -/
  | laneEnSet (w : Wr) (ln : Nat)
  /-- LANE_EN_CLEAR (R100): EN = 0 drops TXEN, returns contexts to ASSIGNED and takes the lane to OFF. -/
  | laneEnClear (w : Wr) (ln : Nat)
  /-- LANE_DARK_REQUEST (R100): DARK = 1 darkens an OFF lane whose contexts are all EMPTY, holds the request, or sets DARK_REJ. -/
  | laneDarkRequest (w : Wr) (ln : Nat)
  /-- LANE_WAKE_UP (R100): DARK = 0 starts PLL and CDR, or withdraws a held DARK request. -/
  | laneWakeUp (w : Wr) (ln : Nat)
  /-- LANE_LOCKED (R100): A WAKING lane locks, raises READY and goes to OFF, RUN or LISTEN. -/
  | laneLocked (ln : Nat)
  /-- LDIE_PLL_UNLOCK (R100): L-die PLL unlock drops TXEN on every lane of the die and takes them to OFF. -/
  | ldiePllUnlock (l : Nat)
  /-- LANE_TXFLT (R103): A rising LANEn_TXFLT sets lane fault cause TXFLT. -/
  | laneTxflt (ln : Nat)
  /-- WAKE_START (R101): WAKE_CTL.START in RUN starts a wake tone of LEN × 100 µs. -/
  | wakeStart (w : Wr) (ln : Nat)
  /-- WAKE_TONE_END (R101): The wake tone ends, or is ended when the lane leaves RUN, and BUSY clears. -/
  | wakeToneEnd (ln : Nat)
  /-- RS_START (R99): Starts a reticle scan of the selected cell. -/
  | rsStart (w : Wr) (ln : Nat)
  /-- RS_ABORT (R99): Ends the reticle scan early with ABORTED. -/
  | rsAbort (w : Wr) (ln : Nat)
  /-- RS_SCAN_DONE (R99): The scan completes all 512 points, computes EYE_W and EYE_H, and sets DONE. -/
  | rsScanDone (ln : Nat) (counts : List Nat)
  /-- CONTEXT_RAM_ERROR (R107): A context RAM error is corrected, or, if uncorrectable, the cell gets NOP and goes to OCCULTED. -/
  | contextRamError (ln sl : Nat) (ue : Bool)
  /-- FRAMER_MISMATCH (R107): The duplicated framer disagrees, and the L-die holds TXEN low on all lanes until reset. -/
  | framerMismatch (l : Nat)
  /-- LAW_INPUT_FILL (R186): At B_k + 1,100 ns every input map entry loads its slot, and the fast pass of running channels begins. -/
  | lawInputFill (k : Nat)
  /-- SV_INPUT_STALE (R186): A sampled-value stream delivers nothing for SVTO × 100 µs, setting IN_STALE and firing 0x067. -/
  | svInputStale (k i : Nat)
  /-- FAST_PASS_END (R187): The fast pass completes, the reference is converted and handed over, and the slow pass starts after index 0. -/
  | fastPassEnd (k : Nat)
  /-- SLOW_PASS_END (R183): The slow pass completes and event 0x27 fires. -/
  | slowPassEnd (k : Nat)
  /-- MODEL_PLAUSIBILITY (R192): A MODEL section's deviation count reaches PLK, setting PLAUS and PSEC and firing 0x061. -/
  | modelPlausibility (k ch sec : Nat)
  /-- LAW_DEFERRED_WRITE (R193): A coefficient, parameter or HOLD write that landed during a pass is applied when the pass ends. -/
  | lawDeferredWrite (k : Nat)
  /-- CLRST (R200): Clears every state word and PRIMED flag of the channel's sections. -/
  | clrst (w : Wr) (k ch : Nat)
  /-- CLRPLAUS (R200): Clears every MODEL count of the channel. -/
  | clrplaus (w : Wr) (k ch : Nat)
  /-- LAW_LOCKSTEP_DIFF (R182): The two law datapaths differ, the reference is withheld and the engine freezes. -/
  | lawLockstepDiff (k : Nat)
  /-- LAW_RAM_ERROR (R198): A law RAM error is corrected, or, if uncorrectable, freezes the engine. -/
  | lawRamError (k : Nat) (ue : Bool)
  /-- EXPORT_TRAILER (R197): Once every export data word has its response, the trailer word is written. -/
  | exportTrailer (k : Nat)
  /-- EXPORT_DONE (R197): The trailer's response returns and EXPDONE is raised. -/
  | exportDone (k : Nat)
  /-- LD (R249): Loads s bytes, sign-extended, through a pointer addressing mode. -/
  | ld (m : Nat) (o : OpC)
  /-- LDU (R249): Loads s bytes zero-extended. -/
  | ldu (m : Nat) (o : OpC)
  /-- ST (R249): Stores the low s bytes of gd. -/
  | st (m : Nat) (o : OpC)
  /-- LDW (R249): Loads a word at ga + sext(imm16). -/
  | ldw (m : Nat) (o : OpB)
  /-- STW (R249): Stores a word at ga + sext(imm16). -/
  | stw (m : Nat) (o : OpB)
  /-- LOAD_DATA_RETURN (R212): Load data returns and writes the destination, or freezes the core with MEMUE on an uncorrectable SRAM error. -/
  | loadDataReturn (m i : Nat) (ue : Bool)
  /-- ADD (R247): gd = ga + gb. -/
  | add (m : Nat) (o : OpA) (sf : Bool)
  /-- SUB (R247): gd = ga − gb. -/
  | sub (m : Nat) (o : OpA) (sf : Bool)
  /-- AND (R247): Bitwise AND. -/
  | and (m : Nat) (o : OpA) (sf : Bool)
  /-- OR (R247): Bitwise OR. -/
  | or (m : Nat) (o : OpA) (sf : Bool)
  /-- XOR (R247): Bitwise XOR. -/
  | xor (m : Nat) (o : OpA) (sf : Bool)
  /-- ANDN (R247): gd = ga & ~gb. -/
  | andn (m : Nat) (o : OpA) (sf : Bool)
  /-- SHL (R247): Logical left shift by gb[4:0]. -/
  | shl (m : Nat) (o : OpA) (sf : Bool)
  /-- SHR (R247): Logical right shift. -/
  | shr (m : Nat) (o : OpA) (sf : Bool)
  /-- SAR (R247): Arithmetic right shift. -/
  | sar (m : Nat) (o : OpA) (sf : Bool)
  /-- ROR (R247): Rotate right. -/
  | ror (m : Nat) (o : OpA) (sf : Bool)
  /-- MUL (R247): Low 32 bits of the product. -/
  | mul (m : Nat) (o : OpA) (sf : Bool)
  /-- MULH (R247): High 32 bits, signed. -/
  | mulh (m : Nat) (o : OpA) (sf : Bool)
  /-- MULHU (R247): High 32 bits, unsigned. -/
  | mulhu (m : Nat) (o : OpA) (sf : Bool)
  /-- SLT (R247): Signed set-less-than. -/
  | slt (m : Nat) (o : OpA) (sf : Bool)
  /-- SLTU (R247): Unsigned set-less-than. -/
  | sltu (m : Nat) (o : OpA) (sf : Bool)
  /-- MIN (R247): Signed minimum. -/
  | min (m : Nat) (o : OpA) (sf : Bool)
  /-- MAX (R247): Signed maximum. -/
  | max (m : Nat) (o : OpA) (sf : Bool)
  /-- ADDS (R247): Saturating add, setting SAT. -/
  | adds (m : Nat) (o : OpA) (sf : Bool)
  /-- SUBS (R247): Saturating subtract, setting SAT. -/
  | subs (m : Nat) (o : OpA) (sf : Bool)
  /-- ABSS (R247): Saturating absolute value. -/
  | abss (m : Nat) (o : OpA) (sf : Bool)
  /-- NEGS (R247): Saturating negate. -/
  | negs (m : Nat) (o : OpA) (sf : Bool)
  /-- CMP (R247): Sets flags from ga − gb. -/
  | cmp (m : Nat) (o : OpA) (sf : Bool)
  /-- ADDI (R248): gd = ga + sext(imm16). -/
  | addi (m : Nat) (o : OpB)
  /-- ANDI (R248): gd = ga & zext(imm16). -/
  | andi (m : Nat) (o : OpB)
  /-- ORI (R248): gd = ga | zext(imm16). -/
  | ori (m : Nat) (o : OpB)
  /-- XORI (R248): gd = ga ^ zext(imm16). -/
  | xori (m : Nat) (o : OpB)
  /-- LUI (R248): gd = imm16 << 16. -/
  | lui (m : Nat) (o : OpB)
  /-- SHI (R248): Shift or rotate by an immediate. -/
  | shi (m : Nat) (o : OpB)
  /-- CMPI (R248): Sets flags from ga − sext(imm16). -/
  | cmpi (m : Nat) (o : OpB)
  /-- PMOV_TO_P (R248): p[d] = ga. -/
  | pmovToP (m : Nat) (o : OpA)
  /-- PMOV_TO_M (R248): m[d] = ga. -/
  | pmovToM (m : Nat) (o : OpA)
  /-- PMOV_FROM_P (R248): gd = p[a]. -/
  | pmovFromP (m : Nat) (o : OpA)
  /-- PMOV_FROM_M (R248): gd = m[a]. -/
  | pmovFromM (m : Nat) (o : OpA)
  /-- SETCB (R242): Sets the circular base and length of p[d]. -/
  | setcb (m : Nat) (o : OpA)
  /-- PMOV_GET_CB (R248): gd = CB of p[a]. -/
  | pmovGetCb (m : Nat) (o : OpA)
  /-- PMOV_GET_CL (R248): gd = CL of p[a]. -/
  | pmovGetCl (m : Nat) (o : OpA)
  /-- B_COND (R250): Branches to the target if cond holds. -/
  | bCond (m : Nat) (o : OpD)
  /-- CALL_COND (R250): If cond holds, writes g1 = PC + 4 and branches. -/
  | callCond (m : Nat) (o : OpD)
  /-- JR (R250): Jumps to ga. -/
  | jr (m : Nat) (o : OpA)
  /-- JRL (R250): Jumps to ga and writes gd = PC + 4. -/
  | jrl (m : Nat) (o : OpA)
  /-- MAC (R238): acc = acc + P, saturating. -/
  | mac (m : Nat) (o : OpE) (fn : BitVec 9)
  /-- MSU (R238): acc = acc − P, saturating. -/
  | msu (m : Nat) (o : OpE) (fn : BitVec 9)
  /-- MPY (R238): acc = P. -/
  | mpy (m : Nat) (o : OpE) (fn : BitVec 9)
  /-- ACLR (R251): Clears the accumulator. -/
  | aclr (m : Nat) (o : OpE)
  /-- AMOV (R251): Copies another accumulator. -/
  | amov (m : Nat) (o : OpE)
  /-- ANEG (R251): Negates the accumulator, saturating. -/
  | aneg (m : Nat) (o : OpE)
  /-- ASH (R251): Shifts the accumulator by sh. -/
  | ash (m : Nat) (o : OpE)
  /-- ASHR (R251): Shifts the accumulator by a register amount. -/
  | ashr (m : Nat) (o : OpE)
  /-- AADD (R251): Adds a Q1.31 register into the accumulator. -/
  | aadd (m : Nat) (o : OpE)
  /-- ALDL (R251): Loads accumulator bits 31:0. -/
  | aldl (m : Nat) (o : OpE)
  /-- ALDH (R251): Loads accumulator bits 63:32. -/
  | aldh (m : Nat) (o : OpE)
  /-- ALDG (R251): Loads the guard bits. -/
  | aldg (m : Nat) (o : OpE)
  /-- RNDC (R239): Extracts with convergent rounding and saturation. -/
  | rndc (m : Nat) (o : OpE)
  /-- EXTT (R239): Extracts with rounding towards minus infinity. -/
  | extt (m : Nat) (o : OpE)
  /-- RDL (R251): gd = acc[31:0]. -/
  | rdl (m : Nat) (o : OpE)
  /-- RDH (R251): gd = acc[63:32]. -/
  | rdh (m : Nat) (o : OpE)
  /-- RDG (R251): gd = sext(acc[71:64]). -/
  | rdg (m : Nat) (o : OpE)
  /-- NORM (R240): gd = ga << EXPN(ga). -/
  | norm (m : Nat) (o : OpA)
  /-- EXPN (R240): Counts the redundant sign bits of a register. -/
  | expn (m : Nat) (o : OpA)
  /-- EXPN_ACC (R240): Gives the normalising shift of an accumulator. -/
  | expnAcc (m : Nat) (o : OpA)
  /-- FNC_R (R33): Later loads wait for earlier loads. -/
  | fncR (m : Nat) (o : OpA)
  /-- FNC_W (R33): Later stores wait for earlier write responses. -/
  | fncW (m : Nat) (o : OpA)
  /-- FNC_RW (R33): Later loads and stores wait for all earlier accesses. -/
  | fncRw (m : Nat) (o : OpA)
  /-- FNC_SYS (R33): As FNC.RW, then sends drain markers to every die and stalls until each reports. -/
  | fncSys (m : Nat) (o : OpA)
  /-- FNC_CYC (R35): Waits for the covered cycle writes' responses, then commits them to one subframe. -/
  | fncCyc (m : Nat) (o : OpA)
  /-- FENCE_RELEASE (R33): The awaited responses or die drain reports arrive and the stalled fence completes. -/
  | fenceRelease (m : Nat)
  /-- FNC_CYC_COMMIT (R35): After the responses FNC.CYC chooses n, sends commit(n) and writes n and SPLIT. -/
  | fncCycCommit (m n : Nat)
  /-- SRD (R229): Reads a system register. -/
  | srd (m : Nat) (o : OpS)
  /-- SWR (R229): Writes a system register. -/
  | swr (m : Nat) (o : OpS)
  /-- TRET (R216): Restores STATUS from ESTATUS and jumps to EPC. -/
  | tret (m : Nat) (o : OpS)
  /-- NRET (R218): Restores STATUS from NSTATUS and jumps to NEPC, and a pending NMI is then taken. -/
  | nret (m : Nat) (o : OpS)
  /-- SYSCALL (R215): Takes trap 0x05 with its immediate in ECAUSE. -/
  | syscall (m : Nat) (hi : BitVec 4) (imm : BitVec 16)
  /-- BREAK (R215): Takes trap 0x06. -/
  | brk (m : Nat) (o : OpS)
  /-- FREEZE_Q (R229): Returns the frozen state and oldest queued cause of a MID. -/
  | freezeQ (m : Nat) (o : OpS)
  /-- PWR_HINT (R228): Sets the core power mode RUN, DOZE or PARK. -/
  | pwrHint (m : Nat) (o : OpS)
  /-- NMI_ENTRY (R218): An NMI reaches a core, abandons a stalled instruction and enters NVEC, or is held pending. -/
  | nmiEntry (m src : Nat)
  /-- CORE_LOCKSTEP_DIFF (R227): A paired pair differs, and the pair is frozen with LOCKSTEP. -/
  | coreLockstepDiff (k q : Nat)
  /-- TCM_ECC_ERROR (R234): A TCM error is corrected and counted, or, if uncorrectable, freezes the core with TCMUE. -/
  | tcmEccError (m : Nat) (ue : Bool)
  /-- SRAM_ECC_ERROR (R234): A shared SRAM error is corrected, or, if uncorrectable, returned to the reader. -/
  | sramEccError (k : Nat) (ue : Bool)
  /-- RELEASE_RETRY (R224): FREEZE_CTL with ACT = 1 re-executes or resumes the frozen master. -/
  | releaseRetry (w : Wr) (m : Nat)
  /-- RELEASE_TRAP (R224): FREEZE_CTL with ACT = 2 makes a frozen core enter its trap handler with VIOL. -/
  | releaseTrap (w : Wr) (m : Nat)
  /-- RELEASE_RESET (R224): FREEZE_CTL with ACT = 3 resets the frozen core or DMA channel. -/
  | releaseReset (w : Wr) (m : Nat)
  /-- FZ_POP (R223): Removes the head freeze record. -/
  | fzPop (w : Wr)
  /-- CORE_RESET (R230): CORE_CTL.RST = 1 resets the core, discards a pending NMI, unfreezes it and abandons its given tasks. -/
  | coreReset (w : Wr) (m : Nat)
  /-- CORE_RELEASE (R230): RST = 0 starts the core at BOOTPC, increments EPOCH and clears its doorbells. -/
  | coreRelease (w : Wr) (m : Nat)
  /-- TASK_POST (R256): Activates a task slot of the own K-die. -/
  | taskPost (m : Nat) (o : OpA)
  /-- TASK_GET (R259): Takes the first eligible READY slot of the highest level, or blocks. -/
  | taskGet (m : Nat) (o : OpA)
  /-- TASK_DONE (R257): Ends the holder's run of a slot, or sets BADDONE. -/
  | taskDone (m : Nat) (o : OpA)
  /-- TASK_DISABLE (R257): Clearing EN removes a READY slot with DROPPED. -/
  | taskDisable (w : Wr) (k slot : Nat)
  /-- SCH_RAISE (R274): Raises software event 0xC0 + EVT. -/
  | schRaise (w : Wr) (k evt : Nat)
  /-- MBX_PUT (R262): Issues a put to a mailbox channel without waiting. -/
  | mbxPut (m : Nat) (o : OpA)
  /-- MBX_GET (R263): Issues a get from a mailbox channel. -/
  | mbxGet (m : Nat) (o : OpA)
  /-- MBX_CHANNEL_PUT (R262): A put reaches the channel and is stored, answered BUSY or DENIED. -/
  | mbxChannelPut (m i : Nat)
  /-- MBX_CHANNEL_GET (R263): A get reaches the channel and takes the word or returns zero. -/
  | mbxChannelGet (m i : Nat)
  /-- CH_PUT_WRITE (R267): A register write to CH_PUT acts as a put. -/
  | chPutWrite (w : Wr) (ch : Nat) (v : Word)
  /-- CH_GET_READ (R267): A register read of CH_GET acts as a get. -/
  | chGetRead (w : Wr) (ch : Nat)
  /-- CH_BIND_WRITE (R265): Writes a channel binding while BIND_LOCK = 0 from a permitted writer. -/
  | chBindWrite (w : Wr) (ch : Nat) (v : Word)
  /-- BIND_LOCK (R265): Locks every CH_BIND until chip reset. -/
  | bindLock (w : Wr) (k : Nat)
  /-- DB_RING (R268): ORs a mask into a core's doorbells. -/
  | dbRing (m : Nat) (o : OpA)
  /-- DOORBELL_SET (R268): Doorbell bits are set at the receiver and wake a core blocked in DB.WAIT. -/
  | doorbellSet (m : Nat) (mask : Word)
  /-- DB_WAIT (R269): Takes and clears unmasked pending doorbells, or blocks. -/
  | dbWait (m : Nat) (o : OpA)
  /-- DB_PEND_WRITE (R268): A W1S write sets doorbell bits. -/
  | dbPendWrite (w : Wr) (m : Nat) (mask : Word)
  /-- DB_CLR (R275): Clears pending doorbell bits. -/
  | dbClr (w : Wr) (m : Nat) (mask : Word)
  /-- DB_MASK_WRITE (R269): Changes the mask and can wake a core blocked in DB.WAIT. -/
  | dbMaskWrite (w : Wr) (m : Nat) (v : Word)
  /-- SCHED_RAM_ERROR (R276): A scheduler or mailbox RAM error is corrected, or, if uncorrectable, disables the slot or empties the channel. -/
  | schedRamError (k : Nat) (ue mbx : Bool) (i : Nat)
  /-- ADC_RESULT (R285): A conversion completes and its result reaches every K-die and metering by B_k + 1,100 ns. -/
  | adcResult (a n : Nat) (vin : Int)
  /-- PAIR_MISMATCH (R289): PLIM consecutive failed comparisons set PAIRMIS and fire B + 1. -/
  | pairMismatch (a p : Nat)
  /-- URG_REQUEST (R287): A URG write makes one urgent request pending, or is dropped. -/
  | urgRequest (w : Wr) (a n : Nat) (v : Word)
  /-- REF_DIFF (R283): The reference differs from the monitor and REFBAD marks results. -/
  | refDiff (a : Nat)
  /-- REFERR (R283): A reference difference that lasts 16 µs sets REFERR and fires B + 0. -/
  | referr (a : Nat)
  /-- CAL_MATCH_END (R291): At the end of MATCH the spare stands in, or SPMIS is set. -/
  | calMatchEnd (a : Nat) (sum64 : Int)
  /-- CAL_DWELL_END (R290): The dwell ends, the trim is taken or refused, and the rotation moves on. -/
  | calDwellEnd (a : Nat) (ofs gain : Int)
  /-- AD_CNTCLR (R292): Clears AD_CNT0 and AD_CNT1. -/
  | adCntclr (w : Wr) (a : Nat)
  /-- ADIE_RAM_ERROR (R297): A list or result RAM error is corrected, or, if uncorrectable, stops the owning sequencer. -/
  | adieRamError (a : Nat) (ue : Bool) (n : Nat) (ridx : Option Nat)
  /-- ADIE_OVERTEMP (R297): Die temperature above 125 °C fires B + 7. -/
  | adieOvertemp (a : Nat)
  /-- DMA_START (R303): Loads and checks the head descriptor. -/
  | dmaStart (w : Wr) (k ch : Nat)
  /-- DMA_PAUSE (R303): Stops new reads and pauses the channel. -/
  | dmaPause (w : Wr) (k ch : Nat)
  /-- DMA_RESUME (R303): PAUSE = 0 continues from the exact registers. -/
  | dmaResume (w : Wr) (k ch : Nat)
  /-- DMA_ABORT (R303): Pauses the channel and abandons the chain. -/
  | dmaAbort (w : Wr) (k ch : Nat)
  /-- DMA_APPEND (R305): Re-reads the tail link in IDLE_TAIL, or sets RECHECK. -/
  | dmaAppend (w : Wr) (k ch : Nat)
  /-- DMA_DESC_LOADED (R300): A loaded descriptor is checked and run, or the channel stops in ERROR. -/
  | dmaDescLoaded (k ch : Nat)
  /-- DMA_READ_RETURN (R301): Read data or an offset returns and its writes are issued, or IDXRANGE or MEMUE stops the channel. -/
  | dmaReadReturn (k ch : Nat) (ue : Bool)
  /-- DMA_DRAIN_DONE (R303): Every write response of the descriptor has returned: DONE counts and D_LINK is read. -/
  | dmaDrainDone (k ch : Nat)
  /-- DMA_LINK_RETURN (R303): The link read returns and the next descriptor is loaded, RECHECK is served, or the channel parks in IDLE_TAIL. -/
  | dmaLinkReturn (k ch : Nat)
  /-- DMA_RAM_ERROR (R310): A buffer RAM error is corrected, or, if uncorrectable, stops the affected channels. -/
  | dmaRamError (k : Nat) (ue : Bool) (chs : List Nat)
  /-- ACQ_ARM (R317): Clears the capture at the next tick, fills the base table and enters ARMED. -/
  | acqArm (w : Wr) (k : Nat)
  /-- ACQ_STOP (R317): Ends the capture in DONE. -/
  | acqStop (w : Wr) (k : Nat)
  /-- SWTRIG (R318): The software trigger source asserts. -/
  | swtrig (w : Wr) (k : Nat)
  /-- TRIG_IN_EDGE (R318): A TRIG_IN edge of the selected polarity asserts its source. -/
  | trigInEdge (i : Nat) (falling : Bool)
  /-- XTRIG_FALL (R318): A falling XTRIG edge asserts the XTRIG source. -/
  | xtrigFall
  /-- ACQ_RECORD_WRITE (R315): The write port stores one queued record per tick, writes GAP after loss, and stops with POSTCUT on protected records. -/
  | acqRecordWrite (k : Nat)
  /-- ACQ_TIME_RECORD (R313): 0xFFFF_FFFF ticks without a record produce a TIME record. -/
  | acqTimeRecord (k : Nat)
  /-- ACQ_POST_END (R317): The last record of tick T0 + POST is written and the capture is DONE. -/
  | acqPostEnd (k : Nat)
  /-- CAPTURE_MEM_WRITE (R321): A master's write to capture memory is discarded with WRDISC. -/
  | captureMemWrite (w : Wr) (addr : Nat)
  /-- CAPTURE_MEM_READ (R321): A capture read corrects single-bit errors, or flags CAPUE on an uncorrectable one. -/
  | captureMemRead (m addr : Nat) (ce ue : Bool)
  /-- TCNT_LOW_READ (R322): A read of a low word of a 64-bit pair latches its high word. -/
  | tcntLowRead (m k off : Nat)
  /-- TIME_SET (R329): Steps package time to the SET values while the cycle timer is stopped, or sets STEP_REJ. -/
  | timeSet (w : Wr) (adj : Bool)
  /-- TIME_ADJ (R329): Steps package time by ADJ_NS while the cycle timer is stopped, or sets STEP_REJ. -/
  | timeAdj (w : Wr)
  /-- TIME_NS_READ (R346): A read of TIME_NS latches SEC and FRAC. -/
  | timeNsRead (m : Nat)
  /-- VN_PRIMARY_SAMPLE (R340): A primary offset sample updates or counts under the servo state table. -/
  | vnPrimarySample (w : Wr) (ofs : Word)
  /-- VN_SECONDARY_SAMPLE (R340): A secondary sample is collected in CHECK or tracked in TRACK_S. -/
  | vnSecondarySample (w : Wr) (ofs : Word)
  /-- VN_REARM (R340): Returns the servo from TRACK_S to TRACK. -/
  | vnRearm (w : Wr)
  /-- VN_DISABLE (R340): EN = 0 holds f and sends the servo to FREE. -/
  | vnDisable (w : Wr)
  /-- VERNIER_HOLDOVER (R340): No primary sample for HOLD_TO × 100 ms enters HOLDOVER. -/
  | vernierHoldover
  /-- SYNC_IN_CAPTURE (R343): A SYNC_IN edge is time-stamped, latched and counted, and may be a servo sample. -/
  | syncInCapture (ts : Nat) (falling : Bool)
  /-- SI_TS_NS_READ (R346): A read of SI_TS_NS latches SI_TS_SEC and SI_TS_FRAC. -/
  | siTsNsRead (m : Nat)
  /-- SYNC_OUT_PULSE (R342): SYNC_OUT rises at each whole second or B_0 for SOW × 100 ns. -/
  | syncOutPulse
  /-- PORT_ENABLE (R347): EN = 1 starts the port with its rings at index 0. -/
  | portEnable (w : Wr) (e : Nat)
  /-- FRAME_RECEIVED (R331): A frame is accepted, time-stamped, PRP-filtered and written to the receive ring, or discarded. -/
  | frameReceived (e : Nat) (fr : EthFrame)
  /-- SV_FRAME_RECEIVED (R344): A sampled-value frame of a running stream entry is taken or rejected. -/
  | svFrameReceived (e : Nat) (fr : SvFrame)
  /-- TX_KICK (R332): Rescans the transmit ring. -/
  | txKick (w : Wr) (e : Nat)
  /-- FRAME_TRANSMITTED (R332): A transmit frame leaves, with one-step insertion, PRP duplication and time-stamp write-back. -/
  | frameTransmitted (e macTs : Nat)
  /-- PORT_CNT_CLR (R347): Clears the five port counters. -/
  | portCntClr (w : Wr) (e : Nat)
  /-- ETH_LINK_LOSS (R350): A running port loses its link and fires 0x160 + e. -/
  | ethLinkLoss (e : Nat)
  /-- PORT_RAM_ERROR (R350): A port buffer RAM error is corrected, or, if uncorrectable, the frame is discarded. -/
  | portRamError (e : Nat) (ue : Bool)
  /-- FAULT_FIRING (R354): A detection reaches the collector and is logged and reacted to, or treated as repeat, consequential, injected or escalated. -/
  | faultFiring (src : Nat) (tag : InjTag)
  /-- BLOCK_RESET_DONE (R359): A block reset completes and opens the 1 ms escalation window. -/
  | blockResetDone (blk : Nat)
  /-- CONSEQ_WINDOW_END (R360): A consequential window of CONSEQ_W µs closes. -/
  | conseqWindowEnd (blk : Nat)
  /-- ESCALATION_WINDOW_END (R361): The 1 ms escalation window closes. -/
  | escalationWindowEnd (blk : Nat)
  /-- FS_PEND_CLEAR (R354): Clearing PEND re-arms a source. -/
  | fsPendClear (w : Wr) (src : Nat)
  /-- ALIVE_EN (R355): Starts ALIVE, unless refused while FLATCH or an ASTOP source is pending. -/
  | aliveEn (w : Wr)
  /-- ALIVE_STOP (R355): Stops ALIVE and holds it low. -/
  | aliveStop (w : Wr)
  /-- ALIVE_HALF_PERIOD (R355): ALIVE toggles every 100 µs while it runs. -/
  | aliveHalfPeriod
  /-- ALIVE_READBACK_FAIL (R362): The ALIVE read-back differs for 2 µs and fires F-class source 0x002. -/
  | aliveReadbackFail
  /-- FC_LOCK (R353): Locks FS_CFG, the NMI groups and CONSEQ_W until chip reset. -/
  | fcLock (w : Wr)
  /-- WDEN (R364): Enables the watchdog once and starts its first interval. -/
  | wden (w : Wr)
  /-- WD_KICK (R364): A 0x5A then 0xA5 write restarts the interval, and other values count as missed kicks. -/
  | wdKick (w : Wr) (v : Word)
  /-- WATCHDOG_EXPIRY (R364): The interval ends without a good kick and source 0x006 fires. -/
  | watchdogExpiry
  /-- FLOG_POP (R365): Removes the head log record. -/
  | flogPop (w : Wr)
  /-- FS_CLR (R371): Clears every COUNT. -/
  | fsClr (w : Wr)
  /-- INJECTION_ARM (R366): Arms an error injection on a source, or refuses it with REJ. -/
  | injectionArm (w : Wr) (v : Word)
  /-- INJECTION_TIMEOUT (R366): No check within 10 ms sets TIMEOUT and withdraws the injection. -/
  | injectionTimeout
  /-- PARITY_SCRUB (R363): The 10 µs scrub checks collector and safety words, and a parity error goes to the safe state. -/
  | parityScrub (safety err : Bool)
  /-- SPR_REQ (R373): Firmware requests SPR. -/
  | sprReq (w : Wr)
  /-- SPR_REL (R375): Releases SPR when no refusal condition holds, or sets REL_REJ. -/
  | sprRel (w : Wr) (sameCycle : Bool)
  /-- SRS_REQ (R376): Firmware requests SRS. -/
  | srsReq (w : Wr)
  /-- SAFETY_ARM (R392): Starts the safety unit, or is refused when SFEN = 1 and SF_CONN = 0. -/
  | safetyArm (w : Wr)
  /-- SRS_VIOLATION (R377): An entry violates the envelope at VCNT consecutive fills, and SPR is requested with cause 4. -/
  | srsViolation
  /-- SRS_RAMP_END (R377): Fill k = nramp is reached without violation, and SPR is requested with cause 5. -/
  | srsRampEnd
  /-- SRS_INPUT_TIMEOUT (R378): An entry stale at SRSTO consecutive fills during SRS requests SPR with cause 6. -/
  | srsInputTimeout
  /-- STOP_IN_LOW (R385): A STOP_IN channel low for STFILT requests SPR. -/
  | stopInLow (b : Bool)
  /-- STOP_IN_DISCREPANCY (R385): The two channels differ for DISC_T, setting DISC and firing 0x188. -/
  | stopInDiscrepancy
  /-- STOP_OUT_DROP (R386): STOP_OUT_A and STOP_OUT_B go low STOPDLY after the SPR request. -/
  | stopOutDrop
  /-- BRK_TRIP_RISE (R387): BRK_TRIP rises BRKDLY after an SPR request. -/
  | brkTripRise
  /-- SAFETY_READBACK_FAIL (R386): A STOP_OUT or BRK_TRIP read-back differs for 2 µs and fires an F-class source. -/
  | safetyReadbackFail (brk : Bool)
  /-- SAFETY_FRAME_RECEIVED (R380): A safety frame copy is validated and acts on STOPREQ and RAMPREQ, or is compared with the other LAN's copy. -/
  | safetyFrameReceived (lan : Nat) (bytes : List Byte)
  /-- SAFETY_COPY_MISSING (R382): No second copy within PAIRWIN counts as missing and degrades the network. -/
  | safetyCopyMissing (lan : Nat)
  /-- SAFETY_NET_WATCHDOG (R383): No valid copy for SF_WD on one or both LANs degrades or loses the network. -/
  | safetyNetWatchdog (lanA lanB : Bool)
  /-- DEG_LIMIT_REACHED (R383): The DEG timer reaches DEG_LIM and SRS is requested. -/
  | degLimitReached
  /-- SAFETY_STATUS_TX (R384): Every TXPER ms the unit sends a TYPE 2 status frame on ETH0 and ETH1. -/
  | safetyStatusTx
  /-- PAIR_EN (R394): PAIR_EN = 1 takes a SOLO package to STANDBY with its lanes in LISTEN. -/
  | pairEn (w : Wr)
  /-- PAIR_ACT_IN_FALL (R406): PAIR_ACT_IN falls and a STANDBY or TAKING package takes the trees over. -/
  | pairActInFall
  /-- STARTUP_CLAIM (R394): After STARTWAIT without a peer pass record, a qualifying standby claims ACTIVE. -/
  | startupClaim
  /-- PASS_RECORD_RECEIVED (R402): A pass record updates the shadow, announces a handover, or exposes a conflict. -/
  | passRecordReceived (r : PassRec)
  /-- PASS_RECORD_MISSING (R402): A pass record that does not arrive or has OVF clears SHDW_OK. -/
  | passRecordMissing
  /-- STATUS_RECORD_TX (R400): A non-active package sends its status record at B_n + 615 ns. -/
  | statusRecordTx
  /-- STATUS_RECORD_RECEIVED (R400): A peer's status record updates PEER_OK, TBREQ and DRREQ. -/
  | statusRecordReceived (r : StatusRec) (gridOfs : Int)
  /-- EPOCH_RECEIVED (R404): A complete epoch is applied to the shadow, tables and MIR_LIST, or a bad one is discarded. -/
  | epochReceived (e : EpochRec)
  /-- MIRROR_LANE_DOWN (R400): A mirror lane delivers no good record for 2 subframes. -/
  | mirrorLaneDown (i : Nat)
  /-- HANDOVER (R409): An ACTIVE package announces a handover subframe h. -/
  | handover (w : Wr)
  /-- DRILL (R412): Runs a planned handover as a switchover drill. -/
  | drill (w : Wr)
  /-- CYCSYNC (R398): Starts the stopped cycle timer on the peer's next Meridian. -/
  | cycsync (w : Wr)
  /-- HANDOVER_RELEASE (R409): After the last block of frame h the old active drops PAIR_ACT_OUT and enters STANDBY. -/
  | handoverRelease
  /-- HANDING_PEER_CHECK (R394): At B_h + 615 ns a peer without STBY_OK aborts the handover. -/
  | handingPeerCheck
  /-- TAKING_TIMEOUT (R394): PAIR_ACT_IN still high at B_(h+2) aborts TAKING. -/
  | takingTimeout
  /-- TAKEBACK_REQUEST (R410): STBY_OK holding for HOLDOFF s makes the preferred standby set TBREQ. -/
  | takebackRequest
  /-- DRILL_RETURN (R412): After DRILL_T the peer sets DRREQ and hands back. -/
  | drillReturn
  /-- DRILL_FAIL (R412): A drill check fails, setting DRFAIL, and the originator reclaims the trees. -/
  | drillFail
  /-- ALMANAC_APPLY (R417): A queued observation updates its record's bins and extremes, or the delta buffer while frozen. -/
  | almanacApply
  /-- ALMANAC_FREEZE (R421): FREEZE = 1 stops records changing. -/
  | almanacFreeze (w : Wr)
  /-- ALMANAC_UNFREEZE (R422): FREEZE = 0 starts merging the delta buffer. -/
  | almanacUnfreeze (w : Wr)
  /-- ALMANAC_MERGE_DONE (R422): The merge ends and FRZ clears. -/
  | almanacMergeDone
  /-- CLRREC (R419): Clears the record at the cursor. -/
  | clrrec (w : Wr)
  /-- CLRALL (R419): Clears every record. -/
  | clrall (w : Wr)
  /-- RESTORE (R426): Restores records from MRAM while EN = 0. -/
  | restore (w : Wr)
  /-- ALMANAC_RESTORE_DONE (R426): The restore ends with RSTDONE. -/
  | almanacRestoreDone
  /-- FLUSHNOW (R424): Starts a background pass. -/
  | flushnow (w : Wr)
  /-- ALMANAC_BG_PASS (R424): At each whole second a background pass writes images of changed records. -/
  | almanacBgPass
  /-- ALMANAC_IMAGE_WRITTEN (R424): An image or delta-image write completes, or sets FLERR. -/
  | almanacImageWritten (ok : Bool)
  /-- ALMANAC_FULL_FLUSH_DONE (R425): The full flush's last write response returns. -/
  | almanacFullFlushDone
  /-- ALMANAC_TOTAL_READ (R420): A read of TOTAL with AUTOINC advances the cursor. -/
  | almanacTotalRead (m : Nat)
  /-- ALM_CNTCLR (R428): Clears ALM_CNT0 and ALM_CNT1. -/
  | almCntclr (w : Wr)
  /-- ALMANAC_RAM_ERROR (R429): An Almanac RAM error is corrected, or, if uncorrectable, clears the record. -/
  | almanacRamError (rec : Nat) (ue : Bool)
  /-- METER_POINT (R431): Each millisecond forms a point and accumulates import or export energy. -/
  | meterPoint (samples : List MSample)
  /-- METER_INTERVAL_CLOSE (R433): At an interval boundary the interval closes and a KIND 1 record is queued for signing. -/
  | meterIntervalClose
  /-- SIGNING_DONE (R435): The engine finishes a signature, verifies it and writes the record to the ring. -/
  | signingDone (ok1 ok2 : Bool) (mramErr : Bool)
  /-- METER_CHECKPOINT (R437): At each second a KIND 3 checkpoint is captured, signed and written alternately. -/
  | meterCheckpoint
  /-- METER_ENABLE (R439): EN = 1 starts a restore from checkpoints. -/
  | meterEnable (w : Wr) (fresh : Bool)
  /-- METER_RESTORE_DONE (R439): The restore ends with gap records and counting resumes. -/
  | meterRestoreDone
  /-- METER_DISABLE (R437): EN = 0 stops counting with a checkpoint. -/
  | meterDisable (w : Wr)
  /-- IMPORT_LOW_READ (R448): A read of the low word of IMPORT or EXPORT latches its high word. -/
  | importLowRead (m : Nat) (exp : Bool)
  /-- ATTEST (R447): Builds and signs an attestation body with the identity key. -/
  | attest (w : Wr)
  /-- SVN_RAISE (R445): Programs SVN_FLOOR to a higher value. -/
  | svnRaise (w : Wr) (key : Byte)
  /-- REVOKE (R445): Blows a key slot's revoke fuse. -/
  | revoke (w : Wr) (key : Byte)
  /-- RECOVER (R443): Makes the boot ROM verify and boot an image in shared SRAM. -/
  | recover (w : Wr)
  /-- BOOT_ROM_RUN (R443): After initialisation the boot ROM checks FLATCH, verifies an image, loads it and releases the cores. -/
  | bootRomRun
  /-- PORST_ASSERT (R459): PORST_N low for 10 µs starts a chip reset. -/
  | porstAssert
  /-- PORST_RELEASE (R460): PORST_N rises and the package begins its boot sequence. -/
  | porstRelease (pref : Bool)
  /-- CHIP_RST (R459): A keyed write starts an internal chip reset. -/
  | chipRst (w : Wr) (key : Byte)
  /-- INTERNAL_RESET_END (R459): An internal chip reset ends after 20 µs and proceeds as from PORST_N rising. -/
  | internalResetEnd
  /-- BOOT_BIST (R470): The always-on sequencer tests K-die 0 and then the other dies before the ROM starts. -/
  | bootBist (failed : List Nat)
  /-- AO_POWER_ON (R454): VDD_AO above 1.55 V releases the always-on domain. -/
  | aoPowerOn
  /-- AO_POWER_LOSS (R454): VDD_AO below 1.45 V loses the always-on contents. -/
  | aoPowerLoss
  /-- RAIL_FAULT (R453): A rail outside tolerance for 1 µs fires F-class source 0x1C4. -/
  | railFault
  /-- REFCLK_LOSS (R455): REFCLK absent for 2 µs fires 0x1C0. -/
  | refclkLoss
  /-- PLL_UNLOCK (R455): A core, grid or A-die PLL unlocks. -/
  | pllUnlock (adie : Option Nat)
  /-- XTAL_STOP (R454): The 32.768 kHz crystal stops and the domain falls back to RC. -/
  | xtalStop
  /-- PWRFAIL_RECOGNISED (R462): PWRFAIL_N low for 0.5 µs stops metering and the Almanac and starts the power-fail writes. -/
  | pwrfailRecognised
  /-- PWRFAIL_RISE (R464): PWRFAIL_N rises before power is lost, PFACT clears and 0x1C9 fires. -/
  | pwrfailRise
  /-- DIE_ON (R456): Turns a die on: PLL relock, link training and RAM initialisation. -/
  | dieOn (w : Wr) (d : Nat)
  /-- DIE_OFF (R456): Turns a quiescent die off, or sets PWR_REJ. -/
  | dieOff (w : Wr) (d : Nat)
  /-- DIE_READY (R456): A die turning on becomes RDY with reset values. -/
  | dieReady (d : Nat)
  /-- DIE_BIST_START (R469): Starts LBIST and/or MBIST on a quiescent die, or refuses it. -/
  | dieBistStart (w : Wr)
  /-- DIE_BIST_DONE (R469): A commanded BIST ends with PASS or FAIL, and a failed die is left OFF. -/
  | dieBistDone (misr golden : BitVec 64) (us : Nat)
  /-- XS_READ (R466): Copies LEN bytes from the device into the buffer. -/
  | xsRead (w : Wr) (u : Nat)
  /-- XS_WRITE (R466): Writes LEN bytes from the buffer, subject to the region refusals. -/
  | xsWrite (w : Wr) (u : Nat)
  /-- XS_ERASE (R466): Erases a 64 KiB NOR sector. -/
  | xsErase (w : Wr) (u : Nat)
  /-- XS_STATUS (R466): Reads the device status register into the buffer. -/
  | xsStatus (w : Wr) (u : Nat)
  /-- XS_TRANSFER_DONE (R466): An xSPI transfer completes with DONE or ERR. -/
  | xsTransferDone (u : Nat) (err : Bool)
  /-- DIE_TEMP_UPDATE (R471): Each 1 ms every die's temperature is refreshed and TWARN or TCRIT is judged. -/
  | dieTempUpdate (temps : List Int)
  /-- CELL_ALIGNED_BOUNDARY (R128): At each of its aligned subframe boundaries, a cell with no carrier running transfers its pending PWM and FORCE shadows and pulses SYNCO when SYNC_SRC = 1. -/
  | cellAlignedBoundary (c : Nat)
  /-- GSUP_OK_RESTORED (R134): GSUP_OK returns high, so the GSUP_OK block source ends and a later SET_STATE or SET_PWM can be accepted again. -/
  | gsupOkRestored (c : Nat)
  /-- TRIP_INPUT_INACTIVE (R131): A trip input returns to its inactive level, clearing TIN and TACT so that CLEAR_TRIP can succeed and the modulator can clear TRIPX. -/
  | tripInputInactive (c i : Nat)
  /-- ETH_LINK_UP (R347): An Ethernet port gains its link, sets LINK and raises LINKCHG, after which it can send frames again, safety status frames included. -/
  | ethLinkUp (e : Nat)
  /-- STOP_IN_RESTORED (R385): A STOP_IN channel returns high, and once both channels have been high together for STFILT after a common low, DISC clears. -/
  | stopInRestored (b : Bool)
  /-- PEER_ALIVE_EDGE (R413): A rising edge on PEER_ALIVE_IN sets PALIVE for 250 µs. -/
  | peerAliveEdge
  /-- PALIVE_TIMEOUT (R414): 250 µs pass without a rising edge on PEER_ALIVE_IN, so PALIVE clears, and in STANDBY with PAIR_ACT_IN high source 0x1AB fires. -/
  | paliveTimeout
  /-- PAIR_ACT_IN_RISE (R397): PAIR_ACT_IN rises, and the unfiltered interlock drops LANEn_TXEN of every lane at once. -/
  | pairActInRise
  /-- PAIR_ACT_READBACK_FAIL (R414): The PAIR_ACT_OUT level read back differs from the driven level for 2 µs, and source 0x1AA fires. -/
  | pairActReadbackFail
  /-- REF_DIFF_END (R283): The A-die reference and its monitor bandgap agree again, so AD_STAT.REFBAD clears and later results no longer carry REFBAD. -/
  | refDiffEnd (a : Nat)
  /-- ADIE_PLL_RELOCK (R455): An A-die PLL that had unlocked locks again, and its converters resume converting. -/
  | adiePllRelock (a : Nat)
  /-- XTRIG_RELEASE (R319): After XW × 100 ns the engine stops pulling XTRIG low and again takes XTRIG as a trigger source. -/
  | xtrigRelease (k : Nat)
  /-- PERST_N_ASSERT (R486): PERST_N is asserted and holds the PCIe endpoint alone in reset. -/
  | perstNAssert
  /-- PERST_N_RELEASE (R486): PERST_N is released and the PCIe endpoint leaves reset. -/
  | perstNRelease
deriving DecidableEq, Repr

end Sys2Proof
end

