-- ==== Sys2Proof/Decode.lean ====
section
/-!
DEFINITION. Commands spelled as words. No row of the opcode table gives bits: the commands of the block are events, register
writes and the instructions of its cores, and the table spells none of them as a word.
-/
namespace Sys2Proof

/-- The command that a word spells by the table's bits: none. -/
def decodeTableWord (_nbits _w : Nat) : Option Instr := none

end Sys2Proof
end

