-- ==== Sys2Proof/Config.lean ====
section
/-!
DEFINITION. What one part fixes and the spec leaves to it: fuse and OTP contents, cryptographic functions, and the free
values. Every constant here is opaque: nothing in Lean can evaluate it or prove a value of it.
-/
namespace Sys2Proof.Config

/-- Silicon revision of K-die 0 (R5: CAPS_ID.DIEREV, fuse) (DESIGN CHOICE, log 4). -/
opaque dierev : BitVec 8
/-- Mask step (R5: CAPS_ID.STEP, fuse) (DESIGN CHOICE, log 4). -/
opaque maskStep : BitVec 8
/-- Silicon revision of a cell controller (R149: DEVID.REV, fuse) (DESIGN CHOICE, log 4). -/
opaque cellRev : Nat → BitVec 8
/-- Serial number of a cell controller (R149: SER0 to SER2, OTP) (DESIGN CHOICE, log 4). -/
opaque cellSerial : Nat → BitVec 48
/-- Device identity number (R449: DEVID, OTP) (DESIGN CHOICE, log 4). -/
opaque devId : BitVec 64
/-- The metering public key (R448: MPK) and the identity public key (R449: IDPK), word by word (DESIGN CHOICE, log 4). -/
opaque mpk : Nat → BitVec 32
opaque idpk : Nat → BitVec 32
/-- The default xSPI settings of the OTP (R473: XS_CFG of controller u: FREQ in bits 1:0, DUMMY in bits 6:2)
(DESIGN CHOICE, log 4). -/
opaque xsCfg : Nat → BitVec 7
/-- SHAKE256 of a message, 256-bit output (R434, R449; FIPS 202 is not restated by the spec) (DESIGN CHOICE, log 4). -/
opaque shake256 : List (BitVec 8) → BitVec 256
/-- The ML-DSA-65 signature bytes (R435, R447): key (0 metering, 1 identity), context string, message, and the number of
the signature, which stands for the random source of hedged signing (FIPS 204 is not restated by the spec)
(DESIGN CHOICE, log 4). -/
opaque mldsa : Nat → List (BitVec 8) → List (BitVec 8) → Nat → List (BitVec 8)
/-- Whether an ML-DSA-65 signature verifies (R435, R439, R443): public key bytes, context, message, signature
(DESIGN CHOICE, log 4). -/
opaque mldsaOk : List (BitVec 8) → List (BitVec 8) → List (BitVec 8) → List (BitVec 8) → Bool
/-- The device MAC key (R438, R446) (DESIGN CHOICE, log 4). -/
opaque macKey : List (BitVec 8)
/-- The digests of the four key slots of the OTP (R443) (DESIGN CHOICE, log 4). -/
opaque keyDigest : Nat → BitVec 256
/-- Free values: the n-th value the spec leaves open. Nothing constrains it (DESIGN CHOICE, log 5). -/
opaque freeValue : Nat → BitVec 32
/-- Free bits: the n-th rounding or choice the spec leaves open between two outcomes (DESIGN CHOICE, log 5). -/
opaque freeBit : Nat → Bool

end Sys2Proof.Config
end

