-- ==== Sys2Proof/Machine/RegFile.lean ====
section
/-!
DEFINITION. The register file of the package as plain data, and the description of one register field.

A register field has a key: the byte address of its word times 32, plus its least significant bit (registers of the
cells: a number space of their own, see `Machine/State.lean`). The file is a list of (key, value) pairs with rising keys;
a key that is not listed holds the field's reset value, which the field's description carries (R18).
-/
namespace Sys2Proof.Machine

/-- The access codes of R15. -/
inductive Acc where
  | ro
  | rw
  | w1c
  | w1s
  | wo
  | rwo
deriving DecidableEq, Repr

/-- The change classes of R12; `none` marks a field that cannot be written. -/
inductive Cls where
  | live
  | shadowed
  | held
  | none
deriving DecidableEq, Repr

/-- One register field: offset of its word, least significant bit, width, reset value, access code, change class, how
many copies the word has and their distance, and whether its value outlives a block reset ("retained", fuse, OTP). -/
structure Fld where
  off : Nat
  lsb : Nat
  wid : Nat
  rst : Nat
  acc : Acc
  cls : Cls
  cnt : Nat
  stp : Nat
  ret : Bool
deriving DecidableEq, Repr

/-- Register contents: (key, value) pairs, keys rising. -/
abbrev RegFile := List (Nat × BitVec 32)

/-- The value listed for a key. -/
def RegFile.find : RegFile → Nat → Option (BitVec 32)
  | [], _ => none
  | (a, v) :: r, k => if a = k then some v else RegFile.find r k

/-- List a value for a key, keeping the keys rising. -/
def RegFile.put : RegFile → Nat → BitVec 32 → RegFile
  | [], k, v => [(k, v)]
  | (a, w) :: r, k, v =>
    if k < a then (k, v) :: (a, w) :: r
    else if k = a then (k, v) :: r
    else (a, w) :: RegFile.put r k v

/-- Forget every key for which `p` holds: those fields return to their reset values. -/
def RegFile.drop (r : RegFile) (p : Nat → Bool) : RegFile := r.filter (fun e => !(p e.1))

/-- The keys rise strictly. -/
def RegFile.sorted : RegFile → Bool
  | [] => true
  | [_] => true
  | (a, _) :: (b, w) :: r => decide (a < b) && RegFile.sorted ((b, w) :: r)

/-- The key of a field whose register block (or copy of a register) begins at `base`. -/
def Fld.key (f : Fld) (base : Nat) : Nat := (base + f.off) * 32 + f.lsb

/-- The value of a field: what is listed, else its reset value. -/
def RegFile.get (r : RegFile) (base : Nat) (f : Fld) : Nat :=
  match r.find (f.key base) with
  | some v => v.toNat
  | none => f.rst

/-- Set a field; the value is cut to the field's width. -/
def RegFile.set (r : RegFile) (base : Nat) (f : Fld) (v : Nat) : RegFile :=
  r.put (f.key base) (BitVec.ofNat 32 (v % 2 ^ f.wid))

end Sys2Proof.Machine
end

