-- ==== Sys2Proof/Machine/RegMap1.lean ====
section
/-!
DEFINITION. Register fields of the spec's register tables: CAPS, access-window entry, fabric, cycle timer, lane, cell context, modulator, arm, cell-table entry. One constant per field, named
block, register, field; offsets are those of the table (relative to the block or entry the table belongs to).
-/
namespace Sys2Proof.Machine

/-! ## CAPS registers (R5) -/
/-- CAPS_ID.FAMILY, bits 31:16 (R5). -/
def Caps.CAPS_ID.FAMILY : Fld := ⟨0x0, 16, 16, 54690, .ro, .none, 1, 4, false⟩
/-- CAPS_ID.DIEREV, bits 15:8 (R5). -/
def Caps.CAPS_ID.DIEREV : Fld := ⟨0x0, 8, 8, 0, .ro, .none, 1, 4, true⟩
/-- CAPS_ID.STEP, bits 7:0 (R5). -/
def Caps.CAPS_ID.STEP : Fld := ⟨0x0, 0, 8, 0, .ro, .none, 1, 4, true⟩
/-- CAPS_DIES.KCOUNT, bits 1:0 (R5). -/
def Caps.CAPS_DIES.KCOUNT : Fld := ⟨0x4, 0, 2, 0, .ro, .none, 1, 4, true⟩
/-- CAPS_DIES.LCOUNT, bits 4:2 (R5). -/
def Caps.CAPS_DIES.LCOUNT : Fld := ⟨0x4, 2, 3, 0, .ro, .none, 1, 4, true⟩
/-- CAPS_DIES.ACOUNT, bits 6:5 (R5). -/
def Caps.CAPS_DIES.ACOUNT : Fld := ⟨0x4, 5, 2, 0, .ro, .none, 1, 4, true⟩
/-- CAPS_DIES.M, bits 7 (R5). -/
def Caps.CAPS_DIES.M : Fld := ⟨0x4, 7, 1, 0, .ro, .none, 1, 4, true⟩
/-- CAPS_DIES.Q, bits 8 (R5). -/
def Caps.CAPS_DIES.Q : Fld := ⟨0x4, 8, 1, 0, .ro, .none, 1, 4, true⟩
/-- CAPS_DIES.LMASK, bits 15:12 (R5). -/
def Caps.CAPS_DIES.LMASK : Fld := ⟨0x4, 12, 4, 0, .ro, .none, 1, 4, true⟩
/-- CAPS_DIES.AMASK, bits 17:16 (R5). -/
def Caps.CAPS_DIES.AMASK : Fld := ⟨0x4, 16, 2, 0, .ro, .none, 1, 4, true⟩
/-- CAPS_SIZE.LANES, bits 6:0 (R5). -/
def Caps.CAPS_SIZE.LANES : Fld := ⟨0x8, 0, 7, 0, .ro, .none, 1, 4, true⟩
/-- CAPS_SIZE.ARMS, bits 12:8 (R5). -/
def Caps.CAPS_SIZE.ARMS : Fld := ⟨0x8, 8, 5, 0, .ro, .none, 1, 4, true⟩
/-- CAPS_SIZE.CELLSLOTS, bits 28:16 (R5). -/
def Caps.CAPS_SIZE.CELLSLOTS : Fld := ⟨0x8, 16, 13, 0, .ro, .none, 1, 4, true⟩
/-- CAPS_OPT.PAIRCAP, bits 0 (R5). -/
def Caps.CAPS_OPT.PAIRCAP : Fld := ⟨0xC, 0, 1, 1, .ro, .none, 1, 4, false⟩
/-- CAPS_OPT.SVIN, bits 1 (R5). -/
def Caps.CAPS_OPT.SVIN : Fld := ⟨0xC, 1, 1, 1, .ro, .none, 1, 4, false⟩
/-- ABSENT_ADDR.ADDR, bits 31:0 (R5). -/
def Caps.ABSENT_ADDR.ADDR : Fld := ⟨0x10, 0, 32, 0, .ro, .none, 1, 4, false⟩
/-- ABSENT_INFO.MID, bits 7:0 (R5). -/
def Caps.ABSENT_INFO.MID : Fld := ⟨0x14, 0, 8, 0, .ro, .none, 1, 4, false⟩
/-- ABSENT_INFO.WR, bits 8 (R5). -/
def Caps.ABSENT_INFO.WR : Fld := ⟨0x14, 8, 1, 0, .ro, .none, 1, 4, false⟩
/-- ABSENT_INFO.INSN, bits 9 (R5). -/
def Caps.ABSENT_INFO.INSN : Fld := ⟨0x14, 9, 1, 0, .ro, .none, 1, 4, false⟩
/-- ABSENT_INFO.COUNT, bits 31:16 (R5). -/
def Caps.ABSENT_INFO.COUNT : Fld := ⟨0x14, 16, 16, 0, .ro, .none, 1, 4, false⟩
/-- ABSENT_CTL.CLR, bits 0 (R5). -/
def Caps.ABSENT_CTL.CLR : Fld := ⟨0x18, 0, 1, 0, .wo, .live, 1, 4, false⟩

/-- Every field of the CAPS table (R5), with its name. -/
def Caps.fields : List Fld :=
  [Caps.CAPS_ID.FAMILY, Caps.CAPS_ID.DIEREV, Caps.CAPS_ID.STEP, Caps.CAPS_DIES.KCOUNT, Caps.CAPS_DIES.LCOUNT, Caps.CAPS_DIES.ACOUNT, Caps.CAPS_DIES.M, Caps.CAPS_DIES.Q, Caps.CAPS_DIES.LMASK, Caps.CAPS_DIES.AMASK, Caps.CAPS_SIZE.LANES, Caps.CAPS_SIZE.ARMS, Caps.CAPS_SIZE.CELLSLOTS, Caps.CAPS_OPT.PAIRCAP, Caps.CAPS_OPT.SVIN, Caps.ABSENT_ADDR.ADDR, Caps.ABSENT_INFO.MID, Caps.ABSENT_INFO.WR, Caps.ABSENT_INFO.INSN, Caps.ABSENT_INFO.COUNT, Caps.ABSENT_CTL.CLR]

/-! ## access-window entry registers (R25) -/
/-- WBASE.BASE, bits 31:12 (R25). -/
def Win.WBASE.BASE : Fld := ⟨0x0, 12, 20, 0, .rw, .live, 1, 4, false⟩
/-- WLIMIT.LIMIT, bits 31:12 (R25). -/
def Win.WLIMIT.LIMIT : Fld := ⟨0x4, 12, 20, 0, .rw, .live, 1, 4, false⟩
/-- WATTR.EN, bits 0 (R25). -/
def Win.WATTR.EN : Fld := ⟨0x8, 0, 1, 0, .rw, .live, 1, 4, false⟩
/-- WATTR.RD, bits 1 (R25). -/
def Win.WATTR.RD : Fld := ⟨0x8, 1, 1, 0, .rw, .live, 1, 4, false⟩
/-- WATTR.WR, bits 2 (R25). -/
def Win.WATTR.WR : Fld := ⟨0x8, 2, 1, 0, .rw, .live, 1, 4, false⟩
/-- WATTR.EX, bits 3 (R25). -/
def Win.WATTR.EX : Fld := ⟨0x8, 3, 1, 0, .rw, .live, 1, 4, false⟩
/-- WATTR.ORDERED, bits 4 (R25). -/
def Win.WATTR.ORDERED : Fld := ⟨0x8, 4, 1, 0, .rw, .live, 1, 4, false⟩
/-- WATTR.TASK, bits 5 (R25). -/
def Win.WATTR.TASK : Fld := ⟨0x8, 5, 1, 0, .rw, .live, 1, 4, false⟩

/-- Every field of the access-window entry table (R25), with its name. -/
def Win.fields : List Fld :=
  [Win.WBASE.BASE, Win.WLIMIT.LIMIT, Win.WATTR.EN, Win.WATTR.RD, Win.WATTR.WR, Win.WATTR.EX, Win.WATTR.ORDERED, Win.WATTR.TASK]

/-! ## fabric registers (R42) -/
/-- FAB_CTL.TMO, bits 15:0 (R42). -/
def Fab.FAB_CTL.TMO : Fld := ⟨0x100, 0, 16, 100, .rw, .live, 1, 4, false⟩
/-- FAB_CTL.STAGE_HOLD, bits 19:16 (R42). -/
def Fab.FAB_CTL.STAGE_HOLD : Fld := ⟨0x100, 16, 4, 2, .rw, .live, 1, 4, false⟩
/-- FAB_STAT.LINKUP, bits 6:0 (R42). -/
def Fab.FAB_STAT.LINKUP : Fld := ⟨0x104, 0, 7, 0, .ro, .none, 1, 4, false⟩
/-- FAB_STAT.HELD_WR, bits 15 (R42). -/
def Fab.FAB_STAT.HELD_WR : Fld := ⟨0x104, 15, 1, 0, .w1c, .none, 1, 4, false⟩
/-- FAB_STAT.TMO_CNT, bits 31:16 (R42). -/
def Fab.FAB_STAT.TMO_CNT : Fld := ⟨0x104, 16, 16, 0, .ro, .none, 1, 4, false⟩
/-- FAB_ERR_ADDR.ADDR, bits 31:0 (R42). -/
def Fab.FAB_ERR_ADDR.ADDR : Fld := ⟨0x108, 0, 32, 0, .ro, .none, 1, 4, false⟩
/-- FAB_ERR_INFO.MID, bits 7:0 (R42). -/
def Fab.FAB_ERR_INFO.MID : Fld := ⟨0x10C, 0, 8, 0, .ro, .none, 1, 4, false⟩
/-- FAB_ERR_INFO.WR, bits 8 (R42). -/
def Fab.FAB_ERR_INFO.WR : Fld := ⟨0x10C, 8, 1, 0, .ro, .none, 1, 4, false⟩
/-- FAB_ERR_INFO.VALID, bits 9 (R42). -/
def Fab.FAB_ERR_INFO.VALID : Fld := ⟨0x10C, 9, 1, 0, .ro, .none, 1, 4, false⟩
/-- FAB_ERR_INFO.ERRCLR, bits 31 (R42). -/
def Fab.FAB_ERR_INFO.ERRCLR : Fld := ⟨0x10C, 31, 1, 0, .wo, .live, 1, 4, false⟩
/-- FAB_REPLAY.COUNT, bits 31:0 (R42). -/
def Fab.FAB_REPLAY.COUNT : Fld := ⟨0x110, 0, 32, 0, .ro, .none, 1, 4, false⟩

/-- Every field of the fabric table (R42), with its name. -/
def Fab.fields : List Fld :=
  [Fab.FAB_CTL.TMO, Fab.FAB_CTL.STAGE_HOLD, Fab.FAB_STAT.LINKUP, Fab.FAB_STAT.HELD_WR, Fab.FAB_STAT.TMO_CNT, Fab.FAB_ERR_ADDR.ADDR, Fab.FAB_ERR_INFO.MID, Fab.FAB_ERR_INFO.WR, Fab.FAB_ERR_INFO.VALID, Fab.FAB_ERR_INFO.ERRCLR, Fab.FAB_REPLAY.COUNT]

/-! ## cycle timer registers (R58) -/
/-- CYC_CTL.EN, bits 0 (R58). -/
def Cyc.CYC_CTL.EN : Fld := ⟨0x200, 0, 1, 0, .rw, .live, 1, 4, false⟩
/-- CYC_CTL.NSUB, bits 13:8 (R58). -/
def Cyc.CYC_CTL.NSUB : Fld := ⟨0x200, 8, 6, 8, .rw, .held, 1, 4, false⟩
/-- CYC_CTL.ALIGN, bits 23:16 (R58). -/
def Cyc.CYC_CTL.ALIGN : Fld := ⟨0x200, 16, 8, 120, .rw, .held, 1, 4, false⟩
/-- CYC_NUM_LO.NUM_LO, bits 31:0 (R58). -/
def Cyc.CYC_NUM_LO.NUM_LO : Fld := ⟨0x204, 0, 32, 0, .rw, .held, 1, 4, false⟩
/-- CYC_NUM_HI.NUM_HI, bits 15:0 (R58). -/
def Cyc.CYC_NUM_HI.NUM_HI : Fld := ⟨0x208, 0, 16, 0, .rw, .held, 1, 4, false⟩
/-- CYC_STAT.SUBIDX, bits 5:0 (R58). -/
def Cyc.CYC_STAT.SUBIDX : Fld := ⟨0x20C, 0, 6, 0, .ro, .none, 1, 4, false⟩
/-- CYC_STAT.UPSLOTS, bits 14:8 (R58). -/
def Cyc.CYC_STAT.UPSLOTS : Fld := ⟨0x20C, 8, 7, 96, .ro, .none, 1, 4, false⟩
/-- CYC_STAT.HELD_WR, bits 15 (R58). -/
def Cyc.CYC_STAT.HELD_WR : Fld := ⟨0x20C, 15, 1, 0, .w1c, .none, 1, 4, false⟩
/-- CYC_STAT.CFG_REJ, bits 16 (R58). -/
def Cyc.CYC_STAT.CFG_REJ : Fld := ⟨0x20C, 16, 1, 0, .w1c, .none, 1, 4, false⟩
/-- CYC_STAT.RUN, bits 17 (R58). -/
def Cyc.CYC_STAT.RUN : Fld := ⟨0x20C, 17, 1, 0, .ro, .none, 1, 4, false⟩
/-- CYC_STAT.CUTMISS, bits 18 (R58). -/
def Cyc.CYC_STAT.CUTMISS : Fld := ⟨0x20C, 18, 1, 0, .w1c, .none, 1, 4, false⟩

/-- Every field of the cycle timer table (R58), with its name. -/
def Cyc.fields : List Fld :=
  [Cyc.CYC_CTL.EN, Cyc.CYC_CTL.NSUB, Cyc.CYC_CTL.ALIGN, Cyc.CYC_NUM_LO.NUM_LO, Cyc.CYC_NUM_HI.NUM_HI, Cyc.CYC_STAT.SUBIDX, Cyc.CYC_STAT.UPSLOTS, Cyc.CYC_STAT.HELD_WR, Cyc.CYC_STAT.CFG_REJ, Cyc.CYC_STAT.RUN, Cyc.CYC_STAT.CUTMISS]

/-! ## lane registers (R104) -/
/-- LANE_CTL.EN, bits 0 (R104). -/
def Lane.LANE_CTL.EN : Fld := ⟨0x0, 0, 1, 0, .rw, .live, 1, 4, false⟩
/-- LANE_CTL.DARK, bits 1 (R104). -/
def Lane.LANE_CTL.DARK : Fld := ⟨0x0, 1, 1, 1, .rw, .live, 1, 4, false⟩
/-- LANE_CTL.RPT_EN, bits 2 (R104). -/
def Lane.LANE_CTL.RPT_EN : Fld := ⟨0x0, 2, 1, 0, .rw, .shadowed, 1, 4, false⟩
/-- LANE_CTL.BAB_ALL, bits 3 (R104). -/
def Lane.LANE_CTL.BAB_ALL : Fld := ⟨0x0, 3, 1, 1, .rw, .live, 1, 4, false⟩
/-- LANE_CTL.LISTEN, bits 4 (R104). -/
def Lane.LANE_CTL.LISTEN : Fld := ⟨0x0, 4, 1, 0, .rw, .held, 1, 4, false⟩
/-- LANE_CTL.ACKWAIT, bits 11:8 (R104). -/
def Lane.LANE_CTL.ACKWAIT : Fld := ⟨0x0, 8, 4, 3, .rw, .live, 1, 4, false⟩
/-- LANE_CTL.BAB_TH, bits 15:12 (R104). -/
def Lane.LANE_CTL.BAB_TH : Fld := ⟨0x0, 12, 4, 2, .rw, .live, 1, 4, false⟩
/-- LANE_STAT.LSTATE, bits 2:0 (R104). -/
def Lane.LANE_STAT.LSTATE : Fld := ⟨0x4, 0, 3, 0, .ro, .none, 1, 4, false⟩
/-- LANE_STAT.TXEN, bits 3 (R104). -/
def Lane.LANE_STAT.TXEN : Fld := ⟨0x4, 3, 1, 0, .ro, .none, 1, 4, false⟩
/-- LANE_STAT.TXFLT, bits 4 (R104). -/
def Lane.LANE_STAT.TXFLT : Fld := ⟨0x4, 4, 1, 0, .ro, .none, 1, 4, false⟩
/-- LANE_STAT.NENABLED, bits 11:5 (R104). -/
def Lane.LANE_STAT.NENABLED : Fld := ⟨0x4, 5, 7, 0, .ro, .none, 1, 4, false⟩
/-- LANE_STAT.HELD_WR, bits 12 (R104). -/
def Lane.LANE_STAT.HELD_WR : Fld := ⟨0x4, 12, 1, 0, .w1c, .none, 1, 4, false⟩
/-- LANE_STAT.DARK_REJ, bits 13 (R104). -/
def Lane.LANE_STAT.DARK_REJ : Fld := ⟨0x4, 13, 1, 0, .w1c, .none, 1, 4, false⟩
/-- LANE_STAT.BABPERS, bits 14 (R104). -/
def Lane.LANE_STAT.BABPERS : Fld := ⟨0x4, 14, 1, 0, .w1c, .none, 1, 4, false⟩
/-- LANE_EVT.EVT, bits 11:0 (R104). -/
def Lane.LANE_EVT.EVT : Fld := ⟨0x8, 0, 12, 0, .w1c, .none, 1, 4, false⟩
/-- LANE_EVTEN.EN, bits 11:0 (R104). -/
def Lane.LANE_EVTEN.EN : Fld := ⟨0xC, 0, 12, 0, .rw, .live, 1, 4, false⟩
/-- LANE_FLT.CAUSE, bits 4:0 (R104). -/
def Lane.LANE_FLT.CAUSE : Fld := ⟨0x10, 0, 5, 0, .w1c, .none, 1, 4, false⟩
/-- ASYM.ASYM, bits 15:0 (R104). -/
def Lane.ASYM.ASYM : Fld := ⟨0x14, 0, 16, 0, .rw, .held, 1, 4, false⟩
/-- BRST_DLY.DLY, bits 5:0 (R104). -/
def Lane.BRST_DLY.DLY : Fld := ⟨0x18, 0, 6, 0, .rw, .held, 1, 4, false⟩
/-- RNG_CTL.RNG_TRK, bits 7:0 (R104). -/
def Lane.RNG_CTL.RNG_TRK : Fld := ⟨0x1C, 0, 8, 8, .rw, .live, 1, 4, false⟩
/-- RNG_CTL.RNG_LIM, bits 15:8 (R104). -/
def Lane.RNG_CTL.RNG_LIM : Fld := ⟨0x1C, 8, 8, 20, .rw, .live, 1, 4, false⟩
/-- SEE_CTL.SEE_WARN, bits 7:0 (R104). -/
def Lane.SEE_CTL.SEE_WARN : Fld := ⟨0x20, 0, 8, 80, .rw, .live, 1, 4, false⟩
/-- SEE_CTL.SEE_ERR, bits 15:8 (R104). -/
def Lane.SEE_CTL.SEE_ERR : Fld := ⟨0x20, 8, 8, 68, .rw, .live, 1, 4, false⟩
/-- BCAST_PUSH.WORD, bits 31:0 (R104). -/
def Lane.BCAST_PUSH.WORD : Fld := ⟨0x24, 0, 32, 0, .wo, .live, 1, 4, false⟩
/-- BCAST_STAT.DEPTH, bits 3:0 (R104). -/
def Lane.BCAST_STAT.DEPTH : Fld := ⟨0x28, 0, 4, 0, .ro, .none, 1, 4, false⟩
/-- BCAST_STAT.BC_OVF, bits 4 (R104). -/
def Lane.BCAST_STAT.BC_OVF : Fld := ⟨0x28, 4, 1, 0, .w1c, .none, 1, 4, false⟩
/-- WAKE_CTL.START, bits 0 (R104). -/
def Lane.WAKE_CTL.START : Fld := ⟨0x2C, 0, 1, 0, .wo, .live, 1, 4, false⟩
/-- WAKE_CTL.LEN, bits 15:8 (R104). -/
def Lane.WAKE_CTL.LEN : Fld := ⟨0x2C, 8, 8, 20, .rw, .live, 1, 4, false⟩
/-- WAKE_CTL.BUSY, bits 16 (R104). -/
def Lane.WAKE_CTL.BUSY : Fld := ⟨0x2C, 16, 1, 0, .ro, .none, 1, 4, false⟩
/-- RS_CTL.SLOT, bits 6:0 (R104). -/
def Lane.RS_CTL.SLOT : Fld := ⟨0x30, 0, 7, 0, .rw, .live, 1, 4, false⟩
/-- RS_CTL.BURSTS, bits 15:8 (R104). -/
def Lane.RS_CTL.BURSTS : Fld := ⟨0x30, 8, 8, 64, .rw, .live, 1, 4, false⟩
/-- RS_CTL.START, bits 16 (R104). -/
def Lane.RS_CTL.START : Fld := ⟨0x30, 16, 1, 0, .wo, .live, 1, 4, false⟩
/-- RS_CTL.ABORT, bits 17 (R104). -/
def Lane.RS_CTL.ABORT : Fld := ⟨0x30, 17, 1, 0, .wo, .live, 1, 4, false⟩
/-- RS_STAT.BUSY, bits 0 (R104). -/
def Lane.RS_STAT.BUSY : Fld := ⟨0x34, 0, 1, 0, .ro, .none, 1, 4, false⟩
/-- RS_STAT.DONE, bits 1 (R104). -/
def Lane.RS_STAT.DONE : Fld := ⟨0x34, 1, 1, 0, .w1c, .none, 1, 4, false⟩
/-- RS_STAT.ABORTED, bits 2 (R104). -/
def Lane.RS_STAT.ABORTED : Fld := ⟨0x34, 2, 1, 0, .w1c, .none, 1, 4, false⟩
/-- RS_STAT.EYE_W, bits 13:8 (R104). -/
def Lane.RS_STAT.EYE_W : Fld := ⟨0x34, 8, 6, 0, .ro, .none, 1, 4, false⟩
/-- RS_STAT.EYE_H, bits 20:16 (R104). -/
def Lane.RS_STAT.EYE_H : Fld := ⟨0x34, 16, 5, 0, .ro, .none, 1, 4, false⟩
/-- RS_STAT.POINT, bits 31:23 (R104). -/
def Lane.RS_STAT.POINT : Fld := ⟨0x34, 23, 9, 0, .ro, .none, 1, 4, false⟩
/-- CNT_RXOK.COUNT, bits 31:0 (R104). -/
def Lane.CNT_RXOK.COUNT : Fld := ⟨0x40, 0, 32, 0, .ro, .none, 1, 4, false⟩
/-- CNT_RXFAIL.COUNT, bits 31:0 (R104). -/
def Lane.CNT_RXFAIL.COUNT : Fld := ⟨0x44, 0, 32, 0, .ro, .none, 1, 4, false⟩
/-- CNT_REGRANT.COUNT, bits 31:0 (R104). -/
def Lane.CNT_REGRANT.COUNT : Fld := ⟨0x48, 0, 32, 0, .ro, .none, 1, 4, false⟩
/-- CNT_RGDROP.COUNT, bits 31:0 (R104). -/
def Lane.CNT_RGDROP.COUNT : Fld := ⟨0x4C, 0, 32, 0, .ro, .none, 1, 4, false⟩
/-- CNT_BABBLE.COUNT, bits 31:0 (R104). -/
def Lane.CNT_BABBLE.COUNT : Fld := ⟨0x50, 0, 32, 0, .ro, .none, 1, 4, false⟩
/-- CNT_ACMDRS.COUNT, bits 31:0 (R104). -/
def Lane.CNT_ACMDRS.COUNT : Fld := ⟨0x54, 0, 32, 0, .ro, .none, 1, 4, false⟩
/-- CNT_CLR.CLR, bits 0 (R104). -/
def Lane.CNT_CLR.CLR : Fld := ⟨0x58, 0, 1, 0, .wo, .live, 1, 4, false⟩
/-- RS_MAP.COUNT, bits 31:0 (R104). -/
def Lane.RS_MAP.COUNT : Fld := ⟨0x400, 0, 32, 0, .ro, .none, 256, 4, false⟩

/-- Every field of the lane table (R104), with its name. -/
def Lane.fields : List Fld :=
  [Lane.LANE_CTL.EN, Lane.LANE_CTL.DARK, Lane.LANE_CTL.RPT_EN, Lane.LANE_CTL.BAB_ALL, Lane.LANE_CTL.LISTEN, Lane.LANE_CTL.ACKWAIT, Lane.LANE_CTL.BAB_TH, Lane.LANE_STAT.LSTATE, Lane.LANE_STAT.TXEN, Lane.LANE_STAT.TXFLT, Lane.LANE_STAT.NENABLED, Lane.LANE_STAT.HELD_WR, Lane.LANE_STAT.DARK_REJ, Lane.LANE_STAT.BABPERS, Lane.LANE_EVT.EVT, Lane.LANE_EVTEN.EN, Lane.LANE_FLT.CAUSE, Lane.ASYM.ASYM, Lane.BRST_DLY.DLY, Lane.RNG_CTL.RNG_TRK, Lane.RNG_CTL.RNG_LIM, Lane.SEE_CTL.SEE_WARN, Lane.SEE_CTL.SEE_ERR, Lane.BCAST_PUSH.WORD] ++
  [Lane.BCAST_STAT.DEPTH, Lane.BCAST_STAT.BC_OVF, Lane.WAKE_CTL.START, Lane.WAKE_CTL.LEN, Lane.WAKE_CTL.BUSY, Lane.RS_CTL.SLOT, Lane.RS_CTL.BURSTS, Lane.RS_CTL.START, Lane.RS_CTL.ABORT, Lane.RS_STAT.BUSY, Lane.RS_STAT.DONE, Lane.RS_STAT.ABORTED, Lane.RS_STAT.EYE_W, Lane.RS_STAT.EYE_H, Lane.RS_STAT.POINT, Lane.CNT_RXOK.COUNT, Lane.CNT_RXFAIL.COUNT, Lane.CNT_REGRANT.COUNT, Lane.CNT_RGDROP.COUNT, Lane.CNT_BABBLE.COUNT, Lane.CNT_ACMDRS.COUNT, Lane.CNT_CLR.CLR, Lane.RS_MAP.COUNT]

/-! ## cell context registers (R105) -/
/-- CELL_SER_LO.SERIAL, bits 31:0 (R105). -/
def Ctx.CELL_SER_LO.SERIAL : Fld := ⟨0x0, 0, 32, 0, .rw, .held, 1, 4, false⟩
/-- CELL_SER_HI.SERIAL, bits 15:0 (R105). -/
def Ctx.CELL_SER_HI.SERIAL : Fld := ⟨0x4, 0, 16, 0, .rw, .held, 1, 4, false⟩
/-- CELL_CMD.CMD, bits 4:0 (R105). -/
def Ctx.CELL_CMD.CMD : Fld := ⟨0x8, 0, 5, 0, .wo, .live, 1, 4, false⟩
/-- CELL_STAT.CSTATE, bits 2:0 (R105). -/
def Ctx.CELL_STAT.CSTATE : Fld := ⟨0xC, 0, 3, 0, .ro, .none, 1, 4, false⟩
/-- CELL_STAT.RFCAUSE, bits 6:4 (R105). -/
def Ctx.CELL_STAT.RFCAUSE : Fld := ⟨0xC, 4, 3, 0, .ro, .none, 1, 4, false⟩
/-- CELL_STAT.ENREJ, bits 7 (R105). -/
def Ctx.CELL_STAT.ENREJ : Fld := ⟨0xC, 7, 1, 0, .w1c, .none, 1, 4, false⟩
/-- CELL_STAT.CMDW_REJ, bits 8 (R105). -/
def Ctx.CELL_STAT.CMDW_REJ : Fld := ⟨0xC, 8, 1, 0, .w1c, .none, 1, 4, false⟩
/-- CELL_STAT.HELD_WR, bits 9 (R105). -/
def Ctx.CELL_STAT.HELD_WR : Fld := ⟨0xC, 9, 1, 0, .w1c, .none, 1, 4, false⟩
/-- CELL_STAT.LATE, bits 10 (R105). -/
def Ctx.CELL_STAT.LATE : Fld := ⟨0xC, 10, 1, 0, .w1c, .none, 1, 4, false⟩
/-- CELL_STAT.SEE_LOW, bits 11 (R105). -/
def Ctx.CELL_STAT.SEE_LOW : Fld := ⟨0xC, 11, 1, 0, .ro, .none, 1, 4, false⟩
/-- CELL_STAT.RGCNT, bits 13:12 (R105). -/
def Ctx.CELL_STAT.RGCNT : Fld := ⟨0xC, 12, 2, 0, .ro, .none, 1, 4, false⟩
/-- CELL_STAT.GRANT_U, bits 23:16 (R105). -/
def Ctx.CELL_STAT.GRANT_U : Fld := ⟨0xC, 16, 8, 255, .ro, .none, 1, 4, false⟩
/-- CELL_RTD.RTD, bits 19:0 (R105). -/
def Ctx.CELL_RTD.RTD : Fld := ⟨0x10, 0, 20, 0, .ro, .none, 1, 4, true⟩
/-- CELL_DDN.DDN, bits 19:0 (R105). -/
def Ctx.CELL_DDN.DDN : Fld := ⟨0x14, 0, 20, 0, .ro, .none, 1, 4, false⟩
/-- CELL_ERR.ERR, bits 15:0 (R105). -/
def Ctx.CELL_ERR.ERR : Fld := ⟨0x18, 0, 16, 0, .ro, .none, 1, 4, false⟩
/-- CMDW.WORD, bits 31:0 (R105). -/
def Ctx.CMDW.WORD : Fld := ⟨0x1C, 0, 32, 0, .rw, .shadowed, 1, 4, false⟩
/-- ACMD_PUSH.WORD, bits 31:0 (R105). -/
def Ctx.ACMD_PUSH.WORD : Fld := ⟨0x20, 0, 32, 0, .wo, .live, 1, 4, false⟩
/-- ACMD_STAT.DEPTH, bits 2:0 (R105). -/
def Ctx.ACMD_STAT.DEPTH : Fld := ⟨0x24, 0, 3, 0, .ro, .none, 1, 4, false⟩
/-- ACMD_STAT.OUT, bits 3 (R105). -/
def Ctx.ACMD_STAT.OUT : Fld := ⟨0x24, 3, 1, 0, .ro, .none, 1, 4, false⟩
/-- ACMD_STAT.SEQ, bits 5:4 (R105). -/
def Ctx.ACMD_STAT.SEQ : Fld := ⟨0x24, 4, 2, 0, .ro, .none, 1, 4, false⟩
/-- ACMD_STAT.RESENDS, bits 7:6 (R105). -/
def Ctx.ACMD_STAT.RESENDS : Fld := ⟨0x24, 6, 2, 0, .ro, .none, 1, 4, false⟩
/-- ACMD_STAT.DONE, bits 8 (R105). -/
def Ctx.ACMD_STAT.DONE : Fld := ⟨0x24, 8, 1, 0, .w1c, .none, 1, 4, false⟩
/-- ACMD_STAT.FAIL, bits 9 (R105). -/
def Ctx.ACMD_STAT.FAIL : Fld := ⟨0x24, 9, 1, 0, .w1c, .none, 1, 4, false⟩
/-- ACMD_STAT.OVF, bits 10 (R105). -/
def Ctx.ACMD_STAT.OVF : Fld := ⟨0x24, 10, 1, 0, .w1c, .none, 1, 4, false⟩
/-- ACMD_STAT.REJ, bits 11 (R105). -/
def Ctx.ACMD_STAT.REJ : Fld := ⟨0x24, 11, 1, 0, .w1c, .none, 1, 4, false⟩
/-- ACMD_STAT.FLUSHED, bits 12 (R105). -/
def Ctx.ACMD_STAT.FLUSHED : Fld := ⟨0x24, 12, 1, 0, .w1c, .none, 1, 4, false⟩
/-- RDATA.DATA, bits 15:0 (R105). -/
def Ctx.RDATA.DATA : Fld := ⟨0x28, 0, 16, 0, .ro, .none, 1, 4, false⟩
/-- RDATA.ADDR, bits 23:16 (R105). -/
def Ctx.RDATA.ADDR : Fld := ⟨0x28, 16, 8, 0, .ro, .none, 1, 4, false⟩
/-- RDATA.VALID, bits 24 (R105). -/
def Ctx.RDATA.VALID : Fld := ⟨0x28, 24, 1, 0, .w1c, .none, 1, 4, false⟩
/-- CELL_SEE.LAST, bits 7:0 (R105). -/
def Ctx.CELL_SEE.LAST : Fld := ⟨0x2C, 0, 8, 0, .ro, .none, 1, 4, false⟩
/-- CELL_SEE.MIN, bits 15:8 (R105). -/
def Ctx.CELL_SEE.MIN : Fld := ⟨0x2C, 8, 8, 255, .ro, .none, 1, 4, false⟩
/-- CELL_SEE.AVG, bits 23:16 (R105). -/
def Ctx.CELL_SEE.AVG : Fld := ⟨0x2C, 16, 8, 0, .ro, .none, 1, 4, false⟩
/-- CELL_CNT0.RPT_OK, bits 15:0 (R105). -/
def Ctx.CELL_CNT0.RPT_OK : Fld := ⟨0x30, 0, 16, 0, .ro, .none, 1, 4, false⟩
/-- CELL_CNT0.RPT_FAIL, bits 31:16 (R105). -/
def Ctx.CELL_CNT0.RPT_FAIL : Fld := ⟨0x30, 16, 16, 0, .ro, .none, 1, 4, false⟩
/-- CELL_CNT1.LATE, bits 15:0 (R105). -/
def Ctx.CELL_CNT1.LATE : Fld := ⟨0x34, 0, 16, 0, .ro, .none, 1, 4, false⟩
/-- CELL_CNT1.DCRC, bits 31:16 (R105). -/
def Ctx.CELL_CNT1.DCRC : Fld := ⟨0x34, 16, 16, 0, .ro, .none, 1, 4, false⟩
/-- LAST_RPT.RPT, bits 31:0 (R105). -/
def Ctx.LAST_RPT.RPT : Fld := ⟨0x40, 0, 32, 0, .ro, .none, 4, 4, false⟩
/-- LAST_CYC.CYC, bits 31:0 (R105). -/
def Ctx.LAST_CYC.CYC : Fld := ⟨0x50, 0, 32, 0, .ro, .none, 1, 4, false⟩

/-- Every field of the cell context table (R105), with its name. -/
def Ctx.fields : List Fld :=
  [Ctx.CELL_SER_LO.SERIAL, Ctx.CELL_SER_HI.SERIAL, Ctx.CELL_CMD.CMD, Ctx.CELL_STAT.CSTATE, Ctx.CELL_STAT.RFCAUSE, Ctx.CELL_STAT.ENREJ, Ctx.CELL_STAT.CMDW_REJ, Ctx.CELL_STAT.HELD_WR, Ctx.CELL_STAT.LATE, Ctx.CELL_STAT.SEE_LOW, Ctx.CELL_STAT.RGCNT, Ctx.CELL_STAT.GRANT_U, Ctx.CELL_RTD.RTD, Ctx.CELL_DDN.DDN, Ctx.CELL_ERR.ERR, Ctx.CMDW.WORD, Ctx.ACMD_PUSH.WORD, Ctx.ACMD_STAT.DEPTH, Ctx.ACMD_STAT.OUT, Ctx.ACMD_STAT.SEQ, Ctx.ACMD_STAT.RESENDS, Ctx.ACMD_STAT.DONE, Ctx.ACMD_STAT.FAIL, Ctx.ACMD_STAT.OVF] ++
  [Ctx.ACMD_STAT.REJ, Ctx.ACMD_STAT.FLUSHED, Ctx.RDATA.DATA, Ctx.RDATA.ADDR, Ctx.RDATA.VALID, Ctx.CELL_SEE.LAST, Ctx.CELL_SEE.MIN, Ctx.CELL_SEE.AVG, Ctx.CELL_CNT0.RPT_OK, Ctx.CELL_CNT0.RPT_FAIL, Ctx.CELL_CNT1.LATE, Ctx.CELL_CNT1.DCRC, Ctx.LAST_RPT.RPT, Ctx.LAST_CYC.CYC]

/-! ## modulator registers (R174) -/
/-- MOD_CTL.EXTRAP, bits 0 (R174). -/
def Mod.MOD_CTL.EXTRAP : Fld := ⟨0x0, 0, 1, 1, .rw, .held, 1, 4, false⟩
/-- MOD_CTL.TPER_EXP, bits 12:8 (R174). -/
def Mod.MOD_CTL.TPER_EXP : Fld := ⟨0x0, 8, 5, 26, .rw, .held, 1, 4, false⟩
/-- MOD_STAT.RUNMASK, bits 5:0 (R174). -/
def Mod.MOD_STAT.RUNMASK : Fld := ⟨0x4, 0, 6, 0, .ro, .none, 1, 4, false⟩
/-- MOD_STAT.HELD_WR, bits 8 (R174). -/
def Mod.MOD_STAT.HELD_WR : Fld := ⟨0x4, 8, 1, 0, .w1c, .none, 1, 4, false⟩
/-- MOD_STAT.MAP_REJ, bits 9 (R174). -/
def Mod.MOD_STAT.MAP_REJ : Fld := ⟨0x4, 9, 1, 0, .w1c, .none, 1, 4, false⟩
/-- MOD_STAT.CFG_REJ, bits 10 (R174). -/
def Mod.MOD_STAT.CFG_REJ : Fld := ⟨0x4, 10, 1, 0, .w1c, .none, 1, 4, false⟩
/-- MOD_STAT.RAMCE, bits 11 (R174). -/
def Mod.MOD_STAT.RAMCE : Fld := ⟨0x4, 11, 1, 0, .w1c, .none, 1, 4, false⟩
/-- MOD_STAT.RAMUE, bits 12 (R174). -/
def Mod.MOD_STAT.RAMUE : Fld := ⟨0x4, 12, 1, 0, .w1c, .none, 1, 4, false⟩
/-- MOD_STAT.NAGE, bits 28:16 (R174). -/
def Mod.MOD_STAT.NAGE : Fld := ⟨0x4, 16, 13, 0, .ro, .none, 1, 4, false⟩
/-- MOD_EVT.EVT, bits 5:0 (R174). -/
def Mod.MOD_EVT.EVT : Fld := ⟨0x8, 0, 6, 0, .w1c, .none, 1, 4, false⟩
/-- MOD_EVTEN.EN, bits 5:0 (R174). -/
def Mod.MOD_EVTEN.EN : Fld := ⟨0xC, 0, 6, 0, .rw, .live, 1, 4, false⟩
/-- CELL_SEL.CELL, bits 12:0 (R174). -/
def Mod.CELL_SEL.CELL : Fld := ⟨0x10, 0, 13, 0, .rw, .live, 1, 4, false⟩
/-- CV_STAT.SELD, bits 12:0 (R174). -/
def Mod.CV_STAT.SELD : Fld := ⟨0x14, 0, 13, 0, .ro, .none, 1, 4, false⟩
/-- CV_STAT.VALID, bits 15 (R174). -/
def Mod.CV_STAT.VALID : Fld := ⟨0x14, 15, 1, 0, .ro, .none, 1, 4, false⟩
/-- CV_STAT.AGE, bits 16 (R174). -/
def Mod.CV_STAT.AGE : Fld := ⟨0x14, 16, 1, 0, .w1c, .none, 1, 4, false⟩
/-- CV_VP.VP, bits 23:0 (R174). -/
def Mod.CV_VP.VP : Fld := ⟨0x18, 0, 24, 0, .ro, .none, 1, 4, false⟩
/-- CV_VS.VS, bits 23:0 (R174). -/
def Mod.CV_VS.VS : Fld := ⟨0x1C, 0, 24, 0, .ro, .none, 1, 4, false⟩
/-- CV_VMEAS.VMEAS, bits 23:0 (R174). -/
def Mod.CV_VMEAS.VMEAS : Fld := ⟨0x20, 0, 24, 0, .ro, .none, 1, 4, false⟩
/-- CV_ERR.E, bits 31:0 (R174). -/
def Mod.CV_ERR.E : Fld := ⟨0x24, 0, 32, 0, .ro, .none, 1, 4, false⟩
/-- CV_KLT.KLT, bits 15:0 (R174). -/
def Mod.CV_KLT.KLT : Fld := ⟨0x28, 0, 16, 16384, .ro, .none, 1, 4, false⟩
/-- CV_KLT.TREND, bits 31:16 (R174). -/
def Mod.CV_KLT.TREND : Fld := ⟨0x28, 16, 16, 0, .ro, .none, 1, 4, false⟩
/-- CV_K0.K0, bits 15:0 (R174). -/
def Mod.CV_K0.K0 : Fld := ⟨0x2C, 0, 16, 16384, .rw, .held, 1, 4, false⟩
/-- CV_CNT.PFTOT, bits 15:0 (R174). -/
def Mod.CV_CNT.PFTOT : Fld := ⟨0x30, 0, 16, 0, .ro, .none, 1, 4, false⟩
/-- CV_CNT.STALE, bits 31:16 (R174). -/
def Mod.CV_CNT.STALE : Fld := ⟨0x30, 16, 16, 0, .ro, .none, 1, 4, false⟩

/-- Every field of the modulator table (R174), with its name. -/
def Mod.fields : List Fld :=
  [Mod.MOD_CTL.EXTRAP, Mod.MOD_CTL.TPER_EXP, Mod.MOD_STAT.RUNMASK, Mod.MOD_STAT.HELD_WR, Mod.MOD_STAT.MAP_REJ, Mod.MOD_STAT.CFG_REJ, Mod.MOD_STAT.RAMCE, Mod.MOD_STAT.RAMUE, Mod.MOD_STAT.NAGE, Mod.MOD_EVT.EVT, Mod.MOD_EVTEN.EN, Mod.CELL_SEL.CELL, Mod.CV_STAT.SELD, Mod.CV_STAT.VALID, Mod.CV_STAT.AGE, Mod.CV_VP.VP, Mod.CV_VS.VS, Mod.CV_VMEAS.VMEAS, Mod.CV_ERR.E, Mod.CV_KLT.KLT, Mod.CV_KLT.TREND, Mod.CV_K0.K0, Mod.CV_CNT.PFTOT, Mod.CV_CNT.STALE]

/-! ## arm registers (R175) -/
/-- ARM_CTL.MODE, bits 1:0 (R175). -/
def Arm.ARM_CTL.MODE : Fld := ⟨0x0, 0, 2, 0, .rw, .shadowed, 1, 4, false⟩
/-- ARM_CTL.SRC, bits 3:2 (R175). -/
def Arm.ARM_CTL.SRC : Fld := ⟨0x0, 2, 2, 0, .rw, .held, 1, 4, false⟩
/-- ARM_CTL.REFX, bits 4 (R175). -/
def Arm.ARM_CTL.REFX : Fld := ⟨0x0, 4, 1, 0, .rw, .held, 1, 4, false⟩
/-- ARM_CTL.REFACT, bits 5 (R175). -/
def Arm.ARM_CTL.REFACT : Fld := ⟨0x0, 5, 1, 0, .rw, .held, 1, 4, false⟩
/-- ARM_CTL.XSTATE, bits 6 (R175). -/
def Arm.ARM_CTL.XSTATE : Fld := ⟨0x0, 6, 1, 0, .rw, .held, 1, 4, false⟩
/-- ARM_CTL.ISLOT, bits 17:8 (R175). -/
def Arm.ARM_CTL.ISLOT : Fld := ⟨0x0, 8, 10, 0, .rw, .held, 1, 4, false⟩
/-- ARM_REF.NREF, bits 31:0 (R175). -/
def Arm.ARM_REF.NREF : Fld := ⟨0x4, 0, 32, 0, .rw, .shadowed, 1, 4, false⟩
/-- ARM_OFS.OFS, bits 31:0 (R175). -/
def Arm.ARM_OFS.OFS : Fld := ⟨0x8, 0, 32, 0, .rw, .shadowed, 1, 4, false⟩
/-- ARM_GNOM.GNOM, bits 31:0 (R175). -/
def Arm.ARM_GNOM.GNOM : Fld := ⟨0xC, 0, 32, 0, .rw, .held, 1, 4, false⟩
/-- ARM_VGAIN.VGAIN, bits 23:0 (R175). -/
def Arm.ARM_VGAIN.VGAIN : Fld := ⟨0x10, 0, 24, 0, .rw, .held, 1, 4, false⟩
/-- ARM_EST.CSH, bits 2:0 (R175). -/
def Arm.ARM_EST.CSH : Fld := ⟨0x14, 0, 3, 0, .rw, .live, 1, 4, false⟩
/-- ARM_EST.LSH, bits 7:4 (R175). -/
def Arm.ARM_EST.LSH : Fld := ⟨0x14, 4, 4, 8, .rw, .live, 1, 4, false⟩
/-- ARM_EST.GSTEP, bits 15:8 (R175). -/
def Arm.ARM_EST.GSTEP : Fld := ⟨0x14, 8, 8, 16, .rw, .live, 1, 4, false⟩
/-- ARM_EST.QMIN, bits 31:16 (R175). -/
def Arm.ARM_EST.QMIN : Fld := ⟨0x14, 16, 16, 256, .rw, .live, 1, 4, false⟩
/-- ARM_PLAUS.PBAND, bits 15:0 (R175). -/
def Arm.ARM_PLAUS.PBAND : Fld := ⟨0x18, 0, 16, 8000, .rw, .live, 1, 4, false⟩
/-- ARM_PLAUS.PF_UP, bits 19:16 (R175). -/
def Arm.ARM_PLAUS.PF_UP : Fld := ⟨0x18, 16, 4, 4, .rw, .live, 1, 4, false⟩
/-- ARM_PLAUS.PF_LIM, bits 27:20 (R175). -/
def Arm.ARM_PLAUS.PF_LIM : Fld := ⟨0x18, 20, 8, 16, .rw, .live, 1, 4, false⟩
/-- ARM_RANK.TBAND, bits 15:0 (R175). -/
def Arm.ARM_RANK.TBAND : Fld := ⟨0x1C, 0, 16, 500, .rw, .live, 1, 4, false⟩
/-- ARM_RANK.SWAPMAX, bits 19:16 (R175). -/
def Arm.ARM_RANK.SWAPMAX : Fld := ⟨0x1C, 16, 4, 2, .rw, .live, 1, 4, false⟩
/-- ARM_RANK.DWELL, bits 23:20 (R175). -/
def Arm.ARM_RANK.DWELL : Fld := ⟨0x1C, 20, 4, 2, .rw, .live, 1, 4, false⟩
/-- ARM_RANK.IDEAD, bits 31:24 (R175). -/
def Arm.ARM_RANK.IDEAD : Fld := ⟨0x1C, 24, 8, 4, .rw, .live, 1, 4, false⟩
/-- ARM_BUDGET.SWB, bits 7:0 (R175). -/
def Arm.ARM_BUDGET.SWB : Fld := ⟨0x20, 0, 8, 0, .rw, .live, 1, 4, false⟩
/-- ARM_BUDGET.SWW, bits 15:8 (R175). -/
def Arm.ARM_BUDGET.SWW : Fld := ⟨0x20, 8, 8, 100, .rw, .live, 1, 4, false⟩
/-- ARM_PWM.FPER, bits 15:0 (R175). -/
def Arm.ARM_PWM.FPER : Fld := ⟨0x24, 0, 16, 403, .rw, .live, 1, 4, false⟩
/-- ARM_PWM.ROT, bits 23:16 (R175). -/
def Arm.ARM_PWM.ROT : Fld := ⟨0x24, 16, 8, 100, .rw, .live, 1, 4, false⟩
/-- ARM_MON.REFMISS_TH, bits 7:0 (R175). -/
def Arm.ARM_MON.REFMISS_TH : Fld := ⟨0x28, 0, 8, 4, .rw, .live, 1, 4, false⟩
/-- ARM_MON.ABWIN, bits 15:8 (R175). -/
def Arm.ARM_MON.ABWIN : Fld := ⟨0x28, 8, 8, 8, .rw, .live, 1, 4, false⟩
/-- ARM_AGE.AGE_TH, bits 9:0 (R175). -/
def Arm.ARM_AGE.AGE_TH : Fld := ⟨0x2C, 0, 10, 54, .rw, .live, 1, 4, false⟩
/-- ARM_STAT.AMODE, bits 1:0 (R175). -/
def Arm.ARM_STAT.AMODE : Fld := ⟨0x40, 0, 2, 0, .ro, .none, 1, 4, false⟩
/-- ARM_STAT.SPRBLK, bits 2 (R175). -/
def Arm.ARM_STAT.SPRBLK : Fld := ⟨0x40, 2, 1, 0, .ro, .none, 1, 4, false⟩
/-- ARM_STAT.SHORT, bits 3 (R175). -/
def Arm.ARM_STAT.SHORT : Fld := ⟨0x40, 3, 1, 0, .w1c, .none, 1, 4, false⟩
/-- ARM_STAT.SAT, bits 4 (R175). -/
def Arm.ARM_STAT.SAT : Fld := ⟨0x40, 4, 1, 0, .w1c, .none, 1, 4, false⟩
/-- ARM_STAT.CHKERR, bits 5 (R175). -/
def Arm.ARM_STAT.CHKERR : Fld := ⟨0x40, 5, 1, 0, .w1c, .none, 1, 4, false⟩
/-- ARM_STAT.REFSTALE, bits 6 (R175). -/
def Arm.ARM_STAT.REFSTALE : Fld := ⟨0x40, 6, 1, 0, .w1c, .none, 1, 4, false⟩
/-- ARM_STAT.HELD_WR, bits 7 (R175). -/
def Arm.ARM_STAT.HELD_WR : Fld := ⟨0x40, 7, 1, 0, .w1c, .none, 1, 4, false⟩
/-- ARM_STAT.CFG_REJ, bits 8 (R175). -/
def Arm.ARM_STAT.CFG_REJ : Fld := ⟨0x40, 8, 1, 0, .w1c, .none, 1, 4, false⟩
/-- ARM_STAT.NELIG, bits 26:16 (R175). -/
def Arm.ARM_STAT.NELIG : Fld := ⟨0x40, 16, 11, 0, .ro, .none, 1, 4, false⟩
/-- ARM_EVT.EVT, bits 5:0 (R175). -/
def Arm.ARM_EVT.EVT : Fld := ⟨0x44, 0, 6, 0, .w1c, .none, 1, 4, false⟩
/-- ARM_EVTEN.EN, bits 5:0 (R175). -/
def Arm.ARM_EVTEN.EN : Fld := ⟨0x48, 0, 6, 0, .rw, .live, 1, 4, false⟩
/-- ARM_NACT.NACT, bits 31:0 (R175). -/
def Arm.ARM_NACT.NACT : Fld := ⟨0x4C, 0, 32, 0, .ro, .none, 1, 4, false⟩
/-- ARM_INS.NINS, bits 10:0 (R175). -/
def Arm.ARM_INS.NINS : Fld := ⟨0x50, 0, 11, 0, .ro, .none, 1, 4, false⟩
/-- ARM_INS.NEG, bits 11 (R175). -/
def Arm.ARM_INS.NEG : Fld := ⟨0x50, 11, 1, 0, .ro, .none, 1, 4, false⟩
/-- ARM_INS.PWMV, bits 12 (R175). -/
def Arm.ARM_INS.PWMV : Fld := ⟨0x50, 12, 1, 0, .ro, .none, 1, 4, false⟩
/-- ARM_INS.DUTY, bits 25:16 (R175). -/
def Arm.ARM_INS.DUTY : Fld := ⟨0x50, 16, 10, 0, .ro, .none, 1, 4, false⟩
/-- ARM_HOLD.CELL, bits 12:0 (R175). -/
def Arm.ARM_HOLD.CELL : Fld := ⟨0x54, 0, 13, 0, .ro, .none, 1, 4, false⟩
/-- ARM_HOLD.HV, bits 13 (R175). -/
def Arm.ARM_HOLD.HV : Fld := ⟨0x54, 13, 1, 0, .ro, .none, 1, 4, false⟩
/-- ARM_VSUM.VSUM, bits 31:0 (R175). -/
def Arm.ARM_VSUM.VSUM : Fld := ⟨0x58, 0, 32, 0, .ro, .none, 1, 4, false⟩
/-- ARM_CNT0.REFMISS, bits 15:0 (R175). -/
def Arm.ARM_CNT0.REFMISS : Fld := ⟨0x5C, 0, 16, 0, .ro, .none, 1, 4, false⟩
/-- ARM_CNT0.DWELLV, bits 31:16 (R175). -/
def Arm.ARM_CNT0.DWELLV : Fld := ⟨0x5C, 16, 16, 0, .ro, .none, 1, 4, false⟩
/-- ARM_CNT1.CHKCNT, bits 15:0 (R175). -/
def Arm.ARM_CNT1.CHKCNT : Fld := ⟨0x60, 0, 16, 0, .ro, .none, 1, 4, false⟩
/-- ARM_CNT1.PFXCNT, bits 31:16 (R175). -/
def Arm.ARM_CNT1.PFXCNT : Fld := ⟨0x60, 16, 16, 0, .ro, .none, 1, 4, false⟩
/-- ARM_CNTCLR.CLR, bits 0 (R175). -/
def Arm.ARM_CNTCLR.CLR : Fld := ⟨0x64, 0, 1, 0, .wo, .live, 1, 4, false⟩

/-- Every field of the arm table (R175), with its name. -/
def Arm.fields : List Fld :=
  [Arm.ARM_CTL.MODE, Arm.ARM_CTL.SRC, Arm.ARM_CTL.REFX, Arm.ARM_CTL.REFACT, Arm.ARM_CTL.XSTATE, Arm.ARM_CTL.ISLOT, Arm.ARM_REF.NREF, Arm.ARM_OFS.OFS, Arm.ARM_GNOM.GNOM, Arm.ARM_VGAIN.VGAIN, Arm.ARM_EST.CSH, Arm.ARM_EST.LSH, Arm.ARM_EST.GSTEP, Arm.ARM_EST.QMIN, Arm.ARM_PLAUS.PBAND, Arm.ARM_PLAUS.PF_UP, Arm.ARM_PLAUS.PF_LIM, Arm.ARM_RANK.TBAND, Arm.ARM_RANK.SWAPMAX, Arm.ARM_RANK.DWELL, Arm.ARM_RANK.IDEAD, Arm.ARM_BUDGET.SWB, Arm.ARM_BUDGET.SWW, Arm.ARM_PWM.FPER] ++
  [Arm.ARM_PWM.ROT, Arm.ARM_MON.REFMISS_TH, Arm.ARM_MON.ABWIN, Arm.ARM_AGE.AGE_TH, Arm.ARM_STAT.AMODE, Arm.ARM_STAT.SPRBLK, Arm.ARM_STAT.SHORT, Arm.ARM_STAT.SAT, Arm.ARM_STAT.CHKERR, Arm.ARM_STAT.REFSTALE, Arm.ARM_STAT.HELD_WR, Arm.ARM_STAT.CFG_REJ, Arm.ARM_STAT.NELIG, Arm.ARM_EVT.EVT, Arm.ARM_EVTEN.EN, Arm.ARM_NACT.NACT, Arm.ARM_INS.NINS, Arm.ARM_INS.NEG, Arm.ARM_INS.PWMV, Arm.ARM_INS.DUTY, Arm.ARM_HOLD.CELL, Arm.ARM_HOLD.HV, Arm.ARM_VSUM.VSUM, Arm.ARM_CNT0.REFMISS] ++
  [Arm.ARM_CNT0.DWELLV, Arm.ARM_CNT1.CHKCNT, Arm.ARM_CNT1.PFXCNT, Arm.ARM_CNTCLR.CLR]

/-! ## cell-table entry registers (R176) -/
/-- CMAP.MAPV, bits 0 (R176). -/
def Ct.CMAP.MAPV : Fld := ⟨0x0, 0, 1, 0, .rw, .held, 1, 4, false⟩
/-- CMAP.ARM, bits 3:1 (R176). -/
def Ct.CMAP.ARM : Fld := ⟨0x0, 1, 3, 0, .rw, .held, 1, 4, false⟩
/-- CMAP.FB, bits 4 (R176). -/
def Ct.CMAP.FB : Fld := ⟨0x0, 4, 1, 0, .rw, .held, 1, 4, false⟩
/-- CMAP.EXCL, bits 5 (R176). -/
def Ct.CMAP.EXCL : Fld := ⟨0x0, 5, 1, 0, .rw, .shadowed, 1, 4, false⟩
/-- CMAP.BYPR, bits 6 (R176). -/
def Ct.CMAP.BYPR : Fld := ⟨0x0, 6, 1, 0, .w1c, .none, 1, 4, false⟩
/-- CMAP.PFX, bits 7 (R176). -/
def Ct.CMAP.PFX : Fld := ⟨0x0, 7, 1, 0, .w1c, .none, 1, 4, false⟩
/-- CMAP.TRIPX, bits 8 (R176). -/
def Ct.CMAP.TRIPX : Fld := ⟨0x0, 8, 1, 0, .ro, .none, 1, 4, false⟩
/-- CMAP.SEED, bits 9 (R176). -/
def Ct.CMAP.SEED : Fld := ⟨0x0, 9, 1, 0, .ro, .none, 1, 4, false⟩
/-- CMAP.VIEW, bits 11:10 (R176). -/
def Ct.CMAP.VIEW : Fld := ⟨0x0, 10, 2, 3, .ro, .none, 1, 4, false⟩
/-- CMAP.CST, bits 13:12 (R176). -/
def Ct.CMAP.CST : Fld := ⟨0x0, 12, 2, 3, .ro, .none, 1, 4, false⟩
/-- CMAP.HOLD, bits 14 (R176). -/
def Ct.CMAP.HOLD : Fld := ⟨0x0, 14, 1, 0, .ro, .none, 1, 4, false⟩
/-- CMAP.ELIG, bits 15 (R176). -/
def Ct.CMAP.ELIG : Fld := ⟨0x0, 15, 1, 0, .ro, .none, 1, 4, false⟩
/-- CMAP.VPH, bits 31:16 (R176). -/
def Ct.CMAP.VPH : Fld := ⟨0x0, 16, 16, 0, .ro, .none, 1, 4, false⟩
/-- CEST.K, bits 15:0 (R176). -/
def Ct.CEST.K : Fld := ⟨0x4, 0, 16, 16384, .rw, .held, 1, 4, false⟩
/-- CEST.PFCNT, bits 23:16 (R176). -/
def Ct.CEST.PFCNT : Fld := ⟨0x4, 16, 8, 0, .ro, .none, 1, 4, false⟩
/-- CEST.DWC, bits 27:24 (R176). -/
def Ct.CEST.DWC : Fld := ⟨0x4, 24, 4, 15, .ro, .none, 1, 4, false⟩
/-- CEST.SWC, bits 31:28 (R176). -/
def Ct.CEST.SWC : Fld := ⟨0x4, 28, 4, 0, .ro, .none, 1, 4, false⟩

/-- Every field of the cell-table entry table (R176), with its name. -/
def Ct.fields : List Fld :=
  [Ct.CMAP.MAPV, Ct.CMAP.ARM, Ct.CMAP.FB, Ct.CMAP.EXCL, Ct.CMAP.BYPR, Ct.CMAP.PFX, Ct.CMAP.TRIPX, Ct.CMAP.SEED, Ct.CMAP.VIEW, Ct.CMAP.CST, Ct.CMAP.HOLD, Ct.CMAP.ELIG, Ct.CMAP.VPH, Ct.CEST.K, Ct.CEST.PFCNT, Ct.CEST.DWC, Ct.CEST.SWC]

end Sys2Proof.Machine
end

