-- ==== Sys2Proof/Machine/RegMap2.lean ====
section
/-!
DEFINITION. Register fields of the spec's register tables: law engine, law channel, law input map, law section, law arrays, core control, freeze, scheduler, mailbox and doorbell, A-die, sequencer, sequencer list, A-die results, DMA, DMA channel, acquisition. One constant per field, named
block, register, field; offsets are those of the table (relative to the block or entry the table belongs to).
-/
namespace Sys2Proof.Machine

/-! ## law engine registers (R199) -/
/-- LAW_CTL.EXPEN, bits 0 (R199). -/
def Law.LAW_CTL.EXPEN : Fld := ⟨0x0, 0, 1, 0, .rw, .live, 1, 4, false⟩
/-- LAW_CTL.EXPSEL, bits 1 (R199). -/
def Law.LAW_CTL.EXPSEL : Fld := ⟨0x0, 1, 1, 0, .rw, .live, 1, 4, false⟩
/-- LAW_CTL.SVTO, bits 15:8 (R199). -/
def Law.LAW_CTL.SVTO : Fld := ⟨0x0, 8, 8, 5, .rw, .held, 1, 4, false⟩
/-- LAW_STAT.RUNMASK, bits 5:0 (R199). -/
def Law.LAW_STAT.RUNMASK : Fld := ⟨0x4, 0, 6, 0, .ro, .none, 1, 4, false⟩
/-- LAW_STAT.FROZEN, bits 6 (R199). -/
def Law.LAW_STAT.FROZEN : Fld := ⟨0x4, 6, 1, 0, .ro, .none, 1, 4, false⟩
/-- LAW_STAT.LSMIS, bits 8 (R199). -/
def Law.LAW_STAT.LSMIS : Fld := ⟨0x4, 8, 1, 0, .w1c, .none, 1, 4, false⟩
/-- LAW_STAT.RAMCE, bits 9 (R199). -/
def Law.LAW_STAT.RAMCE : Fld := ⟨0x4, 9, 1, 0, .w1c, .none, 1, 4, false⟩
/-- LAW_STAT.RAMUE, bits 10 (R199). -/
def Law.LAW_STAT.RAMUE : Fld := ⟨0x4, 10, 1, 0, .w1c, .none, 1, 4, false⟩
/-- LAW_STAT.EXPVIO, bits 11 (R199). -/
def Law.LAW_STAT.EXPVIO : Fld := ⟨0x4, 11, 1, 0, .w1c, .none, 1, 4, false⟩
/-- LAW_STAT.EXPSKIP, bits 12 (R199). -/
def Law.LAW_STAT.EXPSKIP : Fld := ⟨0x4, 12, 1, 0, .w1c, .none, 1, 4, false⟩
/-- LAW_STAT.HELD_WR, bits 13 (R199). -/
def Law.LAW_STAT.HELD_WR : Fld := ⟨0x4, 13, 1, 0, .w1c, .none, 1, 4, false⟩
/-- LAW_STAT.CFG_REJ, bits 14 (R199). -/
def Law.LAW_STAT.CFG_REJ : Fld := ⟨0x4, 14, 1, 0, .w1c, .none, 1, 4, false⟩
/-- LAW_EVT.EVT, bits 2:0 (R199). -/
def Law.LAW_EVT.EVT : Fld := ⟨0x8, 0, 3, 0, .w1c, .none, 1, 4, false⟩
/-- LAW_EVTEN.EN, bits 2:0 (R199). -/
def Law.LAW_EVTEN.EN : Fld := ⟨0xC, 0, 3, 0, .rw, .live, 1, 4, false⟩
/-- EXP_ADDR.ADDR, bits 31:2 (R199). -/
def Law.EXP_ADDR.ADDR : Fld := ⟨0x10, 2, 30, 0, .rw, .live, 1, 4, false⟩
/-- EXP_CTL.FIRST, bits 9:0 (R199). -/
def Law.EXP_CTL.FIRST : Fld := ⟨0x14, 0, 10, 0, .rw, .live, 1, 4, false⟩
/-- EXP_CTL.COUNT, bits 22:16 (R199). -/
def Law.EXP_CTL.COUNT : Fld := ⟨0x14, 16, 7, 0, .rw, .live, 1, 4, false⟩
/-- EXP_CNT.DONE, bits 15:0 (R199). -/
def Law.EXP_CNT.DONE : Fld := ⟨0x18, 0, 16, 0, .ro, .none, 1, 4, false⟩
/-- EXP_CNT.SKIP, bits 31:16 (R199). -/
def Law.EXP_CNT.SKIP : Fld := ⟨0x18, 16, 16, 0, .ro, .none, 1, 4, false⟩
/-- IN_STALE.STALE, bits 31:0 (R199). -/
def Law.IN_STALE.STALE : Fld := ⟨0x20, 0, 32, 0, .w1c, .none, 4, 4, false⟩
/-- IN_OVR.OVR, bits 31:0 (R199). -/
def Law.IN_OVR.OVR : Fld := ⟨0x30, 0, 32, 0, .w1c, .none, 4, 4, false⟩

/-- Every field of the law engine table (R199), with its name. -/
def Law.fields : List Fld :=
  [Law.LAW_CTL.EXPEN, Law.LAW_CTL.EXPSEL, Law.LAW_CTL.SVTO, Law.LAW_STAT.RUNMASK, Law.LAW_STAT.FROZEN, Law.LAW_STAT.LSMIS, Law.LAW_STAT.RAMCE, Law.LAW_STAT.RAMUE, Law.LAW_STAT.EXPVIO, Law.LAW_STAT.EXPSKIP, Law.LAW_STAT.HELD_WR, Law.LAW_STAT.CFG_REJ, Law.LAW_EVT.EVT, Law.LAW_EVTEN.EN, Law.EXP_ADDR.ADDR, Law.EXP_CTL.FIRST, Law.EXP_CTL.COUNT, Law.EXP_CNT.DONE, Law.EXP_CNT.SKIP, Law.IN_STALE.STALE, Law.IN_OVR.OVR]

/-! ## law channel registers (R200) -/
/-- CH_CTL.RUN, bits 0 (R200). -/
def Lch.CH_CTL.RUN : Fld := ⟨0x0, 0, 1, 0, .rw, .shadowed, 1, 4, false⟩
/-- CH_CTL.NSEC, bits 15:8 (R200). -/
def Lch.CH_CTL.NSEC : Fld := ⟨0x0, 8, 8, 0, .rw, .held, 1, 4, false⟩
/-- CH_REF.REFSLOT, bits 9:0 (R200). -/
def Lch.CH_REF.REFSLOT : Fld := ⟨0x4, 0, 10, 256, .rw, .held, 1, 4, false⟩
/-- CH_REF.RSH, bits 19:16 (R200). -/
def Lch.CH_REF.RSH : Fld := ⟨0x4, 16, 4, 8, .rw, .held, 1, 4, false⟩
/-- CH_CMD.CLRST, bits 0 (R200). -/
def Lch.CH_CMD.CLRST : Fld := ⟨0x8, 0, 1, 0, .wo, .held, 1, 4, false⟩
/-- CH_CMD.CLRPLAUS, bits 1 (R200). -/
def Lch.CH_CMD.CLRPLAUS : Fld := ⟨0x8, 1, 1, 0, .wo, .live, 1, 4, false⟩
/-- CH_STAT.RUNNING, bits 0 (R200). -/
def Lch.CH_STAT.RUNNING : Fld := ⟨0xC, 0, 1, 0, .ro, .none, 1, 4, false⟩
/-- CH_STAT.NOTRENEW, bits 1 (R200). -/
def Lch.CH_STAT.NOTRENEW : Fld := ⟨0xC, 1, 1, 1, .ro, .none, 1, 4, false⟩
/-- CH_STAT.HELD_WR, bits 2 (R200). -/
def Lch.CH_STAT.HELD_WR : Fld := ⟨0xC, 2, 1, 0, .w1c, .none, 1, 4, false⟩
/-- CH_STAT.CFG_REJ, bits 3 (R200). -/
def Lch.CH_STAT.CFG_REJ : Fld := ⟨0xC, 3, 1, 0, .w1c, .none, 1, 4, false⟩
/-- CH_STAT.REJCAUSE, bits 6:4 (R200). -/
def Lch.CH_STAT.REJCAUSE : Fld := ⟨0xC, 4, 3, 0, .ro, .none, 1, 4, false⟩
/-- CH_STAT.PLAUS, bits 7 (R200). -/
def Lch.CH_STAT.PLAUS : Fld := ⟨0xC, 7, 1, 0, .w1c, .none, 1, 4, false⟩
/-- CH_STAT.SAT, bits 8 (R200). -/
def Lch.CH_STAT.SAT : Fld := ⟨0xC, 8, 1, 0, .w1c, .none, 1, 4, false⟩
/-- CH_STAT.PSEC, bits 23:16 (R200). -/
def Lch.CH_STAT.PSEC : Fld := ⟨0xC, 16, 8, 0, .ro, .none, 1, 4, false⟩
/-- CH_COST.FCOST, bits 9:0 (R200). -/
def Lch.CH_COST.FCOST : Fld := ⟨0x10, 0, 10, 0, .ro, .none, 1, 4, false⟩
/-- CH_COST.SCOST, bits 25:16 (R200). -/
def Lch.CH_COST.SCOST : Fld := ⟨0x10, 16, 10, 0, .ro, .none, 1, 4, false⟩
/-- CH_EVT.EVT, bits 3:0 (R200). -/
def Lch.CH_EVT.EVT : Fld := ⟨0x14, 0, 4, 0, .w1c, .none, 1, 4, false⟩
/-- CH_EVTEN.EN, bits 3:0 (R200). -/
def Lch.CH_EVTEN.EN : Fld := ⟨0x18, 0, 4, 0, .rw, .live, 1, 4, false⟩
/-- CH_OUT.REF, bits 31:0 (R200). -/
def Lch.CH_OUT.REF : Fld := ⟨0x1C, 0, 32, 0, .ro, .none, 1, 4, false⟩
/-- CH_CNT.SATS, bits 15:0 (R200). -/
def Lch.CH_CNT.SATS : Fld := ⟨0x20, 0, 16, 0, .ro, .none, 1, 4, false⟩
/-- CH_CNT.PLAUSCNT, bits 31:16 (R200). -/
def Lch.CH_CNT.PLAUSCNT : Fld := ⟨0x20, 16, 16, 0, .ro, .none, 1, 4, false⟩

/-- Every field of the law channel table (R200), with its name. -/
def Lch.fields : List Fld :=
  [Lch.CH_CTL.RUN, Lch.CH_CTL.NSEC, Lch.CH_REF.REFSLOT, Lch.CH_REF.RSH, Lch.CH_CMD.CLRST, Lch.CH_CMD.CLRPLAUS, Lch.CH_STAT.RUNNING, Lch.CH_STAT.NOTRENEW, Lch.CH_STAT.HELD_WR, Lch.CH_STAT.CFG_REJ, Lch.CH_STAT.REJCAUSE, Lch.CH_STAT.PLAUS, Lch.CH_STAT.SAT, Lch.CH_STAT.PSEC, Lch.CH_COST.FCOST, Lch.CH_COST.SCOST, Lch.CH_EVT.EVT, Lch.CH_EVTEN.EN, Lch.CH_OUT.REF, Lch.CH_CNT.SATS, Lch.CH_CNT.PLAUSCNT]

/-! ## law input map registers (R201) -/
/-- MAP.SRC, bits 1:0 (R201). -/
def Lmap.MAP.SRC : Fld := ⟨0x400, 0, 2, 0, .rw, .held, 128, 4, false⟩
/-- MAP.UNIT, bits 2 (R201). -/
def Lmap.MAP.UNIT : Fld := ⟨0x400, 2, 1, 0, .rw, .held, 128, 4, false⟩
/-- MAP.IDX, bits 10:4 (R201). -/
def Lmap.MAP.IDX : Fld := ⟨0x400, 4, 7, 0, .rw, .held, 128, 4, false⟩
/-- MAP.SHIFT, bits 20:16 (R201). -/
def Lmap.MAP.SHIFT : Fld := ⟨0x400, 16, 5, 0, .rw, .held, 128, 4, false⟩

/-- Every field of the law input map table (R201), with its name. -/
def Lmap.fields : List Fld :=
  [Lmap.MAP.SRC, Lmap.MAP.UNIT, Lmap.MAP.IDX, Lmap.MAP.SHIFT]

/-! ## law section registers (R202) -/
/-- SEC_W0.A, bits 9:0 (R202). -/
def Lsec.SEC_W0.A : Fld := ⟨0x0, 0, 10, 0, .rw, .held, 1, 4, false⟩
/-- SEC_W0.OUT, bits 19:10 (R202). -/
def Lsec.SEC_W0.OUT : Fld := ⟨0x0, 10, 10, 0, .rw, .held, 1, 4, false⟩
/-- SEC_W0.OPT, bits 25:20 (R202). -/
def Lsec.SEC_W0.OPT : Fld := ⟨0x0, 20, 6, 0, .rw, .held, 1, 4, false⟩
/-- SEC_W0.PASS, bits 27 (R202). -/
def Lsec.SEC_W0.PASS : Fld := ⟨0x0, 27, 1, 0, .rw, .held, 1, 4, false⟩
/-- SEC_W0.TYPE, bits 31:28 (R202). -/
def Lsec.SEC_W0.TYPE : Fld := ⟨0x0, 28, 4, 0, .rw, .held, 1, 4, false⟩
/-- SEC_W1.C, bits 9:0 (R202). -/
def Lsec.SEC_W1.C : Fld := ⟨0x4, 0, 10, 0, .rw, .held, 1, 4, false⟩
/-- SEC_W1.B, bits 19:10 (R202). -/
def Lsec.SEC_W1.B : Fld := ⟨0x4, 10, 10, 0, .rw, .held, 1, 4, false⟩
/-- SEC_W1.CB, bits 31:20 (R202). -/
def Lsec.SEC_W1.CB : Fld := ⟨0x4, 20, 12, 0, .rw, .held, 1, 4, false⟩

/-- Every field of the law section table (R202), with its name. -/
def Lsec.fields : List Fld :=
  [Lsec.SEC_W0.A, Lsec.SEC_W0.OUT, Lsec.SEC_W0.OPT, Lsec.SEC_W0.PASS, Lsec.SEC_W0.TYPE, Lsec.SEC_W1.C, Lsec.SEC_W1.B, Lsec.SEC_W1.CB]

/-! ## law arrays registers (R203) -/
/-- HOLD.HOLD, bits 31:0 (R203). -/
def Larr.HOLD.HOLD : Fld := ⟨0x800, 0, 32, 0, .rw, .live, 48, 4, false⟩
/-- SIG.VAL, bits 31:0 (R203). -/
def Larr.SIG.VAL : Fld := ⟨0x1000, 0, 32, 0, .rw, .live, 1024, 4, false⟩
/-- COEF.C, bits 31:0 (R203). -/
def Larr.COEF.C : Fld := ⟨0x5000, 0, 32, 0, .rw, .live, 4096, 4, false⟩
/-- SHIFT.S0, bits 4:0 (R203). -/
def Larr.SHIFT.S0 : Fld := ⟨0x9000, 0, 5, 0, .rw, .live, 1024, 4, false⟩
/-- SHIFT.S1, bits 12:8 (R203). -/
def Larr.SHIFT.S1 : Fld := ⟨0x9000, 8, 5, 0, .rw, .live, 1024, 4, false⟩
/-- SHIFT.S2, bits 20:16 (R203). -/
def Larr.SHIFT.S2 : Fld := ⟨0x9000, 16, 5, 0, .rw, .live, 1024, 4, false⟩
/-- SHIFT.S3, bits 28:24 (R203). -/
def Larr.SHIFT.S3 : Fld := ⟨0x9000, 24, 5, 0, .rw, .live, 1024, 4, false⟩
/-- STATE.X, bits 31:0 (R203). -/
def Larr.STATE.X : Fld := ⟨0xA000, 0, 32, 0, .rw, .held, 4096, 4, false⟩

/-- Every field of the law arrays table (R203), with its name. -/
def Larr.fields : List Fld :=
  [Larr.HOLD.HOLD, Larr.SIG.VAL, Larr.COEF.C, Larr.SHIFT.S0, Larr.SHIFT.S1, Larr.SHIFT.S2, Larr.SHIFT.S3, Larr.STATE.X]

/-! ## core control registers (R232) -/
/-- CORE_CTL.RST, bits 0 (R232). -/
def Cc.CORE_CTL.RST : Fld := ⟨0x0, 0, 1, 1, .rw, .live, 1, 4, false⟩
/-- CORE_CTL.PAIRED, bits 1 (R232). -/
def Cc.CORE_CTL.PAIRED : Fld := ⟨0x0, 1, 1, 0, .rw, .held, 1, 4, true⟩
/-- CORE_BOOT.BOOTPC, bits 31:2 (R232). -/
def Cc.CORE_BOOT.BOOTPC : Fld := ⟨0x4, 2, 30, 0, .rw, .held, 1, 4, false⟩
/-- CORE_STAT.STATE, bits 2:0 (R232). -/
def Cc.CORE_STAT.STATE : Fld := ⟨0x8, 0, 3, 0, .ro, .none, 1, 4, false⟩
/-- CORE_STAT.PAIRACT, bits 3 (R232). -/
def Cc.CORE_STAT.PAIRACT : Fld := ⟨0x8, 3, 1, 0, .ro, .none, 1, 4, false⟩
/-- CORE_STAT.HELD_WR, bits 4 (R232). -/
def Cc.CORE_STAT.HELD_WR : Fld := ⟨0x8, 4, 1, 0, .w1c, .none, 1, 4, false⟩
/-- CORE_STAT.TCMCE, bits 15:8 (R232). -/
def Cc.CORE_STAT.TCMCE : Fld := ⟨0x8, 8, 8, 0, .ro, .none, 1, 4, false⟩
/-- CORE_STAT.EPOCH, bits 31:24 (R232). -/
def Cc.CORE_STAT.EPOCH : Fld := ⟨0x8, 24, 8, 0, .ro, .none, 1, 4, false⟩

/-- Every field of the core control table (R232), with its name. -/
def Cc.fields : List Fld :=
  [Cc.CORE_CTL.RST, Cc.CORE_CTL.PAIRED, Cc.CORE_BOOT.BOOTPC, Cc.CORE_STAT.STATE, Cc.CORE_STAT.PAIRACT, Cc.CORE_STAT.HELD_WR, Cc.CORE_STAT.TCMCE, Cc.CORE_STAT.EPOCH]

/-! ## freeze registers (R233) -/
/-- FZ_MAP.FROZEN, bits 31:0 (R233). -/
def Fz.FZ_MAP.FROZEN : Fld := ⟨0x0, 0, 32, 0, .ro, .none, 4, 4, false⟩
/-- FREEZE_CTL.MID, bits 7:0 (R233). -/
def Fz.FREEZE_CTL.MID : Fld := ⟨0x10, 0, 8, 0, .wo, .live, 1, 4, false⟩
/-- FREEZE_CTL.ACT, bits 9:8 (R233). -/
def Fz.FREEZE_CTL.ACT : Fld := ⟨0x10, 8, 2, 0, .wo, .live, 1, 4, false⟩
/-- FZ_RSTAT.NOTFROZEN, bits 0 (R233). -/
def Fz.FZ_RSTAT.NOTFROZEN : Fld := ⟨0x14, 0, 1, 0, .w1c, .none, 1, 4, false⟩
/-- FZ_RSTAT.BADACT, bits 1 (R233). -/
def Fz.FZ_RSTAT.BADACT : Fld := ⟨0x14, 1, 1, 0, .w1c, .none, 1, 4, false⟩
/-- FZ_RSTAT.NOPERM, bits 2 (R233). -/
def Fz.FZ_RSTAT.NOPERM : Fld := ⟨0x14, 2, 1, 0, .w1c, .none, 1, 4, false⟩
/-- FZ_CNT.DEPTH, bits 3:0 (R233). -/
def Fz.FZ_CNT.DEPTH : Fld := ⟨0x18, 0, 4, 0, .ro, .none, 1, 4, false⟩
/-- FZ_CNT.LOST, bits 31:16 (R233). -/
def Fz.FZ_CNT.LOST : Fld := ⟨0x18, 16, 16, 0, .ro, .none, 1, 4, false⟩
/-- FZ_ADDR.ADDR, bits 31:0 (R233). -/
def Fz.FZ_ADDR.ADDR : Fld := ⟨0x20, 0, 32, 0, .ro, .none, 1, 4, false⟩
/-- FZ_INFO.MID, bits 7:0 (R233). -/
def Fz.FZ_INFO.MID : Fld := ⟨0x24, 0, 8, 0, .ro, .none, 1, 4, false⟩
/-- FZ_INFO.CAUSE, bits 11:8 (R233). -/
def Fz.FZ_INFO.CAUSE : Fld := ⟨0x24, 8, 4, 0, .ro, .none, 1, 4, false⟩
/-- FZ_INFO.WR, bits 12 (R233). -/
def Fz.FZ_INFO.WR : Fld := ⟨0x24, 12, 1, 0, .ro, .none, 1, 4, false⟩
/-- FZ_INFO.FETCH, bits 13 (R233). -/
def Fz.FZ_INFO.FETCH : Fld := ⟨0x24, 13, 1, 0, .ro, .none, 1, 4, false⟩
/-- FZ_INFO.TASKP, bits 14 (R233). -/
def Fz.FZ_INFO.TASKP : Fld := ⟨0x24, 14, 1, 0, .ro, .none, 1, 4, false⟩
/-- FZ_INFO.EXL, bits 15 (R233). -/
def Fz.FZ_INFO.EXL : Fld := ⟨0x24, 15, 1, 0, .ro, .none, 1, 4, false⟩
/-- FZ_INFO.VALID, bits 31 (R233). -/
def Fz.FZ_INFO.VALID : Fld := ⟨0x24, 31, 1, 0, .ro, .none, 1, 4, false⟩
/-- FZ_PC.PC, bits 31:0 (R233). -/
def Fz.FZ_PC.PC : Fld := ⟨0x28, 0, 32, 0, .ro, .none, 1, 4, false⟩
/-- FZ_POP.POP, bits 0 (R233). -/
def Fz.FZ_POP.POP : Fld := ⟨0x2C, 0, 1, 0, .wo, .live, 1, 4, false⟩

/-- Every field of the freeze table (R233), with its name. -/
def Fz.fields : List Fld :=
  [Fz.FZ_MAP.FROZEN, Fz.FREEZE_CTL.MID, Fz.FREEZE_CTL.ACT, Fz.FZ_RSTAT.NOTFROZEN, Fz.FZ_RSTAT.BADACT, Fz.FZ_RSTAT.NOPERM, Fz.FZ_CNT.DEPTH, Fz.FZ_CNT.LOST, Fz.FZ_ADDR.ADDR, Fz.FZ_INFO.MID, Fz.FZ_INFO.CAUSE, Fz.FZ_INFO.WR, Fz.FZ_INFO.FETCH, Fz.FZ_INFO.TASKP, Fz.FZ_INFO.EXL, Fz.FZ_INFO.VALID, Fz.FZ_PC.PC, Fz.FZ_POP.POP]

/-! ## scheduler registers (R274) -/
/-- SCH_STAT.NREADY, bits 8:0 (R274). -/
def Sch.SCH_STAT.NREADY : Fld := ⟨0x0, 0, 9, 0, .ro, .none, 1, 4, false⟩
/-- SCH_STAT.HELD_WR, bits 9 (R274). -/
def Sch.SCH_STAT.HELD_WR : Fld := ⟨0x0, 9, 1, 0, .w1c, .none, 1, 4, false⟩
/-- SCH_STAT.BADDONE, bits 10 (R274). -/
def Sch.SCH_STAT.BADDONE : Fld := ⟨0x0, 10, 1, 0, .w1c, .none, 1, 4, false⟩
/-- SCH_STAT.RAMCE, bits 11 (R274). -/
def Sch.SCH_STAT.RAMCE : Fld := ⟨0x0, 11, 1, 0, .w1c, .none, 1, 4, false⟩
/-- SCH_STAT.RAMUE, bits 12 (R274). -/
def Sch.SCH_STAT.RAMUE : Fld := ⟨0x0, 12, 1, 0, .w1c, .none, 1, 4, false⟩
/-- SCH_RAISE.EVT, bits 5:0 (R274). -/
def Sch.SCH_RAISE.EVT : Fld := ⟨0x4, 0, 6, 0, .wo, .live, 1, 4, false⟩
/-- SCH_WAIT.WAIT, bits 15:0 (R274). -/
def Sch.SCH_WAIT.WAIT : Fld := ⟨0x8, 0, 16, 0, .ro, .none, 1, 4, false⟩
/-- SCH_CNT.OVR, bits 15:0 (R274). -/
def Sch.SCH_CNT.OVR : Fld := ⟨0xC, 0, 16, 0, .ro, .none, 1, 4, false⟩
/-- SCH_CNT.BADDONE, bits 31:16 (R274). -/
def Sch.SCH_CNT.BADDONE : Fld := ⟨0xC, 16, 16, 0, .ro, .none, 1, 4, false⟩
/-- TASK_CFG.EN, bits 0 (R274). -/
def Sch.TASK_CFG.EN : Fld := ⟨0x1000, 0, 1, 0, .rw, .live, 256, 8, false⟩
/-- TASK_CFG.EVV, bits 1 (R274). -/
def Sch.TASK_CFG.EVV : Fld := ⟨0x1000, 1, 1, 0, .rw, .held, 256, 8, false⟩
/-- TASK_CFG.PRI, bits 6:2 (R274). -/
def Sch.TASK_CFG.PRI : Fld := ⟨0x1000, 2, 5, 0, .rw, .held, 256, 8, false⟩
/-- TASK_CFG.EVT, bits 15:8 (R274). -/
def Sch.TASK_CFG.EVT : Fld := ⟨0x1000, 8, 8, 0, .rw, .held, 256, 8, false⟩
/-- TASK_CFG.AFF, bits 31:16 (R274). -/
def Sch.TASK_CFG.AFF : Fld := ⟨0x1000, 16, 16, 0, .rw, .held, 256, 8, false⟩
/-- TASK_ARG.ARG, bits 23:0 (R274). -/
def Sch.TASK_ARG.ARG : Fld := ⟨0x1004, 0, 24, 0, .rw, .held, 256, 8, false⟩
/-- TASK_STAT.STATE, bits 1:0 (R274). -/
def Sch.TASK_STAT.STATE : Fld := ⟨0x2000, 0, 2, 0, .ro, .none, 256, 4, false⟩
/-- TASK_STAT.HOLDER, bits 15:8 (R274). -/
def Sch.TASK_STAT.HOLDER : Fld := ⟨0x2000, 8, 8, 0, .ro, .none, 256, 4, false⟩
/-- TASK_STAT.OVR, bits 23:16 (R274). -/
def Sch.TASK_STAT.OVR : Fld := ⟨0x2000, 16, 8, 0, .ro, .none, 256, 4, false⟩
/-- TASK_STAT.DROPPED, bits 24 (R274). -/
def Sch.TASK_STAT.DROPPED : Fld := ⟨0x2000, 24, 1, 0, .w1c, .none, 256, 4, false⟩
/-- TASK_STAT.ABANDONED, bits 25 (R274). -/
def Sch.TASK_STAT.ABANDONED : Fld := ⟨0x2000, 25, 1, 0, .w1c, .none, 256, 4, false⟩

/-- Every field of the scheduler table (R274), with its name. -/
def Sch.fields : List Fld :=
  [Sch.SCH_STAT.NREADY, Sch.SCH_STAT.HELD_WR, Sch.SCH_STAT.BADDONE, Sch.SCH_STAT.RAMCE, Sch.SCH_STAT.RAMUE, Sch.SCH_RAISE.EVT, Sch.SCH_WAIT.WAIT, Sch.SCH_CNT.OVR, Sch.SCH_CNT.BADDONE, Sch.TASK_CFG.EN, Sch.TASK_CFG.EVV, Sch.TASK_CFG.PRI, Sch.TASK_CFG.EVT, Sch.TASK_CFG.AFF, Sch.TASK_ARG.ARG, Sch.TASK_STAT.STATE, Sch.TASK_STAT.HOLDER, Sch.TASK_STAT.OVR, Sch.TASK_STAT.DROPPED, Sch.TASK_STAT.ABANDONED]

/-! ## mailbox and doorbell registers (R275) -/
/-- MBX_CTL.BIND_LOCK, bits 0 (R275). -/
def Mbx.MBX_CTL.BIND_LOCK : Fld := ⟨0x0, 0, 1, 0, .w1s, .live, 1, 4, false⟩
/-- MBX_CTL.COMPAT, bits 1 (R275). -/
def Mbx.MBX_CTL.COMPAT : Fld := ⟨0x0, 1, 1, 0, .ro, .none, 1, 4, true⟩
/-- MBX_CNT0.DENY, bits 15:0 (R275). -/
def Mbx.MBX_CNT0.DENY : Fld := ⟨0x4, 0, 16, 0, .ro, .none, 1, 4, false⟩
/-- MBX_CNT0.DBDROP, bits 31:16 (R275). -/
def Mbx.MBX_CNT0.DBDROP : Fld := ⟨0x4, 16, 16, 0, .ro, .none, 1, 4, false⟩
/-- MBX_CNT1.EMPTYRD, bits 15:0 (R275). -/
def Mbx.MBX_CNT1.EMPTYRD : Fld := ⟨0x8, 0, 16, 0, .ro, .none, 1, 4, false⟩
/-- MBX_CNT1.PUTBUSY, bits 31:16 (R275). -/
def Mbx.MBX_CNT1.PUTBUSY : Fld := ⟨0x8, 16, 16, 0, .ro, .none, 1, 4, false⟩
/-- CH_BIND.TXMID, bits 7:0 (R275). -/
def Mbx.CH_BIND.TXMID : Fld := ⟨0x100, 0, 8, 0, .rw, .live, 64, 16, false⟩
/-- CH_BIND.RXMID, bits 15:8 (R275). -/
def Mbx.CH_BIND.RXMID : Fld := ⟨0x100, 8, 8, 0, .rw, .live, 64, 16, false⟩
/-- CH_BIND.RXBIT, bits 20:16 (R275). -/
def Mbx.CH_BIND.RXBIT : Fld := ⟨0x100, 16, 5, 0, .rw, .live, 64, 16, false⟩
/-- CH_BIND.TXBIT, bits 28:24 (R275). -/
def Mbx.CH_BIND.TXBIT : Fld := ⟨0x100, 24, 5, 0, .rw, .live, 64, 16, false⟩
/-- CH_BIND.DBEN, bits 30 (R275). -/
def Mbx.CH_BIND.DBEN : Fld := ⟨0x100, 30, 1, 0, .rw, .live, 64, 16, false⟩
/-- CH_BIND.V, bits 31 (R275). -/
def Mbx.CH_BIND.V : Fld := ⟨0x100, 31, 1, 0, .rw, .live, 64, 16, false⟩
/-- CH_STAT.FULL, bits 0 (R275). -/
def Mbx.CH_STAT.FULL : Fld := ⟨0x104, 0, 1, 0, .ro, .none, 64, 16, false⟩
/-- CH_STAT.OLD, bits 1 (R275). -/
def Mbx.CH_STAT.OLD : Fld := ⟨0x104, 1, 1, 0, .ro, .none, 64, 16, false⟩
/-- CH_STAT.RX_RESET_SEEN, bits 2 (R275). -/
def Mbx.CH_STAT.RX_RESET_SEEN : Fld := ⟨0x104, 2, 1, 0, .w1c, .none, 64, 16, false⟩
/-- CH_STAT.SEPOCH, bits 15:8 (R275). -/
def Mbx.CH_STAT.SEPOCH : Fld := ⟨0x104, 8, 8, 0, .ro, .none, 64, 16, false⟩
/-- CH_STAT.SMID, bits 23:16 (R275). -/
def Mbx.CH_STAT.SMID : Fld := ⟨0x104, 16, 8, 0, .ro, .none, 64, 16, false⟩
/-- CH_PUT.WORD, bits 31:0 (R275). -/
def Mbx.CH_PUT.WORD : Fld := ⟨0x108, 0, 32, 0, .wo, .live, 64, 16, false⟩
/-- CH_GET.WORD, bits 31:0 (R275). -/
def Mbx.CH_GET.WORD : Fld := ⟨0x10C, 0, 32, 0, .ro, .none, 64, 16, false⟩
/-- DB_PEND.PEND, bits 31:0 (R275). -/
def Mbx.DB_PEND.PEND : Fld := ⟨0x800, 0, 32, 0, .w1s, .live, 16, 16, false⟩
/-- DB_MASK.MASK, bits 31:0 (R275). -/
def Mbx.DB_MASK.MASK : Fld := ⟨0x804, 0, 32, 0, .rw, .live, 16, 16, false⟩
/-- DB_CLR.CLR, bits 31:0 (R275). -/
def Mbx.DB_CLR.CLR : Fld := ⟨0x808, 0, 32, 0, .wo, .live, 16, 16, false⟩
/-- DB_STAT.WAITING, bits 0 (R275). -/
def Mbx.DB_STAT.WAITING : Fld := ⟨0x80C, 0, 1, 0, .ro, .none, 16, 16, false⟩
/-- DB_STAT.WAITMASKED, bits 1 (R275). -/
def Mbx.DB_STAT.WAITMASKED : Fld := ⟨0x80C, 1, 1, 0, .w1c, .none, 16, 16, false⟩

/-- Every field of the mailbox and doorbell table (R275), with its name. -/
def Mbx.fields : List Fld :=
  [Mbx.MBX_CTL.BIND_LOCK, Mbx.MBX_CTL.COMPAT, Mbx.MBX_CNT0.DENY, Mbx.MBX_CNT0.DBDROP, Mbx.MBX_CNT1.EMPTYRD, Mbx.MBX_CNT1.PUTBUSY, Mbx.CH_BIND.TXMID, Mbx.CH_BIND.RXMID, Mbx.CH_BIND.RXBIT, Mbx.CH_BIND.TXBIT, Mbx.CH_BIND.DBEN, Mbx.CH_BIND.V, Mbx.CH_STAT.FULL, Mbx.CH_STAT.OLD, Mbx.CH_STAT.RX_RESET_SEEN, Mbx.CH_STAT.SEPOCH, Mbx.CH_STAT.SMID, Mbx.CH_PUT.WORD, Mbx.CH_GET.WORD, Mbx.DB_PEND.PEND, Mbx.DB_MASK.MASK, Mbx.DB_CLR.CLR, Mbx.DB_STAT.WAITING, Mbx.DB_STAT.WAITMASKED]

/-! ## A-die registers (R292) -/
/-- AD_CTL.CALEN, bits 0 (R292). -/
def Ad.AD_CTL.CALEN : Fld := ⟨0x0, 0, 1, 1, .rw, .live, 1, 4, false⟩
/-- AD_CTL.CALDW, bits 15:8 (R292). -/
def Ad.AD_CTL.CALDW : Fld := ⟨0x0, 8, 8, 80, .rw, .held, 1, 4, false⟩
/-- AD_CTL.SPTOL, bits 23:16 (R292). -/
def Ad.AD_CTL.SPTOL : Fld := ⟨0x0, 16, 8, 4, .rw, .held, 1, 4, false⟩
/-- AD_STAT.CALSEL, bits 4:0 (R292). -/
def Ad.AD_STAT.CALSEL : Fld := ⟨0x4, 0, 5, 31, .ro, .none, 1, 4, false⟩
/-- AD_STAT.CALPH, bits 5 (R292). -/
def Ad.AD_STAT.CALPH : Fld := ⟨0x4, 5, 1, 0, .ro, .none, 1, 4, false⟩
/-- AD_STAT.REFBAD, bits 6 (R292). -/
def Ad.AD_STAT.REFBAD : Fld := ⟨0x4, 6, 1, 0, .ro, .none, 1, 4, false⟩
/-- AD_STAT.REFERR, bits 7 (R292). -/
def Ad.AD_STAT.REFERR : Fld := ⟨0x4, 7, 1, 0, .w1c, .none, 1, 4, false⟩
/-- AD_STAT.HELD_WR, bits 8 (R292). -/
def Ad.AD_STAT.HELD_WR : Fld := ⟨0x4, 8, 1, 0, .w1c, .none, 1, 4, false⟩
/-- AD_STAT.CFG_REJ, bits 9 (R292). -/
def Ad.AD_STAT.CFG_REJ : Fld := ⟨0x4, 9, 1, 0, .w1c, .none, 1, 4, false⟩
/-- AD_STAT.RAMCE, bits 10 (R292). -/
def Ad.AD_STAT.RAMCE : Fld := ⟨0x4, 10, 1, 0, .w1c, .none, 1, 4, false⟩
/-- AD_STAT.RAMUE, bits 11 (R292). -/
def Ad.AD_STAT.RAMUE : Fld := ⟨0x4, 11, 1, 0, .w1c, .none, 1, 4, false⟩
/-- AD_EVT.EVT, bits 6:0 (R292). -/
def Ad.AD_EVT.EVT : Fld := ⟨0x8, 0, 7, 0, .w1c, .none, 1, 4, false⟩
/-- AD_EVTEN.EN, bits 6:0 (R292). -/
def Ad.AD_EVTEN.EN : Fld := ⟨0xC, 0, 7, 0, .rw, .live, 1, 4, false⟩
/-- IN_SGN0.SGN, bits 31:0 (R292). -/
def Ad.IN_SGN0.SGN : Fld := ⟨0x10, 0, 32, 0, .rw, .held, 1, 4, false⟩
/-- IN_SGN1.SGN, bits 15:0 (R292). -/
def Ad.IN_SGN1.SGN : Fld := ⟨0x14, 0, 16, 0, .rw, .held, 1, 4, false⟩
/-- CALFAIL.FAIL, bits 23:0 (R292). -/
def Ad.CALFAIL.FAIL : Fld := ⟨0x18, 0, 24, 0, .w1c, .none, 1, 4, false⟩
/-- SPMIS.MIS, bits 23:0 (R292). -/
def Ad.SPMIS.MIS : Fld := ⟨0x1C, 0, 24, 0, .w1c, .none, 1, 4, false⟩
/-- PAIR_CTL.PEN, bits 11:0 (R292). -/
def Ad.PAIR_CTL.PEN : Fld := ⟨0x20, 0, 12, 0, .rw, .live, 1, 4, false⟩
/-- PAIR_CTL.PWIN, bits 23:16 (R292). -/
def Ad.PAIR_CTL.PWIN : Fld := ⟨0x20, 16, 8, 8, .rw, .live, 1, 4, false⟩
/-- PAIR_CTL.PLIM, bits 27:24 (R292). -/
def Ad.PAIR_CTL.PLIM : Fld := ⟨0x20, 24, 4, 2, .rw, .live, 1, 4, false⟩
/-- PAIRMIS.MIS, bits 11:0 (R292). -/
def Ad.PAIRMIS.MIS : Fld := ⟨0x24, 0, 12, 0, .w1c, .none, 1, 4, false⟩
/-- AD_CNT0.URGDROP, bits 15:0 (R292). -/
def Ad.AD_CNT0.URGDROP : Fld := ⟨0x28, 0, 16, 0, .ro, .none, 1, 4, false⟩
/-- AD_CNT0.SKIPPED, bits 31:16 (R292). -/
def Ad.AD_CNT0.SKIPPED : Fld := ⟨0x28, 16, 16, 0, .ro, .none, 1, 4, false⟩
/-- AD_CNT1.PFAIL, bits 15:0 (R292). -/
def Ad.AD_CNT1.PFAIL : Fld := ⟨0x2C, 0, 16, 0, .ro, .none, 1, 4, false⟩
/-- AD_CNT1.ROTCNT, bits 31:16 (R292). -/
def Ad.AD_CNT1.ROTCNT : Fld := ⟨0x2C, 16, 16, 0, .ro, .none, 1, 4, false⟩
/-- AD_CNTCLR.CLR, bits 0 (R292). -/
def Ad.AD_CNTCLR.CLR : Fld := ⟨0x30, 0, 1, 0, .wo, .live, 1, 4, false⟩

/-- Every field of the A-die table (R292), with its name. -/
def Ad.fields : List Fld :=
  [Ad.AD_CTL.CALEN, Ad.AD_CTL.CALDW, Ad.AD_CTL.SPTOL, Ad.AD_STAT.CALSEL, Ad.AD_STAT.CALPH, Ad.AD_STAT.REFBAD, Ad.AD_STAT.REFERR, Ad.AD_STAT.HELD_WR, Ad.AD_STAT.CFG_REJ, Ad.AD_STAT.RAMCE, Ad.AD_STAT.RAMUE, Ad.AD_EVT.EVT, Ad.AD_EVTEN.EN, Ad.IN_SGN0.SGN, Ad.IN_SGN1.SGN, Ad.CALFAIL.FAIL, Ad.SPMIS.MIS, Ad.PAIR_CTL.PEN, Ad.PAIR_CTL.PWIN, Ad.PAIR_CTL.PLIM, Ad.PAIRMIS.MIS, Ad.AD_CNT0.URGDROP, Ad.AD_CNT0.SKIPPED, Ad.AD_CNT1.PFAIL] ++
  [Ad.AD_CNT1.ROTCNT, Ad.AD_CNTCLR.CLR]

/-! ## sequencer registers (R293) -/
/-- SEQ_CTL.EN, bits 0 (R293). -/
def Seq.SEQ_CTL.EN : Fld := ⟨0x0, 0, 1, 0, .rw, .shadowed, 1, 4, false⟩
/-- SEQ_CTL.URGMODE, bits 1 (R293). -/
def Seq.SEQ_CTL.URGMODE : Fld := ⟨0x0, 1, 1, 0, .rw, .held, 1, 4, false⟩
/-- SEQ_CTL.MERSYNC, bits 2 (R293). -/
def Seq.SEQ_CTL.MERSYNC : Fld := ⟨0x0, 2, 1, 1, .rw, .held, 1, 4, false⟩
/-- SEQ_CTL.LEN, bits 12:8 (R293). -/
def Seq.SEQ_CTL.LEN : Fld := ⟨0x0, 8, 5, 0, .rw, .held, 1, 4, false⟩
/-- SEQ_STAT.PTR, bits 4:0 (R293). -/
def Seq.SEQ_STAT.PTR : Fld := ⟨0x4, 0, 5, 0, .ro, .none, 1, 4, false⟩
/-- SEQ_STAT.URGPEND, bits 5 (R293). -/
def Seq.SEQ_STAT.URGPEND : Fld := ⟨0x4, 5, 1, 0, .ro, .none, 1, 4, false⟩
/-- SEQ_STAT.RUN, bits 6 (R293). -/
def Seq.SEQ_STAT.RUN : Fld := ⟨0x4, 6, 1, 0, .ro, .none, 1, 4, false⟩
/-- SEQ_STAT.SPARE, bits 7 (R293). -/
def Seq.SEQ_STAT.SPARE : Fld := ⟨0x4, 7, 1, 0, .ro, .none, 1, 4, false⟩
/-- URG.SEL, bits 2:0 (R293). -/
def Seq.URG.SEL : Fld := ⟨0x8, 0, 3, 0, .wo, .live, 1, 4, false⟩
/-- URG.ALN, bits 8 (R293). -/
def Seq.URG.ALN : Fld := ⟨0x8, 8, 1, 0, .wo, .live, 1, 4, false⟩
/-- URG.RIDX, bits 21:16 (R293). -/
def Seq.URG.RIDX : Fld := ⟨0x8, 16, 6, 0, .wo, .live, 1, 4, false⟩
/-- CALDELTA.DOFS, bits 7:0 (R293). -/
def Seq.CALDELTA.DOFS : Fld := ⟨0xC, 0, 8, 0, .ro, .none, 1, 4, false⟩
/-- CALDELTA.DGAIN, bits 15:8 (R293). -/
def Seq.CALDELTA.DGAIN : Fld := ⟨0xC, 8, 8, 0, .ro, .none, 1, 4, false⟩
/-- CALDELTA.VALID, bits 16 (R293). -/
def Seq.CALDELTA.VALID : Fld := ⟨0xC, 16, 1, 0, .ro, .none, 1, 4, false⟩

/-- Every field of the sequencer table (R293), with its name. -/
def Seq.fields : List Fld :=
  [Seq.SEQ_CTL.EN, Seq.SEQ_CTL.URGMODE, Seq.SEQ_CTL.MERSYNC, Seq.SEQ_CTL.LEN, Seq.SEQ_STAT.PTR, Seq.SEQ_STAT.URGPEND, Seq.SEQ_STAT.RUN, Seq.SEQ_STAT.SPARE, Seq.URG.SEL, Seq.URG.ALN, Seq.URG.RIDX, Seq.CALDELTA.DOFS, Seq.CALDELTA.DGAIN, Seq.CALDELTA.VALID]

/-! ## sequencer list registers (R294) -/
/-- LIST.SEL, bits 2:0 (R294). -/
def Sle.LIST.SEL : Fld := ⟨0x0, 0, 3, 0, .rw, .held, 32, 4, false⟩
/-- LIST.ALN, bits 4 (R294). -/
def Sle.LIST.ALN : Fld := ⟨0x0, 4, 1, 0, .rw, .held, 32, 4, false⟩
/-- LIST.RIDX, bits 13:8 (R294). -/
def Sle.LIST.RIDX : Fld := ⟨0x0, 8, 6, 0, .rw, .held, 32, 4, false⟩

/-- Every field of the sequencer list table (R294), with its name. -/
def Sle.fields : List Fld :=
  [Sle.LIST.SEL, Sle.LIST.ALN, Sle.LIST.RIDX]

/-! ## A-die results registers (R295) -/
/-- RES.DATA, bits 15:0 (R295). -/
def Ares.RES.DATA : Fld := ⟨0x1000, 0, 16, 0, .ro, .none, 48, 4, false⟩
/-- RES.OV, bits 16 (R295). -/
def Ares.RES.OV : Fld := ⟨0x1000, 16, 1, 0, .ro, .none, 48, 4, false⟩
/-- RES.SGN, bits 17 (R295). -/
def Ares.RES.SGN : Fld := ⟨0x1000, 17, 1, 0, .ro, .none, 48, 4, false⟩
/-- RES.SPARE, bits 18 (R295). -/
def Ares.RES.SPARE : Fld := ⟨0x1000, 18, 1, 0, .ro, .none, 48, 4, false⟩
/-- RES.URG, bits 19 (R295). -/
def Ares.RES.URG : Fld := ⟨0x1000, 19, 1, 0, .ro, .none, 48, 4, false⟩
/-- RES.REFBAD, bits 20 (R295). -/
def Ares.RES.REFBAD : Fld := ⟨0x1000, 20, 1, 0, .ro, .none, 48, 4, false⟩
/-- RES.SUBN, bits 31:24 (R295). -/
def Ares.RES.SUBN : Fld := ⟨0x1000, 24, 8, 0, .ro, .none, 48, 4, false⟩

/-- Every field of the A-die results table (R295), with its name. -/
def Ares.fields : List Fld :=
  [Ares.RES.DATA, Ares.RES.OV, Ares.RES.SGN, Ares.RES.SPARE, Ares.RES.URG, Ares.RES.REFBAD, Ares.RES.SUBN]

/-! ## DMA registers (R307) -/
/-- DMA_ACT.RUN, bits 15:0 (R307). -/
def Dma.DMA_ACT.RUN : Fld := ⟨0x0, 0, 16, 0, .ro, .none, 1, 4, false⟩
/-- DMA_STAT.HELD_WR, bits 0 (R307). -/
def Dma.DMA_STAT.HELD_WR : Fld := ⟨0x4, 0, 1, 0, .w1c, .none, 1, 4, false⟩
/-- DMA_STAT.RAMCE, bits 1 (R307). -/
def Dma.DMA_STAT.RAMCE : Fld := ⟨0x4, 1, 1, 0, .w1c, .none, 1, 4, false⟩
/-- DMA_STAT.RAMUE, bits 2 (R307). -/
def Dma.DMA_STAT.RAMUE : Fld := ⟨0x4, 2, 1, 0, .w1c, .none, 1, 4, false⟩

/-- Every field of the DMA table (R307), with its name. -/
def Dma.fields : List Fld :=
  [Dma.DMA_ACT.RUN, Dma.DMA_STAT.HELD_WR, Dma.DMA_STAT.RAMCE, Dma.DMA_STAT.RAMUE]

/-! ## DMA channel registers (R308) -/
/-- CH_CTL.START, bits 0 (R308). -/
def Dch.CH_CTL.START : Fld := ⟨0x0, 0, 1, 0, .wo, .live, 1, 4, false⟩
/-- CH_CTL.PAUSE, bits 1 (R308). -/
def Dch.CH_CTL.PAUSE : Fld := ⟨0x0, 1, 1, 0, .rw, .live, 1, 4, false⟩
/-- CH_CTL.ABORT, bits 2 (R308). -/
def Dch.CH_CTL.ABORT : Fld := ⟨0x0, 2, 1, 0, .wo, .live, 1, 4, false⟩
/-- CH_CTL.APPEND, bits 3 (R308). -/
def Dch.CH_CTL.APPEND : Fld := ⟨0x0, 3, 1, 0, .wo, .live, 1, 4, false⟩
/-- CH_HEAD.HEAD, bits 31:5 (R308). -/
def Dch.CH_HEAD.HEAD : Fld := ⟨0x4, 5, 27, 0, .rw, .held, 1, 4, false⟩
/-- CH_STAT.STATE, bits 2:0 (R308). -/
def Dch.CH_STAT.STATE : Fld := ⟨0x8, 0, 3, 0, .ro, .none, 1, 4, false⟩
/-- CH_STAT.RECHECK, bits 3 (R308). -/
def Dch.CH_STAT.RECHECK : Fld := ⟨0x8, 3, 1, 0, .ro, .none, 1, 4, false⟩
/-- CH_STAT.FRZ, bits 4 (R308). -/
def Dch.CH_STAT.FRZ : Fld := ⟨0x8, 4, 1, 0, .ro, .none, 1, 4, false⟩
/-- CH_STAT.BADDESC, bits 5 (R308). -/
def Dch.CH_STAT.BADDESC : Fld := ⟨0x8, 5, 1, 0, .w1c, .none, 1, 4, false⟩
/-- CH_STAT.OVERLAP, bits 6 (R308). -/
def Dch.CH_STAT.OVERLAP : Fld := ⟨0x8, 6, 1, 0, .w1c, .none, 1, 4, false⟩
/-- CH_STAT.IDXRANGE, bits 7 (R308). -/
def Dch.CH_STAT.IDXRANGE : Fld := ⟨0x8, 7, 1, 0, .w1c, .none, 1, 4, false⟩
/-- CH_STAT.MEMUE, bits 8 (R308). -/
def Dch.CH_STAT.MEMUE : Fld := ⟨0x8, 8, 1, 0, .w1c, .none, 1, 4, false⟩
/-- CH_STAT.ABSENT, bits 9 (R308). -/
def Dch.CH_STAT.ABSENT : Fld := ⟨0x8, 9, 1, 0, .w1c, .none, 1, 4, false⟩
/-- CH_STAT.TMO, bits 10 (R308). -/
def Dch.CH_STAT.TMO : Fld := ⟨0x8, 10, 1, 0, .w1c, .none, 1, 4, false⟩
/-- CH_DESC.DESC, bits 31:0 (R308). -/
def Dch.CH_DESC.DESC : Fld := ⟨0xC, 0, 32, 0, .ro, .none, 1, 4, false⟩
/-- CH_SRC.SRC, bits 31:0 (R308). -/
def Dch.CH_SRC.SRC : Fld := ⟨0x10, 0, 32, 0, .ro, .none, 1, 4, false⟩
/-- CH_DST.DST, bits 31:0 (R308). -/
def Dch.CH_DST.DST : Fld := ⟨0x14, 0, 32, 0, .ro, .none, 1, 4, false⟩
/-- CH_REMAIN.REMAIN, bits 23:0 (R308). -/
def Dch.CH_REMAIN.REMAIN : Fld := ⟨0x18, 0, 24, 0, .ro, .none, 1, 4, false⟩
/-- CH_IDXP.IDXP, bits 31:0 (R308). -/
def Dch.CH_IDXP.IDXP : Fld := ⟨0x1C, 0, 32, 0, .ro, .none, 1, 4, false⟩
/-- CH_EVT.EVT, bits 3:0 (R308). -/
def Dch.CH_EVT.EVT : Fld := ⟨0x20, 0, 4, 0, .w1c, .none, 1, 4, false⟩
/-- CH_EVTEN.EN, bits 3:0 (R308). -/
def Dch.CH_EVTEN.EN : Fld := ⟨0x24, 0, 4, 0, .rw, .live, 1, 4, false⟩
/-- CH_CNT.DONE, bits 31:0 (R308). -/
def Dch.CH_CNT.DONE : Fld := ⟨0x28, 0, 32, 0, .ro, .none, 1, 4, false⟩

/-- Every field of the DMA channel table (R308), with its name. -/
def Dch.fields : List Fld :=
  [Dch.CH_CTL.START, Dch.CH_CTL.PAUSE, Dch.CH_CTL.ABORT, Dch.CH_CTL.APPEND, Dch.CH_HEAD.HEAD, Dch.CH_STAT.STATE, Dch.CH_STAT.RECHECK, Dch.CH_STAT.FRZ, Dch.CH_STAT.BADDESC, Dch.CH_STAT.OVERLAP, Dch.CH_STAT.IDXRANGE, Dch.CH_STAT.MEMUE, Dch.CH_STAT.ABSENT, Dch.CH_STAT.TMO, Dch.CH_DESC.DESC, Dch.CH_SRC.SRC, Dch.CH_DST.DST, Dch.CH_REMAIN.REMAIN, Dch.CH_IDXP.IDXP, Dch.CH_EVT.EVT, Dch.CH_EVTEN.EN, Dch.CH_CNT.DONE]

/-! ## acquisition registers (R322) -/
/-- ACQ_CTL.ARM, bits 0 (R322). -/
def Acq.ACQ_CTL.ARM : Fld := ⟨0x0, 0, 1, 0, .wo, .live, 1, 4, false⟩
/-- ACQ_CTL.STOP, bits 1 (R322). -/
def Acq.ACQ_CTL.STOP : Fld := ⟨0x0, 1, 1, 0, .wo, .live, 1, 4, false⟩
/-- ACQ_CTL.SWTRIG, bits 2 (R322). -/
def Acq.ACQ_CTL.SWTRIG : Fld := ⟨0x0, 2, 1, 0, .wo, .live, 1, 4, false⟩
/-- ACQ_CTL.XOUT, bits 3 (R322). -/
def Acq.ACQ_CTL.XOUT : Fld := ⟨0x0, 3, 1, 0, .rw, .live, 1, 4, false⟩
/-- ACQ_CTL.XW, bits 15:8 (R322). -/
def Acq.ACQ_CTL.XW : Fld := ⟨0x0, 8, 8, 10, .rw, .live, 1, 4, false⟩
/-- ACQ_STAT.STATE, bits 1:0 (R322). -/
def Acq.ACQ_STAT.STATE : Fld := ⟨0x4, 0, 2, 0, .ro, .none, 1, 4, false⟩
/-- ACQ_STAT.HELD_WR, bits 2 (R322). -/
def Acq.ACQ_STAT.HELD_WR : Fld := ⟨0x4, 2, 1, 0, .w1c, .none, 1, 4, false⟩
/-- ACQ_STAT.POSTCUT, bits 3 (R322). -/
def Acq.ACQ_STAT.POSTCUT : Fld := ⟨0x4, 3, 1, 0, .ro, .none, 1, 4, false⟩
/-- ACQ_STAT.LOSS, bits 4 (R322). -/
def Acq.ACQ_STAT.LOSS : Fld := ⟨0x4, 4, 1, 0, .ro, .none, 1, 4, false⟩
/-- ACQ_STAT.TV, bits 5 (R322). -/
def Acq.ACQ_STAT.TV : Fld := ⟨0x4, 5, 1, 0, .ro, .none, 1, 4, false⟩
/-- ACQ_STAT.WRDISC, bits 6 (R322). -/
def Acq.ACQ_STAT.WRDISC : Fld := ⟨0x4, 6, 1, 0, .w1c, .none, 1, 4, false⟩
/-- ACQ_STAT.CAPCE, bits 7 (R322). -/
def Acq.ACQ_STAT.CAPCE : Fld := ⟨0x4, 7, 1, 0, .w1c, .none, 1, 4, false⟩
/-- ACQ_STAT.CAPUE, bits 8 (R322). -/
def Acq.ACQ_STAT.CAPUE : Fld := ⟨0x4, 8, 1, 0, .w1c, .none, 1, 4, false⟩
/-- ACQ_STAT.CFG_REJ, bits 9 (R322). -/
def Acq.ACQ_STAT.CFG_REJ : Fld := ⟨0x4, 9, 1, 0, .w1c, .none, 1, 4, false⟩
/-- ACQ_EVT.EVT, bits 3:0 (R322). -/
def Acq.ACQ_EVT.EVT : Fld := ⟨0x8, 0, 4, 0, .w1c, .none, 1, 4, false⟩
/-- ACQ_EVTEN.EN, bits 3:0 (R322). -/
def Acq.ACQ_EVTEN.EN : Fld := ⟨0xC, 0, 4, 0, .rw, .live, 1, 4, false⟩
/-- TRIG_CFG.TRIG_EN, bits 9:0 (R322). -/
def Acq.TRIG_CFG.TRIG_EN : Fld := ⟨0x10, 0, 10, 0, .rw, .live, 1, 4, false⟩
/-- TRIG_CFG.TRIG_POL, bits 19:16 (R322). -/
def Acq.TRIG_CFG.TRIG_POL : Fld := ⟨0x10, 16, 4, 0, .rw, .live, 1, 4, false⟩
/-- PREKEEP.N, bits 19:0 (R322). -/
def Acq.PREKEEP.N : Fld := ⟨0x14, 0, 20, 0, .rw, .held, 1, 4, false⟩
/-- POST.TICKS, bits 31:0 (R322). -/
def Acq.POST.TICKS : Fld := ⟨0x18, 0, 32, 0, .rw, .held, 1, 4, false⟩
/-- WPTR.IDX, bits 19:0 (R322). -/
def Acq.WPTR.IDX : Fld := ⟨0x20, 0, 20, 0, .ro, .none, 1, 4, false⟩
/-- NREC.N, bits 20:0 (R322). -/
def Acq.NREC.N : Fld := ⟨0x24, 0, 21, 0, .ro, .none, 1, 4, false⟩
/-- TRIG_IDX.IDX, bits 19:0 (R322). -/
def Acq.TRIG_IDX.IDX : Fld := ⟨0x28, 0, 20, 0, .ro, .none, 1, 4, false⟩
/-- TRIG_WORD.WORD, bits 9:0 (R322). -/
def Acq.TRIG_WORD.WORD : Fld := ⟨0x2C, 0, 10, 0, .ro, .none, 1, 4, false⟩
/-- TRIG_TCNT.CNT, bits 31:0 (R322). -/
def Acq.TRIG_TCNT.CNT : Fld := ⟨0x30, 0, 32, 0, .ro, .none, 2, 4, false⟩
/-- TRIG_SEC.SEC, bits 31:0 (R322). -/
def Acq.TRIG_SEC.SEC : Fld := ⟨0x38, 0, 32, 0, .ro, .none, 1, 4, false⟩
/-- TRIG_NS.NS, bits 31:0 (R322). -/
def Acq.TRIG_NS.NS : Fld := ⟨0x3C, 0, 32, 0, .ro, .none, 1, 4, false⟩
/-- LAST_TCNT.CNT, bits 31:0 (R322). -/
def Acq.LAST_TCNT.CNT : Fld := ⟨0x40, 0, 32, 0, .ro, .none, 2, 4, false⟩
/-- BASE_TCNT.CNT, bits 31:0 (R322). -/
def Acq.BASE_TCNT.CNT : Fld := ⟨0x48, 0, 32, 0, .ro, .none, 2, 4, false⟩
/-- TCNT.CNT, bits 31:0 (R322). -/
def Acq.TCNT.CNT : Fld := ⟨0x50, 0, 32, 0, .ro, .none, 2, 4, false⟩
/-- ACQ_CNT.LOST, bits 15:0 (R322). -/
def Acq.ACQ_CNT.LOST : Fld := ⟨0x58, 0, 16, 0, .ro, .none, 1, 4, false⟩
/-- ACQ_CNT.LATETRIG, bits 31:16 (R322). -/
def Acq.ACQ_CNT.LATETRIG : Fld := ⟨0x58, 16, 16, 0, .ro, .none, 1, 4, false⟩
/-- COND_CTL.SIG, bits 7:0 (R322). -/
def Acq.COND_CTL.SIG : Fld := ⟨0x60, 0, 8, 0, .rw, .held, 4, 8, false⟩
/-- COND_CTL.OP, bits 10:8 (R322). -/
def Acq.COND_CTL.OP : Fld := ⟨0x60, 8, 3, 0, .rw, .held, 4, 8, false⟩
/-- COND_TH.TH, bits 21:0 (R322). -/
def Acq.COND_TH.TH : Fld := ⟨0x64, 0, 22, 0, .rw, .held, 4, 8, false⟩
/-- TRACE_SEL.CLASS, bits 2:0 (R322). -/
def Acq.TRACE_SEL.CLASS : Fld := ⟨0x100, 0, 3, 0, .rw, .held, 256, 4, false⟩
/-- TRACE_SEL.INDEX, bits 28:16 (R322). -/
def Acq.TRACE_SEL.INDEX : Fld := ⟨0x100, 16, 13, 0, .rw, .held, 256, 4, false⟩
/-- BASE_VAL.VAL, bits 21:0 (R322). -/
def Acq.BASE_VAL.VAL : Fld := ⟨0x500, 0, 22, 0, .ro, .none, 256, 4, false⟩
/-- BASE_VAL.BV, bits 31 (R322). -/
def Acq.BASE_VAL.BV : Fld := ⟨0x500, 31, 1, 0, .ro, .none, 256, 4, false⟩

/-- Every field of the acquisition table (R322), with its name. -/
def Acq.fields : List Fld :=
  [Acq.ACQ_CTL.ARM, Acq.ACQ_CTL.STOP, Acq.ACQ_CTL.SWTRIG, Acq.ACQ_CTL.XOUT, Acq.ACQ_CTL.XW, Acq.ACQ_STAT.STATE, Acq.ACQ_STAT.HELD_WR, Acq.ACQ_STAT.POSTCUT, Acq.ACQ_STAT.LOSS, Acq.ACQ_STAT.TV, Acq.ACQ_STAT.WRDISC, Acq.ACQ_STAT.CAPCE, Acq.ACQ_STAT.CAPUE, Acq.ACQ_STAT.CFG_REJ, Acq.ACQ_EVT.EVT, Acq.ACQ_EVTEN.EN, Acq.TRIG_CFG.TRIG_EN, Acq.TRIG_CFG.TRIG_POL, Acq.PREKEEP.N, Acq.POST.TICKS, Acq.WPTR.IDX, Acq.NREC.N, Acq.TRIG_IDX.IDX, Acq.TRIG_WORD.WORD] ++
  [Acq.TRIG_TCNT.CNT, Acq.TRIG_SEC.SEC, Acq.TRIG_NS.NS, Acq.LAST_TCNT.CNT, Acq.BASE_TCNT.CNT, Acq.TCNT.CNT, Acq.ACQ_CNT.LOST, Acq.ACQ_CNT.LATETRIG, Acq.COND_CTL.SIG, Acq.COND_CTL.OP, Acq.COND_TH.TH, Acq.TRACE_SEL.CLASS, Acq.TRACE_SEL.INDEX, Acq.BASE_VAL.VAL, Acq.BASE_VAL.BV]

end Sys2Proof.Machine
end

