-- ==== Sys2Proof/Machine/RegMap3.lean ====
section
/-!
DEFINITION. Register fields of the spec's register tables: Ethernet and time, port, sampled-value stream, fault collector, safety, pair, Almanac, metering, security, clock and power, BIST. One constant per field, named
block, register, field; offsets are those of the table (relative to the block or entry the table belongs to).
-/
namespace Sys2Proof.Machine

/-! ## Ethernet and time registers (R346) -/
/-- TIME_NS.NS, bits 31:0 (R346). -/
def Eth.TIME_NS.NS : Fld := ⟨0x0, 0, 32, 0, .ro, .none, 1, 4, false⟩
/-- TIME_SEC.SEC, bits 31:0 (R346). -/
def Eth.TIME_SEC.SEC : Fld := ⟨0x4, 0, 32, 0, .ro, .none, 2, 4, false⟩
/-- TIME_FRAC.FRAC, bits 15:0 (R346). -/
def Eth.TIME_FRAC.FRAC : Fld := ⟨0xC, 0, 16, 0, .ro, .none, 1, 4, false⟩
/-- SET_SEC.SEC, bits 31:0 (R346). -/
def Eth.SET_SEC.SEC : Fld := ⟨0x10, 0, 32, 0, .rw, .live, 2, 4, false⟩
/-- SET_NS.NS, bits 29:0 (R346). -/
def Eth.SET_NS.NS : Fld := ⟨0x18, 0, 30, 0, .rw, .live, 1, 4, false⟩
/-- ADJ_NS.ADJ, bits 31:0 (R346). -/
def Eth.ADJ_NS.ADJ : Fld := ⟨0x1C, 0, 32, 0, .rw, .live, 1, 4, false⟩
/-- TIME_CMD.SET, bits 0 (R346). -/
def Eth.TIME_CMD.SET : Fld := ⟨0x20, 0, 1, 0, .wo, .live, 1, 4, false⟩
/-- TIME_CMD.ADJ, bits 1 (R346). -/
def Eth.TIME_CMD.ADJ : Fld := ⟨0x20, 1, 1, 0, .wo, .live, 1, 4, false⟩
/-- TIME_STAT.STEP_REJ, bits 0 (R346). -/
def Eth.TIME_STAT.STEP_REJ : Fld := ⟨0x24, 0, 1, 0, .w1c, .none, 1, 4, false⟩
/-- TIME_STAT.CFG_REJ, bits 1 (R346). -/
def Eth.TIME_STAT.CFG_REJ : Fld := ⟨0x24, 1, 1, 0, .w1c, .none, 1, 4, false⟩
/-- TIME_STAT.HELD_WR, bits 2 (R346). -/
def Eth.TIME_STAT.HELD_WR : Fld := ⟨0x24, 2, 1, 0, .w1c, .none, 1, 4, false⟩
/-- VN_CTL.EN, bits 0 (R346). -/
def Eth.VN_CTL.EN : Fld := ⟨0x100, 0, 1, 0, .rw, .live, 1, 4, false⟩
/-- VN_CTL.PSRC, bits 2:1 (R346). -/
def Eth.VN_CTL.PSRC : Fld := ⟨0x100, 1, 2, 0, .rw, .held, 1, 4, false⟩
/-- VN_CTL.SSRC, bits 4:3 (R346). -/
def Eth.VN_CTL.SSRC : Fld := ⟨0x100, 3, 2, 0, .rw, .held, 1, 4, false⟩
/-- VN_CTL.REARM, bits 5 (R346). -/
def Eth.VN_CTL.REARM : Fld := ⟨0x100, 5, 1, 0, .wo, .live, 1, 4, false⟩
/-- VN_GAIN.KP, bits 15:0 (R346). -/
def Eth.VN_GAIN.KP : Fld := ⟨0x104, 0, 16, 9830, .rw, .live, 1, 4, false⟩
/-- VN_GAIN.KI, bits 31:16 (R346). -/
def Eth.VN_GAIN.KI : Fld := ⟨0x104, 16, 16, 655, .rw, .live, 1, 4, false⟩
/-- VN_LIM.SLEWMAX, bits 9:0 (R346). -/
def Eth.VN_LIM.SLEWMAX : Fld := ⟨0x108, 0, 10, 1000, .rw, .live, 1, 4, false⟩
/-- VN_LIM.HOLD_TO, bits 23:16 (R346). -/
def Eth.VN_LIM.HOLD_TO : Fld := ⟨0x108, 16, 8, 30, .rw, .live, 1, 4, false⟩
/-- VN_PCFG.PATHSTEP_TH, bits 15:0 (R346). -/
def Eth.VN_PCFG.PATHSTEP_TH : Fld := ⟨0x10C, 0, 16, 200, .rw, .live, 1, 4, false⟩
/-- VN_PCFG.PSN, bits 19:16 (R346). -/
def Eth.VN_PCFG.PSN : Fld := ⟨0x10C, 16, 4, 2, .rw, .live, 1, 4, false⟩
/-- VN_PCFG.CHKN, bits 23:20 (R346). -/
def Eth.VN_PCFG.CHKN : Fld := ⟨0x10C, 20, 4, 4, .rw, .live, 1, 4, false⟩
/-- VN_PCFG.PAIR_TOL, bits 31:24 (R346). -/
def Eth.VN_PCFG.PAIR_TOL : Fld := ⟨0x10C, 24, 8, 100, .rw, .live, 1, 4, false⟩
/-- VN_OFS_P.OFS, bits 31:0 (R346). -/
def Eth.VN_OFS_P.OFS : Fld := ⟨0x110, 0, 32, 0, .wo, .live, 1, 4, false⟩
/-- VN_PATH_P.PATH, bits 31:0 (R346). -/
def Eth.VN_PATH_P.PATH : Fld := ⟨0x114, 0, 32, 0, .rw, .live, 1, 4, false⟩
/-- VN_OFS_S.OFS, bits 31:0 (R346). -/
def Eth.VN_OFS_S.OFS : Fld := ⟨0x118, 0, 32, 0, .wo, .live, 1, 4, false⟩
/-- VN_STAT.STATE, bits 2:0 (R346). -/
def Eth.VN_STAT.STATE : Fld := ⟨0x11C, 0, 3, 0, .ro, .none, 1, 4, false⟩
/-- VN_FREQ.F, bits 31:0 (R346). -/
def Eth.VN_FREQ.F : Fld := ⟨0x120, 0, 32, 0, .ro, .none, 1, 4, false⟩
/-- VN_PATHREF.PATH, bits 31:0 (R346). -/
def Eth.VN_PATHREF.PATH : Fld := ⟨0x124, 0, 32, 0, .ro, .none, 1, 4, false⟩
/-- VN_EVT.EVT, bits 4:0 (R346). -/
def Eth.VN_EVT.EVT : Fld := ⟨0x128, 0, 5, 0, .w1c, .none, 1, 4, false⟩
/-- VN_EVTEN.EN, bits 4:0 (R346). -/
def Eth.VN_EVTEN.EN : Fld := ⟨0x12C, 0, 5, 0, .rw, .live, 1, 4, false⟩
/-- PSLOG_OLD.PATH, bits 31:0 (R346). -/
def Eth.PSLOG_OLD.PATH : Fld := ⟨0x130, 0, 32, 0, .ro, .none, 1, 4, false⟩
/-- PSLOG_NEW.PATH, bits 31:0 (R346). -/
def Eth.PSLOG_NEW.PATH : Fld := ⟨0x134, 0, 32, 0, .ro, .none, 1, 4, false⟩
/-- PSLOG_SEC.SEC, bits 31:0 (R346). -/
def Eth.PSLOG_SEC.SEC : Fld := ⟨0x138, 0, 32, 0, .ro, .none, 1, 4, false⟩
/-- SYNC_CTL.SOEN, bits 0 (R346). -/
def Eth.SYNC_CTL.SOEN : Fld := ⟨0x200, 0, 1, 0, .rw, .live, 1, 4, false⟩
/-- SYNC_CTL.SOSEL, bits 1 (R346). -/
def Eth.SYNC_CTL.SOSEL : Fld := ⟨0x200, 1, 1, 0, .rw, .live, 1, 4, false⟩
/-- SYNC_CTL.SOW, bits 15:8 (R346). -/
def Eth.SYNC_CTL.SOW : Fld := ⟨0x200, 8, 8, 10, .rw, .live, 1, 4, false⟩
/-- SYNC_CTL.SIEN, bits 16 (R346). -/
def Eth.SYNC_CTL.SIEN : Fld := ⟨0x200, 16, 1, 0, .rw, .live, 1, 4, false⟩
/-- SYNC_CTL.SIEDGE, bits 17 (R346). -/
def Eth.SYNC_CTL.SIEDGE : Fld := ⟨0x200, 17, 1, 0, .rw, .live, 1, 4, false⟩
/-- SI_DLY.DLY, bits 31:0 (R346). -/
def Eth.SI_DLY.DLY : Fld := ⟨0x204, 0, 32, 0, .rw, .live, 1, 4, false⟩
/-- SI_TS_NS.NS, bits 31:0 (R346). -/
def Eth.SI_TS_NS.NS : Fld := ⟨0x208, 0, 32, 0, .ro, .none, 1, 4, false⟩
/-- SI_TS_SEC.SEC, bits 31:0 (R346). -/
def Eth.SI_TS_SEC.SEC : Fld := ⟨0x20C, 0, 32, 0, .ro, .none, 1, 4, false⟩
/-- SI_TS_FRAC.FRAC, bits 15:0 (R346). -/
def Eth.SI_TS_FRAC.FRAC : Fld := ⟨0x210, 0, 16, 0, .ro, .none, 1, 4, false⟩
/-- SI_TS_FRAC.SI_CNT, bits 31:16 (R346). -/
def Eth.SI_TS_FRAC.SI_CNT : Fld := ⟨0x210, 16, 16, 0, .ro, .none, 1, 4, false⟩
/-- PRP_CTL.PRPEN, bits 0 (R346). -/
def Eth.PRP_CTL.PRPEN : Fld := ⟨0x300, 0, 1, 0, .rw, .held, 1, 4, false⟩
/-- PRP_CTL.AGE, bits 15:8 (R346). -/
def Eth.PRP_CTL.AGE : Fld := ⟨0x300, 8, 8, 40, .rw, .held, 1, 4, false⟩
/-- PRP_CNT.DUP, bits 15:0 (R346). -/
def Eth.PRP_CNT.DUP : Fld := ⟨0x304, 0, 16, 0, .ro, .none, 1, 4, false⟩
/-- PRP_CNT.ERRLAN, bits 31:16 (R346). -/
def Eth.PRP_CNT.ERRLAN : Fld := ⟨0x304, 16, 16, 0, .ro, .none, 1, 4, false⟩

/-- Every field of the Ethernet and time table (R346), with its name. -/
def Eth.fields : List Fld :=
  [Eth.TIME_NS.NS, Eth.TIME_SEC.SEC, Eth.TIME_FRAC.FRAC, Eth.SET_SEC.SEC, Eth.SET_NS.NS, Eth.ADJ_NS.ADJ, Eth.TIME_CMD.SET, Eth.TIME_CMD.ADJ, Eth.TIME_STAT.STEP_REJ, Eth.TIME_STAT.CFG_REJ, Eth.TIME_STAT.HELD_WR, Eth.VN_CTL.EN, Eth.VN_CTL.PSRC, Eth.VN_CTL.SSRC, Eth.VN_CTL.REARM, Eth.VN_GAIN.KP, Eth.VN_GAIN.KI, Eth.VN_LIM.SLEWMAX, Eth.VN_LIM.HOLD_TO, Eth.VN_PCFG.PATHSTEP_TH, Eth.VN_PCFG.PSN, Eth.VN_PCFG.CHKN, Eth.VN_PCFG.PAIR_TOL, Eth.VN_OFS_P.OFS] ++
  [Eth.VN_PATH_P.PATH, Eth.VN_OFS_S.OFS, Eth.VN_STAT.STATE, Eth.VN_FREQ.F, Eth.VN_PATHREF.PATH, Eth.VN_EVT.EVT, Eth.VN_EVTEN.EN, Eth.PSLOG_OLD.PATH, Eth.PSLOG_NEW.PATH, Eth.PSLOG_SEC.SEC, Eth.SYNC_CTL.SOEN, Eth.SYNC_CTL.SOSEL, Eth.SYNC_CTL.SOW, Eth.SYNC_CTL.SIEN, Eth.SYNC_CTL.SIEDGE, Eth.SI_DLY.DLY, Eth.SI_TS_NS.NS, Eth.SI_TS_SEC.SEC, Eth.SI_TS_FRAC.FRAC, Eth.SI_TS_FRAC.SI_CNT, Eth.PRP_CTL.PRPEN, Eth.PRP_CTL.AGE, Eth.PRP_CNT.DUP, Eth.PRP_CNT.ERRLAN]

/-! ## port registers (R347) -/
/-- PORT_CTL.EN, bits 0 (R347). -/
def Port.PORT_CTL.EN : Fld := ⟨0x0, 0, 1, 0, .rw, .live, 1, 4, false⟩
/-- PORT_CTL.MODE, bits 1 (R347). -/
def Port.PORT_CTL.MODE : Fld := ⟨0x0, 1, 1, 0, .rw, .held, 1, 4, false⟩
/-- PORT_CTL.ANEN, bits 2 (R347). -/
def Port.PORT_CTL.ANEN : Fld := ⟨0x0, 2, 1, 1, .rw, .held, 1, 4, false⟩
/-- PORT_STAT.LINK, bits 0 (R347). -/
def Port.PORT_STAT.LINK : Fld := ⟨0x4, 0, 1, 0, .ro, .none, 1, 4, false⟩
/-- PORT_STAT.HELD_WR, bits 1 (R347). -/
def Port.PORT_STAT.HELD_WR : Fld := ⟨0x4, 1, 1, 0, .w1c, .none, 1, 4, false⟩
/-- PORT_EVT.EVT, bits 3:0 (R347). -/
def Port.PORT_EVT.EVT : Fld := ⟨0x8, 0, 4, 0, .w1c, .none, 1, 4, false⟩
/-- PORT_EVTEN.EN, bits 3:0 (R347). -/
def Port.PORT_EVTEN.EN : Fld := ⟨0xC, 0, 4, 0, .rw, .live, 1, 4, false⟩
/-- MAC_LO.ADDR, bits 31:0 (R347). -/
def Port.MAC_LO.ADDR : Fld := ⟨0x10, 0, 32, 0, .rw, .held, 1, 4, false⟩
/-- MAC_HI.ADDR, bits 15:0 (R347). -/
def Port.MAC_HI.ADDR : Fld := ⟨0x14, 0, 16, 0, .rw, .held, 1, 4, false⟩
/-- RXR_BASE.BASE, bits 31:4 (R347). -/
def Port.RXR_BASE.BASE : Fld := ⟨0x18, 4, 28, 0, .rw, .held, 1, 4, false⟩
/-- TXR_BASE.BASE, bits 31:4 (R347). -/
def Port.TXR_BASE.BASE : Fld := ⟨0x20, 4, 28, 0, .rw, .held, 1, 4, false⟩
/-- RXR_SIZE.N, bits 12:0 (R347). -/
def Port.RXR_SIZE.N : Fld := ⟨0x1C, 0, 13, 4, .rw, .held, 1, 4, false⟩
/-- TXR_SIZE.N, bits 12:0 (R347). -/
def Port.TXR_SIZE.N : Fld := ⟨0x24, 0, 13, 4, .rw, .held, 1, 4, false⟩
/-- TX_KICK.KICK, bits 0 (R347). -/
def Port.TX_KICK.KICK : Fld := ⟨0x28, 0, 1, 0, .wo, .live, 1, 4, false⟩
/-- RING_IDX.RX, bits 11:0 (R347). -/
def Port.RING_IDX.RX : Fld := ⟨0x2C, 0, 12, 0, .ro, .none, 1, 4, false⟩
/-- RING_IDX.TX, bits 27:16 (R347). -/
def Port.RING_IDX.TX : Fld := ⟨0x2C, 16, 12, 0, .ro, .none, 1, 4, false⟩
/-- ING_ADJ.ADJ, bits 15:0 (R347). -/
def Port.ING_ADJ.ADJ : Fld := ⟨0x30, 0, 16, 0, .rw, .held, 1, 4, false⟩
/-- EGR_ADJ.ADJ, bits 15:0 (R347). -/
def Port.EGR_ADJ.ADJ : Fld := ⟨0x34, 0, 16, 0, .rw, .held, 1, 4, false⟩
/-- RXOK.COUNT, bits 31:0 (R347). -/
def Port.RXOK.COUNT : Fld := ⟨0x40, 0, 32, 0, .ro, .none, 1, 4, false⟩
/-- RXDROP.COUNT, bits 31:0 (R347). -/
def Port.RXDROP.COUNT : Fld := ⟨0x44, 0, 32, 0, .ro, .none, 1, 4, false⟩
/-- RXFRZ.COUNT, bits 31:0 (R347). -/
def Port.RXFRZ.COUNT : Fld := ⟨0x48, 0, 32, 0, .ro, .none, 1, 4, false⟩
/-- RXERR.COUNT, bits 31:0 (R347). -/
def Port.RXERR.COUNT : Fld := ⟨0x4C, 0, 32, 0, .ro, .none, 1, 4, false⟩
/-- TXOK.COUNT, bits 31:0 (R347). -/
def Port.TXOK.COUNT : Fld := ⟨0x50, 0, 32, 0, .ro, .none, 1, 4, false⟩
/-- CNT_CLR.CLR, bits 0 (R347). -/
def Port.CNT_CLR.CLR : Fld := ⟨0x54, 0, 1, 0, .wo, .live, 1, 4, false⟩

/-- Every field of the port table (R347), with its name. -/
def Port.fields : List Fld :=
  [Port.PORT_CTL.EN, Port.PORT_CTL.MODE, Port.PORT_CTL.ANEN, Port.PORT_STAT.LINK, Port.PORT_STAT.HELD_WR, Port.PORT_EVT.EVT, Port.PORT_EVTEN.EN, Port.MAC_LO.ADDR, Port.MAC_HI.ADDR, Port.RXR_BASE.BASE, Port.TXR_BASE.BASE, Port.RXR_SIZE.N, Port.TXR_SIZE.N, Port.TX_KICK.KICK, Port.RING_IDX.RX, Port.RING_IDX.TX, Port.ING_ADJ.ADJ, Port.EGR_ADJ.ADJ, Port.RXOK.COUNT, Port.RXDROP.COUNT, Port.RXFRZ.COUNT, Port.RXERR.COUNT, Port.TXOK.COUNT, Port.CNT_CLR.CLR]

/-! ## sampled-value stream registers (R348) -/
/-- SV_CTL.EN, bits 0 (R348). -/
def Sv.SV_CTL.EN : Fld := ⟨0x0, 0, 1, 0, .rw, .live, 1, 4, false⟩
/-- SV_CTL.PORT, bits 2:1 (R348). -/
def Sv.SV_CTL.PORT : Fld := ⟨0x0, 1, 2, 0, .rw, .held, 1, 4, false⟩
/-- SV_CTL.NCH, bits 6:4 (R348). -/
def Sv.SV_CTL.NCH : Fld := ⟨0x0, 4, 3, 7, .rw, .held, 1, 4, false⟩
/-- SV_CTL.SYNCREQ, bits 7 (R348). -/
def Sv.SV_CTL.SYNCREQ : Fld := ⟨0x0, 7, 1, 1, .rw, .held, 1, 4, false⟩
/-- SV_CTL.APPID, bits 31:16 (R348). -/
def Sv.SV_CTL.APPID : Fld := ⟨0x0, 16, 16, 0, .rw, .held, 1, 4, false⟩
/-- SV_STAT.SMPCNT, bits 15:0 (R348). -/
def Sv.SV_STAT.SMPCNT : Fld := ⟨0x4, 0, 16, 0, .ro, .none, 1, 4, false⟩
/-- SV_STAT.NOSYNC, bits 16 (R348). -/
def Sv.SV_STAT.NOSYNC : Fld := ⟨0x4, 16, 1, 0, .w1c, .none, 1, 4, false⟩
/-- SV_STAT.QBAD, bits 17 (R348). -/
def Sv.SV_STAT.QBAD : Fld := ⟨0x4, 17, 1, 0, .w1c, .none, 1, 4, false⟩
/-- SV_STAT.HELD_WR, bits 18 (R348). -/
def Sv.SV_STAT.HELD_WR : Fld := ⟨0x4, 18, 1, 0, .w1c, .none, 1, 4, false⟩
/-- SV_RXNS.NS, bits 31:0 (R348). -/
def Sv.SV_RXNS.NS : Fld := ⟨0x8, 0, 32, 0, .ro, .none, 1, 4, false⟩
/-- SV_CNT.TAKEN, bits 15:0 (R348). -/
def Sv.SV_CNT.TAKEN : Fld := ⟨0xC, 0, 16, 0, .ro, .none, 1, 4, false⟩
/-- SV_CNT.REJ, bits 31:16 (R348). -/
def Sv.SV_CNT.REJ : Fld := ⟨0xC, 16, 16, 0, .ro, .none, 1, 4, false⟩
/-- SV_DATA.VAL, bits 31:0 (R348). -/
def Sv.SV_DATA.VAL : Fld := ⟨0x2400, 0, 32, 0, .ro, .none, 128, 4, false⟩

/-- Every field of the sampled-value stream table (R348), with its name. -/
def Sv.fields : List Fld :=
  [Sv.SV_CTL.EN, Sv.SV_CTL.PORT, Sv.SV_CTL.NCH, Sv.SV_CTL.SYNCREQ, Sv.SV_CTL.APPID, Sv.SV_STAT.SMPCNT, Sv.SV_STAT.NOSYNC, Sv.SV_STAT.QBAD, Sv.SV_STAT.HELD_WR, Sv.SV_RXNS.NS, Sv.SV_CNT.TAKEN, Sv.SV_CNT.REJ, Sv.SV_DATA.VAL]

/-! ## fault collector registers (R371) -/
/-- FC_CTL.LOCK, bits 0 (R371). -/
def Fc.FC_CTL.LOCK : Fld := ⟨0x0, 0, 1, 0, .w1s, .live, 1, 4, false⟩
/-- FC_CTL.ALIVE_EN, bits 1 (R371). -/
def Fc.FC_CTL.ALIVE_EN : Fld := ⟨0x0, 1, 1, 0, .w1s, .live, 1, 4, false⟩
/-- FC_CTL.ALIVE_STOP, bits 2 (R371). -/
def Fc.FC_CTL.ALIVE_STOP : Fld := ⟨0x0, 2, 1, 0, .wo, .live, 1, 4, false⟩
/-- FC_CTL.WDEN, bits 3 (R371). -/
def Fc.FC_CTL.WDEN : Fld := ⟨0x0, 3, 1, 0, .rwo, .live, 1, 4, false⟩
/-- FC_CTL.CONSEQ_W, bits 15:8 (R371). -/
def Fc.FC_CTL.CONSEQ_W : Fld := ⟨0x0, 8, 8, 20, .rw, .live, 1, 4, false⟩
/-- FC_STAT.FLATCH, bits 0 (R371). -/
def Fc.FC_STAT.FLATCH : Fld := ⟨0x4, 0, 1, 0, .ro, .none, 1, 4, true⟩
/-- FC_STAT.ALIVE_RUN, bits 1 (R371). -/
def Fc.FC_STAT.ALIVE_RUN : Fld := ⟨0x4, 1, 1, 0, .ro, .none, 1, 4, false⟩
/-- FC_STAT.SPRREQ, bits 2 (R371). -/
def Fc.FC_STAT.SPRREQ : Fld := ⟨0x4, 2, 1, 0, .ro, .none, 1, 4, false⟩
/-- FC_STAT.LOCKED, bits 3 (R371). -/
def Fc.FC_STAT.LOCKED : Fld := ⟨0x4, 3, 1, 0, .ro, .none, 1, 4, false⟩
/-- FC_STAT.INJ_MISMATCH, bits 4 (R371). -/
def Fc.FC_STAT.INJ_MISMATCH : Fld := ⟨0x4, 4, 1, 0, .w1c, .none, 1, 4, false⟩
/-- FC_STAT.LOGOVF, bits 5 (R371). -/
def Fc.FC_STAT.LOGOVF : Fld := ⟨0x4, 5, 1, 0, .w1c, .none, 1, 4, false⟩
/-- FC_STAT.ALIVE_CAUSE, bits 10:8 (R371). -/
def Fc.FC_STAT.ALIVE_CAUSE : Fld := ⟨0x4, 8, 3, 0, .ro, .none, 1, 4, false⟩
/-- FC_RSTCAUSE.SRC, bits 8:0 (R371). -/
def Fc.FC_RSTCAUSE.SRC : Fld := ⟨0x8, 0, 9, 0, .ro, .none, 1, 4, true⟩
/-- FC_RSTCAUSE.VALID, bits 9 (R371). -/
def Fc.FC_RSTCAUSE.VALID : Fld := ⟨0x8, 9, 1, 0, .ro, .none, 1, 4, false⟩
/-- FC_RSTCAUSE.ESC, bits 10 (R371). -/
def Fc.FC_RSTCAUSE.ESC : Fld := ⟨0x8, 10, 1, 0, .ro, .none, 1, 4, false⟩
/-- FC_FFIRST.SRC, bits 8:0 (R371). -/
def Fc.FC_FFIRST.SRC : Fld := ⟨0xC, 0, 9, 0, .ro, .none, 1, 4, true⟩
/-- FC_FFIRST.VALID, bits 31 (R371). -/
def Fc.FC_FFIRST.VALID : Fld := ⟨0xC, 31, 1, 0, .ro, .none, 1, 4, false⟩
/-- FC_FSEC.SEC, bits 31:0 (R371). -/
def Fc.FC_FSEC.SEC : Fld := ⟨0x10, 0, 32, 0, .ro, .none, 1, 4, false⟩
/-- FC_FNS.NS, bits 31:0 (R371). -/
def Fc.FC_FNS.NS : Fld := ⟨0x14, 0, 32, 0, .ro, .none, 1, 4, false⟩
/-- WD_CTL.WD_TO, bits 15:0 (R371). -/
def Fc.WD_CTL.WD_TO : Fld := ⟨0x18, 0, 16, 100, .rw, .live, 1, 4, false⟩
/-- WD_KICK.KEY, bits 7:0 (R371). -/
def Fc.WD_KICK.KEY : Fld := ⟨0x1C, 0, 8, 0, .wo, .live, 1, 4, false⟩
/-- NMIG.MASK, bits 31:0 (R371). -/
def Fc.NMIG.MASK : Fld := ⟨0x20, 0, 32, 0, .rw, .live, 4, 4, false⟩
/-- FLOG_INFO.SRC, bits 8:0 (R371). -/
def Fc.FLOG_INFO.SRC : Fld := ⟨0x30, 0, 9, 0, .ro, .none, 1, 4, false⟩
/-- FLOG_INFO.CONSEQ, bits 9 (R371). -/
def Fc.FLOG_INFO.CONSEQ : Fld := ⟨0x30, 9, 1, 0, .ro, .none, 1, 4, false⟩
/-- FLOG_INFO.INJ, bits 10 (R371). -/
def Fc.FLOG_INFO.INJ : Fld := ⟨0x30, 10, 1, 0, .ro, .none, 1, 4, false⟩
/-- FLOG_INFO.ESC, bits 11 (R371). -/
def Fc.FLOG_INFO.ESC : Fld := ⟨0x30, 11, 1, 0, .ro, .none, 1, 4, false⟩
/-- FLOG_INFO.MISM, bits 12 (R371). -/
def Fc.FLOG_INFO.MISM : Fld := ⟨0x30, 12, 1, 0, .ro, .none, 1, 4, false⟩
/-- FLOG_INFO.VALID, bits 31 (R371). -/
def Fc.FLOG_INFO.VALID : Fld := ⟨0x30, 31, 1, 0, .ro, .none, 1, 4, false⟩
/-- FLOG_SEC.SEC, bits 31:0 (R371). -/
def Fc.FLOG_SEC.SEC : Fld := ⟨0x34, 0, 32, 0, .ro, .none, 1, 4, false⟩
/-- FLOG_NS.NS, bits 31:0 (R371). -/
def Fc.FLOG_NS.NS : Fld := ⟨0x38, 0, 32, 0, .ro, .none, 1, 4, false⟩
/-- FLOG_POP.POP, bits 0 (R371). -/
def Fc.FLOG_POP.POP : Fld := ⟨0x3C, 0, 1, 0, .wo, .live, 1, 4, false⟩
/-- FLOG_CNT.DEPTH, bits 5:0 (R371). -/
def Fc.FLOG_CNT.DEPTH : Fld := ⟨0x40, 0, 6, 0, .ro, .none, 1, 4, false⟩
/-- FLOG_CNT.LOST, bits 31:16 (R371). -/
def Fc.FLOG_CNT.LOST : Fld := ⟨0x40, 16, 16, 0, .ro, .none, 1, 4, false⟩
/-- FS_CLR.CLR, bits 0 (R371). -/
def Fc.FS_CLR.CLR : Fld := ⟨0x44, 0, 1, 0, .wo, .live, 1, 4, false⟩
/-- INJ_CTL.SRC, bits 8:0 (R371). -/
def Fc.INJ_CTL.SRC : Fld := ⟨0x50, 0, 9, 0, .rw, .live, 1, 4, false⟩
/-- INJ_CTL.KIND, bits 10:9 (R371). -/
def Fc.INJ_CTL.KIND : Fld := ⟨0x50, 9, 2, 0, .rw, .live, 1, 4, false⟩
/-- INJ_CTL.REACT, bits 11 (R371). -/
def Fc.INJ_CTL.REACT : Fld := ⟨0x50, 11, 1, 0, .rw, .live, 1, 4, false⟩
/-- INJ_CTL.ARM, bits 12 (R371). -/
def Fc.INJ_CTL.ARM : Fld := ⟨0x50, 12, 1, 0, .wo, .live, 1, 4, false⟩
/-- INJ_STAT.BUSY, bits 0 (R371). -/
def Fc.INJ_STAT.BUSY : Fld := ⟨0x54, 0, 1, 0, .ro, .none, 1, 4, false⟩
/-- INJ_STAT.DONE, bits 1 (R371). -/
def Fc.INJ_STAT.DONE : Fld := ⟨0x54, 1, 1, 0, .w1c, .none, 1, 4, false⟩
/-- INJ_STAT.MATCH, bits 2 (R371). -/
def Fc.INJ_STAT.MATCH : Fld := ⟨0x54, 2, 1, 0, .w1c, .none, 1, 4, false⟩
/-- INJ_STAT.MISMATCH, bits 3 (R371). -/
def Fc.INJ_STAT.MISMATCH : Fld := ⟨0x54, 3, 1, 0, .w1c, .none, 1, 4, false⟩
/-- INJ_STAT.TIMEOUT, bits 4 (R371). -/
def Fc.INJ_STAT.TIMEOUT : Fld := ⟨0x54, 4, 1, 0, .w1c, .none, 1, 4, false⟩
/-- INJ_STAT.REJ, bits 5 (R371). -/
def Fc.INJ_STAT.REJ : Fld := ⟨0x54, 5, 1, 0, .w1c, .none, 1, 4, false⟩
/-- FLT_PEND.PEND, bits 31:0 (R371). -/
def Fc.FLT_PEND.PEND : Fld := ⟨0x100, 0, 32, 0, .w1c, .none, 16, 4, false⟩
/-- FS_CFG.IRQ, bits 0 (R371). -/
def Fc.FS_CFG.IRQ : Fld := ⟨0x1000, 0, 1, 1, .rw, .live, 512, 4, false⟩
/-- FS_CFG.LINE, bits 4:1 (R371). -/
def Fc.FS_CFG.LINE : Fld := ⟨0x1000, 1, 4, 0, .rw, .live, 512, 4, false⟩
/-- FS_CFG.NMI, bits 5 (R371). -/
def Fc.FS_CFG.NMI : Fld := ⟨0x1000, 5, 1, 0, .rw, .live, 512, 4, false⟩
/-- FS_CFG.NMIG, bits 7:6 (R371). -/
def Fc.FS_CFG.NMIG : Fld := ⟨0x1000, 6, 2, 0, .rw, .live, 512, 4, false⟩
/-- FS_CFG.BRST, bits 8 (R371). -/
def Fc.FS_CFG.BRST : Fld := ⟨0x1000, 8, 1, 0, .rw, .live, 512, 4, false⟩
/-- FS_CFG.CRST, bits 9 (R371). -/
def Fc.FS_CFG.CRST : Fld := ⟨0x1000, 9, 1, 0, .rw, .live, 512, 4, false⟩
/-- FS_CFG.ASTOP, bits 10 (R371). -/
def Fc.FS_CFG.ASTOP : Fld := ⟨0x1000, 10, 1, 0, .rw, .live, 512, 4, false⟩
/-- FS_CFG.CLASS, bits 13:12 (R371). -/
def Fc.FS_CFG.CLASS : Fld := ⟨0x1000, 12, 2, 0, .ro, .none, 512, 4, true⟩
/-- FS_CFG.INJOK, bits 14 (R371). -/
def Fc.FS_CFG.INJOK : Fld := ⟨0x1000, 14, 1, 0, .ro, .none, 512, 4, true⟩
/-- FS_CFG.HASBLK, bits 15 (R371). -/
def Fc.FS_CFG.HASBLK : Fld := ⟨0x1000, 15, 1, 0, .ro, .none, 512, 4, true⟩
/-- FS_CFG.BLK, bits 21:16 (R371). -/
def Fc.FS_CFG.BLK : Fld := ⟨0x1000, 16, 6, 0, .ro, .none, 512, 4, true⟩
/-- FS_STAT.PEND, bits 0 (R371). -/
def Fc.FS_STAT.PEND : Fld := ⟨0x1800, 0, 1, 0, .w1c, .none, 512, 4, false⟩
/-- FS_STAT.CONSEQ, bits 1 (R371). -/
def Fc.FS_STAT.CONSEQ : Fld := ⟨0x1800, 1, 1, 0, .w1c, .none, 512, 4, false⟩
/-- FS_STAT.INJ, bits 2 (R371). -/
def Fc.FS_STAT.INJ : Fld := ⟨0x1800, 2, 1, 0, .w1c, .none, 512, 4, false⟩
/-- FS_STAT.ESC, bits 3 (R371). -/
def Fc.FS_STAT.ESC : Fld := ⟨0x1800, 3, 1, 0, .w1c, .none, 512, 4, false⟩
/-- FS_STAT.COUNT, bits 31:16 (R371). -/
def Fc.FS_STAT.COUNT : Fld := ⟨0x1800, 16, 16, 0, .ro, .none, 512, 4, false⟩
/-- CF_MAP.FLT, bits 31:0 (R371). -/
def Fc.CF_MAP.FLT : Fld := ⟨0x3000, 0, 32, 0, .ro, .none, 192, 4, false⟩

/-- Every field of the fault collector table (R371), with its name. -/
def Fc.fields : List Fld :=
  [Fc.FC_CTL.LOCK, Fc.FC_CTL.ALIVE_EN, Fc.FC_CTL.ALIVE_STOP, Fc.FC_CTL.WDEN, Fc.FC_CTL.CONSEQ_W, Fc.FC_STAT.FLATCH, Fc.FC_STAT.ALIVE_RUN, Fc.FC_STAT.SPRREQ, Fc.FC_STAT.LOCKED, Fc.FC_STAT.INJ_MISMATCH, Fc.FC_STAT.LOGOVF, Fc.FC_STAT.ALIVE_CAUSE, Fc.FC_RSTCAUSE.SRC, Fc.FC_RSTCAUSE.VALID, Fc.FC_RSTCAUSE.ESC, Fc.FC_FFIRST.SRC, Fc.FC_FFIRST.VALID, Fc.FC_FSEC.SEC, Fc.FC_FNS.NS, Fc.WD_CTL.WD_TO, Fc.WD_KICK.KEY, Fc.NMIG.MASK, Fc.FLOG_INFO.SRC, Fc.FLOG_INFO.CONSEQ] ++
  [Fc.FLOG_INFO.INJ, Fc.FLOG_INFO.ESC, Fc.FLOG_INFO.MISM, Fc.FLOG_INFO.VALID, Fc.FLOG_SEC.SEC, Fc.FLOG_NS.NS, Fc.FLOG_POP.POP, Fc.FLOG_CNT.DEPTH, Fc.FLOG_CNT.LOST, Fc.FS_CLR.CLR, Fc.INJ_CTL.SRC, Fc.INJ_CTL.KIND, Fc.INJ_CTL.REACT, Fc.INJ_CTL.ARM, Fc.INJ_STAT.BUSY, Fc.INJ_STAT.DONE, Fc.INJ_STAT.MATCH, Fc.INJ_STAT.MISMATCH, Fc.INJ_STAT.TIMEOUT, Fc.INJ_STAT.REJ, Fc.FLT_PEND.PEND, Fc.FS_CFG.IRQ, Fc.FS_CFG.LINE, Fc.FS_CFG.NMI] ++
  [Fc.FS_CFG.NMIG, Fc.FS_CFG.BRST, Fc.FS_CFG.CRST, Fc.FS_CFG.ASTOP, Fc.FS_CFG.CLASS, Fc.FS_CFG.INJOK, Fc.FS_CFG.HASBLK, Fc.FS_CFG.BLK, Fc.FS_STAT.PEND, Fc.FS_STAT.CONSEQ, Fc.FS_STAT.INJ, Fc.FS_STAT.ESC, Fc.FS_STAT.COUNT, Fc.CF_MAP.FLT]

/-! ## safety registers (R392) -/
/-- SAFE_CTL.SPR_REQ, bits 0 (R392). -/
def Saf.SAFE_CTL.SPR_REQ : Fld := ⟨0x0, 0, 1, 0, .wo, .live, 1, 4, false⟩
/-- SAFE_CTL.SRS_REQ, bits 1 (R392). -/
def Saf.SAFE_CTL.SRS_REQ : Fld := ⟨0x0, 1, 1, 0, .wo, .live, 1, 4, false⟩
/-- SAFE_CTL.SPR_REL, bits 2 (R392). -/
def Saf.SAFE_CTL.SPR_REL : Fld := ⟨0x0, 2, 1, 0, .wo, .live, 1, 4, false⟩
/-- SAFE_CTL.ARM, bits 3 (R392). -/
def Saf.SAFE_CTL.ARM : Fld := ⟨0x0, 3, 1, 0, .rwo, .live, 1, 4, false⟩
/-- SAFE_CTL.SFEN, bits 4 (R392). -/
def Saf.SAFE_CTL.SFEN : Fld := ⟨0x0, 4, 1, 0, .rw, .held, 1, 4, false⟩
/-- SAFE_CTL.MISACT, bits 5 (R392). -/
def Saf.SAFE_CTL.MISACT : Fld := ⟨0x0, 5, 1, 1, .rw, .held, 1, 4, false⟩
/-- SAFE_CTL.NETACT, bits 6 (R392). -/
def Saf.SAFE_CTL.NETACT : Fld := ⟨0x0, 6, 1, 0, .rw, .held, 1, 4, false⟩
/-- SAFE_CTL.STOPDLY, bits 12:8 (R392). -/
def Saf.SAFE_CTL.STOPDLY : Fld := ⟨0x0, 8, 5, 14, .rw, .held, 1, 4, false⟩
/-- SAFE_CTL.BRKDLY, bits 23:16 (R392). -/
def Saf.SAFE_CTL.BRKDLY : Fld := ⟨0x0, 16, 8, 0, .rw, .held, 1, 4, false⟩
/-- SAFE_CTL.BRKMIN, bits 31:24 (R392). -/
def Saf.SAFE_CTL.BRKMIN : Fld := ⟨0x0, 24, 8, 10, .rw, .held, 1, 4, false⟩
/-- SAFE_STAT.SPR, bits 0 (R392). -/
def Saf.SAFE_STAT.SPR : Fld := ⟨0x4, 0, 1, 1, .ro, .none, 1, 4, false⟩
/-- SAFE_STAT.SRS, bits 1 (R392). -/
def Saf.SAFE_STAT.SRS : Fld := ⟨0x4, 1, 1, 0, .ro, .none, 1, 4, false⟩
/-- SAFE_STAT.ARMED, bits 2 (R392). -/
def Saf.SAFE_STAT.ARMED : Fld := ⟨0x4, 2, 1, 0, .ro, .none, 1, 4, false⟩
/-- SAFE_STAT.NET, bits 4:3 (R392). -/
def Saf.SAFE_STAT.NET : Fld := ⟨0x4, 3, 2, 0, .ro, .none, 1, 4, false⟩
/-- SAFE_STAT.SPRCAUSE, bits 8:5 (R392). -/
def Saf.SAFE_STAT.SPRCAUSE : Fld := ⟨0x4, 5, 4, 0, .ro, .none, 1, 4, false⟩
/-- SAFE_STAT.SRSCAUSE, bits 11:9 (R392). -/
def Saf.SAFE_STAT.SRSCAUSE : Fld := ⟨0x4, 9, 3, 0, .ro, .none, 1, 4, false⟩
/-- SAFE_STAT.HELD_WR, bits 12 (R392). -/
def Saf.SAFE_STAT.HELD_WR : Fld := ⟨0x4, 12, 1, 0, .w1c, .none, 1, 4, false⟩
/-- SAFE_STAT.REL_REJ, bits 13 (R392). -/
def Saf.SAFE_STAT.REL_REJ : Fld := ⟨0x4, 13, 1, 0, .w1c, .none, 1, 4, false⟩
/-- SAFE_STAT.CFG_REJ, bits 14 (R392). -/
def Saf.SAFE_STAT.CFG_REJ : Fld := ⟨0x4, 14, 1, 0, .w1c, .none, 1, 4, false⟩
/-- SAFE_STAT.NOPERM, bits 15 (R392). -/
def Saf.SAFE_STAT.NOPERM : Fld := ⟨0x4, 15, 1, 0, .w1c, .none, 1, 4, false⟩
/-- SAFE_STAT.STIN, bits 17:16 (R392). -/
def Saf.SAFE_STAT.STIN : Fld := ⟨0x4, 16, 2, 0, .ro, .none, 1, 4, true⟩
/-- SAFE_STAT.STOUT, bits 19:18 (R392). -/
def Saf.SAFE_STAT.STOUT : Fld := ⟨0x4, 18, 2, 0, .ro, .none, 1, 4, false⟩
/-- SAFE_STAT.BRK, bits 20 (R392). -/
def Saf.SAFE_STAT.BRK : Fld := ⟨0x4, 20, 1, 0, .ro, .none, 1, 4, false⟩
/-- SAFE_STAT.DISC, bits 21 (R392). -/
def Saf.SAFE_STAT.DISC : Fld := ⟨0x4, 21, 1, 0, .ro, .none, 1, 4, false⟩
/-- REL_CAUSE.CAUSE, bits 7:0 (R392). -/
def Saf.REL_CAUSE.CAUSE : Fld := ⟨0x8, 0, 8, 0, .ro, .none, 1, 4, false⟩
/-- SRS_CFG.TRAMP, bits 10:0 (R392). -/
def Saf.SRS_CFG.TRAMP : Fld := ⟨0x10, 0, 11, 200, .rw, .held, 1, 4, false⟩
/-- SRS_CFG.VCNT, bits 15:12 (R392). -/
def Saf.SRS_CFG.VCNT : Fld := ⟨0x10, 12, 4, 2, .rw, .held, 1, 4, false⟩
/-- SRS_CFG.SRSTO, bits 23:16 (R392). -/
def Saf.SRS_CFG.SRSTO : Fld := ⟨0x10, 16, 8, 8, .rw, .held, 1, 4, false⟩
/-- SRS_K.K, bits 31:0 (R392). -/
def Saf.SRS_K.K : Fld := ⟨0x14, 0, 32, 0, .ro, .none, 1, 4, false⟩
/-- SRS_VIOL.ENTRY, bits 3:0 (R392). -/
def Saf.SRS_VIOL.ENTRY : Fld := ⟨0x18, 0, 4, 0, .ro, .none, 1, 4, false⟩
/-- SRS_VIOL.FILL, bits 31:4 (R392). -/
def Saf.SRS_VIOL.FILL : Fld := ⟨0x18, 4, 28, 0, .ro, .none, 1, 4, false⟩
/-- DEG_CFG.DEG_LIM, bits 15:0 (R392). -/
def Saf.DEG_CFG.DEG_LIM : Fld := ⟨0x20, 0, 16, 60, .rw, .held, 1, 4, false⟩
/-- DEG_CFG.RECOV_N, bits 23:16 (R392). -/
def Saf.DEG_CFG.RECOV_N : Fld := ⟨0x20, 16, 8, 100, .rw, .held, 1, 4, false⟩
/-- DEG_T.SEC, bits 15:0 (R392). -/
def Saf.DEG_T.SEC : Fld := ⟨0x24, 0, 16, 0, .ro, .none, 1, 4, false⟩
/-- STIN_CFG.STFILT, bits 7:0 (R392). -/
def Saf.STIN_CFG.STFILT : Fld := ⟨0x28, 0, 8, 2, .rw, .held, 1, 4, false⟩
/-- STIN_CFG.DISC_T, bits 23:16 (R392). -/
def Saf.STIN_CFG.DISC_T : Fld := ⟨0x28, 16, 8, 10, .rw, .held, 1, 4, false⟩
/-- SF_CONN.CONN, bits 31:0 (R392). -/
def Saf.SF_CONN.CONN : Fld := ⟨0x30, 0, 32, 0, .rw, .held, 1, 4, false⟩
/-- SF_TCONN.CONN, bits 31:0 (R392). -/
def Saf.SF_TCONN.CONN : Fld := ⟨0x34, 0, 32, 0, .rw, .held, 1, 4, false⟩
/-- SF_TIME.SF_WD, bits 7:0 (R392). -/
def Saf.SF_TIME.SF_WD : Fld := ⟨0x38, 0, 8, 10, .rw, .held, 1, 4, false⟩
/-- SF_TIME.PAIRWIN, bits 15:8 (R392). -/
def Saf.SF_TIME.PAIRWIN : Fld := ⟨0x38, 8, 8, 20, .rw, .held, 1, 4, false⟩
/-- SF_TIME.TXPER, bits 23:16 (R392). -/
def Saf.SF_TIME.TXPER : Fld := ⟨0x38, 16, 8, 5, .rw, .held, 1, 4, false⟩
/-- SF_SEQ.SEQ, bits 31:0 (R392). -/
def Saf.SF_SEQ.SEQ : Fld := ⟨0x3C, 0, 32, 0, .ro, .none, 1, 4, false⟩
/-- SF_CNTA.OK, bits 15:0 (R392). -/
def Saf.SF_CNTA.OK : Fld := ⟨0x40, 0, 16, 0, .ro, .none, 1, 4, false⟩
/-- SF_CNTB.OK, bits 15:0 (R392). -/
def Saf.SF_CNTB.OK : Fld := ⟨0x44, 0, 16, 0, .ro, .none, 1, 4, false⟩
/-- SF_CNTA.BAD, bits 31:16 (R392). -/
def Saf.SF_CNTA.BAD : Fld := ⟨0x40, 16, 16, 0, .ro, .none, 1, 4, false⟩
/-- SF_CNTB.BAD, bits 31:16 (R392). -/
def Saf.SF_CNTB.BAD : Fld := ⟨0x44, 16, 16, 0, .ro, .none, 1, 4, false⟩
/-- SF_CNTM.MISMATCH, bits 15:0 (R392). -/
def Saf.SF_CNTM.MISMATCH : Fld := ⟨0x48, 0, 16, 0, .ro, .none, 1, 4, false⟩
/-- SF_CNTM.MISS, bits 31:16 (R392). -/
def Saf.SF_CNTM.MISS : Fld := ⟨0x48, 16, 16, 0, .ro, .none, 1, 4, false⟩
/-- SF_RXDATA.DATA, bits 31:0 (R392). -/
def Saf.SF_RXDATA.DATA : Fld := ⟨0x50, 0, 32, 0, .ro, .none, 6, 4, false⟩
/-- SF_TXDATA.DATA, bits 31:0 (R392). -/
def Saf.SF_TXDATA.DATA : Fld := ⟨0x70, 0, 32, 0, .rw, .live, 6, 4, false⟩
/-- SF_DA_LO.ADDR, bits 31:0 (R392). -/
def Saf.SF_DA_LO.ADDR : Fld := ⟨0x88, 0, 32, 0, .rw, .held, 1, 4, false⟩
/-- SF_DA_HI.ADDR, bits 15:0 (R392). -/
def Saf.SF_DA_HI.ADDR : Fld := ⟨0x8C, 0, 16, 0, .rw, .held, 1, 4, false⟩
/-- MON_CFG.EN, bits 0 (R392). -/
def Saf.MON_CFG.EN : Fld := ⟨0x100, 0, 1, 0, .rw, .held, 16, 8, false⟩
/-- MON_CFG.KDIE, bits 1 (R392). -/
def Saf.MON_CFG.KDIE : Fld := ⟨0x100, 1, 1, 0, .rw, .held, 16, 8, false⟩
/-- MON_CFG.SLOT, bits 14:8 (R392). -/
def Saf.MON_CFG.SLOT : Fld := ⟨0x100, 8, 7, 0, .rw, .held, 16, 8, false⟩
/-- MON_LVL.FLOOR, bits 15:0 (R392). -/
def Saf.MON_LVL.FLOOR : Fld := ⟨0x104, 0, 16, 0, .rw, .held, 16, 8, false⟩
/-- MON_LVL.INIT, bits 31:16 (R392). -/
def Saf.MON_LVL.INIT : Fld := ⟨0x104, 16, 16, 32767, .rw, .held, 16, 8, false⟩

/-- Every field of the safety table (R392), with its name. -/
def Saf.fields : List Fld :=
  [Saf.SAFE_CTL.SPR_REQ, Saf.SAFE_CTL.SRS_REQ, Saf.SAFE_CTL.SPR_REL, Saf.SAFE_CTL.ARM, Saf.SAFE_CTL.SFEN, Saf.SAFE_CTL.MISACT, Saf.SAFE_CTL.NETACT, Saf.SAFE_CTL.STOPDLY, Saf.SAFE_CTL.BRKDLY, Saf.SAFE_CTL.BRKMIN, Saf.SAFE_STAT.SPR, Saf.SAFE_STAT.SRS, Saf.SAFE_STAT.ARMED, Saf.SAFE_STAT.NET, Saf.SAFE_STAT.SPRCAUSE, Saf.SAFE_STAT.SRSCAUSE, Saf.SAFE_STAT.HELD_WR, Saf.SAFE_STAT.REL_REJ, Saf.SAFE_STAT.CFG_REJ, Saf.SAFE_STAT.NOPERM, Saf.SAFE_STAT.STIN, Saf.SAFE_STAT.STOUT, Saf.SAFE_STAT.BRK, Saf.SAFE_STAT.DISC] ++
  [Saf.REL_CAUSE.CAUSE, Saf.SRS_CFG.TRAMP, Saf.SRS_CFG.VCNT, Saf.SRS_CFG.SRSTO, Saf.SRS_K.K, Saf.SRS_VIOL.ENTRY, Saf.SRS_VIOL.FILL, Saf.DEG_CFG.DEG_LIM, Saf.DEG_CFG.RECOV_N, Saf.DEG_T.SEC, Saf.STIN_CFG.STFILT, Saf.STIN_CFG.DISC_T, Saf.SF_CONN.CONN, Saf.SF_TCONN.CONN, Saf.SF_TIME.SF_WD, Saf.SF_TIME.PAIRWIN, Saf.SF_TIME.TXPER, Saf.SF_SEQ.SEQ, Saf.SF_CNTA.OK, Saf.SF_CNTB.OK, Saf.SF_CNTA.BAD, Saf.SF_CNTB.BAD, Saf.SF_CNTM.MISMATCH, Saf.SF_CNTM.MISS] ++
  [Saf.SF_RXDATA.DATA, Saf.SF_TXDATA.DATA, Saf.SF_DA_LO.ADDR, Saf.SF_DA_HI.ADDR, Saf.MON_CFG.EN, Saf.MON_CFG.KDIE, Saf.MON_CFG.SLOT, Saf.MON_LVL.FLOOR, Saf.MON_LVL.INIT]

/-! ## pair registers (R413) -/
/-- PAIR_CTL.PAIR_EN, bits 0 (R413). -/
def Pair.PAIR_CTL.PAIR_EN : Fld := ⟨0x0, 0, 1, 0, .rw, .held, 1, 4, false⟩
/-- PAIR_CTL.TBEN, bits 1 (R413). -/
def Pair.PAIR_CTL.TBEN : Fld := ⟨0x0, 1, 1, 1, .rw, .live, 1, 4, false⟩
/-- PAIR_CTL.HANDOVER, bits 2 (R413). -/
def Pair.PAIR_CTL.HANDOVER : Fld := ⟨0x0, 2, 1, 0, .wo, .live, 1, 4, false⟩
/-- PAIR_CTL.DRILL, bits 3 (R413). -/
def Pair.PAIR_CTL.DRILL : Fld := ⟨0x0, 3, 1, 0, .wo, .live, 1, 4, false⟩
/-- PAIR_CTL.CYCSYNC, bits 4 (R413). -/
def Pair.PAIR_CTL.CYCSYNC : Fld := ⟨0x0, 4, 1, 0, .wo, .live, 1, 4, false⟩
/-- PAIR_CTL.HOLDOFF, bits 15:8 (R413). -/
def Pair.PAIR_CTL.HOLDOFF : Fld := ⟨0x0, 8, 8, 10, .rw, .live, 1, 4, false⟩
/-- PAIR_CTL.STARTWAIT, bits 23:16 (R413). -/
def Pair.PAIR_CTL.STARTWAIT : Fld := ⟨0x0, 16, 8, 10, .rw, .held, 1, 4, false⟩
/-- PAIR_CTL.EPAGE, bits 31:24 (R413). -/
def Pair.PAIR_CTL.EPAGE : Fld := ⟨0x0, 24, 8, 8, .rw, .live, 1, 4, false⟩
/-- PAIR_CFG.GRIDTOL, bits 7:0 (R413). -/
def Pair.PAIR_CFG.GRIDTOL : Fld := ⟨0x4, 0, 8, 40, .rw, .live, 1, 4, false⟩
/-- PAIR_CFG.DRILL_T, bits 15:8 (R413). -/
def Pair.PAIR_CFG.DRILL_T : Fld := ⟨0x4, 8, 8, 10, .rw, .live, 1, 4, false⟩
/-- PAIR_STAT.PSTATE, bits 2:0 (R413). -/
def Pair.PAIR_STAT.PSTATE : Fld := ⟨0x8, 0, 3, 0, .ro, .none, 1, 4, false⟩
/-- PAIR_STAT.PREF, bits 3 (R413). -/
def Pair.PAIR_STAT.PREF : Fld := ⟨0x8, 3, 1, 0, .ro, .none, 1, 4, true⟩
/-- PAIR_STAT.ACTIN, bits 4 (R413). -/
def Pair.PAIR_STAT.ACTIN : Fld := ⟨0x8, 4, 1, 0, .ro, .none, 1, 4, true⟩
/-- PAIR_STAT.PALIVE, bits 5 (R413). -/
def Pair.PAIR_STAT.PALIVE : Fld := ⟨0x8, 5, 1, 0, .ro, .none, 1, 4, false⟩
/-- PAIR_STAT.STBY_OK, bits 6 (R413). -/
def Pair.PAIR_STAT.STBY_OK : Fld := ⟨0x8, 6, 1, 0, .ro, .none, 1, 4, false⟩
/-- PAIR_STAT.PEER_OK, bits 7 (R413). -/
def Pair.PAIR_STAT.PEER_OK : Fld := ⟨0x8, 7, 1, 0, .ro, .none, 1, 4, false⟩
/-- PAIR_STAT.SHDW_OK, bits 8 (R413). -/
def Pair.PAIR_STAT.SHDW_OK : Fld := ⟨0x8, 8, 1, 0, .ro, .none, 1, 4, false⟩
/-- PAIR_STAT.EPV, bits 9 (R413). -/
def Pair.PAIR_STAT.EPV : Fld := ⟨0x8, 9, 1, 0, .ro, .none, 1, 4, false⟩
/-- PAIR_STAT.MIRUP, bits 11:10 (R413). -/
def Pair.PAIR_STAT.MIRUP : Fld := ⟨0x8, 10, 2, 0, .ro, .none, 1, 4, false⟩
/-- PAIR_STAT.HELD_WR, bits 12 (R413). -/
def Pair.PAIR_STAT.HELD_WR : Fld := ⟨0x8, 12, 1, 0, .w1c, .none, 1, 4, false⟩
/-- PAIR_STAT.CFG_REJ, bits 13 (R413). -/
def Pair.PAIR_STAT.CFG_REJ : Fld := ⟨0x8, 13, 1, 0, .w1c, .none, 1, 4, false⟩
/-- PAIR_STAT.CYCMIS, bits 14 (R413). -/
def Pair.PAIR_STAT.CYCMIS : Fld := ⟨0x8, 14, 1, 0, .ro, .none, 1, 4, false⟩
/-- PAIR_STAT.CFGMIS, bits 15 (R413). -/
def Pair.PAIR_STAT.CFGMIS : Fld := ⟨0x8, 15, 1, 0, .ro, .none, 1, 4, false⟩
/-- PAIR_STAT.CONFLICT, bits 16 (R413). -/
def Pair.PAIR_STAT.CONFLICT : Fld := ⟨0x8, 16, 1, 0, .w1c, .none, 1, 4, false⟩
/-- PAIR_STAT.HOABORT, bits 17 (R413). -/
def Pair.PAIR_STAT.HOABORT : Fld := ⟨0x8, 17, 1, 0, .w1c, .none, 1, 4, false⟩
/-- PAIR_STAT.DRFAIL, bits 18 (R413). -/
def Pair.PAIR_STAT.DRFAIL : Fld := ⟨0x8, 18, 1, 0, .w1c, .none, 1, 4, false⟩
/-- PAIR_STAT.DRBUSY, bits 19 (R413). -/
def Pair.PAIR_STAT.DRBUSY : Fld := ⟨0x8, 19, 1, 0, .ro, .none, 1, 4, false⟩
/-- PAIR_GRID.GRIDOFS, bits 15:0 (R413). -/
def Pair.PAIR_GRID.GRIDOFS : Fld := ⟨0xC, 0, 16, 0, .ro, .none, 1, 4, false⟩
/-- PAIR_EPOCH.SEQ, bits 15:0 (R413). -/
def Pair.PAIR_EPOCH.SEQ : Fld := ⟨0x10, 0, 16, 0, .ro, .none, 1, 4, false⟩
/-- PAIR_EPOCH.AGE, bits 23:16 (R413). -/
def Pair.PAIR_EPOCH.AGE : Fld := ⟨0x10, 16, 8, 255, .ro, .none, 1, 4, false⟩
/-- PAIR_CNT0.EPBAD, bits 15:0 (R413). -/
def Pair.PAIR_CNT0.EPBAD : Fld := ⟨0x14, 0, 16, 0, .ro, .none, 1, 4, false⟩
/-- PAIR_CNT0.PRLOST, bits 31:16 (R413). -/
def Pair.PAIR_CNT0.PRLOST : Fld := ⟨0x14, 16, 16, 0, .ro, .none, 1, 4, false⟩
/-- PAIR_CNT1.TAKEOVER, bits 15:0 (R413). -/
def Pair.PAIR_CNT1.TAKEOVER : Fld := ⟨0x18, 0, 16, 0, .ro, .none, 1, 4, false⟩
/-- PAIR_CNT1.HANDOVER, bits 31:16 (R413). -/
def Pair.PAIR_CNT1.HANDOVER : Fld := ⟨0x18, 16, 16, 0, .ro, .none, 1, 4, false⟩
/-- PAIR_LAST.CAUSE, bits 2:0 (R413). -/
def Pair.PAIR_LAST.CAUSE : Fld := ⟨0x1C, 0, 3, 0, .ro, .none, 1, 4, false⟩
/-- PAIR_LAST.SPRT, bits 3 (R413). -/
def Pair.PAIR_LAST.SPRT : Fld := ⟨0x1C, 3, 1, 0, .ro, .none, 1, 4, false⟩
/-- PAIR_LAST_SEC.SEC, bits 31:0 (R413). -/
def Pair.PAIR_LAST_SEC.SEC : Fld := ⟨0x20, 0, 32, 0, .ro, .none, 1, 4, false⟩
/-- PAIR_LAST_NS.NS, bits 31:0 (R413). -/
def Pair.PAIR_LAST_NS.NS : Fld := ⟨0x24, 0, 32, 0, .ro, .none, 1, 4, false⟩
/-- MIR_LIST.IDX, bits 11:0 (R413). -/
def Pair.MIR_LIST.IDX : Fld := ⟨0x100, 0, 12, 0, .rw, .held, 256, 4, false⟩
/-- MIR_LIST.KIND, bits 12 (R413). -/
def Pair.MIR_LIST.KIND : Fld := ⟨0x100, 12, 1, 0, .rw, .held, 256, 4, false⟩
/-- MIR_LIST.KDIE, bits 13 (R413). -/
def Pair.MIR_LIST.KDIE : Fld := ⟨0x100, 13, 1, 0, .rw, .held, 256, 4, false⟩
/-- MIR_LIST.V, bits 31 (R413). -/
def Pair.MIR_LIST.V : Fld := ⟨0x100, 31, 1, 0, .rw, .held, 256, 4, false⟩
/-- PAIR_TDLY.DLY, bits 15:0 (R413). -/
def Pair.PAIR_TDLY.DLY : Fld := ⟨0x800, 0, 16, 0, .rw, .held, 64, 4, false⟩

/-- Every field of the pair table (R413), with its name. -/
def Pair.fields : List Fld :=
  [Pair.PAIR_CTL.PAIR_EN, Pair.PAIR_CTL.TBEN, Pair.PAIR_CTL.HANDOVER, Pair.PAIR_CTL.DRILL, Pair.PAIR_CTL.CYCSYNC, Pair.PAIR_CTL.HOLDOFF, Pair.PAIR_CTL.STARTWAIT, Pair.PAIR_CTL.EPAGE, Pair.PAIR_CFG.GRIDTOL, Pair.PAIR_CFG.DRILL_T, Pair.PAIR_STAT.PSTATE, Pair.PAIR_STAT.PREF, Pair.PAIR_STAT.ACTIN, Pair.PAIR_STAT.PALIVE, Pair.PAIR_STAT.STBY_OK, Pair.PAIR_STAT.PEER_OK, Pair.PAIR_STAT.SHDW_OK, Pair.PAIR_STAT.EPV, Pair.PAIR_STAT.MIRUP, Pair.PAIR_STAT.HELD_WR, Pair.PAIR_STAT.CFG_REJ, Pair.PAIR_STAT.CYCMIS, Pair.PAIR_STAT.CFGMIS, Pair.PAIR_STAT.CONFLICT] ++
  [Pair.PAIR_STAT.HOABORT, Pair.PAIR_STAT.DRFAIL, Pair.PAIR_STAT.DRBUSY, Pair.PAIR_GRID.GRIDOFS, Pair.PAIR_EPOCH.SEQ, Pair.PAIR_EPOCH.AGE, Pair.PAIR_CNT0.EPBAD, Pair.PAIR_CNT0.PRLOST, Pair.PAIR_CNT1.TAKEOVER, Pair.PAIR_CNT1.HANDOVER, Pair.PAIR_LAST.CAUSE, Pair.PAIR_LAST.SPRT, Pair.PAIR_LAST_SEC.SEC, Pair.PAIR_LAST_NS.NS, Pair.MIR_LIST.IDX, Pair.MIR_LIST.KIND, Pair.MIR_LIST.KDIE, Pair.MIR_LIST.V, Pair.PAIR_TDLY.DLY]

/-! ## Almanac registers (R428) -/
/-- ALM_CTL.EN, bits 0 (R428). -/
def Alm.ALM_CTL.EN : Fld := ⟨0x0, 0, 1, 0, .rw, .live, 1, 4, false⟩
/-- ALM_CTL.FREEZE, bits 1 (R428). -/
def Alm.ALM_CTL.FREEZE : Fld := ⟨0x0, 1, 1, 0, .rw, .live, 1, 4, false⟩
/-- ALM_CTL.AUTOINC, bits 2 (R428). -/
def Alm.ALM_CTL.AUTOINC : Fld := ⟨0x0, 2, 1, 0, .rw, .live, 1, 4, false⟩
/-- ALM_CTL.RESTORE, bits 3 (R428). -/
def Alm.ALM_CTL.RESTORE : Fld := ⟨0x0, 3, 1, 0, .wo, .live, 1, 4, false⟩
/-- ALM_CTL.CLRREC, bits 4 (R428). -/
def Alm.ALM_CTL.CLRREC : Fld := ⟨0x0, 4, 1, 0, .wo, .live, 1, 4, false⟩
/-- ALM_CTL.CLRALL, bits 5 (R428). -/
def Alm.ALM_CTL.CLRALL : Fld := ⟨0x0, 5, 1, 0, .wo, .live, 1, 4, false⟩
/-- ALM_CTL.FLUSHNOW, bits 6 (R428). -/
def Alm.ALM_CTL.FLUSHNOW : Fld := ⟨0x0, 6, 1, 0, .wo, .live, 1, 4, false⟩
/-- ALM_STAT.RUN, bits 0 (R428). -/
def Alm.ALM_STAT.RUN : Fld := ⟨0x4, 0, 1, 0, .ro, .none, 1, 4, false⟩
/-- ALM_STAT.FRZ, bits 1 (R428). -/
def Alm.ALM_STAT.FRZ : Fld := ⟨0x4, 1, 1, 0, .ro, .none, 1, 4, false⟩
/-- ALM_STAT.BGBUSY, bits 2 (R428). -/
def Alm.ALM_STAT.BGBUSY : Fld := ⟨0x4, 2, 1, 0, .ro, .none, 1, 4, false⟩
/-- ALM_STAT.FFBUSY, bits 3 (R428). -/
def Alm.ALM_STAT.FFBUSY : Fld := ⟨0x4, 3, 1, 0, .ro, .none, 1, 4, false⟩
/-- ALM_STAT.FFDONE, bits 4 (R428). -/
def Alm.ALM_STAT.FFDONE : Fld := ⟨0x4, 4, 1, 0, .w1c, .none, 1, 4, false⟩
/-- ALM_STAT.RSTBUSY, bits 5 (R428). -/
def Alm.ALM_STAT.RSTBUSY : Fld := ⟨0x4, 5, 1, 0, .ro, .none, 1, 4, false⟩
/-- ALM_STAT.RSTDONE, bits 6 (R428). -/
def Alm.ALM_STAT.RSTDONE : Fld := ⟨0x4, 6, 1, 0, .w1c, .none, 1, 4, false⟩
/-- ALM_STAT.FLERR, bits 7 (R428). -/
def Alm.ALM_STAT.FLERR : Fld := ⟨0x4, 7, 1, 0, .w1c, .none, 1, 4, false⟩
/-- ALM_STAT.FRZBRK, bits 8 (R428). -/
def Alm.ALM_STAT.FRZBRK : Fld := ⟨0x4, 8, 1, 0, .w1c, .none, 1, 4, false⟩
/-- ALM_STAT.XLOST, bits 9 (R428). -/
def Alm.ALM_STAT.XLOST : Fld := ⟨0x4, 9, 1, 0, .w1c, .none, 1, 4, false⟩
/-- ALM_STAT.HELD_WR, bits 10 (R428). -/
def Alm.ALM_STAT.HELD_WR : Fld := ⟨0x4, 10, 1, 0, .w1c, .none, 1, 4, false⟩
/-- ALM_STAT.CFG_REJ, bits 11 (R428). -/
def Alm.ALM_STAT.CFG_REJ : Fld := ⟨0x4, 11, 1, 0, .w1c, .none, 1, 4, false⟩
/-- ALM_STAT.RAMUE, bits 12 (R428). -/
def Alm.ALM_STAT.RAMUE : Fld := ⟨0x4, 12, 1, 0, .w1c, .none, 1, 4, false⟩
/-- ALM_MBASE.BASE, bits 31:16 (R428). -/
def Alm.ALM_MBASE.BASE : Fld := ⟨0x8, 16, 16, 0, .rw, .held, 1, 4, false⟩
/-- ALM_CUR.REC, bits 10:0 (R428). -/
def Alm.ALM_CUR.REC : Fld := ⟨0xC, 0, 11, 0, .rw, .live, 1, 4, false⟩
/-- ALM_CNT0.QLOST, bits 15:0 (R428). -/
def Alm.ALM_CNT0.QLOST : Fld := ⟨0x10, 0, 16, 0, .ro, .none, 1, 4, false⟩
/-- ALM_CNT0.LOSTINC, bits 31:16 (R428). -/
def Alm.ALM_CNT0.LOSTINC : Fld := ⟨0x10, 16, 16, 0, .ro, .none, 1, 4, false⟩
/-- ALM_CNT1.PASSES, bits 15:0 (R428). -/
def Alm.ALM_CNT1.PASSES : Fld := ⟨0x14, 0, 16, 0, .ro, .none, 1, 4, false⟩
/-- ALM_CNT1.EARLY, bits 31:16 (R428). -/
def Alm.ALM_CNT1.EARLY : Fld := ⟨0x14, 16, 16, 0, .ro, .none, 1, 4, false⟩
/-- ALM_RST.OK, bits 11:0 (R428). -/
def Alm.ALM_RST.OK : Fld := ⟨0x18, 0, 12, 0, .ro, .none, 1, 4, false⟩
/-- ALM_RST.CFGMIS, bits 27:16 (R428). -/
def Alm.ALM_RST.CFGMIS : Fld := ⟨0x18, 16, 12, 0, .ro, .none, 1, 4, false⟩
/-- ALM_BUF.USED, bits 9:0 (R428). -/
def Alm.ALM_BUF.USED : Fld := ⟨0x1C, 0, 10, 0, .ro, .none, 1, 4, false⟩
/-- ALM_CNTCLR.CLR, bits 0 (R428). -/
def Alm.ALM_CNTCLR.CLR : Fld := ⟨0x20, 0, 1, 0, .wo, .live, 1, 4, false⟩
/-- BIN.COUNT, bits 31:0 (R428). -/
def Alm.BIN.COUNT : Fld := ⟨0x100, 0, 32, 0, .ro, .none, 64, 4, false⟩
/-- MIN.VAL, bits 31:0 (R428). -/
def Alm.MIN.VAL : Fld := ⟨0x200, 0, 32, 0, .ro, .none, 1, 4, false⟩
/-- MAX.VAL, bits 31:0 (R428). -/
def Alm.MAX.VAL : Fld := ⟨0x20C, 0, 32, 0, .ro, .none, 1, 4, false⟩
/-- MIN_TS.SEC, bits 31:0 (R428). -/
def Alm.MIN_TS.SEC : Fld := ⟨0x204, 0, 32, 0, .ro, .none, 1, 4, false⟩
/-- MAX_TS.SEC, bits 31:0 (R428). -/
def Alm.MAX_TS.SEC : Fld := ⟨0x210, 0, 32, 0, .ro, .none, 1, 4, false⟩
/-- MIN_NS.NS, bits 31:0 (R428). -/
def Alm.MIN_NS.NS : Fld := ⟨0x208, 0, 32, 0, .ro, .none, 1, 4, false⟩
/-- MAX_NS.NS, bits 31:0 (R428). -/
def Alm.MAX_NS.NS : Fld := ⟨0x214, 0, 32, 0, .ro, .none, 1, 4, false⟩
/-- WHO.MIN_WHO, bits 12:0 (R428). -/
def Alm.WHO.MIN_WHO : Fld := ⟨0x218, 0, 13, 0, .ro, .none, 1, 4, false⟩
/-- WHO.MINV, bits 14 (R428). -/
def Alm.WHO.MINV : Fld := ⟨0x218, 14, 1, 0, .ro, .none, 1, 4, false⟩
/-- WHO.MAX_WHO, bits 28:16 (R428). -/
def Alm.WHO.MAX_WHO : Fld := ⟨0x218, 16, 13, 0, .ro, .none, 1, 4, false⟩
/-- WHO.MAXV, bits 30 (R428). -/
def Alm.WHO.MAXV : Fld := ⟨0x218, 30, 1, 0, .ro, .none, 1, 4, false⟩
/-- TOTAL.N, bits 31:0 (R428). -/
def Alm.TOTAL.N : Fld := ⟨0x21C, 0, 32, 0, .ro, .none, 1, 4, false⟩
/-- REC_CFG0.ON, bits 0 (R428). -/
def Alm.REC_CFG0.ON : Fld := ⟨0x4000, 0, 1, 0, .rw, .live, 2048, 8, false⟩
/-- REC_CFG0.CLASS, bits 3:1 (R428). -/
def Alm.REC_CFG0.CLASS : Fld := ⟨0x4000, 1, 3, 0, .rw, .held, 2048, 8, false⟩
/-- REC_CFG0.DECIM, bits 7:4 (R428). -/
def Alm.REC_CFG0.DECIM : Fld := ⟨0x4000, 4, 4, 0, .rw, .held, 2048, 8, false⟩
/-- REC_CFG0.SHIFT, bits 12:8 (R428). -/
def Alm.REC_CFG0.SHIFT : Fld := ⟨0x4000, 8, 5, 0, .rw, .held, 2048, 8, false⟩
/-- REC_CFG0.INDEX, bits 26:16 (R428). -/
def Alm.REC_CFG0.INDEX : Fld := ⟨0x4000, 16, 11, 0, .rw, .held, 2048, 8, false⟩
/-- REC_CFG1.BASE, bits 31:0 (R428). -/
def Alm.REC_CFG1.BASE : Fld := ⟨0x4004, 0, 32, 0, .rw, .held, 2048, 8, false⟩

/-- Every field of the Almanac table (R428), with its name. -/
def Alm.fields : List Fld :=
  [Alm.ALM_CTL.EN, Alm.ALM_CTL.FREEZE, Alm.ALM_CTL.AUTOINC, Alm.ALM_CTL.RESTORE, Alm.ALM_CTL.CLRREC, Alm.ALM_CTL.CLRALL, Alm.ALM_CTL.FLUSHNOW, Alm.ALM_STAT.RUN, Alm.ALM_STAT.FRZ, Alm.ALM_STAT.BGBUSY, Alm.ALM_STAT.FFBUSY, Alm.ALM_STAT.FFDONE, Alm.ALM_STAT.RSTBUSY, Alm.ALM_STAT.RSTDONE, Alm.ALM_STAT.FLERR, Alm.ALM_STAT.FRZBRK, Alm.ALM_STAT.XLOST, Alm.ALM_STAT.HELD_WR, Alm.ALM_STAT.CFG_REJ, Alm.ALM_STAT.RAMUE, Alm.ALM_MBASE.BASE, Alm.ALM_CUR.REC, Alm.ALM_CNT0.QLOST, Alm.ALM_CNT0.LOSTINC] ++
  [Alm.ALM_CNT1.PASSES, Alm.ALM_CNT1.EARLY, Alm.ALM_RST.OK, Alm.ALM_RST.CFGMIS, Alm.ALM_BUF.USED, Alm.ALM_CNTCLR.CLR, Alm.BIN.COUNT, Alm.MIN.VAL, Alm.MAX.VAL, Alm.MIN_TS.SEC, Alm.MAX_TS.SEC, Alm.MIN_NS.NS, Alm.MAX_NS.NS, Alm.WHO.MIN_WHO, Alm.WHO.MINV, Alm.WHO.MAX_WHO, Alm.WHO.MAXV, Alm.TOTAL.N, Alm.REC_CFG0.ON, Alm.REC_CFG0.CLASS, Alm.REC_CFG0.DECIM, Alm.REC_CFG0.SHIFT, Alm.REC_CFG0.INDEX, Alm.REC_CFG1.BASE]

/-! ## metering registers (R448) -/
/-- MTR_CTL.EN, bits 0 (R448). -/
def Mtr.MTR_CTL.EN : Fld := ⟨0x0, 0, 1, 0, .rw, .live, 1, 4, false⟩
/-- MTR_CTL.FRESH, bits 1 (R448). -/
def Mtr.MTR_CTL.FRESH : Fld := ⟨0x0, 1, 1, 0, .wo, .live, 1, 4, false⟩
/-- MTR_CTL.INV, bits 2 (R448). -/
def Mtr.MTR_CTL.INV : Fld := ⟨0x0, 2, 1, 0, .rw, .held, 1, 4, false⟩
/-- MTR_CTL.LENMIN, bits 13:8 (R448). -/
def Mtr.MTR_CTL.LENMIN : Fld := ⟨0x0, 8, 6, 15, .rw, .held, 1, 4, false⟩
/-- MTR_SRC.MAID, bits 0 (R448). -/
def Mtr.MTR_SRC.MAID : Fld := ⟨0x4, 0, 1, 0, .rw, .held, 1, 4, false⟩
/-- MTR_SRC.MPAIR, bits 4:1 (R448). -/
def Mtr.MTR_SRC.MPAIR : Fld := ⟨0x4, 1, 4, 0, .rw, .held, 1, 4, false⟩
/-- MTR_SRC.QV, bits 6:5 (R448). -/
def Mtr.MTR_SRC.QV : Fld := ⟨0x4, 5, 2, 0, .rw, .held, 1, 4, false⟩
/-- MTR_SRC.QI, bits 8:7 (R448). -/
def Mtr.MTR_SRC.QI : Fld := ⟨0x4, 7, 2, 1, .rw, .held, 1, 4, false⟩
/-- VSCALE.SCALE, bits 31:0 (R448). -/
def Mtr.VSCALE.SCALE : Fld := ⟨0x8, 0, 32, 0, .rw, .held, 1, 4, false⟩
/-- ISCALE.SCALE, bits 31:0 (R448). -/
def Mtr.ISCALE.SCALE : Fld := ⟨0xC, 0, 32, 0, .rw, .held, 1, 4, false⟩
/-- MTR_OFS.VOFS, bits 15:0 (R448). -/
def Mtr.MTR_OFS.VOFS : Fld := ⟨0x10, 0, 16, 0, .rw, .held, 1, 4, false⟩
/-- MTR_OFS.IOFS, bits 31:16 (R448). -/
def Mtr.MTR_OFS.IOFS : Fld := ⟨0x10, 16, 16, 0, .rw, .held, 1, 4, false⟩
/-- UTCOFS.OFS, bits 15:0 (R448). -/
def Mtr.UTCOFS.OFS : Fld := ⟨0x14, 0, 16, 0, .rw, .held, 1, 4, false⟩
/-- RINGN.N, bits 15:0 (R448). -/
def Mtr.RINGN.N : Fld := ⟨0x18, 0, 16, 16, .rw, .held, 1, 4, false⟩
/-- MTR_MBASE.BASE, bits 31:16 (R448). -/
def Mtr.MTR_MBASE.BASE : Fld := ⟨0x1C, 16, 16, 0, .rw, .held, 1, 4, false⟩
/-- MTR_STAT.RUN, bits 0 (R448). -/
def Mtr.MTR_STAT.RUN : Fld := ⟨0x20, 0, 1, 0, .ro, .none, 1, 4, false⟩
/-- MTR_STAT.COUNTING, bits 1 (R448). -/
def Mtr.MTR_STAT.COUNTING : Fld := ⟨0x20, 1, 1, 0, .ro, .none, 1, 4, false⟩
/-- MTR_STAT.RSTBUSY, bits 2 (R448). -/
def Mtr.MTR_STAT.RSTBUSY : Fld := ⟨0x20, 2, 1, 0, .ro, .none, 1, 4, false⟩
/-- MTR_STAT.NOCKPT, bits 3 (R448). -/
def Mtr.MTR_STAT.NOCKPT : Fld := ⟨0x20, 3, 1, 0, .w1c, .none, 1, 4, false⟩
/-- MTR_STAT.PFBAD, bits 4 (R448). -/
def Mtr.MTR_STAT.PFBAD : Fld := ⟨0x20, 4, 1, 0, .w1c, .none, 1, 4, false⟩
/-- MTR_STAT.SIGFAIL, bits 5 (R448). -/
def Mtr.MTR_STAT.SIGFAIL : Fld := ⟨0x20, 5, 1, 0, .w1c, .none, 1, 4, false⟩
/-- MTR_STAT.MRERR, bits 6 (R448). -/
def Mtr.MTR_STAT.MRERR : Fld := ⟨0x20, 6, 1, 0, .w1c, .none, 1, 4, false⟩
/-- MTR_STAT.HELD_WR, bits 7 (R448). -/
def Mtr.MTR_STAT.HELD_WR : Fld := ⟨0x20, 7, 1, 0, .w1c, .none, 1, 4, false⟩
/-- MTR_STAT.CFG_REJ, bits 8 (R448). -/
def Mtr.MTR_STAT.CFG_REJ : Fld := ⟨0x20, 8, 1, 0, .w1c, .none, 1, 4, false⟩
/-- MTR_CNT.CKSKIP, bits 15:0 (R448). -/
def Mtr.MTR_CNT.CKSKIP : Fld := ⟨0x24, 0, 16, 0, .ro, .none, 1, 4, false⟩
/-- MTR_CNT.OVRPTS, bits 31:16 (R448). -/
def Mtr.MTR_CNT.OVRPTS : Fld := ⟨0x24, 16, 16, 0, .ro, .none, 1, 4, false⟩
/-- MTR_USER.DATA, bits 31:0 (R448). -/
def Mtr.MTR_USER.DATA : Fld := ⟨0x30, 0, 32, 0, .rw, .live, 6, 4, false⟩
/-- IMPORT.E, bits 31:0 (R448). -/
def Mtr.IMPORT.E : Fld := ⟨0x100, 0, 32, 0, .ro, .none, 2, 4, false⟩
/-- EXPORT.E, bits 31:0 (R448). -/
def Mtr.EXPORT.E : Fld := ⟨0x108, 0, 32, 0, .ro, .none, 2, 4, false⟩
/-- RECNO.N, bits 31:0 (R448). -/
def Mtr.RECNO.N : Fld := ⟨0x110, 0, 32, 0, .ro, .none, 2, 4, false⟩
/-- LIVE_V.VAL, bits 31:0 (R448). -/
def Mtr.LIVE_V.VAL : Fld := ⟨0x118, 0, 32, 0, .ro, .none, 1, 4, false⟩
/-- LIVE_I.VAL, bits 31:0 (R448). -/
def Mtr.LIVE_I.VAL : Fld := ⟨0x11C, 0, 32, 0, .ro, .none, 1, 4, false⟩
/-- LIVE_P.VAL, bits 31:0 (R448). -/
def Mtr.LIVE_P.VAL : Fld := ⟨0x120, 0, 32, 0, .ro, .none, 1, 4, false⟩
/-- LAST_BODY.DATA, bits 31:0 (R448). -/
def Mtr.LAST_BODY.DATA : Fld := ⟨0x1000, 0, 32, 0, .ro, .none, 64, 4, false⟩
/-- LAST_SIG.DATA, bits 31:0 (R448). -/
def Mtr.LAST_SIG.DATA : Fld := ⟨0x1400, 0, 32, 0, .ro, .none, 828, 4, false⟩
/-- MPK.DATA, bits 31:0 (R448). -/
def Mtr.MPK.DATA : Fld := ⟨0x2400, 0, 32, 0, .ro, .none, 488, 4, true⟩

/-- Every field of the metering table (R448), with its name. -/
def Mtr.fields : List Fld :=
  [Mtr.MTR_CTL.EN, Mtr.MTR_CTL.FRESH, Mtr.MTR_CTL.INV, Mtr.MTR_CTL.LENMIN, Mtr.MTR_SRC.MAID, Mtr.MTR_SRC.MPAIR, Mtr.MTR_SRC.QV, Mtr.MTR_SRC.QI, Mtr.VSCALE.SCALE, Mtr.ISCALE.SCALE, Mtr.MTR_OFS.VOFS, Mtr.MTR_OFS.IOFS, Mtr.UTCOFS.OFS, Mtr.RINGN.N, Mtr.MTR_MBASE.BASE, Mtr.MTR_STAT.RUN, Mtr.MTR_STAT.COUNTING, Mtr.MTR_STAT.RSTBUSY, Mtr.MTR_STAT.NOCKPT, Mtr.MTR_STAT.PFBAD, Mtr.MTR_STAT.SIGFAIL, Mtr.MTR_STAT.MRERR, Mtr.MTR_STAT.HELD_WR, Mtr.MTR_STAT.CFG_REJ] ++
  [Mtr.MTR_CNT.CKSKIP, Mtr.MTR_CNT.OVRPTS, Mtr.MTR_USER.DATA, Mtr.IMPORT.E, Mtr.EXPORT.E, Mtr.RECNO.N, Mtr.LIVE_V.VAL, Mtr.LIVE_I.VAL, Mtr.LIVE_P.VAL, Mtr.LAST_BODY.DATA, Mtr.LAST_SIG.DATA, Mtr.MPK.DATA]

/-! ## security registers (R449) -/
/-- SEC_STAT.BOOTSLOT, bits 1:0 (R449). -/
def Secu.SEC_STAT.BOOTSLOT : Fld := ⟨0x0, 0, 2, 0, .ro, .none, 1, 4, false⟩
/-- SEC_STAT.KEYSLOT, bits 3:2 (R449). -/
def Secu.SEC_STAT.KEYSLOT : Fld := ⟨0x0, 2, 2, 0, .ro, .none, 1, 4, false⟩
/-- SEC_STAT.BOOTERR, bits 7:4 (R449). -/
def Secu.SEC_STAT.BOOTERR : Fld := ⟨0x0, 4, 4, 0, .ro, .none, 1, 4, false⟩
/-- SEC_STAT.REJ, bits 8 (R449). -/
def Secu.SEC_STAT.REJ : Fld := ⟨0x0, 8, 1, 0, .w1c, .none, 1, 4, false⟩
/-- SEC_SVN.FLOOR, bits 5:0 (R449). -/
def Secu.SEC_SVN.FLOOR : Fld := ⟨0x4, 0, 6, 0, .ro, .none, 1, 4, true⟩
/-- SEC_SVN.IMGSVN, bits 13:8 (R449). -/
def Secu.SEC_SVN.IMGSVN : Fld := ⟨0x4, 8, 6, 0, .ro, .none, 1, 4, false⟩
/-- SEC_CMD.ATTEST, bits 0 (R449). -/
def Secu.SEC_CMD.ATTEST : Fld := ⟨0x8, 0, 1, 0, .wo, .live, 1, 4, false⟩
/-- SEC_CMD.SVN_RAISE, bits 1 (R449). -/
def Secu.SEC_CMD.SVN_RAISE : Fld := ⟨0x8, 1, 1, 0, .wo, .live, 1, 4, false⟩
/-- SEC_CMD.REVOKE, bits 2 (R449). -/
def Secu.SEC_CMD.REVOKE : Fld := ⟨0x8, 2, 1, 0, .wo, .live, 1, 4, false⟩
/-- SEC_CMD.KEY, bits 15:8 (R449). -/
def Secu.SEC_CMD.KEY : Fld := ⟨0x8, 8, 8, 0, .wo, .live, 1, 4, false⟩
/-- SEC_ARG.ARG, bits 5:0 (R449). -/
def Secu.SEC_ARG.ARG : Fld := ⟨0xC, 0, 6, 0, .rw, .live, 1, 4, false⟩
/-- SEC_OTP.PROG, bits 3:0 (R449). -/
def Secu.SEC_OTP.PROG : Fld := ⟨0x10, 0, 4, 0, .ro, .none, 1, 4, true⟩
/-- SEC_OTP.REVOKED, bits 7:4 (R449). -/
def Secu.SEC_OTP.REVOKED : Fld := ⟨0x10, 4, 4, 0, .ro, .none, 1, 4, true⟩
/-- BOOTCNT.N, bits 31:0 (R449). -/
def Secu.BOOTCNT.N : Fld := ⟨0x14, 0, 32, 0, .ro, .none, 1, 4, false⟩
/-- ATT_STAT.BUSY, bits 0 (R449). -/
def Secu.ATT_STAT.BUSY : Fld := ⟨0x18, 0, 1, 0, .ro, .none, 1, 4, false⟩
/-- ATT_STAT.ATT_DONE, bits 1 (R449). -/
def Secu.ATT_STAT.ATT_DONE : Fld := ⟨0x18, 1, 1, 0, .w1c, .none, 1, 4, false⟩
/-- ATT_STAT.REJ, bits 2 (R449). -/
def Secu.ATT_STAT.REJ : Fld := ⟨0x18, 2, 1, 0, .w1c, .none, 1, 4, false⟩
/-- NONCE.DATA, bits 31:0 (R449). -/
def Secu.NONCE.DATA : Fld := ⟨0x20, 0, 32, 0, .rw, .live, 8, 4, false⟩
/-- IMGHASH.DATA, bits 31:0 (R449). -/
def Secu.IMGHASH.DATA : Fld := ⟨0x40, 0, 32, 0, .ro, .none, 8, 4, false⟩
/-- DEVID.ID, bits 31:0 (R449). -/
def Secu.DEVID.ID : Fld := ⟨0x60, 0, 32, 0, .ro, .none, 2, 4, true⟩
/-- RECOVER.GO, bits 0 (R449). -/
def Secu.RECOVER.GO : Fld := ⟨0x100, 0, 1, 0, .wo, .live, 1, 4, false⟩
/-- IDPK.DATA, bits 31:0 (R449). -/
def Secu.IDPK.DATA : Fld := ⟨0x1000, 0, 32, 0, .ro, .none, 488, 4, true⟩
/-- ATT_BODY.DATA, bits 31:0 (R449). -/
def Secu.ATT_BODY.DATA : Fld := ⟨0x3000, 0, 32, 0, .ro, .none, 128, 4, false⟩
/-- ATT_SIG.DATA, bits 31:0 (R449). -/
def Secu.ATT_SIG.DATA : Fld := ⟨0x3400, 0, 32, 0, .ro, .none, 828, 4, false⟩

/-- Every field of the security table (R449), with its name. -/
def Secu.fields : List Fld :=
  [Secu.SEC_STAT.BOOTSLOT, Secu.SEC_STAT.KEYSLOT, Secu.SEC_STAT.BOOTERR, Secu.SEC_STAT.REJ, Secu.SEC_SVN.FLOOR, Secu.SEC_SVN.IMGSVN, Secu.SEC_CMD.ATTEST, Secu.SEC_CMD.SVN_RAISE, Secu.SEC_CMD.REVOKE, Secu.SEC_CMD.KEY, Secu.SEC_ARG.ARG, Secu.SEC_OTP.PROG, Secu.SEC_OTP.REVOKED, Secu.BOOTCNT.N, Secu.ATT_STAT.BUSY, Secu.ATT_STAT.ATT_DONE, Secu.ATT_STAT.REJ, Secu.NONCE.DATA, Secu.IMGHASH.DATA, Secu.DEVID.ID, Secu.RECOVER.GO, Secu.IDPK.DATA, Secu.ATT_BODY.DATA, Secu.ATT_SIG.DATA]

/-! ## clock and power registers (R473) -/
/-- PWR_STAT.RSTCAUSE, bits 1:0 (R473). -/
def Pwr.PWR_STAT.RSTCAUSE : Fld := ⟨0x0, 0, 2, 0, .ro, .none, 1, 4, true⟩
/-- PWR_STAT.PFACT, bits 3 (R473). -/
def Pwr.PWR_STAT.PFACT : Fld := ⟨0x0, 3, 1, 0, .ro, .none, 1, 4, false⟩
/-- PWR_STAT.PFSEEN, bits 4 (R473). -/
def Pwr.PWR_STAT.PFSEEN : Fld := ⟨0x0, 4, 1, 0, .ro, .none, 1, 4, false⟩
/-- PWR_STAT.PFDONE, bits 5 (R473). -/
def Pwr.PWR_STAT.PFDONE : Fld := ⟨0x0, 5, 1, 0, .ro, .none, 1, 4, false⟩
/-- PWR_STAT.HELD_WR, bits 6 (R473). -/
def Pwr.PWR_STAT.HELD_WR : Fld := ⟨0x0, 6, 1, 0, .w1c, .none, 1, 4, false⟩
/-- PWR_STAT.CFG_REJ, bits 7 (R473). -/
def Pwr.PWR_STAT.CFG_REJ : Fld := ⟨0x0, 7, 1, 0, .w1c, .none, 1, 4, false⟩
/-- PWR_STAT.PWR_REJ, bits 8 (R473). -/
def Pwr.PWR_STAT.PWR_REJ : Fld := ⟨0x0, 8, 1, 0, .w1c, .none, 1, 4, false⟩
/-- DIE_CTL.ON, bits 7:0 (R473). -/
def Pwr.DIE_CTL.ON : Fld := ⟨0x4, 0, 8, 1, .rw, .live, 1, 4, false⟩
/-- DIE_STAT.RDY, bits 7:0 (R473). -/
def Pwr.DIE_STAT.RDY : Fld := ⟨0x8, 0, 8, 1, .ro, .none, 1, 4, false⟩
/-- DIE_STAT.BUSY, bits 15:8 (R473). -/
def Pwr.DIE_STAT.BUSY : Fld := ⟨0x8, 8, 8, 0, .ro, .none, 1, 4, false⟩
/-- DIE_STAT.LOCK, bits 23:16 (R473). -/
def Pwr.DIE_STAT.LOCK : Fld := ⟨0x8, 16, 8, 0, .ro, .none, 1, 4, false⟩
/-- DIE_STAT.REFOK, bits 24 (R473). -/
def Pwr.DIE_STAT.REFOK : Fld := ⟨0x8, 24, 1, 0, .ro, .none, 1, 4, false⟩
/-- DIE_STAT.XTALOK, bits 25 (R473). -/
def Pwr.DIE_STAT.XTALOK : Fld := ⟨0x8, 25, 1, 0, .ro, .none, 1, 4, false⟩
/-- CHIP_RST.GO, bits 0 (R473). -/
def Pwr.CHIP_RST.GO : Fld := ⟨0xC, 0, 1, 0, .wo, .live, 1, 4, false⟩
/-- CHIP_RST.KEY, bits 15:8 (R473). -/
def Pwr.CHIP_RST.KEY : Fld := ⟨0xC, 8, 8, 0, .wo, .live, 1, 4, false⟩
/-- AO_CNT.SEC, bits 31:0 (R473). -/
def Pwr.AO_CNT.SEC : Fld := ⟨0x10, 0, 32, 0, .ro, .none, 1, 4, true⟩
/-- AO_CTL.BOOTBIST, bits 0 (R473). -/
def Pwr.AO_CTL.BOOTBIST : Fld := ⟨0x14, 0, 1, 0, .rw, .live, 1, 4, true⟩
/-- OFF_ADDR.ADDR, bits 31:0 (R473). -/
def Pwr.OFF_ADDR.ADDR : Fld := ⟨0x18, 0, 32, 0, .ro, .none, 1, 4, false⟩
/-- OFF_INFO.MID, bits 7:0 (R473). -/
def Pwr.OFF_INFO.MID : Fld := ⟨0x1C, 0, 8, 0, .ro, .none, 1, 4, false⟩
/-- OFF_INFO.WR, bits 8 (R473). -/
def Pwr.OFF_INFO.WR : Fld := ⟨0x1C, 8, 1, 0, .ro, .none, 1, 4, false⟩
/-- OFF_INFO.VALID, bits 31 (R473). -/
def Pwr.OFF_INFO.VALID : Fld := ⟨0x1C, 31, 1, 0, .w1c, .none, 1, 4, false⟩
/-- TEMP_CTL.TWARN, bits 7:0 (R473). -/
def Pwr.TEMP_CTL.TWARN : Fld := ⟨0x20, 0, 8, 115, .rw, .live, 1, 4, false⟩
/-- TEMP_CTL.TCRIT, bits 15:8 (R473). -/
def Pwr.TEMP_CTL.TCRIT : Fld := ⟨0x20, 8, 8, 125, .rw, .live, 1, 4, false⟩
/-- DIE_TEMP.T, bits 15:0 (R473). -/
def Pwr.DIE_TEMP.T : Fld := ⟨0x40, 0, 16, 0, .ro, .none, 8, 4, false⟩
/-- DIE_TEMP.VALID, bits 16 (R473). -/
def Pwr.DIE_TEMP.VALID : Fld := ⟨0x40, 16, 1, 0, .ro, .none, 8, 4, false⟩
/-- XS_CFG.FREQ, bits 1:0 (R473). -/
def Pwr.XS_CFG.FREQ : Fld := ⟨0x400, 0, 2, 0, .rw, .held, 2, 64, true⟩
/-- XS_CFG.DUMMY, bits 6:2 (R473). -/
def Pwr.XS_CFG.DUMMY : Fld := ⟨0x400, 2, 5, 0, .rw, .held, 2, 64, true⟩
/-- XS_ADDR.ADDR, bits 31:0 (R473). -/
def Pwr.XS_ADDR.ADDR : Fld := ⟨0x404, 0, 32, 0, .rw, .live, 2, 64, false⟩
/-- XS_LEN.LEN, bits 11:0 (R473). -/
def Pwr.XS_LEN.LEN : Fld := ⟨0x408, 0, 12, 0, .rw, .live, 2, 64, false⟩
/-- XS_CMD.OP, bits 1:0 (R473). -/
def Pwr.XS_CMD.OP : Fld := ⟨0x40C, 0, 2, 0, .wo, .live, 2, 64, false⟩
/-- XS_CMD.GO, bits 2 (R473). -/
def Pwr.XS_CMD.GO : Fld := ⟨0x40C, 2, 1, 0, .wo, .live, 2, 64, false⟩
/-- XS_STAT.BUSY, bits 0 (R473). -/
def Pwr.XS_STAT.BUSY : Fld := ⟨0x410, 0, 1, 0, .ro, .none, 2, 64, false⟩
/-- XS_STAT.DONE, bits 1 (R473). -/
def Pwr.XS_STAT.DONE : Fld := ⟨0x410, 1, 1, 0, .w1c, .none, 2, 64, false⟩
/-- XS_STAT.ERR, bits 2 (R473). -/
def Pwr.XS_STAT.ERR : Fld := ⟨0x410, 2, 1, 0, .w1c, .none, 2, 64, false⟩
/-- XS_STAT.REJ, bits 3 (R473). -/
def Pwr.XS_STAT.REJ : Fld := ⟨0x410, 3, 1, 0, .w1c, .none, 2, 64, false⟩
/-- XS_STAT.PFABORT, bits 4 (R473). -/
def Pwr.XS_STAT.PFABORT : Fld := ⟨0x410, 4, 1, 0, .w1c, .none, 2, 64, false⟩
/-- XS_STAT.OWNER, bits 7:5 (R473). -/
def Pwr.XS_STAT.OWNER : Fld := ⟨0x410, 5, 3, 0, .ro, .none, 2, 64, false⟩
/-- XS_STAT.XIPBUSY, bits 8 (R473). -/
def Pwr.XS_STAT.XIPBUSY : Fld := ⟨0x410, 8, 1, 0, .w1c, .none, 2, 64, false⟩
/-- XS_BUF.DATA, bits 31:0 (R473). -/
def Pwr.XS_BUF.DATA : Fld := ⟨0x800, 0, 32, 0, .rw, .live, 1024, 4, false⟩

/-- Every field of the clock and power table (R473), with its name. -/
def Pwr.fields : List Fld :=
  [Pwr.PWR_STAT.RSTCAUSE, Pwr.PWR_STAT.PFACT, Pwr.PWR_STAT.PFSEEN, Pwr.PWR_STAT.PFDONE, Pwr.PWR_STAT.HELD_WR, Pwr.PWR_STAT.CFG_REJ, Pwr.PWR_STAT.PWR_REJ, Pwr.DIE_CTL.ON, Pwr.DIE_STAT.RDY, Pwr.DIE_STAT.BUSY, Pwr.DIE_STAT.LOCK, Pwr.DIE_STAT.REFOK, Pwr.DIE_STAT.XTALOK, Pwr.CHIP_RST.GO, Pwr.CHIP_RST.KEY, Pwr.AO_CNT.SEC, Pwr.AO_CTL.BOOTBIST, Pwr.OFF_ADDR.ADDR, Pwr.OFF_INFO.MID, Pwr.OFF_INFO.WR, Pwr.OFF_INFO.VALID, Pwr.TEMP_CTL.TWARN, Pwr.TEMP_CTL.TCRIT, Pwr.DIE_TEMP.T] ++
  [Pwr.DIE_TEMP.VALID, Pwr.XS_CFG.FREQ, Pwr.XS_CFG.DUMMY, Pwr.XS_ADDR.ADDR, Pwr.XS_LEN.LEN, Pwr.XS_CMD.OP, Pwr.XS_CMD.GO, Pwr.XS_STAT.BUSY, Pwr.XS_STAT.DONE, Pwr.XS_STAT.ERR, Pwr.XS_STAT.REJ, Pwr.XS_STAT.PFABORT, Pwr.XS_STAT.OWNER, Pwr.XS_STAT.XIPBUSY, Pwr.XS_BUF.DATA]

/-! ## BIST registers (R474) -/
/-- BIST_CTL.START, bits 0 (R474). -/
def Bist.BIST_CTL.START : Fld := ⟨0x0, 0, 1, 0, .wo, .live, 1, 4, false⟩
/-- BIST_CTL.TYPE, bits 2:1 (R474). -/
def Bist.BIST_CTL.TYPE : Fld := ⟨0x0, 1, 2, 0, .rw, .held, 1, 4, false⟩
/-- BIST_CTL.DIE, bits 6:4 (R474). -/
def Bist.BIST_CTL.DIE : Fld := ⟨0x0, 4, 3, 0, .rw, .held, 1, 4, false⟩
/-- BIST_STAT.BUSY, bits 0 (R474). -/
def Bist.BIST_STAT.BUSY : Fld := ⟨0x4, 0, 1, 0, .ro, .none, 1, 4, false⟩
/-- BIST_STAT.PASS, bits 1 (R474). -/
def Bist.BIST_STAT.PASS : Fld := ⟨0x4, 1, 1, 0, .ro, .none, 1, 4, false⟩
/-- BIST_STAT.FAIL, bits 2 (R474). -/
def Bist.BIST_STAT.FAIL : Fld := ⟨0x4, 2, 1, 0, .ro, .none, 1, 4, false⟩
/-- BIST_STAT.REJ, bits 3 (R474). -/
def Bist.BIST_STAT.REJ : Fld := ⟨0x4, 3, 1, 0, .w1c, .none, 1, 4, false⟩
/-- BIST_STAT.DIE, bits 6:4 (R474). -/
def Bist.BIST_STAT.DIE : Fld := ⟨0x4, 4, 3, 0, .ro, .none, 1, 4, false⟩
/-- BIST_STAT.TYPE, bits 8:7 (R474). -/
def Bist.BIST_STAT.TYPE : Fld := ⟨0x4, 7, 2, 0, .ro, .none, 1, 4, false⟩
/-- BIST_SIG.SIG, bits 31:0 (R474). -/
def Bist.BIST_SIG.SIG : Fld := ⟨0x8, 0, 32, 0, .ro, .none, 2, 4, false⟩
/-- BIST_TIME.US, bits 23:0 (R474). -/
def Bist.BIST_TIME.US : Fld := ⟨0x10, 0, 24, 0, .ro, .none, 1, 4, false⟩
/-- BIST_BOOTRES.PASS, bits 7:0 (R474). -/
def Bist.BIST_BOOTRES.PASS : Fld := ⟨0x14, 0, 8, 0, .ro, .none, 1, 4, false⟩
/-- BIST_BOOTRES.FAIL, bits 15:8 (R474). -/
def Bist.BIST_BOOTRES.FAIL : Fld := ⟨0x14, 8, 8, 0, .ro, .none, 1, 4, false⟩
/-- BIST_BOOTRES.RAN, bits 16 (R474). -/
def Bist.BIST_BOOTRES.RAN : Fld := ⟨0x14, 16, 1, 0, .ro, .none, 1, 4, false⟩

/-- Every field of the BIST table (R474), with its name. -/
def Bist.fields : List Fld :=
  [Bist.BIST_CTL.START, Bist.BIST_CTL.TYPE, Bist.BIST_CTL.DIE, Bist.BIST_STAT.BUSY, Bist.BIST_STAT.PASS, Bist.BIST_STAT.FAIL, Bist.BIST_STAT.REJ, Bist.BIST_STAT.DIE, Bist.BIST_STAT.TYPE, Bist.BIST_SIG.SIG, Bist.BIST_TIME.US, Bist.BIST_BOOTRES.PASS, Bist.BIST_BOOTRES.FAIL, Bist.BIST_BOOTRES.RAN]

end Sys2Proof.Machine
end

