-- ==== Sys2Proof/Machine/RegMapCell.lean ====
section
/-!
DEFINITION. Register fields of the spec's register tables: Celduax cell. One constant per field, named
block, register, field; offsets are those of the table (relative to the block or entry the table belongs to).
-/
namespace Sys2Proof.Machine

/-! ## Celduax cell registers (R149) -/
/-- SER0.SERIAL, bits 15:0 (R149). -/
def Cell.SER0.SERIAL : Fld := ⟨0x0, 0, 16, 0, .ro, .none, 1, 1, true⟩
/-- SER1.SERIAL, bits 15:0 (R149). -/
def Cell.SER1.SERIAL : Fld := ⟨0x1, 0, 16, 0, .ro, .none, 1, 1, true⟩
/-- SER2.SERIAL, bits 15:0 (R149). -/
def Cell.SER2.SERIAL : Fld := ⟨0x2, 0, 16, 0, .ro, .none, 1, 1, true⟩
/-- DEVID.REV, bits 7:0 (R149). -/
def Cell.DEVID.REV : Fld := ⟨0x3, 0, 8, 0, .ro, .none, 1, 1, true⟩
/-- DEVID.PART, bits 15:8 (R149). -/
def Cell.DEVID.PART : Fld := ⟨0x3, 8, 8, 18, .ro, .none, 1, 1, false⟩
/-- CSTAT.STATE, bits 1:0 (R149). -/
def Cell.CSTAT.STATE : Fld := ⟨0x4, 0, 2, 3, .ro, .none, 1, 1, false⟩
/-- CSTAT.PWMRUN, bits 2 (R149). -/
def Cell.CSTAT.PWMRUN : Fld := ⟨0x4, 2, 1, 0, .ro, .none, 1, 1, false⟩
/-- CSTAT.FORCED, bits 3 (R149). -/
def Cell.CSTAT.FORCED : Fld := ⟨0x4, 3, 1, 0, .ro, .none, 1, 1, false⟩
/-- CSTAT.BLKCAUSE, bits 6:4 (R149). -/
def Cell.CSTAT.BLKCAUSE : Fld := ⟨0x4, 4, 3, 4, .ro, .none, 1, 1, false⟩
/-- CSTAT.OCC, bits 7 (R149). -/
def Cell.CSTAT.OCC : Fld := ⟨0x4, 7, 1, 1, .ro, .none, 1, 1, true⟩
/-- CSTAT.BYPA, bits 8 (R149). -/
def Cell.CSTAT.BYPA : Fld := ⟨0x4, 8, 1, 0, .ro, .none, 1, 1, false⟩
/-- CSTAT.BYPF, bits 9 (R149). -/
def Cell.CSTAT.BYPF : Fld := ⟨0x4, 9, 1, 0, .ro, .none, 1, 1, true⟩
/-- CSTAT.PAIRPEND, bits 10 (R149). -/
def Cell.CSTAT.PAIRPEND : Fld := ⟨0x4, 10, 1, 0, .ro, .none, 1, 1, false⟩
/-- CSTAT.HELD_WR, bits 11 (R149). -/
def Cell.CSTAT.HELD_WR : Fld := ⟨0x4, 11, 1, 0, .w1c, .none, 1, 1, false⟩
/-- CSTAT.EQV, bits 12 (R149). -/
def Cell.CSTAT.EQV : Fld := ⟨0x4, 12, 1, 0, .ro, .none, 1, 1, true⟩
/-- CSTAT.AWREQ, bits 13 (R149). -/
def Cell.CSTAT.AWREQ : Fld := ⟨0x4, 13, 1, 1, .ro, .none, 1, 1, true⟩
/-- CSTAT.OSTATE, bits 15:14 (R149). -/
def Cell.CSTAT.OSTATE : Fld := ⟨0x4, 14, 2, 3, .ro, .none, 1, 1, false⟩
/-- TRIPSTAT.TLATCH, bits 3:0 (R149). -/
def Cell.TRIPSTAT.TLATCH : Fld := ⟨0x5, 0, 4, 0, .ro, .none, 1, 1, false⟩
/-- TRIPSTAT.TIN, bits 7:4 (R149). -/
def Cell.TRIPSTAT.TIN : Fld := ⟨0x5, 4, 4, 0, .ro, .none, 1, 1, true⟩
/-- TRIPSTAT.TACT, bits 8 (R149). -/
def Cell.TRIPSTAT.TACT : Fld := ⟨0x5, 8, 1, 0, .ro, .none, 1, 1, false⟩
/-- FLT_STAT.CAUSE, bits 12:0 (R149). -/
def Cell.FLT_STAT.CAUSE : Fld := ⟨0x6, 0, 13, 0, .w1c, .none, 1, 1, false⟩
/-- FLT_MASK.MASK, bits 12:0 (R149). -/
def Cell.FLT_MASK.MASK : Fld := ⟨0x7, 0, 13, 0, .rw, .live, 1, 1, false⟩
/-- CFG.BRIDGE, bits 0 (R149). -/
def Cell.CFG.BRIDGE : Fld := ⟨0x8, 0, 1, 0, .rw, .held, 1, 1, false⟩
/-- CFG.BYPV, bits 1 (R149). -/
def Cell.CFG.BYPV : Fld := ⟨0x8, 1, 1, 0, .rw, .held, 1, 1, false⟩
/-- CFG.SAFE, bits 3:2 (R149). -/
def Cell.CFG.SAFE : Fld := ⟨0x8, 2, 2, 0, .rw, .held, 1, 1, false⟩
/-- CFG.FORCE_PERM, bits 4 (R149). -/
def Cell.CFG.FORCE_PERM : Fld := ⟨0x8, 4, 1, 0, .rw, .held, 1, 1, false⟩
/-- CFG.GSUP_LOCK, bits 5 (R149). -/
def Cell.CFG.GSUP_LOCK : Fld := ⟨0x8, 5, 1, 1, .rw, .held, 1, 1, false⟩
/-- CFG.SYNC_SRC, bits 6 (R149). -/
def Cell.CFG.SYNC_SRC : Fld := ⟨0x8, 6, 1, 1, .rw, .live, 1, 1, false⟩
/-- CFG.PAIR, bits 7 (R149). -/
def Cell.CFG.PAIR : Fld := ⟨0x8, 7, 1, 1, .rw, .live, 1, 1, false⟩
/-- CFG.CFGOK, bits 8 (R149). -/
def Cell.CFG.CFGOK : Fld := ⟨0x8, 8, 1, 0, .rw, .live, 1, 1, false⟩
/-- TRIPCFG.TRIPEN, bits 3:0 (R149). -/
def Cell.TRIPCFG.TRIPEN : Fld := ⟨0x9, 0, 4, 15, .rw, .held, 1, 1, false⟩
/-- TRIPCFG.TRIPPOL, bits 7:4 (R149). -/
def Cell.TRIPCFG.TRIPPOL : Fld := ⟨0x9, 4, 4, 0, .rw, .held, 1, 1, false⟩
/-- LOL_CTL.LOLT, bits 7:0 (R149). -/
def Cell.LOL_CTL.LOLT : Fld := ⟨0xA, 0, 8, 40, .rw, .live, 1, 1, false⟩
/-- PWM_PER.PER, bits 15:0 (R149). -/
def Cell.PWM_PER.PER : Fld := ⟨0xB, 0, 16, 0, .rw, .shadowed, 1, 1, false⟩
/-- PWM_DUTY.DUTY, bits 9:0 (R149). -/
def Cell.PWM_DUTY.DUTY : Fld := ⟨0xC, 0, 10, 0, .rw, .shadowed, 1, 1, false⟩
/-- PWM_DT.DT, bits 9:0 (R149). -/
def Cell.PWM_DT.DT : Fld := ⟨0xD, 0, 10, 256, .rw, .held, 1, 1, false⟩
/-- PWM_APER.PER, bits 15:0 (R149). -/
def Cell.PWM_APER.PER : Fld := ⟨0xE, 0, 16, 0, .ro, .none, 1, 1, false⟩
/-- PWM_ADUTY.DUTY, bits 9:0 (R149). -/
def Cell.PWM_ADUTY.DUTY : Fld := ⟨0xF, 0, 10, 0, .ro, .none, 1, 1, false⟩
/-- FORCE.LEVEL, bits 3:0 (R149). -/
def Cell.FORCE.LEVEL : Fld := ⟨0x10, 0, 4, 0, .rw, .shadowed, 1, 1, false⟩
/-- FORCE.FEN, bits 4 (R149). -/
def Cell.FORCE.FEN : Fld := ⟨0x10, 4, 1, 0, .rw, .shadowed, 1, 1, false⟩
/-- BYP_CTL.BYPW, bits 7:0 (R149). -/
def Cell.BYP_CTL.BYPW : Fld := ⟨0x11, 0, 8, 50, .rw, .held, 1, 1, false⟩
/-- SYNCO_CTL.SYNCW, bits 7:0 (R149). -/
def Cell.SYNCO_CTL.SYNCW : Fld := ⟨0x12, 0, 8, 32, .rw, .live, 1, 1, false⟩
/-- CHK_CTL.CHK_WIN, bits 7:0 (R149). -/
def Cell.CHK_CTL.CHK_WIN : Fld := ⟨0x13, 0, 8, 6, .rw, .live, 1, 1, false⟩
/-- VCA.CODE, bits 11:0 (R149). -/
def Cell.VCA.CODE : Fld := ⟨0x20, 0, 12, 0, .ro, .none, 1, 1, false⟩
/-- VCB.CODE, bits 11:0 (R149). -/
def Cell.VCB.CODE : Fld := ⟨0x21, 0, 12, 0, .ro, .none, 1, 1, false⟩
/-- VCA.OV, bits 12 (R149). -/
def Cell.VCA.OV : Fld := ⟨0x20, 12, 1, 0, .ro, .none, 1, 1, false⟩
/-- VCB.OV, bits 12 (R149). -/
def Cell.VCB.OV : Fld := ⟨0x21, 12, 1, 0, .ro, .none, 1, 1, false⟩
/-- VCA.SRC, bits 13 (R149). -/
def Cell.VCA.SRC : Fld := ⟨0x20, 13, 1, 0, .ro, .none, 1, 1, false⟩
/-- VCB.SRC, bits 13 (R149). -/
def Cell.VCB.SRC : Fld := ⟨0x21, 13, 1, 0, .ro, .none, 1, 1, false⟩
/-- TEMPC.CODE, bits 11:0 (R149). -/
def Cell.TEMPC.CODE : Fld := ⟨0x22, 0, 12, 0, .ro, .none, 1, 1, false⟩
/-- AUXC.CODE, bits 11:0 (R149). -/
def Cell.AUXC.CODE : Fld := ⟨0x23, 0, 12, 0, .ro, .none, 1, 1, false⟩
/-- CHKA.CODE, bits 11:0 (R149). -/
def Cell.CHKA.CODE : Fld := ⟨0x24, 0, 12, 0, .ro, .none, 1, 1, false⟩
/-- CHKB.CODE, bits 11:0 (R149). -/
def Cell.CHKB.CODE : Fld := ⟨0x25, 0, 12, 0, .ro, .none, 1, 1, false⟩
/-- CAL_STAT.CALSEL, bits 1:0 (R149). -/
def Cell.CAL_STAT.CALSEL : Fld := ⟨0x26, 0, 2, 0, .ro, .none, 1, 1, false⟩
/-- CAL_STAT.CALFAILA, bits 2 (R149). -/
def Cell.CAL_STAT.CALFAILA : Fld := ⟨0x26, 2, 1, 0, .w1c, .none, 1, 1, false⟩
/-- CAL_STAT.CALFAILB, bits 3 (R149). -/
def Cell.CAL_STAT.CALFAILB : Fld := ⟨0x26, 3, 1, 0, .w1c, .none, 1, 1, false⟩
/-- BIST_STAT.BUSY, bits 0 (R149). -/
def Cell.BIST_STAT.BUSY : Fld := ⟨0x28, 0, 1, 0, .ro, .none, 1, 1, false⟩
/-- BIST_STAT.PASS, bits 1 (R149). -/
def Cell.BIST_STAT.PASS : Fld := ⟨0x28, 1, 1, 0, .ro, .none, 1, 1, false⟩
/-- BIST_STAT.FAIL, bits 2 (R149). -/
def Cell.BIST_STAT.FAIL : Fld := ⟨0x28, 2, 1, 0, .ro, .none, 1, 1, false⟩
/-- BIST_STAT.TYPE, bits 4:3 (R149). -/
def Cell.BIST_STAT.TYPE : Fld := ⟨0x28, 3, 2, 0, .ro, .none, 1, 1, false⟩
/-- BIST_SIG.SIG, bits 15:0 (R149). -/
def Cell.BIST_SIG.SIG : Fld := ⟨0x29, 0, 16, 0, .ro, .none, 4, 1, false⟩
/-- FSTART.COUNT, bits 15:0 (R149). -/
def Cell.FSTART.COUNT : Fld := ⟨0x30, 0, 16, 0, .ro, .none, 1, 1, true⟩
/-- TRIPCNT.COUNT, bits 15:0 (R149). -/
def Cell.TRIPCNT.COUNT : Fld := ⟨0x31, 0, 16, 0, .ro, .none, 4, 1, true⟩
/-- LOLCNT.COUNT, bits 15:0 (R149). -/
def Cell.LOLCNT.COUNT : Fld := ⟨0x35, 0, 16, 0, .ro, .none, 1, 1, true⟩
/-- GUARDCNT.COUNT, bits 15:0 (R149). -/
def Cell.GUARDCNT.COUNT : Fld := ⟨0x36, 0, 16, 0, .ro, .none, 1, 1, true⟩
/-- SLOT_R.SLOT, bits 6:0 (R149). -/
def Cell.SLOT_R.SLOT : Fld := ⟨0x37, 0, 7, 0, .ro, .none, 1, 1, true⟩
/-- SLOT_R.SLOTV, bits 7 (R149). -/
def Cell.SLOT_R.SLOTV : Fld := ⟨0x37, 7, 1, 0, .ro, .none, 1, 1, true⟩
/-- LASTSEQ.SEQ, bits 1:0 (R149). -/
def Cell.LASTSEQ.SEQ : Fld := ⟨0x38, 0, 2, 0, .ro, .none, 1, 1, true⟩
/-- LASTSEQ.SEQV, bits 2 (R149). -/
def Cell.LASTSEQ.SEQV : Fld := ⟨0x38, 2, 1, 0, .ro, .none, 1, 1, true⟩
/-- RTD_L.VAL, bits 15:0 (R149). -/
def Cell.RTD_L.VAL : Fld := ⟨0x39, 0, 16, 0, .ro, .none, 1, 1, true⟩
/-- DDN_L.VAL, bits 15:0 (R149). -/
def Cell.DDN_L.VAL : Fld := ⟨0x3B, 0, 16, 0, .ro, .none, 1, 1, true⟩
/-- RTD_H.VAL, bits 3:0 (R149). -/
def Cell.RTD_H.VAL : Fld := ⟨0x3A, 0, 4, 0, .ro, .none, 1, 1, true⟩
/-- DDN_H.VAL, bits 3:0 (R149). -/
def Cell.DDN_H.VAL : Fld := ⟨0x3C, 0, 4, 0, .ro, .none, 1, 1, true⟩
/-- CLR.CLRCNT, bits 0 (R149). -/
def Cell.CLR.CLRCNT : Fld := ⟨0x40, 0, 1, 0, .wo, .live, 1, 1, false⟩
/-- CLR.BYPF_CLR, bits 1 (R149). -/
def Cell.CLR.BYPF_CLR : Fld := ⟨0x40, 1, 1, 0, .wo, .live, 1, 1, false⟩
/-- CLR.KEY, bits 15:8 (R149). -/
def Cell.CLR.KEY : Fld := ⟨0x40, 8, 8, 0, .wo, .live, 1, 1, false⟩

/-- Every field of the Celduax cell table (R149), with its name. -/
def Cell.fields : List Fld :=
  [Cell.SER0.SERIAL, Cell.SER1.SERIAL, Cell.SER2.SERIAL, Cell.DEVID.REV, Cell.DEVID.PART, Cell.CSTAT.STATE, Cell.CSTAT.PWMRUN, Cell.CSTAT.FORCED, Cell.CSTAT.BLKCAUSE, Cell.CSTAT.OCC, Cell.CSTAT.BYPA, Cell.CSTAT.BYPF, Cell.CSTAT.PAIRPEND, Cell.CSTAT.HELD_WR, Cell.CSTAT.EQV, Cell.CSTAT.AWREQ, Cell.CSTAT.OSTATE, Cell.TRIPSTAT.TLATCH, Cell.TRIPSTAT.TIN, Cell.TRIPSTAT.TACT, Cell.FLT_STAT.CAUSE, Cell.FLT_MASK.MASK, Cell.CFG.BRIDGE, Cell.CFG.BYPV] ++
  [Cell.CFG.SAFE, Cell.CFG.FORCE_PERM, Cell.CFG.GSUP_LOCK, Cell.CFG.SYNC_SRC, Cell.CFG.PAIR, Cell.CFG.CFGOK, Cell.TRIPCFG.TRIPEN, Cell.TRIPCFG.TRIPPOL, Cell.LOL_CTL.LOLT, Cell.PWM_PER.PER, Cell.PWM_DUTY.DUTY, Cell.PWM_DT.DT, Cell.PWM_APER.PER, Cell.PWM_ADUTY.DUTY, Cell.FORCE.LEVEL, Cell.FORCE.FEN, Cell.BYP_CTL.BYPW, Cell.SYNCO_CTL.SYNCW, Cell.CHK_CTL.CHK_WIN, Cell.VCA.CODE, Cell.VCB.CODE, Cell.VCA.OV, Cell.VCB.OV, Cell.VCA.SRC] ++
  [Cell.VCB.SRC, Cell.TEMPC.CODE, Cell.AUXC.CODE, Cell.CHKA.CODE, Cell.CHKB.CODE, Cell.CAL_STAT.CALSEL, Cell.CAL_STAT.CALFAILA, Cell.CAL_STAT.CALFAILB, Cell.BIST_STAT.BUSY, Cell.BIST_STAT.PASS, Cell.BIST_STAT.FAIL, Cell.BIST_STAT.TYPE, Cell.BIST_SIG.SIG, Cell.FSTART.COUNT, Cell.TRIPCNT.COUNT, Cell.LOLCNT.COUNT, Cell.GUARDCNT.COUNT, Cell.SLOT_R.SLOT, Cell.SLOT_R.SLOTV, Cell.LASTSEQ.SEQ, Cell.LASTSEQ.SEQV, Cell.RTD_L.VAL, Cell.DDN_L.VAL, Cell.RTD_H.VAL] ++
  [Cell.DDN_H.VAL, Cell.CLR.CLRCNT, Cell.CLR.BYPF_CLR, Cell.CLR.KEY]

end Sys2Proof.Machine
end

