-- ==== Sys2Proof/Machine/SrcTable.lean ====
section
/-!
DEFINITION. The fault sources of the spec's chapters as a table: class (R352), injection kind (R366) and reset block (R359),
and the register fields whose reset value depends on the copy (R371).
-/
namespace Sys2Proof.Machine

/-- The class of a source, as FS_CFG.CLASS codes it: 0 C, 1 U, 2 F. -/
inductive SrcClass where
  | c
  | u
  | f
deriving DecidableEq, Repr

/-- FS_CFG.CLASS (R371). -/
def SrcClass.code : SrcClass → Nat
  | .c => 0
  | .u => 1
  | .f => 2

/-- Sources of a K-die at offset `o` from 0x040 or 0x080 (R205, R179, R234, R276, R310): the class and the injection kind. -/
def kSource (o : Nat) : Option (SrcClass × Option Nat) :=
  if o < 8 then some (.u, some 2)
  else if o = 8 then some (.c, some 0)
  else if o = 9 then some (.u, some 1)
  else if o < 0x10 then none
  else if o < 0x18 then some (.c, some 0)
  else if o < 0x20 then some (.u, some 1)
  else match o with
    | 0x20 => some (.u, some 2)
    | 0x21 => some (.u, none)
    | 0x22 => some (.c, some 0)
    | 0x23 => some (.u, some 1)
    | 0x24 => some (.u, none)
    | 0x25 => some (.c, none)
    | 0x26 => some (.c, none)
    | 0x27 => some (.u, none)
    | 0x28 => some (.u, some 2)
    | 0x29 => some (.c, none)
    | 0x2A => some (.u, none)
    | 0x2B => some (.u, none)
    | 0x2C => some (.c, some 0)
    | 0x2D => some (.u, some 1)
    | 0x2E => some (.c, none)
    | 0x2F => some (.u, none)
    | 0x30 => some (.c, none)
    | 0x31 => some (.c, none)
    | 0x32 => some (.c, none)
    | 0x33 => some (.c, none)
    | 0x34 => some (.c, some 0)
    | 0x35 => some (.u, some 1)
    | 0x36 => some (.c, none)
    | 0x37 => some (.c, none)
    | 0x38 => some (.u, none)
    | 0x39 => some (.c, none)
    | 0x3A => some (.u, none)
    | 0x3B => some (.c, some 0)
    | 0x3C => some (.u, some 1)
    | 0x3D => some (.c, none)
    | _ => none

/-- Sources of an L-die at offset `o` from B (R107). -/
def lSource (o : Nat) : Option (SrcClass × Option Nat) :=
  if o < 16 then some (.u, none)
  else match o with
    | 16 => some (.c, some 0)
    | 17 => some (.u, some 1)
    | 18 => some (.u, none)
    | 19 => some (.c, none)
    | 20 => some (.c, none)
    | 21 => some (.c, none)
    | 22 => some (.c, none)
    | 23 => some (.u, none)
    | 24 => some (.f, some 2)
    | 25 => some (.c, none)
    | _ => none

/-- Sources of an A-die at offset `o` from B (R297). -/
def aSource (o : Nat) : Option (SrcClass × Option Nat) :=
  match o with
  | 0 => some (.u, none)
  | 1 => some (.u, none)
  | 2 => some (.u, none)
  | 3 => some (.c, none)
  | 4 => some (.c, some 0)
  | 5 => some (.u, some 1)
  | 6 => some (.c, none)
  | 7 => some (.c, none)
  | _ => none

/-- The other sources, by their numbers (R43, R234, R310, R326, R350, R362, R393, R414, R429, R450, R475). -/
def otherSource (s : Nat) : Option (SrcClass × Option Nat) :=
  match s with
  | 0x000 => some (.f, none)
  | 0x001 => some (.f, none)
  | 0x002 => some (.f, none)
  | 0x003 => some (.c, none)
  | 0x004 => some (.c, none)
  | 0x005 => some (.c, none)
  | 0x006 => some (.u, none)
  | 0x010 => some (.c, some 3)
  | 0x011 => some (.u, none)
  | 0x012 => some (.f, none)
  | 0x013 => some (.c, some 0)
  | 0x014 => some (.f, some 1)
  | 0x018 => some (.u, none)
  | 0x019 => some (.u, none)
  | 0x01A => some (.c, none)
  | 0x020 | 0x024 => some (.c, none)
  | 0x021 | 0x025 => some (.c, some 0)
  | 0x022 | 0x026 => some (.u, some 1)
  | 0x023 | 0x027 => some (.c, none)
  | 0x028 => some (.c, none)
  | 0x029 => some (.c, none)
  | 0x02A => some (.u, none)
  | 0x02B => some (.c, some 0)
  | 0x02C => some (.u, some 1)
  | 0x02D => some (.c, none)
  | 0x160 | 0x161 | 0x162 | 0x163 => some (.u, none)
  | 0x164 => some (.c, some 0)
  | 0x165 => some (.u, some 1)
  | 0x166 => some (.c, none)
  | 0x167 => some (.u, none)
  | 0x168 => some (.c, none)
  | 0x169 => some (.u, none)
  | 0x16A => some (.c, none)
  | 0x180 | 0x181 | 0x182 | 0x183 | 0x184 | 0x185 | 0x186 | 0x187 | 0x188 => some (.u, none)
  | 0x189 => some (.f, none)
  | 0x18A => some (.f, none)
  | 0x18B => some (.f, some 2)
  | 0x18C => some (.f, some 3)
  | 0x18D => some (.u, none)
  | 0x18E | 0x18F | 0x190 => some (.c, none)
  | 0x1A0 => some (.u, none)
  | 0x1A1 | 0x1A2 => some (.c, none)
  | 0x1A3 => some (.u, none)
  | 0x1A4 | 0x1A5 => some (.c, none)
  | 0x1A6 | 0x1A7 | 0x1A8 => some (.u, none)
  | 0x1A9 => some (.c, none)
  | 0x1AA | 0x1AB | 0x1AC => some (.u, none)
  | 0x1AD => some (.c, none)
  | 0x1AE => some (.u, none)
  | 0x1B0 => some (.c, none)
  | 0x1B1 | 0x1B2 => some (.u, none)
  | 0x1B3 | 0x1B4 => some (.c, none)
  | 0x1B5 | 0x1B6 => some (.u, none)
  | 0x1B7 => some (.c, none)
  | 0x1B8 => some (.c, some 0)
  | 0x1B9 => some (.u, some 1)
  | 0x1BC => some (.c, none)
  | 0x1C0 | 0x1C1 => some (.f, none)
  | 0x1C2 => some (.u, none)
  | 0x1C3 => some (.c, none)
  | 0x1C4 => some (.f, none)
  | 0x1C5 => some (.u, none)
  | 0x1C6 => some (.c, none)
  | 0x1C7 | 0x1C8 => some (.u, none)
  | 0x1C9 => some (.c, none)
  | 0x1CA => some (.u, none)
  | 0x1CB => some (.f, none)
  | 0x1CC | 0x1CD => some (.u, none)
  | 0x1CE => some (.c, none)
  | _ => none

/-- Class and injection kind of source `s`; none: a source that never fires (R351) (DEDUCED, log 24). -/
def srcInfo (s : Nat) : Option (SrcClass × Option Nat) :=
  if 0x040 ≤ s ∧ s < 0x080 then kSource (s - 0x040)
  else if 0x080 ≤ s ∧ s < 0x0C0 then kSource (s - 0x080)
  else if 0x0C0 ≤ s ∧ s < 0x140 then lSource ((s - 0x0C0) % 0x20)
  else if 0x140 ≤ s ∧ s < 0x160 then aSource ((s - 0x140) % 0x10)
  else if 0x1E0 ≤ s ∧ s < 0x200 then some (.u, none)
  else otherSource s

/-- The reset block of a source (R359); 0: none (HASBLK = 0). -/
def srcBlk (s : Nat) : Nat :=
  let kd (o off : Nat) : Nat :=
    if o < 8 then 1 + o + off
    else if 0x10 ≤ o ∧ o < 0x20 then 1 + o % 8 + off
    else if 0x20 ≤ o ∧ o < 0x28 then 10 + off
    else if 0x28 ≤ o ∧ o < 0x30 then 11 + off
    else if 0x30 ≤ o ∧ o < 0x38 then 12 + off
    else if 0x38 ≤ o then 9 + off
    else 0
  if 0x020 ≤ s ∧ s < 0x024 then 13
  else if 0x024 ≤ s ∧ s < 0x028 then 26
  else if 0x040 ≤ s ∧ s < 0x080 then kd (s - 0x040) 0
  else if 0x080 ≤ s ∧ s < 0x0C0 then kd (s - 0x080) 13
  else if 0x0C0 ≤ s ∧ s < 0x140 then 27 + (s - 0x0C0) / 0x20
  else if 0x140 ≤ s ∧ s < 0x160 then 31 + (s - 0x140) / 0x10
  else if 0x160 ≤ s ∧ s < 0x180 then 33
  else 0

/-- Source `s` is a source of reset block `b` or of one of its neighbours (R359, R360). -/
def covers (b s : Nat) : Bool :=
  let of := srcBlk s
  (of == b && b != 0) ||
  (if 1 ≤ b ∧ b ≤ 8 then of == 12
   else if 14 ≤ b ∧ b ≤ 21 then of == 25
   else if b = 10 ∨ b = 23 then of == b + 1
   else if b = 11 ∨ b = 24 then (27 ≤ of && of ≤ 30) || (0x1E0 ≤ s && s < 0x200)
   else if b = 12 then 1 ≤ of && of ≤ 9
   else if b = 25 then 14 ≤ of && of ≤ 22
   else if 27 ≤ b ∧ b ≤ 30 then of == 11 || of == 24 || (0x1E0 ≤ s && s < 0x200)
   else if b = 31 ∨ b = 32 then of == 10 || of == 23 || (0x1B0 ≤ s && s < 0x1C0)
   else if b = 33 then of == 10 || of == 23
   else false)

/-! ## Register fields whose reset value differs from copy to copy (R371) -/

/-- The `i`-th copy of a repeated register field. -/
def Fld.at (f : Fld) (i : Nat) : Fld := { f with off := f.off + f.stp * i }

/-- The FS_CFG field `f` of source `n`, with that source's reset value (R371). -/
def fsCfg (f : Fld) (n : Nat) : Fld :=
  let cls := match srcInfo n with | some (cl, _) => cl.code | none => 0
  let kind := match srcInfo n with | some (_, k) => k.isSome.toNat | none => 0
  let v := match f.lsb with
    | 1 | 12 => cls
    | 10 => if n = 0x006 then 1 else 0
    | 14 => kind
    | 15 => if srcBlk n = 0 then 0 else 1
    | 16 => srcBlk n
    | _ => f.rst
  { f.at n with rst := v }

end Sys2Proof.Machine
end

