-- ==== Sys2Proof/Machine/Types.lean ====
section
/-!
DEFINITION. The plain data of the state beside the registers: what each unit holds that the spec names without giving it
a register (queues, procedures in progress, counts between events). Register fields are in the register file
(`Machine/RegFile.lean`, `Machine/RegMap*.lean`).
-/
namespace Sys2Proof.Machine

/-! ## Tables: sparse data by number -/

/-- A table from numbers to records; a number that is not listed holds the unit's reset record. -/
abbrev Tab (α : Type) := List (Nat × α)

/-- The record of number `k`, else the reset record `d`. -/
def Tab.get {α : Type} : List (Nat × α) → Nat → α → α
  | [], _, d => d
  | (a, v) :: r, k, d => if a = k then v else Tab.get r k d

/-- Replace or add the record of number `k`, numbers rising. -/
def Tab.put {α : Type} : List (Nat × α) → Nat → α → List (Nat × α)
  | [], k, v => [(k, v)]
  | (a, w) :: r, k, v =>
    if k < a then (k, v) :: (a, w) :: r
    else if k = a then (k, v) :: r
    else (a, w) :: Tab.put r k v

/-- Forget the records whose number satisfies `p`. -/
def Tab.drop {α : Type} (t : List (Nat × α)) (p : Nat → Bool) : List (Nat × α) := t.filter (fun e => !(p e.1))

/-! ## The part, time and the fabric -/

/-- What the part has (R1, R2): the dies present and the -M and -Q units. -/
structure Part where
  kcount : Nat
  lmask : BitVec 4
  amask : BitVec 2
  m : Bool
  q : Bool
deriving DecidableEq, Repr

/-- Package time and the grid (R44, R328): `el` ns since chip reset, `pt` package time in 2^-16 ns, `pres` the residue of
the frequency adjustment, `bn` package time of the current boundary B_n, `n` the subframe number, `cycHi` bits 47:32 of
the cycle number, `upOwed` the cycles whose event 0x04 is still to fire (R54). `ct` is the time that has gone by for the
cells, in 2^-16 ns: no step of package time and no reset of the package changes it (the model's own count, log 26). -/
structure Clock where
  el : Nat
  pt : Nat
  ct : Nat
  pres : Int
  bn : Nat
  n : Nat
  cycHi : Nat
  upOwed : Nat
  /-- package time and cycle number of the last Meridian (R51) -/
  b0 : Option (Nat × Nat)
  /-- the same of the Meridian before it, whose upstream frame may still be arriving (R51, R80) -/
  prev : Option (Nat × Nat)
deriving DecidableEq, Repr

/-- A write held in a staging buffer (R34): target, issuer, address, word, cut-offs seen since it landed, whether it is a
core's cycle write (else it waits for the first cut-off), the subframe of the FNC.CYC that covers it, and the same once
the commit has arrived (R35). -/
structure Staged where
  tgt : Target
  mid : Nat
  sup : Bool
  addr : Nat
  val : Word
  cuts : Nat
  core : Bool
  cov : Option Nat
  commit : Option Nat
deriving DecidableEq, Repr

/-- A write in flight from a master (R30, R31): issuer, privilege, address, the datum and its size, and whether it
went through an ORDERED window (R32). -/
structure Flight where
  mid : Nat
  sup : Bool
  addr : Nat
  val : Word
  size : Nat
  ordered : Bool
deriving DecidableEq, Repr

/-- The fabric (R28 to R43): staging buffers (oldest first), writes in flight (oldest first), and for each link the CRC
failures of the flit now on it and the instant (ns since chip reset) of the last one. -/
structure Fabric where
  staged : List Staged
  flight : List Flight
  flit : List (Nat × (Nat × Nat))
  /-- data of reads whose side effect has happened and whose return is on its way: (MID, address, word) -/
  reads : List (Nat × Nat × Word)
  /-- the datum last delivered to the PCIe host, and whether its last request was aborted (R8, R222) -/
  hostData : Word
  hostAbort : Bool
deriving DecidableEq, Repr

/-! ## Lanes and contexts -/

/-- A grant map (R75): report slots by entry, the mode of the maintenance window, its re-grant entries (slot, CYC) and
the ranging entry (slot, guess in ns). `cyc` is the cycle whose Meridian frame carried it. -/
structure GrantMap where
  cyc : Nat
  slots : List Nat
  mode : Nat
  rgs : List (Nat × Nat)
  rng : Option (Nat × Nat)
deriving DecidableEq, Repr

/-- One operation waiting for MAINT (R76): MOP, slot, serial number, RTD and DDN. -/
structure MaintOp where
  mop : Nat
  slot : Nat
  serial : BitVec 48
  rtd : Nat
  ddn : Nat
deriving DecidableEq, Repr

/-- OCCULT entries being sent for a slot (R96): cycles left of the eight, and consecutive cycles free of out-of-grant
light. -/
structure Occulting where
  slot : Nat
  left : Nat
  clean : Nat
  /-- the cycle in which it began is over -/
  whole : Bool
deriving DecidableEq, Repr

/-- A reticle scan in progress (R99). -/
structure Scan where
  slot : Nat
  bursts : Nat
  done : Nat
  point : Nat
deriving DecidableEq, Repr

/-- A lane (R59, R71 to R103) beside its registers. -/
structure Lane where
  /-- a request for DARK is held (R100) -/
  darkHeld : Bool
  /-- the broadcast queue, oldest first (R73) -/
  bcast : List Word
  /-- the last grant maps built, newest first (R75): the map of cycle c governs the upstream frame of cycle c + 1 -/
  maps : List GrantMap
  /-- slot served last by the round-robin of R72 -/
  rr : Nat
  /-- cells being occulted (R96) -/
  occ : List Occulting
  /-- frames left that carry OCCALL (R97) -/
  occall : Nat
  /-- cycles in which light persisted since OCCALL (R97) -/
  occPersist : Option Nat
  /-- light seen outside grants in this cycle, and consecutive cycles before it with such light (R96, R97) -/
  lightNow : Bool
  lightRun : Nat
  /-- operations waiting for MAINT, in the order of their requests (R76) -/
  maint : List MaintOp
  /-- failed receptions waiting for a re-grant, oldest first: (slot, CYC) (R86) -/
  regrant : List (Nat × Nat)
  /-- reticle scan in progress -/
  scan : Option Scan
  /-- the blocks built at the build cut-off of subframe `builtN` (R67), and the frame on the line, its HDR first -/
  built : List Block
  builtN : Option Nat
  line : List Block
  /-- burst light was received in this cycle, and consecutive cycles before it without (R104: RXLOS) -/
  burstNow : Bool
  darkCyc : Nat
deriving DecidableEq, Repr

/-- The outstanding acknowledged command of a context (R85). -/
structure OutCmd where
  word : Word
  seq : BitVec 2
  /-- cycle of the last transmission -/
  cyc : Nat
  resends : Nat
  /-- a re-send is due at the next build cut-off -/
  due : Bool
  /-- cycles for which the ACKWAIT count was suspended (R72) -/
  held : Nat
deriving DecidableEq, Repr

/-- Ranging of a context in progress (R89): guesses in ns still to try after the current one, the current guess, whether
the entry was placed in a map, whether the one retry of step 7 is used, whether the first report is awaited, cycles
waited for the window, and whether the current guess began a re-ranging under R90. -/
structure Ranging where
  guesses : List Nat
  guess : Nat
  placed : Bool
  retried : Bool
  await : Bool
  /-- its EQSET went out, and its report slot was granted (R89 step 6) -/
  sent : Bool
  waited : Nat
deriving DecidableEq, Repr

/-- A cell context (R93) beside its registers. -/
structure Ctx where
  /-- commands waiting behind the outstanding one, oldest first (R105) -/
  queue : List Word
  out : Option OutCmd
  /-- no acknowledged command is sent before a good report after a takeover (R407) -/
  seqWait : Bool
  rng : Option Ranging
  /-- a failure episode is open; its re-grants made so far (R86) -/
  episode : Bool
  rgMade : Nat
  /-- consecutive good regular reports in DEGRADED (R87) -/
  goods : Nat
  /-- last consecutive errors beyond RNG_TRK in one direction (R90) -/
  drift : List Int
  /-- an EQSET waits for a report after it (R90) -/
  eqWait : Bool
  /-- seeing figures of the last 16 good bursts, newest first (R98), and consecutive bursts with a mean below SEE_ERR -/
  see : List Nat
  seeBad : Nat
  /-- the run of bursts below SEE_ERR has been reported -/
  seeDone : Bool
  /-- the slot word of the next frame is NOP after a RAM error (R107) -/
  nopOnce : Bool
  /-- FLT of the previous good report since the cell became ACTIVE (R369) -/
  flt : Option Bool
  /-- a CMDW write released at this cut-off (R71) -/
  cmdw : Option Word
deriving DecidableEq, Repr

/-! ## Cells -/

/-- The power and link states of a cell (R114). -/
inductive CellPower where
  | off
  | newt
  | starting
  | acquire
  | linked
deriving DecidableEq, Repr

/-- A running carrier (R126): its active period and duty, and the instant its present period began (2^-16 ns). -/
structure Carrier where
  per : Nat
  duty : Int
  start : Nat
deriving DecidableEq, Repr

/-- A command word waiting in the cell's buffer (R119) for boundary `bound`, from the frame of subframe `frame`. -/
structure Waiting where
  bound : Nat
  frame : Nat
  entry : CmdEntry
deriving DecidableEq, Repr

/-- Block sources of a cell that are not registers (R123, R147). -/
structure CellBlk where
  hdr : Bool
  lol : Bool
  gsup : Bool
  bist : Bool
deriving DecidableEq, Repr

/-- What the cell held at the measure instant (R142): cycle number and output state. -/
structure Measured where
  cyc : Nat
  state : Nat
deriving DecidableEq, Repr

/-- A cell controller (R109 to R149) beside its registers. -/
structure Cell where
  power : CellPower
  /-- VAUX is at or above VAUX_ON and has not fallen below VAUX_OFF since (R114) -/
  vauxOn : Bool
  /-- current subframe number (R69), and OFS, ALIGN, NSUB, index and RUN of the last HDR (R70) -/
  sub : Nat
  ofs : Nat
  align : Nat
  nsub : Nat
  idx : Nat
  run : Bool
  /-- cycle number and package time of B_0 from MER (R74): seconds, nanoseconds, fraction -/
  cyc : Nat
  sec : Nat
  ns : Nat
  frac : Nat
  /-- command words waiting, in the order they execute (R119) -/
  waiting : List Waiting
  /-- BADCMD, LATE and DCRC since the last frozen report (R142) -/
  badcmd : Bool
  late : Bool
  dcrc : Nat
  /-- READ_REG data for the next report (R121) -/
  rdv : Bool
  raddr : Nat
  rdata : Nat
  blk : CellBlk
  carrier : Option Carrier
  /-- a carrier ran in the current subframe (R126) -/
  pwmc : Bool
  /-- shadows written since the last transfer (R128, R129) -/
  perW : Bool
  dutyW : Bool
  forceW : Bool
  /-- LEVEL of the FORCE in effect (R129) -/
  forced : Option Nat
  /-- KEY of the arming ARM_BYPASS (R135), the level of BYP, and the instant of the last SYNCO pulse (R130) -/
  key : Nat
  byp : Bool
  synco : Option Nat
  /-- level of GSUP_OK -/
  gsup : Bool
  /-- maps accepted whole, newest first, each with whether its report was sent (R75, R140); blocks of the map being
  received -/
  maps : List (GrantMap × Bool)
  mapNew : List Block
  /-- CMD blocks of this frame whose first copy failed (R77), by BIDX -/
  failed : List Nat
  /-- the last eight reports, newest first: (CYC, report) (R86) -/
  reports : List (Nat × BitVec 128)
  meas : Measured
  /-- TXEN is held low after a PLL unlock until a full map is accepted (R147) -/
  txOff : Bool
  /-- consecutive cycles with a check-code difference beyond CHK_WIN (R145) -/
  chk : Nat
  /-- the burst last sent -/
  burst : Option (BitVec 128)
  /-- pattern the outputs GA (bit 0) to GD (bit 3) are to show, and the instant each of them last fell (R122, R124) -/
  pat : Nat
  fell : List Nat
deriving DecidableEq, Repr

/-! ## Modulator -/

/-- What the estimator stores of a cycle (R162, R163): its number, VMI and QMI (0.25 mV with 8 fraction bits), and the state
the modulator commanded for the Meridian interval, if any. -/
structure CycleMark where
  cyc : Nat
  vmi : Int
  qmi : Int
  cmd : Option Nat
deriving DecidableEq, Repr

/-- The state a cell is taken to hold in one interval (R160, R162): its code, the duty of a PWM holder, and whether a word
commanded it. -/
structure IntervalState where
  st : Nat
  duty : Option Int
  cmd : Bool
deriving DecidableEq, Repr

/-- The estimator of one mapped cell (R162 to R168); voltages in 0.25 mV with 8 fraction bits. -/
structure CellEst where
  vs : Int
  vp : Int
  qacc : Int
  marks : List CycleMark
  /-- states of the last decided intervals, newest first -/
  hist : List IntervalState
  /-- cycle of the last report applied -/
  last : Option Nat
  /-- last usable measurement and last e -/
  vmeas : Int
  err : Int
  /-- the last applied report serves as the first of a learning pair (R167) -/
  learn : Bool
  /-- STATE and GSUP = 0 of the last applied report (R160) -/
  rstate : Nat
  gsup0 : Bool
  /-- STATE, TRIP, BYPA and BYPF of the last applied report, as R314 packs them -/
  seen : Nat
  klt : Nat
  k0 : Nat
  trend : Int
  age : Bool
  pftot : Nat
  stale : Nat
deriving DecidableEq, Repr

/-- An arm beside its registers (R156 to R173). -/
structure ArmSt where
  /-- the law reference last handed over, and whether it was renewed since the last cut-off (R159) -/
  lawRef : Int
  lawNew : Bool
  /-- the reference held from the pair's last pass record until the arm's own source gives one (R402, R407) -/
  held : Option Int
  /-- the reference selected in the last pass (R157, R401) -/
  ref : Int
  /-- ARM_REF was released at this cut-off -/
  refRel : Bool
  /-- consecutive misses, and whether REFMISS_TH has been acted on in this run of misses -/
  miss : Nat
  stale : Bool
  /-- arm-current samples, newest first (R162) -/
  cur : List Int
  /-- Meridians since the last holder move and since the budget window began (R169, R171) -/
  rot : Nat
  sww : Nat
  /-- this pass: it ranks, is a BLOCK pass, or the arm is idle; polarity, nint, d, and usable cells (R158) -/
  ranks : Bool
  blocks : Bool
  neg : Bool
  nint : Nat
  d : Nat
  nelig : Nat
  /-- words of this pass and of the previous one, by cell -/
  words : List (Nat × Word)
  prev : List (Nat × Word)
  /-- consecutive checker failures (R173) -/
  fails : Nat
deriving DecidableEq, Repr

/-- A report on its way to the modulator (R84, R152): global cell, its bits, and the instant its reception ended. -/
structure InReport where
  cell : Nat
  rep : BitVec 128
  at_ : Nat
deriving DecidableEq, Repr

/-- A modulator beside its registers. -/
structure Modul where
  arms : List (Nat × ArmSt)
  ests : List (Nat × CellEst)
  /-- mapped cells, ascending -/
  mapped : List Nat
  inbox : List InReport
  /-- 0: no pass yet in this subframe, 1: cut-off taken, 2: ranked, 3: checked, 4: missed the lane build cut-off (R50) -/
  phase : Nat
  /-- a snapshot of this cell is due after the pass (R174) -/
  snap : Option Nat
  /-- scheduler events of the pass, due after the checker verdict (R178) -/
  evq : List Nat
  /-- SPR has been acted on (R156) -/
  spr : Bool
  /-- downstream frames left with SET_STATE block for cells that had a running arm at a block reset, and those cells (R359) -/
  rstCells : List Nat
  rstFrames : Nat
deriving DecidableEq, Repr

/-! ## Polver cores -/

/-- FLAGS (R207, R246): Z, N, C, V and the sticky SAT. -/
structure Flags where
  z : Bool
  n : Bool
  c : Bool
  v : Bool
  sat : Bool
deriving DecidableEq, Repr

/-- What an outstanding load place serves (R212, R262, R263): a load of memory or a register, a put of a word with its
EPOCH, or a get, of channel `c` of K-die `k`. -/
inductive LoadKind where
  | mem
  | put (k c : Nat) (word : Word) (epoch : Nat)
  | get (k c : Nat)
deriving DecidableEq, Repr

/-- An outstanding load (R212): address, size, extension, destination, the datum once it is known, and whether it went
through an ORDERED window. -/
structure Load where
  kind : LoadKind
  addr : Nat
  size : Nat
  sext : Bool
  dst : Nat
  sup : Bool
  val : Option (BitVec 64)
  ordered : Bool
  /-- address of the instruction -/
  pc : Nat
deriving DecidableEq, Repr

/-- What a core waits for with its PC on the stalled instruction (R212, R219): an operand, a free load place, the store
buffer, a staging buffer, an ORDERED access, or a fence. -/
inductive Stall where
  | operand
  | loads
  | stores
  | staging
  | ordered
  | fenceR
  | fenceW
  | fenceRW
  | fenceSys
  | fenceCyc (d : Nat)
deriving DecidableEq, Repr

/-- What a core is blocked in, clock-stopped (R220), with the destination register. -/
inductive BlockedIn where
  | taskGet (d : Nat)
  | dbWait (d : Nat)
deriving DecidableEq, Repr

/-- A Polver core (R207). General, pointer, modifier, circular and accumulator registers are tables by number; g0 is
never listed. -/
structure Core where
  g : List (Nat × Word)
  p : List (Nat × Word)
  m : List (Nat × Word)
  cb : List (Nat × Word)
  cl : List (Nat × Word)
  acc : List (Nat × Acc72)
  pc : Word
  flags : Flags
  prv : Bool
  exl : Bool
  nmil : Bool
  pwr : Nat
  epc : Word
  estatus : Word
  ecause : Word
  eaddr : Word
  tvec : Word
  nepc : Word
  nstatus : Word
  ncause : Word
  nvec : Word
  sscr0 : Word
  sscr1 : Word
  tscr : Word
  /-- instant of the release in ns since chip reset, the latch of CCNT_HI, and ICNT (R231) -/
  born : Nat
  ccntHi : Word
  icnt : Word
  /-- outstanding loads, oldest first (R212) -/
  loads : List Load
  stall : Option Stall
  blockedIn : Option BlockedIn
  /-- cycle writes issued since the last completed FNC.CYC, how many of them STAGE_HOLD released, and the package time of
  the last response to one of them (R35) -/
  cycIssued : Nat
  cycHeld : Nat
  cycResp : Nat
  /-- the subframe the last completed FNC.CYC chose -/
  cycLast : Option Nat
  /-- pending NMI sources (R218) -/
  nmi : List Nat
deriving DecidableEq, Repr

/-- A freeze record (R223, R233). -/
structure FzRec where
  addr : Nat
  mid : Nat
  cause : Nat
  wr : Bool
  fetch : Bool
  taskp : Bool
  exl : Bool
  pc : Nat
deriving DecidableEq, Repr

/-! ## Scheduler, mailboxes -/

/-- The scheduler of a K-die (R257 to R260): ready slots in the order they were appended (the level of each is its PRI),
and cores blocked in TASK.GET in the order they blocked. -/
structure Sched where
  ready : List Nat
  blocked : List Nat
deriving DecidableEq, Repr

/-! ## A-dies -/

/-- A conversion in progress (R278, R284): the converter whose place it is, selector, alignment, result index, whether it
is urgent, by the spare, signed, marked REFBAD, and the subframe number of its boundary. -/
structure Conv where
  n : Nat
  sel : Nat
  aln : Nat
  ridx : Nat
  urg : Bool
  spare : Bool
  sgn : Bool
  refbad : Bool
  subn : Nat
deriving DecidableEq, Repr

/-- A pending urgent request (R287), and the package time it landed. -/
structure UrgReq where
  sel : Nat
  aln : Nat
  ridx : Nat
  at_ : Nat
deriving DecidableEq, Repr

/-- A result of the boundary in progress (R286, R289): converter, selector, result index, code and over-range. -/
structure ConvOut where
  n : Nat
  sel : Nat
  ridx : Nat
  code : Int
  ov : Bool
deriving DecidableEq, Repr

/-- Consecutive failed comparisons of a pair, and whether its episode has been acted on (R289). -/
structure PairRun where
  fails : Nat
  told : Bool
deriving DecidableEq, Repr

/-- An A-die (R278 to R297) beside its registers. -/
structure AdSt where
  /-- conversions whose results are still to come -/
  conv : List Conv
  /-- results of this boundary -/
  outs : List ConvOut
  /-- the code each result register stands for (R281) -/
  codes : List (Nat × Int)
  /-- writes of EN not yet in force, oldest first: sequencer, value and the package time the write landed (R293) -/
  enAt : List (Nat × Bool × Nat)
  urg : List (Nat × UrgReq)
  /-- sequencers whose entry due was put off by an urgent conversion at the last boundary (R288) -/
  put : List Nat
  runs : List (Nat × PairRun)
  /-- trims in force, offset and gain at full scale, in 1/16 LSB (R291) -/
  trims : List (Nat × (Int × Int))
  /-- the converter whose dwell comes next; this dwell's converter failed the match (R290, R291) -/
  next : Nat
  noMatch : Bool
deriving DecidableEq, Repr

/-! ## Law engine -/

/-- A law engine (R181 to R205) beside its registers. -/
structure LawSt where
  /-- 0 no pass, 1 fast pass, 2 slow pass; index and number of its subframe -/
  pass : Nat
  idx : Nat
  sub : Nat
  /-- writes that landed during the pass in progress, and those whose pass has ended (R193), in order: issuer, offset, word -/
  late : List (Wr × Nat × Word)
  ripe : List (Wr × Nat × Word)
  /-- channels that take part in the pass (R183) -/
  run : List Nat
  /-- channels whose RUN was written since the last Meridian (R191) -/
  runW : List Nat
  /-- evaluation resumes at the next Meridian (R198) -/
  wait : Bool
  /-- MODEL sections whose count reached PLK (R192): channel, section -/
  due : List (Nat × Nat)
  /-- the export in progress (R197): its trailer's address, the trailer, and whether the trailer has been issued -/
  exp : Option (Nat × Word × Bool)
deriving DecidableEq, Repr

/-! ## Ethernet and time -/

/-- The Ethernet and time block (R328 to R350) beside its registers. -/
structure EthSt where
  /-- channels (8 × stream + channel) that have taken a sample (R345) -/
  svHas : List Nat
  /-- integrator and frequency of the servo in 2^-15 ppb (R339) -/
  vnI : Int
  vnF : Int
  /-- consecutive samples beyond PATHSTEP_TH; primary samples (offset, path) and secondary samples collected in CHECK; the
  next primary sample gives PATHREF after REARM (R340) -/
  vnSteps : Nat
  vnPrim : List (Int × Nat)
  vnSec : List Int
  vnRef : Bool
  /-- sequence number of the next duplicated frame; accepted first copies, oldest first: source address, sequence number,
  package time (R334, R335) -/
  prpSeq : Nat
  prpSeen : List (Nat × Nat × Nat)
  /-- SYNC_OUT is high until this package time (R342), and the last SYNC_IN capture (R343) -/
  soHigh : Option Nat
  siTs : Nat
  siCnt : Nat
  /-- a transmit ring waits for TX_KICK (R332), by port -/
  txIdle : List Nat
  /-- smpCnt and port of the frame last accepted, by stream (R344: of two copies the first is used) -/
  svLast : List (Nat × (Nat × Nat))
  /-- the frames last sent: port and bytes without FCS -/
  sent : List (Nat × List Byte)
deriving DecidableEq, Repr

/-! ## DMA -/

/-- A DMA channel (R299 to R311) beside its registers: the descriptor at CH_DESC has still to be loaded, the state a pause
or a freeze left, what the loaded descriptor says, and the link word last read (R303). -/
structure DmaCh where
  load : Bool
  left : Nat
  index : Bool
  ie : Bool
  esize : Nat
  wb : Nat
  wlen : Nat
  link : Option Word
deriving DecidableEq, Repr

/-! ## Fault collector -/

/-- A record of the fault log (R365). -/
structure LogRec where
  src : Nat
  conseq : Bool
  inj : Bool
  esc : Bool
  mism : Bool
  sec : Nat
  ns : Nat
deriving DecidableEq, Repr

/-- The fault collector (R351 to R369) beside its registers. -/
structure Collector where
  /-- detections on the sideband wires, oldest first (R352) -/
  detect : List Nat
  log : List LogRec
  /-- block resets in progress, consequential windows and escalation windows open, by reset block (R359 to R361) -/
  resetting : List Nat
  conseq : List Nat
  escal : List Nat
  /-- a good 0x5A was written last to WD_KICK; the watchdog runs (R364) -/
  wd5a : Bool
  wdRun : Bool
  /-- armed injection: source and kind (R366) -/
  inj : Option (Nat × Nat)
  /-- the ALIVE output (R355) -/
  alive : Bool
  /-- NMIs on their way to cores: (MID, source) (R354) -/
  nmis : List (Nat × Nat)
  /-- the cycle of the last reactions (ns since chip reset), and the IRQ lines and cores raised in it (R354) -/
  lastAt : Nat
  lines : List Nat
  cores : List Nat
deriving DecidableEq, Repr

/-! ## Acquisition -/

/-- A record on its way to the capture memory (R313): its tick, KIND, SIG and VALUE. -/
structure AcqRec where
  tick : Nat
  kind : Nat
  sig : Nat
  val : Nat
deriving DecidableEq, Repr

/-- The acquisition engine of a K-die (R312 to R324) beside its registers. -/
structure AcqSt where
  /-- records waiting for the write port, in the order they are written (R315) -/
  queue : List AcqRec
  /-- firings of events (class 6) and sources (class 7) whose tick is still to come: (class, number, tick) (R314) -/
  due : List (Nat × Nat × Nat)
  /-- the value last observed by an entry, and the entries that lost a record (R314, R316) -/
  last : List (Nat × Nat)
  stale : List Nat
  /-- records lost and not yet named by a GAP record -/
  lostNow : Nat
  /-- tick of the last record written, or of ARM (R313) -/
  prev : Nat
  /-- the tick in which sources asserted last, and their word (R318) -/
  asTick : Nat
  asWord : Nat
  /-- T0, records written since the TRIGGER record, and the protected ones before it (R317, R320) -/
  t0 : Nat
  post : Nat
  kept : Nat
  /-- the TRIGGER record has been written -/
  trigged : Bool
  /-- this engine pulls XTRIG low (R319) -/
  drives : Bool
  /-- the subframe whose B_n + 620 ns was observed last -/
  obsN : Option Nat
  /-- the 64-bit BASE_TCNT, LAST_TCNT and TRIG_TCNT (R322) -/
  base : Nat
  lastT : Nat
  trigT : Nat
deriving DecidableEq, Repr

/-! ## Almanac -/

/-- An extreme of a record (R417): value, seconds, nanoseconds, and whom it came from. -/
structure AlmExt where
  val : Int
  sec : Nat
  ns : Nat
  who : Nat
deriving DecidableEq, Repr

/-- A record of the Almanac (R415 to R424): bins and delta counters that are not 0, TOTAL, the extremes, the count of image
writes, whether it changed since its last image, and observations counted for DECIM. -/
structure AlmRec where
  bins : List (Nat × Nat)
  delta : List (Nat × Nat)
  total : Nat
  mn : Option AlmExt
  mx : Option AlmExt
  wcnt : Nat
  changed : Bool
  /-- unchanged since its delta image of the full flush in progress (R464) -/
  flushed : Bool
  skip : Nat
deriving DecidableEq, Repr

/-- An observation in the queue (R418). -/
structure AlmObs where
  r : Nat
  val : Int
  who : Nat
  sec : Nat
  ns : Nat
deriving DecidableEq, Repr

/-- The Almanac (R415 to R428) beside its registers. -/
structure Almanac where
  recs : List (Nat × AlmRec)
  /-- records whose ON bit is set -/
  on : List Nat
  obs : List AlmObs
  /-- an observation was lost and the queue has not had room since (R418) -/
  qfull : Bool
  /-- FREEZE in force; the merge of R422 runs; another FREEZE waits for its end -/
  frozen : Bool
  merging : Bool
  again : Bool
  /-- the delta buffer (R421): increments by record and bin, and extreme candidates by record and kind (true: maximum) -/
  bufBins : List ((Nat × Nat) × Nat)
  bufExt : List ((Nat × Bool) × AlmExt)
  /-- source 0x029 has fired in this freeze -/
  bufLost : Bool
  /-- records the background pass and the early writes have still to write (R424) -/
  pass : List Nat
  early : List Nat
  /-- records whose delta image a full flush has still to write (R424, R425) -/
  flush : List Nat
  /-- observations are no longer taken (R425) -/
  stopped : Bool
deriving DecidableEq, Repr

/-! ## Pair and safety -/

/-- The pair logic (R394 to R414) beside its registers. -/
structure PairSt where
  /-- the level of PAIR_ACT_OUT -/
  actOut : Bool
  /-- the last pass records, newest first, at most eight (R404), and subframes since the last one with ACTIVE set -/
  passes : List PassRec
  passAge : Option Nat
  /-- consecutive subframes in which an ACTIVE pass record arrived while this package is ACTIVE (R394) -/
  clash : Nat
  /-- a pass record arrived in this subframe -/
  passNow : Bool
  /-- the last complete epoch and the Meridians since its capture, and changes of contexts from the active -/
  epoch : Option EpochRec
  /-- the peer's last status record, and subframes since -/
  status : Option StatusRec
  statusAge : Nat
  /-- subframe of the announced handover and its CAUSE (R409) -/
  h : Nat
  hcause : Nat
  /-- TBREQ and DRREQ in this package's status records -/
  tbreq : Bool
  drreq : Bool
  /-- an entry into ACTIVE waits for its first own Meridian: CAUSE (R406), and the instant of the entry -/
  entry : Option Nat
  entryAt : Nat
  /-- cycle up to which R166 is not judged (R407) -/
  noJudge : Option Nat
  /-- MIR_LIST words, by entry, to be written at the end of the next law pass of their K-die (R404) -/
  mirIn : List (Nat × Word)
  /-- context changes that wait for an own epoch (R403) -/
  changes : List EpochChange
  /-- SEQ, cell base and lane base of the next own epoch -/
  seqOut : Nat
  cellBase : Nat
  laneBase : Nat
  /-- the records sent last -/
  sentPass : Option PassRec
  sentStatus : Option StatusRec
  sentEpoch : Option EpochRec
  /-- FLATCH has taken the package out for good (R394) -/
  out : Bool
  /-- this package originated the drill in progress, and lanes that had an ACTIVE context at h (R412) -/
  drill : Bool
  drillLanes : List Nat
  /-- the handover in progress is a drill of this package or of its peer (R412) -/
  drilled : Bool
  /-- the condition behind each of the sources 0x1A3, 0x1A6 and 0x1A7 held when last judged -/
  told : List Nat
  /-- the CRC of the MIR_LIST table and CAPS_DIES of the peer's last epoch -/
  peerMir : Option Word
  peerCaps : Option Word
deriving DecidableEq, Repr

/-- The first copy of a safety frame (R382): its SEQ, its LAN (0 ETH0, 1 ETH1), its 48 bytes and its arrival; `done` when it
has been compared or the other copy has been counted as missing. -/
structure SafeCopy where
  seq : Nat
  lan : Nat
  bytes : List Byte
  at_ : Nat
  done : Bool
deriving DecidableEq, Repr

/-- The safety unit (R373 to R393) beside its registers. -/
structure SafSt where
  /-- the instant SPR became active (R374) -/
  sprAt : Nat
  /-- STOP_OUT_A and STOP_OUT_B have still to fall, BRK_TRIP has still to rise for this SPR, and the instant it rose -/
  stopDue : Bool
  brkDue : Bool
  brkAt : Option Nat
  /-- the instant of the SRS request, and the subframe of the fill k = 0 (R377) -/
  srsAt : Nat
  fill0 : Option Int
  /-- consecutive violating and consecutive stale fills, by monitor entry; entries whose stale episode has been told -/
  viol : List (Nat × Nat)
  stale : List (Nat × Nat)
  told : List Nat
  /-- SRS has found a violation (entry, fill), the end of the ramp, or an input time-out (R377, R378) -/
  violDue : Option (Nat × Nat)
  rampDue : Bool
  timeDue : Bool
  /-- last valid SEQ of each LAN; the last first copies, oldest first (R380, R382) -/
  seqs : List (Nat × Nat)
  copies : List SafeCopy
  /-- the last valid frame carried STOPREQ -/
  stopreq : Bool
  /-- consecutive SEQs valid on both LANs and matching; the instant the DEG timer started; DEG_LIM has been acted on (R383) -/
  recov : Nat
  degAt : Option Nat
  degTold : Bool
  /-- SEQ of the next status frame (R384) -/
  txSeq : Nat
  /-- both STOP_IN channels have been low together since DISC was set (R385) -/
  bothLow : Bool
deriving DecidableEq, Repr

/-! ## Metering and security -/

/-- What the metering unit gathers over the span in progress (R431, R434). The sums and extremes are exact: voltages in
2^-20 V, currents in 2^-20 A, powers in 2^-40 W, each times the 800 samples of a point. -/
structure MtrSpan where
  sec : Nat
  ns : Nat
  imp : Nat
  exp : Nat
  flags : Nat
  npts : Nat
  novr : Nat
  nref : Nat
  vmin : Int
  vmax : Int
  vsum : Int
  imin : Int
  imax : Int
  isum : Int
  pmin : Int
  pmax : Int
  calcnt : Nat
  /-- source 0x1B3 has fired in this interval -/
  told : Bool
deriving DecidableEq, Repr

/-- The metering unit (R430 to R442) beside its registers. -/
structure MtrSt where
  /-- IMPORT and EXPORT, exact, in 2^-42 Wh / 720,000,000 -/
  imp : Nat
  exp : Nat
  recno : Nat
  prev : BitVec 256
  span : MtrSpan
  /-- FRESH of the EN write whose restore runs -/
  fresh : Bool
  /-- GAPCAUSE of the next restore from a signed checkpoint (R440) -/
  cause : Nat
  /-- the checkpoint slot written next; a captured checkpoint has not been written yet (R437) -/
  slot : Nat
  busy : Bool
  /-- stopped by PWRFAIL_N until chip reset (R438) -/
  stopped : Bool
  /-- the last KIND 1 or 2 body and its signature -/
  lastBody : List Byte
  lastSig : List Byte
  /-- MRAM writes to be repeated at the next second: offset and bytes, and the checkpoint slot they fill, if any -/
  redo : List (Nat × List Byte × Option Nat)
deriving DecidableEq, Repr

/-- A body waiting for the signing engine (R436): KIND (1, 2, 3; 0x10 attestation) and its bytes. -/
structure SigJob where
  kind : Nat
  body : List Byte
deriving DecidableEq, Repr

/-- The security unit (R435, R436, R443 to R447) beside its registers. -/
structure SecSt where
  /-- bodies waiting, oldest first, and those to be signed again at the next whole second -/
  queue : List SigJob
  retry : List SigJob
  attBody : List Byte
  attSig : List Byte
  /-- IMGVER of the running image -/
  imgver : Nat
  /-- the boot ROM has done its work since the last chip reset, and the host may ask for RECOVER -/
  ran : Bool
deriving DecidableEq, Repr

/-! ## Power -/

/-- A command of an xSPI controller in progress (R466): OP, ADDR and LEN taken at GO. -/
structure XsJob where
  op : Nat
  addr : Nat
  len : Nat
deriving DecidableEq, Repr

/-- Clocks, power and reset (R452 to R475) beside their registers. -/
structure PwrSt where
  /-- a chip reset is being held (R459), by PORST_N (true in `porst`) or internally -/
  held : Bool
  porst : Bool
  /-- VDD_AO has been lost (R454) -/
  aoOff : Bool
  /-- ns from the always-on power-on reset to the last chip reset (R454: AO_CNT) -/
  aoNs : Nat
  /-- the crystal runs (R454) -/
  xtal : Bool
  /-- PERST_N holds the PCIe endpoint in reset (R486) -/
  perst : Bool
  xs : List (Nat × XsJob)
  /-- dies above TWARN and above TCRIT, in an episode that has been told (R471) -/
  warm : List Nat
  hot : List Nat
  /-- dies that failed their boot BIST and stay OFF (R470) -/
  bad : List Nat
  /-- Borrek links marked failed (R29) -/
  links : List Nat
deriving DecidableEq, Repr

end Sys2Proof.Machine
end

