-- ==== Sys2Proof/Machine/State.lean ====
section
/-!
DEFINITION. The state of the block as plain data, why a step can stop, and the state after reset.
-/
namespace Sys2Proof.Machine

/-- Faults. The model has none: every command the spec describes has an effect, a named exception being part of it. -/
inductive Fault where
  /-- No command raises it. Safe: it only says that the machine stopped. -/
  | stopped
deriving DecidableEq, Repr

/-- Refusals. -/
inductive Refusal where
  /-- A command whose meaning is not written. Raised by its arm of `exec` alone. Safe: no claim about it can be proved. -/
  | notModelled (mnemonic : String)
deriving DecidableEq, Repr

/-! ## Reset records -/

/-- A lane after reset (R100: DARK). -/
def Lane.reset : Lane :=
  { darkHeld := false, bcast := [], maps := [], rr := 95, occ := [], occall := 0, occPersist := none, lightNow := false,
    lightRun := 0, maint := [], regrant := [], scan := none, built := [], builtN := none, line := [], burstNow := false,
    darkCyc := 0 }

/-- A context after reset (R93: EMPTY). -/
def Ctx.reset : Ctx :=
  { queue := [], out := none, seqWait := false, rng := none, episode := false, rgMade := 0, goods := 0, drift := [],
    eqWait := false, see := [], seeBad := 0, seeDone := false, nopOnce := false, flt := none, cmdw := none }

/-- A cell with no supply (R114: OFF). -/
def Cell.reset : Cell :=
  { power := .off, vauxOn := false, sub := 0, ofs := 0, align := 0, nsub := 0, idx := 0, run := false, cyc := 0, sec := 0,
    ns := 0, frac := 0, waiting := [], badcmd := false, late := false, dcrc := 0, rdv := false, raddr := 0, rdata := 0,
    blk := ⟨false, false, false, false⟩, carrier := none, pwmc := false, perW := false, dutyW := false, forceW := false,
    forced := none, key := 0, byp := false, synco := none, gsup := true, maps := [], mapNew := [], failed := [],
    reports := [], meas := ⟨0, 3⟩, txOff := false, chk := 0, burst := none, pat := 0, fell := [0, 0, 0, 0] }

/-- An estimator that holds nothing (R174, R176: K0 and KLT nominal). -/
def CellEst.reset : CellEst :=
  { vs := 0, vp := 0, qacc := 0, marks := [], hist := [], last := none, vmeas := 0, err := 0, learn := false, rstate := 3,
    gsup0 := false, seen := 3, klt := 0x4000, k0 := 0x4000, trend := 0, age := false, pftot := 0, stale := 0 }

/-- An arm that is OFF. -/
def ArmSt.reset : ArmSt :=
  { lawRef := 0, lawNew := false, held := none, ref := 0, refRel := false, miss := 0, stale := false, cur := [], rot := 0, sww := 0, ranks := false,
    blocks := false, neg := false, nint := 0, d := 0, nelig := 0, words := [], prev := [], fails := 0 }

/-- A modulator after reset. -/
def Modul.reset : Modul :=
  { arms := [], ests := [], mapped := [], inbox := [], phase := 0, snap := none, evq := [], spr := false, rstCells := [],
    rstFrames := 0 }

/-- A core held in reset, and the state in which a release starts it but for its PC (R230) (DESIGN CHOICE, log 50). -/
def Core.reset : Core :=
  { g := [], p := [], m := [], cb := [], cl := [], acc := [], pc := 0, flags := ⟨false, false, false, false, false⟩,
    prv := true, exl := false, nmil := false, pwr := 0, epc := 0, estatus := 0, ecause := 0, eaddr := 0, tvec := 0x40,
    nepc := 0, nstatus := 0, ncause := 0, nvec := 0x80, sscr0 := 0, sscr1 := 0, tscr := 0, born := 0, ccntHi := 0,
    icnt := 0, loads := [], stall := none, blockedIn := none, cycIssued := 0, cycHeld := 0, cycResp := 0,
    cycLast := none, nmi := [] }

/-- The scheduler after reset: nothing ready, nobody blocked. -/
def Sched.reset : Sched := { ready := [], blocked := [] }

/-- The fault collector after reset. SPR is active from reset, so source 0x180 is on its way (R373, R374; DEDUCED, log entry
44). -/
def Collector.reset : Collector :=
  { detect := [0x180], log := [], resetting := [], conseq := [], escal := [], wd5a := false, wdRun := false, inj := none,
    alive := false, nmis := [], lastAt := 0, lines := [], cores := [] }

/-- An acquisition engine after reset. -/
def AcqSt.reset : AcqSt :=
  { queue := [], due := [], last := [], stale := [], lostNow := 0, prev := 0, asTick := 0, asWord := 0, t0 := 0, post := 0,
    kept := 0, trigged := false, drives := false, obsN := none, base := 0, lastT := 0, trigT := 0 }

/-- An A-die after reset. -/
def AdSt.reset : AdSt :=
  { conv := [], outs := [], codes := [], enAt := [], urg := [], put := [], runs := [], trims := [], next := 0,
    noMatch := false }

/-- A law engine after reset. -/
def LawSt.reset : LawSt :=
  { pass := 0, idx := 0, sub := 0, late := [], ripe := [], run := [], runW := [], wait := false, due := [], exp := none }

/-- The Ethernet and time block after reset. -/
def EthSt.reset : EthSt :=
  { svHas := [], vnI := 0, vnF := 0, vnSteps := 0, vnPrim := [], vnSec := [], vnRef := false, prpSeq := 0, prpSeen := [],
    soHigh := none, siTs := 0, siCnt := 0, txIdle := [], svLast := [], sent := [] }

/-- A DMA channel after reset. -/
def DmaCh.reset : DmaCh :=
  { load := false, left := 0, index := false, ie := false, esize := 0, wb := 0, wlen := 0, link := none }

/-- A cleared record. -/
def AlmRec.reset : AlmRec :=
  { bins := [], delta := [], total := 0, mn := none, mx := none, wcnt := 0, changed := false, flushed := false, skip := 0 }

/-- The Almanac after reset. -/
def Almanac.reset : Almanac :=
  { recs := [], on := [], obs := [], qfull := false, frozen := false, merging := false, again := false, bufBins := [],
    bufExt := [], bufLost := false, pass := [], early := [], flush := [], stopped := false }

/-- The pair logic after reset (R394: SOLO) (DESIGN CHOICE, log 8). -/
def PairSt.reset : PairSt :=
  { actOut := false, passes := [], passAge := none, clash := 0, passNow := false, epoch := none, status := none,
    statusAge := 0, h := 0, hcause := 0, tbreq := false, drreq := false, entry := none, entryAt := 0, noJudge := none,
    mirIn := [], changes := [], seqOut := 0, cellBase := 0, laneBase := 0, sentPass := none, sentStatus := none,
    sentEpoch := none, out := false, drill := false, drillLanes := [], drilled := false, told := [], peerMir := none,
    peerCaps := none }

/-- The safety unit after reset. -/
def SafSt.reset : SafSt :=
  { sprAt := 0, stopDue := false, brkDue := false, brkAt := none, srsAt := 0, fill0 := none, viol := [], stale := [],
    told := [], violDue := none, rampDue := false, timeDue := false, seqs := [], copies := [], stopreq := false, recov := 0,
    degAt := none, degTold := false, txSeq := 0, bothLow := false }

/-- A span that begins at an instant with the registers as they stand. -/
def MtrSpan.start (sec ns imp exp flags : Nat) : MtrSpan :=
  { sec := sec, ns := ns, imp := imp, exp := exp, flags := flags, npts := 0, novr := 0, nref := 0, vmin := 0, vmax := 0,
    vsum := 0, imin := 0, imax := 0, isum := 0, pmin := 0, pmax := 0, calcnt := 0, told := false }

/-- The metering unit after reset. -/
def MtrSt.reset : MtrSt :=
  { imp := 0, exp := 0, recno := 0, prev := 0, span := MtrSpan.start 0 0 0 0 0, fresh := false, cause := 1, slot := 0,
    busy := false, stopped := false, lastBody := [], lastSig := [], redo := [] }

/-- The security unit after reset. -/
def SecSt.reset : SecSt := { queue := [], retry := [], attBody := [], attSig := [], imgver := 0, ran := false }

/-- Clocks, power and reset once a chip reset has ended. -/
def PwrSt.reset : PwrSt :=
  { held := false, porst := false, aoOff := false, aoNs := 0, xtal := true, perst := false, xs := [], warm := [], hot := [], bad := [],
    links := [] }

/-- The machine. -/
structure State where
  /-- commands waiting, first in first out (the block's queue) -/
  pending : List Instr
  part : Part
  clk : Clock
  /-- package registers: values last written or set, and S-class values in force -/
  regs : RegFile
  act : RegFile
  /-- cell registers: written values, and S-class values in force; base of cell `c` is `c * 256` -/
  cregs : RegFile
  cact : RegFile
  /-- RAM: TCMs at their global aliases, shared SRAM, capture memories; then the boot NOR and the MRAM by offset -/
  mem : List Host.Cell
  nor : List Host.Cell
  mram : List Host.Cell
  fab : Fabric
  lanes : List (Nat × Lane)
  ctxs : List (Nat × Ctx)
  cells : List (Nat × Cell)
  mods : List (Nat × Modul)
  cores : List (Nat × Core)
  /-- freeze records in the queue, and the record of every frozen master (R223) -/
  fz : List FzRec
  frozen : List (Nat × FzRec)
  sched : List (Nat × Sched)
  fc : Collector
  ads : List (Nat × AdSt)
  laws : List (Nat × LawSt)
  eth : EthSt
  /-- DMA channels, numbered 16 × K-die + channel -/
  dmas : List (Nat × DmaCh)
  acq : List (Nat × AcqSt)
  alm : Almanac
  pair : PairSt
  saf : SafSt
  mtr : MtrSt
  sec : SecSt
  pwr : PwrSt
  /-- L-dies whose framers disagreed: they hold TXEN low (R107) -/
  txHold : List Nat
  /-- the boot ROM runs on pair 0 (R230) -/
  rom : Bool
  /-- free values taken so far (the model's own counter) -/
  fresh : Nat
deriving DecidableEq, Repr

/-- The part of the model: a DV-K2L4A2 with -M and -Q (R1; DESIGN CHOICE, log entry 3). -/
def Part.reset : Part := { kcount := 2, lmask := 15, amask := 3, m := true, q := true }

/-- Package registers whose value after reset is not the one of their field's table: fuses, OTP, straps, pins, and copies
that differ (R5, R18, R225, R230, R371, R392, R413, R449, R473). A field that is not listed holds its table's value
(DESIGN CHOICE, log 3 and 8). -/
def State.resetRegs : RegFile :=
  let set (r : RegFile) (e : Nat × Fld × Nat) : RegFile := r.set e.1 e.2.1 e.2.2
  [(0x20060000, Caps.CAPS_ID.DIEREV, Config.dierev.toNat), (0x20060000, Caps.CAPS_ID.STEP, Config.maskStep.toNat),
    (0x20060000, Caps.CAPS_DIES.KCOUNT, 2), (0x20060000, Caps.CAPS_DIES.LCOUNT, 4), (0x20060000, Caps.CAPS_DIES.ACOUNT, 2),
    (0x20060000, Caps.CAPS_DIES.M, 1), (0x20060000, Caps.CAPS_DIES.Q, 1), (0x20060000, Caps.CAPS_DIES.LMASK, 15),
    (0x20060000, Caps.CAPS_DIES.AMASK, 3), (0x20060000, Caps.CAPS_SIZE.LANES, 64), (0x20060000, Caps.CAPS_SIZE.ARMS, 12),
    (0x20060000, Caps.CAPS_SIZE.CELLSLOTS, 6144), (0x20000000, Fc.NMIG.MASK, 1), (0x20010000, Saf.SAFE_STAT.STIN, 3),
    (0x20040000, Secu.SEC_OTP.PROG, 1), (0x20040000, Secu.DEVID.ID, Config.devId.toNat % 2 ^ 32),
    (0x20040000, Secu.DEVID.ID.at 1, Config.devId.toNat / 2 ^ 32),
    (0x20046000, Cc.CORE_CTL.RST, 0), (0x20046000, Cc.CORE_CTL.PAIRED, 1), (0x20046010, Cc.CORE_CTL.RST, 0),
    (0x20046000, Cc.CORE_STAT.PAIRACT, 1), (0x20046000, Cc.CORE_STAT.STATE, 1), (0x20046010, Cc.CORE_STAT.STATE, 1),
    (0x20070000, Pwr.XS_CFG.FREQ, (Config.xsCfg 0).toNat % 4), (0x20070000, Pwr.XS_CFG.DUMMY, (Config.xsCfg 0).toNat / 4),
    (0x20070000, Pwr.XS_CFG.FREQ.at 1, (Config.xsCfg 1).toNat % 4),
    (0x20070000, Pwr.XS_CFG.DUMMY.at 1, (Config.xsCfg 1).toNat / 4)].foldl set []

/-- The machine right after reset (R18, R230, R328, R394): package time zero, the boot ROM on pair 0 of K-die 0, every
register at its reset value, nothing in memory, nothing waiting (DEDUCED, log 9). -/
def State.reset : State :=
  { pending := [], part := Part.reset,
    clk := { el := 0, pt := 0, ct := 0, pres := 0, bn := 0, n := 0, cycHi := 0, upOwed := 0, b0 := none, prev := none },
    regs := State.resetRegs, act := [], cregs := [], cact := [], mem := [], nor := [], mram := [],
    fab := { staged := [], flight := [], flit := [], reads := [], hostData := 0, hostAbort := false },
    lanes := [], ctxs := [], cells := [], mods := [], cores := [], fz := [], frozen := [],
    sched := [], fc := Collector.reset, ads := [], laws := [], eth := EthSt.reset, dmas := [], acq := [], alm := Almanac.reset,
    pair := PairSt.reset, saf := SafSt.reset, mtr := MtrSt.reset, sec := SecSt.reset, pwr := PwrSt.reset, txHold := [],
    rom := true, fresh := 0 }

end Sys2Proof.Machine
end

