-- ==== Sys2Proof/Machine/Ops.lean ====
section
/-!
DEFINITION. The named operations over registers, tables, memory, time, fault detections and scheduler events that every
family shares.
-/
namespace Sys2Proof.Machine

/-- The largest value a field holds. -/
def Fld.top (f : Fld) : Nat := 2 ^ f.wid - 1

/-! ## Block addresses (R22) -/

def capsB : Nat := 0x20060000
def pwrB : Nat := 0x20070000
def bistB : Nat := 0x20080000
def fcB : Nat := 0x20000000
def safB : Nat := 0x20010000
def pairB : Nat := 0x20020000
def almB : Nat := 0x20030000
def secB : Nat := 0x20040000
def mtrB : Nat := 0x20050000
def fzB : Nat := 0x20047000
/-- Window entry `w` of master `m` (R25). -/
def winB (m w : Nat) : Nat := 0x20048000 + m * 0x100 + w * 0x10
/-- Control registers of core `m` (R232). -/
def coreB (m : Nat) : Nat := 0x20046000 + m * 0x10
/-- Block `j` of K-die `k`: 0 scheduler, 1 mailboxes, 2 DMA, 3 law, 4 modulator, 5 acquisition, 6 Ethernet. -/
def kB (k j : Nat) : Nat := 0x30000000 + k * 0x1000000 + j * 0x10000
def schB (k : Nat) : Nat := kB k 0
def mbxB (k : Nat) : Nat := kB k 1
def dmaB (k : Nat) : Nat := kB k 2
def dchB (k c : Nat) : Nat := kB k 2 + 0x100 + c * 0x40
def lawB (k : Nat) : Nat := kB k 3
def lchB (k c : Nat) : Nat := kB k 3 + 0x100 + c * 0x40
def lsecB (k c i : Nat) : Nat := kB k 3 + 0x2000 + c * 0x800 + i * 8
def modB (k : Nat) : Nat := kB k 4
def armB (k a : Nat) : Nat := kB k 4 + 0x1000 + a * 0x100
/-- Cell-table entry of global cell `c` in the modulator of K-die `k` (R174). -/
def ctB (k c : Nat) : Nat := kB k 4 + 0x4000 + c * 8
def acqB (k : Nat) : Nat := kB k 5
def ethB : Nat := 0x30060000
def portB (e : Nat) : Nat := 0x30061000 + e * 0x100
def svB (i : Nat) : Nat := 0x30062000 + i * 0x20
/-- Lane registers of global lane `n` (R104). -/
def laneB (n : Nat) : Nat := 0x40000000 + (n / 16) * 0x1000000 + (n % 16) * 0x1000
/-- Context of global cell `c` (R22, R59). -/
def ctxB (c : Nat) : Nat :=
  0x40100000 + (c / 96 / 16) * 0x1000000 + (c / 96 % 16) * 0x6000 + (c % 96) * 0x100
def adB (a : Nat) : Nat := 0x50000000 + a * 0x100000
def seqB (a n : Nat) : Nat := adB a + 0x100 + n * 0x10
def sleB (a n : Nat) : Nat := adB a + 0x400 + n * 0x80
/-- Registers of cell `c` in the cell register file. -/
def cellB (c : Nat) : Nat := c * 256

namespace State

/-! ## Registers -/

/-- The value of a package register field. -/
def rd (s : State) (b : Nat) (f : Fld) : Nat := s.regs.get b f

/-- Set a package register field. -/
def wr (s : State) (b : Nat) (f : Fld) (v : Nat) : State := { s with regs := s.regs.set b f v }

/-- A one-bit field reads 1. -/
def on (s : State) (b : Nat) (f : Fld) : Bool := s.rd b f != 0

/-- Set a one-bit field from a truth value. -/
def wrB (s : State) (b : Nat) (f : Fld) (v : Bool) : State := s.wr b f v.toNat

/-- Count up by `d`, saturating at the field's largest value. -/
def incBy (s : State) (b : Nat) (f : Fld) (d : Nat) : State := s.wr b f (min (s.rd b f + d) f.top)

/-- Count up by one, saturating. -/
def inc (s : State) (b : Nat) (f : Fld) : State := s.incBy b f 1

/-- Count up by one, wrapping at the field's width. -/
def incW (s : State) (b : Nat) (f : Fld) : State := s.wr b f (s.rd b f + 1)

/-- The value in force of an S-class field (R13). -/
def rdA (s : State) (b : Nat) (f : Fld) : Nat := s.act.get b f

/-- Put an S-class field's last written value in force (R13, R495). -/
def takeS (s : State) (b : Nat) (f : Fld) : State := { s with act := s.act.set b f (s.rd b f) }

/-- Set both the written value and the value in force. -/
def wrBoth (s : State) (b : Nat) (f : Fld) (v : Nat) : State :=
  { s with regs := s.regs.set b f v, act := s.act.set b f v }

/-- A cell register field (R149), and setting it. -/
def crd (s : State) (c : Nat) (f : Fld) : Nat := s.cregs.get (cellB c) f
def cwr (s : State) (c : Nat) (f : Fld) (v : Nat) : State := { s with cregs := s.cregs.set (cellB c) f v }
def con (s : State) (c : Nat) (f : Fld) : Bool := s.crd c f != 0
def cwrB (s : State) (c : Nat) (f : Fld) (v : Bool) : State := s.cwr c f v.toNat
def cinc (s : State) (c : Nat) (f : Fld) : State := s.cwr c f (min (s.crd c f + 1) f.top)

/-! ## Tables -/

def lane (s : State) (n : Nat) : Lane := Tab.get s.lanes n Lane.reset
def setLane (s : State) (n : Nat) (x : Lane) : State := { s with lanes := Tab.put s.lanes n x }
def ctx (s : State) (c : Nat) : Ctx := Tab.get s.ctxs c Ctx.reset
def setCtx (s : State) (c : Nat) (x : Ctx) : State := { s with ctxs := Tab.put s.ctxs c x }
def cell (s : State) (c : Nat) : Cell := Tab.get s.cells c Cell.reset
def setCell (s : State) (c : Nat) (x : Cell) : State := { s with cells := Tab.put s.cells c x }
def modul (s : State) (k : Nat) : Modul := Tab.get s.mods k Modul.reset
def setModul (s : State) (k : Nat) (x : Modul) : State := { s with mods := Tab.put s.mods k x }
def arm (s : State) (k a : Nat) : ArmSt := Tab.get (s.modul k).arms a ArmSt.reset
def setArm (s : State) (k a : Nat) (x : ArmSt) : State :=
  s.setModul k { s.modul k with arms := Tab.put (s.modul k).arms a x }
def modArm (s : State) (k a : Nat) (f : ArmSt → ArmSt) : State := s.setArm k a (f (s.arm k a))
def est (s : State) (k c : Nat) : CellEst := Tab.get (s.modul k).ests c CellEst.reset
def setEst (s : State) (k c : Nat) (x : CellEst) : State :=
  s.setModul k { s.modul k with ests := Tab.put (s.modul k).ests c x }
def modEst (s : State) (k c : Nat) (f : CellEst → CellEst) : State := s.setEst k c (f (s.est k c))
def ad (s : State) (a : Nat) : AdSt := Tab.get s.ads a AdSt.reset
def setAd (s : State) (a : Nat) (x : AdSt) : State := { s with ads := Tab.put s.ads a x }
def modAd (s : State) (a : Nat) (f : AdSt → AdSt) : State := s.setAd a (f (s.ad a))
def law (s : State) (k : Nat) : LawSt := Tab.get s.laws k LawSt.reset
def setLaw (s : State) (k : Nat) (x : LawSt) : State := { s with laws := Tab.put s.laws k x }
def modLaw (s : State) (k : Nat) (f : LawSt → LawSt) : State := s.setLaw k (f (s.law k))
def dma (s : State) (k c : Nat) : DmaCh := Tab.get s.dmas (16 * k + c) DmaCh.reset
def modDma (s : State) (k c : Nat) (f : DmaCh → DmaCh) : State :=
  { s with dmas := Tab.put s.dmas (16 * k + c) (f (s.dma k c)) }
def acqs (s : State) (k : Nat) : AcqSt := Tab.get s.acq k AcqSt.reset
def setAcq (s : State) (k : Nat) (x : AcqSt) : State := { s with acq := Tab.put s.acq k x }
def core (s : State) (m : Nat) : Core := Tab.get s.cores m Core.reset
def setCore (s : State) (m : Nat) (x : Core) : State := { s with cores := Tab.put s.cores m x }
def sch (s : State) (k : Nat) : Sched := Tab.get s.sched k Sched.reset
def setSch (s : State) (k : Nat) (x : Sched) : State := { s with sched := Tab.put s.sched k x }

/-! ## The part (R1, R2, R5) -/

def hasK (s : State) (k : Nat) : Bool := decide (k < s.part.kcount)
def hasL (s : State) (l : Nat) : Bool := decide (l < 4) && s.part.lmask.getLsbD l
def hasA (s : State) (a : Nat) : Bool := decide (a < 2) && s.part.amask.getLsbD a
/-- The K-dies present, ascending. -/
def kdies (s : State) : List Nat := (List.range 2).filter s.hasK
/-- Die `d` is present (R456 numbers them) (DESIGN CHOICE, log 3). -/
def hasDie (s : State) (d : Nat) : Bool :=
  if d < 2 then s.hasK d else if d < 6 then s.hasL (d - 2) else s.hasA (d - 6)
/-- Die `d` is present, on and ready, and not switching or under BIST (R457), and no chip reset is held (R459)
(DEDUCED, log 45). -/
def dieUp (s : State) (d : Nat) : Bool :=
  !s.pwr.held && s.hasDie d && (s.rd pwrB Pwr.DIE_STAT.RDY).testBit d && !((s.rd pwrB Pwr.DIE_STAT.BUSY).testBit d)
/-- The global lanes present, ascending. -/
def laneList (s : State) : List Nat := (List.range 64).filter (fun n => s.hasL (n / 16))

/-! ## Time (R44, R328) -/

/-- Package time NS, SEC and FRAC. -/
def nowNs (s : State) : Nat := s.clk.pt / 65536 % 1000000000
def nowSec (s : State) : Nat := s.clk.pt / 65536000000000
def nowFrac (s : State) : Nat := s.clk.pt % 65536
/-- Let package time reach the instant `t` (2^-16 ns), if it is not there yet; elapsed time follows. -/
def reach (s : State) (t : Nat) : State :=
  if s.clk.pt < t then
    { s with clk := { s.clk with pt := t, ct := s.clk.ct + (t - s.clk.pt), el := s.clk.el + (t - s.clk.pt) / 65536 } }
  else s
/-- Let package time reach B_n + `ns` of the current subframe (R47). -/
def reachOfs (s : State) (ns : Nat) : State := s.reach (s.clk.bn + ns * 65536)
/-- The cycle timer runs (R56). -/
def running (s : State) : Bool := s.on pwrB Cyc.CYC_STAT.RUN
/-- The cycle number (R57). -/
def cycNum (s : State) : Nat := s.clk.cycHi * 4294967296 + s.rd pwrB Cyc.CYC_NUM_LO.NUM_LO
def nsub (s : State) : Nat := s.rd pwrB Cyc.CYC_CTL.NSUB
def subIdx (s : State) : Nat := s.rd pwrB Cyc.CYC_STAT.SUBIDX
def upSlots (s : State) : Nat := s.rd pwrB Cyc.CYC_STAT.UPSLOTS
/-- ALIGN_DELAY in ns (R46, R58). -/
def alignNs (s : State) : Nat := 4 * s.rd pwrB Cyc.CYC_CTL.ALIGN

/-- Ticks of 3.103 ns since chip reset (R312): the first tick at or after now. -/
def tick (s : State) : Nat := (s.clk.el * 165 + 511) / 512

/-! ## Free values -/

/-- The next free bit: what the spec leaves open between two outcomes (DESIGN CHOICE, log 5). -/
def freeBit (s : State) : Bool × State := (Config.freeBit s.fresh, { s with fresh := s.fresh + 1 })
/-- The next free word: a value the spec leaves open (DESIGN CHOICE, log 5). -/
def freeWord (s : State) : Word × State := (Config.freeValue s.fresh, { s with fresh := s.fresh + 1 })

/-- STAGE_HOLD: 0 and values above 8 act as 8 (R42) (DEDUCED, log 19 and 20). -/
def stageHold (s : State) : Nat :=
  let h := s.rd capsB Fab.FAB_CTL.STAGE_HOLD
  if h = 0 ∨ 8 < h then 8 else h

end State

/-! ## Memory (R22): bytes in canonical form -/

/-- The byte at an address: what is listed, else 0 (DESIGN CHOICE, unsafe: log entry 2). -/
def Mem.read : List Host.Cell → Nat → Byte
  | [], _ => 0
  | (a, v) :: r, k => if a = k then v else Mem.read r k

/-- Forget an address. -/
def Mem.erase : List Host.Cell → Nat → List Host.Cell
  | [], _ => []
  | (a, v) :: r, k => if a = k then r else (a, v) :: Mem.erase r k

/-- List a byte, addresses rising (DESIGN CHOICE, log 2). -/
def Mem.ins : List Host.Cell → Nat → Byte → List Host.Cell
  | [], k, v => [(k, v)]
  | (a, w) :: r, k, v =>
    if k < a then (k, v) :: (a, w) :: r
    else if k = a then (k, v) :: r
    else (a, w) :: Mem.ins r k v

/-- Write one byte, keeping the canonical form: writing 0 removes the entry. -/
def Mem.write (m : List Host.Cell) (k : Nat) (v : Byte) : List Host.Cell :=
  if v = 0 then Mem.erase m k else Mem.ins m k v

/-- Addresses rise strictly and no listed byte is 0 (DESIGN CHOICE, log 2). -/
def Memory.wf : List Host.Cell → Bool
  | [] => true
  | [(_, v)] => decide (v ≠ 0)
  | (a, v) :: (b, w) :: r => decide (v ≠ 0) && decide (a < b) && Memory.wf ((b, w) :: r)

/-- `n` bytes from address `a`, little-endian, as a number (R244: words are little-endian). -/
def Mem.readN (m : List Host.Cell) (a : Nat) : Nat → Nat
  | 0 => 0
  | n + 1 => (Mem.read m a).toNat + 256 * Mem.readN m (a + 1) n

/-- Write the low `n` bytes of `v` from address `a`, little-endian. -/
def Mem.writeN (m : List Host.Cell) (a : Nat) (v : Nat) : Nat → List Host.Cell
  | 0 => m
  | n + 1 => Mem.writeN (Mem.write m a (BitVec.ofNat 8 v)) (a + 1) (v / 256) n

/-- Write a list of bytes from address `a`. -/
def Mem.writeBytes (m : List Host.Cell) (a : Nat) : List Byte → List Host.Cell
  | [] => m
  | b :: r => Mem.writeBytes (Mem.write m a b) (a + 1) r

/-- `n` bytes from address `a`. -/
def Mem.bytes (m : List Host.Cell) (a : Nat) : Nat → List Byte
  | 0 => []
  | n + 1 => Mem.read m a :: Mem.bytes m (a + 1) n

/-! ## Numbers -/

/-- A field value read as signed, of `w` bits. -/
def toSigned (v w : Nat) : Int := if v % 2 ^ w ≥ 2 ^ (w - 1) then (v % 2 ^ w : Int) - 2 ^ w else (v % 2 ^ w : Int)

/-- An integer as the `w` bits of its two's complement. -/
def ofSigned (i : Int) (w : Nat) : Nat := (i % (2 ^ w : Int)).toNat

/-- Clamp to a range. -/
def clampI (lo hi x : Int) : Int := if x < lo then lo else if x > hi then hi else x

/-- A bit of a number as a truth value is `Nat.testBit`; setting or clearing one bit. -/
def setBit (v i : Nat) : Nat := v ||| 2 ^ i
def clrBit (v i : Nat) : Nat := if v.testBit i then v - 2 ^ i else v
def putBit (v i : Nat) (b : Bool) : Nat := if b then setBit v i else clrBit v i

/-- Bits `hi:lo` of a number. -/
def bits (v hi lo : Nat) : Nat := v / 2 ^ lo % 2 ^ (hi - lo + 1)

end Sys2Proof.Machine
end

