-- ==== Sys2Proof/Machine/Sources.lean ====
section
/-!
DEFINITION. Which fault sources can fire on the part, and a detection on its way to the collector (R351, R352).
-/
namespace Sys2Proof.Machine

namespace State

/-- The unit a source belongs to is on the part, and its die is up (R10, R108, R277, R298, R311, R327, R369, R451, R469). -/
def srcUp (s : State) (n : Nat) : Bool :=
  if 0x020 ≤ n ∧ n < 0x024 then s.part.q
  else if 0x024 ≤ n ∧ n < 0x028 then s.part.q && s.dieUp 1
  else if 0x080 ≤ n ∧ n < 0x0C0 then s.dieUp 1
  else if 0x0C0 ≤ n ∧ n < 0x140 then s.dieUp (2 + (n - 0x0C0) / 0x20)
  else if 0x140 ≤ n ∧ n < 0x160 then s.dieUp (6 + (n - 0x140) / 0x10)
  else if 0x1B0 ≤ n ∧ n < 0x1B8 then s.part.m
  else if 0x1E0 ≤ n ∧ n < 0x200 then s.hasL ((n - 0x1E0) / 8)
  else true

/-- Source `n` can fire on this part. -/
def canFire (s : State) (n : Nat) : Bool := !s.pwr.held && (srcInfo n).isSome && s.srcUp n

/-- A detection of source `n` leaves for the collector (R352); FAULT_FIRING is its arrival. -/
def fire (s : State) (n : Nat) : State :=
  if s.canFire n then { s with fc := { s.fc with detect := s.fc.detect ++ [n] } } else s

/-- A detection if `b` holds. -/
def fireIf (s : State) (b : Bool) (n : Nat) : State := if b then s.fire n else s

/-- A detection of a source of K-die `k`, numbered as on K-die 0. -/
def fireK (s : State) (k n : Nat) : State := s.fire (n + 0x40 * k)

end State

end Sys2Proof.Machine
end

