-- ==== Sys2Proof/Machine/CoreOps.lean ====
section
/-!
DEFINITION. The shared operations of the cores and of the units that wake them: general registers, core state, the
scheduler's activation and giving of tasks, scheduler events, access windows, address ranges, freezes, and taking and
leaving a trap.
-/
namespace Sys2Proof.Machine

/-! ## Register tables of a core (R207) -/

namespace Core

/-- g[i]; g0 reads as zero. -/
def rg (c : Core) (i : Nat) : Word := if i = 0 then 0 else Tab.get c.g i 0
/-- Write g[i]; writes to g0 are discarded. -/
def wg (c : Core) (i : Nat) (v : Word) : Core := if i = 0 then c else { c with g := Tab.put c.g i v }
def rp (c : Core) (i : Nat) : Word := Tab.get c.p i 0
def wp (c : Core) (i : Nat) (v : Word) : Core := { c with p := Tab.put c.p i v }
def rm (c : Core) (i : Nat) : Word := Tab.get c.m i 0
def wm (c : Core) (i : Nat) (v : Word) : Core := { c with m := Tab.put c.m i v }
def rcb (c : Core) (i : Nat) : Word := Tab.get c.cb i 0
def rcl (c : Core) (i : Nat) : Word := Tab.get c.cl i 0
def wcirc (c : Core) (i : Nat) (b l : Word) : Core := { c with cb := Tab.put c.cb i b, cl := Tab.put c.cl i l }
def ra (c : Core) (i : Nat) : Acc72 := Tab.get c.acc i 0
def wa (c : Core) (i : Nat) (v : Acc72) : Core := { c with acc := Tab.put c.acc i v }

/-- The instruction completes: the PC moves to the next one and ICNT counts it (R231). -/
def done (c : Core) : Core := { c with pc := c.pc + 4, icnt := c.icnt + 1, stall := none }

/-- The instruction completes with the PC elsewhere. -/
def doneAt (c : Core) (pc : Word) : Core := { c with pc := pc &&& 0xFFFFFFFC, icnt := c.icnt + 1, stall := none }

/-- The instruction waits with the PC on it (R212, R219) (DESIGN CHOICE, log 15). -/
def wait (c : Core) (w : Stall) : Core := { c with stall := some w }

/-- STATUS (R231) but for PAIRED. -/
def status (c : Core) (paired : Bool) : Word :=
  BitVec.ofNat 32 (c.prv.toNat + 2 * c.exl.toNat + 4 * c.nmil.toNat + 8 * paired.toNat + 16 * c.pwr)

/-- Restore PRV, EXL, NMIL and the power mode from a saved STATUS (R216, R218). -/
def setStatus (c : Core) (w : Word) : Core :=
  { c with prv := w.getLsbD 0, exl := w.getLsbD 1, nmil := w.getLsbD 2, pwr := (w.toNat / 16) % 4 }

/-- A load is outstanding to general register `i` (R212) (DESIGN CHOICE, log 15). -/
def awaits (c : Core) (i : Nat) : Bool :=
  i != 0 && c.loads.any (fun l => l.dst == i || (l.size == 8 && l.dst + 1 == i))

/-- FLAGS as SR 0x01 gives them (R231). -/
def flagWord (c : Core) : Word :=
  BitVec.ofNat 32 (c.flags.z.toNat + 2 * c.flags.n.toNat + 4 * c.flags.c.toNat + 8 * c.flags.v.toNat + 16 * c.flags.sat.toNat)

end Core

/-- A core at supervisor privilege or MID 0x7F issued the write (R209, R265). -/
def privileged (w : Wr) : Bool := w.mid == 0x7F || (decide (w.mid < 32) && w.sup)

namespace State

/-- A register write of a master has landed: its response returns and it is no longer in flight (R31). -/
def retire (s : State) (w : Wr) (addr : Nat) : State :=
  { s with fab := { s.fab with flight := s.fab.flight.eraseP (fun f => f.mid == w.mid && f.addr == addr) } }

/-- Deliver the datum of a read whose side effect has happened to the master that reads (R30). -/
def answer (s : State) (mid addr : Nat) (v : Word) : State :=
  { s with fab := { s.fab with reads := s.fab.reads ++ [(mid, addr, v)] } }

/-! ## Which cores run -/

/-- Core `m` is held in reset (R232). -/
def inRst (s : State) (m : Nat) : Bool := s.on (coreB m) Cc.CORE_CTL.RST
/-- The pair of core `m` is in paired mode (R225). -/
def paired (s : State) (m : Nat) : Bool := s.on (coreB (m / 2 * 2)) Cc.CORE_STAT.PAIRACT
/-- The core that runs for `m`: the even core of a paired pair. -/
def lead (s : State) (m : Nat) : Nat := if s.paired m then m / 2 * 2 else m
/-- Master `m` is frozen (R223). -/
def isFrozen (s : State) (m : Nat) : Bool := s.frozen.any (fun e => e.1 == m)
/-- The boot ROM runs on pair 0 (R230): RST of core 0 is clear and no image has been released. -/
def inRom (s : State) : Bool := s.rom
/-- Core `m` can execute its next instruction: it exists, is not the odd core of a paired pair, not in reset, frozen,
blocked, parked, or stalled in a fence (R220, R225, R230) (DESIGN CHOICE, log 15). -/
def canRun (s : State) (m : Nat) : Bool :=
  decide (m < 32) && s.dieUp (m / 16) && !(s.paired m && m % 2 == 1) && !s.inRst m && !s.isFrozen m &&
  (s.core m).blockedIn.isNone && (s.core m).pwr != 2 &&
  (match (s.core m).stall with
   | some .fenceR | some .fenceW | some .fenceRW | some .fenceSys | some (.fenceCyc _) => false
   | _ => true)
/-- The MID under which core `m` issues (R225, R230): 0x7F while the boot ROM runs on pair 0. -/
def accMid (s : State) (m : Nat) : Nat := if s.rom && m == 0 then 0x7F else m

/-- CORE_STAT.STATE of a core (R232): 0 RESET, 1 RUN, 2 BLOCKED, 3 FROZEN, 4 PARKED, 5 DOZE. -/
def coreState (s : State) (m : Nat) : Nat :=
  if s.inRst m then 0
  else if s.isFrozen m then 3
  else if (s.core m).blockedIn.isSome then 2
  else if (s.core m).pwr = 2 then 4
  else if (s.core m).pwr = 1 then 5
  else 1

/-- Let CORE_STAT.STATE follow the core; the odd core of a paired pair mirrors it (R225). -/
def syncCore (s : State) (m : Nat) : State :=
  let v := s.coreState m
  let s := s.wr (coreB m) Cc.CORE_STAT.STATE v
  if s.paired m && m % 2 == 0 then s.wr (coreB (m + 1)) Cc.CORE_STAT.STATE v else s

/-- Change core `m`. -/
def modCore (s : State) (m : Nat) (f : Core → Core) : State := s.setCore m (f (s.core m))

/-! ## Absent units and dies that are off (R6 to R8, R457) -/

/-- An absent-unit event is recorded and counted (R6). -/
def absentEvt (s : State) (mid addr : Nat) (wr insn : Bool) : State :=
  let b := capsB
  ((((s.wr b Caps.ABSENT_ADDR.ADDR addr).wr b Caps.ABSENT_INFO.MID mid).wrB b Caps.ABSENT_INFO.WR wr).wrB b
    Caps.ABSENT_INFO.INSN insn).inc b Caps.ABSENT_INFO.COUNT

/-- An access to a die that is off, turning on or under BIST: the first one since the last clear is recorded (R457). -/
def offEvt (s : State) (mid addr : Nat) (wr : Bool) : State :=
  if s.on pwrB Pwr.OFF_INFO.VALID then s
  else
    ((((s.wr pwrB Pwr.OFF_ADDR.ADDR addr).wr pwrB Pwr.OFF_INFO.MID mid).wrB pwrB Pwr.OFF_INFO.WR wr).wr pwrB
      Pwr.OFF_INFO.VALID 1).fire 0x1C5

end State

/-- What lies at an address (R22): a TCM byte by its global alias, shared SRAM, a register block, capture memory of a
K-die, boot NOR, PCIe outbound, an absent optional unit, a die that is off, or nothing. -/
inductive Loc where
  | tcm (n off : Nat)
  | sram
  | reg
  | cap (k : Nat)
  | xip (off : Nat)
  | pcie
  | absent
  | off
  | reserved
deriving DecidableEq, Repr

/-- Capture memory: a write to it travels and is then discarded (R321). -/
def Loc.isCap : Loc → Bool
  | .cap _ => true
  | _ => false

namespace State

/-- Where an address of an accessor lies; `own` is the core that issues, for its own TCM range (R21, R22). -/
def locate (s : State) (own : Option Nat) (a : Nat) : Loc :=
  let onDie (d : Nat) (l : Loc) : Loc := if !s.hasDie d then .absent else if !s.dieUp d then .off else l
  if a < 0x20000 then (match own with | some n => .tcm n a | none => .reserved)
  else if a < 0x08000000 then .reserved
  else if a < 0x08400000 then
    let n := (a - 0x08000000) / 0x20000
    onDie (n / 16) (.tcm n (a % 0x20000))
  else if a < 0x10000000 then .reserved
  else if a < 0x10400000 then .sram
  else if a < 0x10800000 then onDie 1 .sram
  else if a < 0x20000000 then .reserved
  else if a < 0x20050000 then .reg
  else if a < 0x20060000 then (if s.part.m then .reg else .absent)
  else if a < 0x20090000 then .reg
  else if a < 0x30000000 then .reserved
  else if a < 0x30050000 then .reg
  else if a < 0x30060000 then (if s.part.q then .reg else .absent)
  else if a < 0x30070000 then .reg
  else if a < 0x31000000 then .reserved
  else if a < 0x31050000 then onDie 1 .reg
  else if a < 0x31060000 then (if s.part.q then onDie 1 .reg else .absent)
  else if a < 0x40000000 then .reserved
  else if a < 0x44000000 then
    let o := a % 0x1000000
    if o < 0x10000 ∨ (0x100000 ≤ o ∧ o < 0x160000) then onDie (2 + (a - 0x40000000) / 0x1000000) .reg else .reserved
  else if a < 0x50000000 then .reserved
  else if a < 0x50200000 then onDie (6 + (a - 0x50000000) / 0x100000) .reg
  else if a < 0x60000000 then .reserved
  else if a < 0x60800000 then (if s.part.q then .cap 0 else .absent)
  else if a < 0x61000000 then (if s.part.q then onDie 1 (.cap 1) else .absent)
  else if a < 0x70000000 then .reserved
  else if a < 0x80000000 then .xip (a - 0x70000000)
  else .pcie

/-- The cycle-write target an address belongs to (R34): a modulator or the cell contexts of an L-die. -/
def cycTarget (a : Nat) : Option Target :=
  if 0x30040000 ≤ a ∧ a < 0x30050000 then some (.mod 0)
  else if 0x31040000 ≤ a ∧ a < 0x31050000 then some (.mod 1)
  else if 0x40000000 ≤ a ∧ a < 0x44000000 ∧ 0x100000 ≤ a % 0x1000000 ∧ a % 0x1000000 < 0x160000 then
    some (.ctx ((a - 0x40000000) / 0x1000000))
  else none

/-- An address where RAM lies, as the key of `mem`: the accessor's own TCM at its global alias (R22). -/
def memKey (l : Loc) (a : Nat) : Option Nat :=
  match l with
  | .tcm n o => some (0x08000000 + n * 0x20000 + o)
  | .sram | .cap _ => some a
  | _ => none

/-! ## Access windows (R25, R26) -/

/-- What an access needs of its window. -/
inductive Need where
  | rd
  | wr
  | ex
deriving DecidableEq, Repr

/-- The deciding window of an access (R26). -/
def window (s : State) (mid a size : Nat) : Option Nat :=
  (List.range 16).find? (fun w =>
    s.on (winB mid w) Win.WATTR.EN && decide (s.rd (winB mid w) Win.WBASE.BASE * 4096 ≤ a) &&
    decide (a + size ≤ s.rd (winB mid w) Win.WLIMIT.LIMIT * 4096 + 4096))

/-- The window check (R26): the freeze cause of a violation, or none. A reserved address is NOWIN, a write to the boot NOR
range PERM (R9, R221). MID 0x7F is not checked (R25). -/
def violation (s : State) (mid : Nat) (sup : Bool) (l : Loc) (a size : Nat) (need : Need) : Option Nat :=
  if mid = 0x7F then none
  else if l = .reserved then some 0
  else match s.window mid a size with
    | none => some 0
    | some w =>
      if !sup && !s.on (winB mid w) Win.WATTR.TASK then some 2
      else if !(match need with
          | .rd => s.on (winB mid w) Win.WATTR.RD
          | .wr => s.on (winB mid w) Win.WATTR.WR
          | .ex => s.on (winB mid w) Win.WATTR.EX) then some 1
      else match l, need with
        | .xip _, .wr => some 1
        | .tcm n _, .wr => if s.paired n && n % 2 == 1 && a ≥ 0x08000000 then some 1 else none
        | _, _ => none

/-- The access goes through an ORDERED window (R32). -/
def isOrdered (s : State) (mid a size : Nat) : Bool :=
  if mid = 0x7F then false
  else match s.window mid a size with
    | some w => s.on (winB mid w) Win.WATTR.ORDERED
    | none => false

/-! ## Freezes (R221 to R223) -/

/-- The head of the freeze queue as the registers show it (R233). -/
def syncFz (s : State) : State :=
  let s := s.wr fzB Fz.FZ_CNT.DEPTH s.fz.length
  match s.fz with
  | [] => (((((((((s.wr fzB Fz.FZ_ADDR.ADDR 0).wr fzB Fz.FZ_INFO.MID 0).wr fzB Fz.FZ_INFO.CAUSE 0).wr fzB Fz.FZ_INFO.WR
      0).wr fzB Fz.FZ_INFO.FETCH 0).wr fzB Fz.FZ_INFO.TASKP 0).wr fzB Fz.FZ_INFO.EXL 0).wr fzB Fz.FZ_INFO.VALID 0).wr fzB
      Fz.FZ_PC.PC 0)
  | r :: _ => (((((((((s.wr fzB Fz.FZ_ADDR.ADDR r.addr).wr fzB Fz.FZ_INFO.MID r.mid).wr fzB Fz.FZ_INFO.CAUSE r.cause).wrB fzB
      Fz.FZ_INFO.WR r.wr).wrB fzB Fz.FZ_INFO.FETCH r.fetch).wrB fzB Fz.FZ_INFO.TASKP r.taskp).wrB fzB Fz.FZ_INFO.EXL
      r.exl).wr fzB Fz.FZ_INFO.VALID 1).wr fzB Fz.FZ_PC.PC r.pc)

/-- Set or clear the FZ_MAP bit of a master (R223). -/
def fzBit (s : State) (m : Nat) (v : Bool) : State :=
  let f := Fz.FZ_MAP.FROZEN.at (m / 32)
  s.wr fzB f (putBit (s.rd fzB f) (m % 32) v)

/-- Freeze a master with its record (R223); a full queue discards the record (DESIGN CHOICE, log 17). -/
def freeze (s : State) (r : FzRec) : State :=
  if s.isFrozen r.mid then s
  else
    let s := { s with frozen := Tab.put s.frozen r.mid r }
    let s := s.fzBit r.mid true
    let s := if r.mid < 32 then s.syncCore r.mid else s
    let s := if s.fz.length < 8 then { s with fz := s.fz ++ [r] }.syncFz
             else (s.inc fzB Fz.FZ_CNT.LOST).fire 0x01A
    if r.cause < 3 || r.cause = 7 then s.fire 0x018 else if r.cause = 4 then s.fire 0x019 else s

/-- A master is no longer frozen (R224); its records stay queued. -/
def unfreeze (s : State) (m : Nat) : State :=
  let s := { s with frozen := Tab.drop s.frozen (fun a => a == m) }
  let s := s.fzBit m false
  if m < 32 then s.syncCore m else s

/-! ## Instruction fetch and traps (R211, R215 to R217) -/

/-- A fetch at `pc` by core `m` meets no violation and no absent or switched-off unit (DEDUCED, log 14). -/
def fetchOk (s : State) (m : Nat) (pc : Word) : Bool :=
  let l := s.locate (some m) pc.toNat
  (s.violation (s.accMid m) (s.core m).prv l pc.toNat 4 .ex).isNone && l != .absent && l != .off

/-- The freeze record of a fetch at the PC of core `m` (R223). -/
def fetchRec (s : State) (m cause : Nat) : FzRec :=
  let c := s.core m
  ⟨c.pc.toNat, m, cause, false, true, !c.prv, c.exl, c.pc.toNat⟩

/-- The fetch at the PC of a core whose EXL is 1: a violation freezes it; an absent unit is counted, does not trap, and
reads as the zero word, a NOP (R211, R217, R244). -/
def fetchExl (s : State) (m : Nat) : State :=
  let c := s.core m
  let l := s.locate (some m) c.pc.toNat
  match s.violation (s.accMid m) c.prv l c.pc.toNat 4 .ex with
  | some cause => s.freeze (s.fetchRec m cause)
  | none =>
    match l with
    | .absent => (s.absentEvt (s.accMid m) c.pc.toNat false false).setCore m { c with pc := c.pc + 4, icnt := c.icnt + 1 }
    | .off => s.offEvt (s.accMid m) c.pc.toNat false
    | _ => s

/-- Trap entry (R216): EPC, EADDR and ECAUSE are written, STATUS goes to ESTATUS, PRV and EXL are set, and the PC goes to
TVEC, where the fetch is checked. -/
def enterTrap (s : State) (m : Nat) (cause epc eaddr : Word) : State :=
  let c := s.core m
  (s.setCore m { c with epc := epc, eaddr := eaddr, ecause := cause, estatus := c.status (s.paired m), prv := true,
                        exl := true, pc := c.tvec, stall := none }).fetchExl m

/-- Core `m` takes a synchronous trap other than ABSENT (R216); with EXL = 1 it is frozen with cause DOUBLE (R217). -/
def trap (s : State) (m : Nat) (cause epc eaddr : Word) : State :=
  let c := s.core m
  if c.exl then
    (s.setCore m { c with stall := none }).freeze ⟨c.pc.toNat, m, 4, false, false, !c.prv, true, c.pc.toNat⟩
  else s.enterTrap m cause epc eaddr

/-- The fetch at the PC of core `m` (R211): a violation freezes it, an absent unit is counted and takes the ABSENT trap
with FETCH, whose EPC is the fetch address + 4 (DEDUCED, log 14). -/
def fetchAt (s : State) (m : Nat) : State :=
  let c := s.core m
  if c.exl then s.fetchExl m
  else
    let l := s.locate (some m) c.pc.toNat
    match s.violation (s.accMid m) c.prv l c.pc.toNat 4 .ex with
    | some cause => s.freeze (s.fetchRec m cause)
    | none =>
      match l with
      | .absent => (s.absentEvt (s.accMid m) c.pc.toNat false false).enterTrap m 0x104 (c.pc + 4) c.pc
      | .off => s.offEvt (s.accMid m) c.pc.toNat false
      | _ => s

/-- Put back core `m` after an instruction that goes on in sequence: windows are 4 KiB pages, so the next fetch is checked
where it enters another page (R25, R211) (DEDUCED, log 14). -/
def goOn (s : State) (m : Nat) (c : Core) : State :=
  let s := s.setCore m c
  if c.pc.toNat % 4096 = 0 then s.fetchAt m else s

/-- Put back core `m` after an instruction that jumped: the target's fetch is checked (R211) (DEDUCED, log 14). -/
def jumped (s : State) (m : Nat) (c : Core) : State := (s.setCore m c).fetchAt m

/-- ILLEGAL (R215). -/
def illegal (s : State) (m : Nat) : State := s.trap m 0x01 (s.core m).pc (s.core m).pc
/-- PRIV (R208, R215). -/
def privTrap (s : State) (m : Nat) : State := s.trap m 0x02 (s.core m).pc (s.core m).pc
/-- ALIGN (R210, R215); bit 10 of ECAUSE tells a store. -/
def alignTrap (s : State) (m addr : Nat) (wr : Bool) : State :=
  s.trap m (if wr then 0x403 else 0x03) (s.core m).pc (BitVec.ofNat 32 addr)

/-- ABSENT (R7): the event is counted; the core goes on at the next instruction, after its handler unless EXL = 1 (R217).
The destination has been dealt with by the caller. -/
def absentTrap (s : State) (m addr : Nat) (wr insn : Bool) : State :=
  let s := s.absentEvt (s.accMid m) addr wr insn
  let c := s.core m
  if c.exl then s.goOn m c.done
  else
    (s.setCore m c.done).enterTrap m (BitVec.ofNat 32 (4 + 512 * insn.toNat + 1024 * wr.toNat)) (c.pc + 4)
      (BitVec.ofNat 32 addr)

/-! ## Tasks and scheduler events (R257 to R260) -/

/-- The task word of slot `i` (R259). -/
def taskWord (s : State) (k i : Nat) : Word :=
  BitVec.ofNat 32 (s.rd (schB k) (Sch.TASK_ARG.ARG.at i) * 256 + i)

/-- Core `m` of K-die `k` may take slot `i` (R256). -/
def mayTake (s : State) (k i m : Nat) : Bool :=
  let aff := s.rd (schB k) (Sch.TASK_CFG.AFF.at i)
  decide (m < 32) && (aff == 0 || aff.testBit (m - 16 * k))

/-- Append slot `i` to the ready queue (R257). -/
def enqueue (s : State) (k i : Nat) : State :=
  let q := s.sch k
  let s := s.setSch k { q with ready := q.ready ++ [i] }
  (s.wr (schB k) (Sch.TASK_STAT.STATE.at i) 1).wr (schB k) Sch.SCH_STAT.NREADY (q.ready.length + 1)

/-- Take slot `i` out of the ready queue. -/
def dequeue (s : State) (k i : Nat) : State :=
  let q := s.sch k
  let r := q.ready.filter (fun j => j != i)
  (s.setSch k { q with ready := r }).wr (schB k) Sch.SCH_STAT.NREADY r.length

/-- Give READY slot `i` to core `m`, whose TASK.GET names `d` (R257, R259). -/
def giveTask (s : State) (k i m d : Nat) : State :=
  let w := s.taskWord k i
  let s := s.dequeue k i
  let s := (s.wr (schB k) (Sch.TASK_STAT.STATE.at i) 2).wr (schB k) (Sch.TASK_STAT.HOLDER.at i) m
  s.goOn m ((s.core m).wg d w).done

/-- The destination of the TASK.GET core `m` is blocked in. -/
def getDest (s : State) (m : Nat) : Option Nat :=
  match (s.core m).blockedIn with
  | some (.taskGet d) => some d
  | _ => none

/-- A newly READY slot goes to the eligible core that has been blocked longest (R259). -/
def serveSlot (s : State) (k i : Nat) : State :=
  match (s.sch k).blocked.find? (fun m => s.mayTake k i m && !s.isFrozen m) with
  | none => s
  | some m =>
    match s.getDest m with
    | none => s
    | some d =>
      let q := s.sch k
      let s := s.setSch k { q with blocked := q.blocked.filter (fun j => j != m) }
      let s := s.giveTask k i m d
      let s := s.modCore m (fun c => { c with blockedIn := none })
      (s.wr (schB k) Sch.SCH_WAIT.WAIT (clrBit (s.rd (schB k) Sch.SCH_WAIT.WAIT) (m - 16 * k))).syncCore m

/-- Activate slot `i` of K-die `k` (R256, R257). -/
def activate (s : State) (k i : Nat) : State :=
  let b := schB k
  if !s.on b (Sch.TASK_CFG.EN.at i) then s
  else match s.rd b (Sch.TASK_STAT.STATE.at i) with
    | 0 => (s.enqueue k i).serveSlot k i
    | 2 => s.wr b (Sch.TASK_STAT.STATE.at i) 3
    | _ => ((s.inc b (Sch.TASK_STAT.OVR.at i)).inc b Sch.SCH_CNT.OVR).fireK k 0x070

/-- The run of slot `i` ends, by TASK.DONE or because its holder was reset (R257). -/
def endTask (s : State) (k i : Nat) : State :=
  let b := schB k
  if s.rd b (Sch.TASK_STAT.STATE.at i) = 3 then
    if s.on b (Sch.TASK_CFG.EN.at i) then (s.enqueue k i).serveSlot k i
    else (s.wr b (Sch.TASK_STAT.STATE.at i) 0).wr b (Sch.TASK_STAT.DROPPED.at i) 1
  else s.wr b (Sch.TASK_STAT.STATE.at i) 0

/-- The slots bound to event `e` on K-die `k`, ascending (R256, R258). -/
def bound (s : State) (k e : Nat) : List Nat :=
  (List.range 256).filter (fun i =>
    s.on (schB k) (Sch.TASK_CFG.EN.at i) && s.on (schB k) (Sch.TASK_CFG.EVV.at i) &&
    s.rd (schB k) (Sch.TASK_CFG.EVT.at i) == e)

/-- An event or a source that fires is observed two ticks later by the trace entries that name it (R314); `cls` is 6 or 7. -/
def acqOwe (s : State) (k cls num : Nat) : State :=
  let b := acqB k
  if s.part.q && (s.rd b Acq.ACQ_STAT.STATE == 1 || s.rd b Acq.ACQ_STAT.STATE == 2) &&
      (List.range 256).any (fun i => s.rd b (Acq.TRACE_SEL.CLASS.at i) == cls && s.rd b (Acq.TRACE_SEL.INDEX.at i) == num) then
    let x := s.acqs k
    s.setAcq k { x with due := x.due ++ [(cls, num, s.tick + 2)] }
  else s

/-- Scheduler event `e` fires on K-die `k` (R256, R314). -/
def evtK (s : State) (k e : Nat) : State :=
  if s.dieUp k then ((s.bound k e).foldl (fun s i => s.activate k i) s).acqOwe k 6 e else s

/-- Scheduler event `e` fires on every K-die present (R54, R106, R296, R353). -/
def evt (s : State) (e : Nat) : State := (s.evtK 0 e).evtK 1 e

/-- Set bit `i` of an event register with its enables; event `e` fires when an enabled bit becomes set. The events of a
unit on one K-die name that K-die, the others all of them (R106, R177). -/
def raiseBit (s : State) (b : Nat) (ev en : Fld) (i : Nat) (k : Option Nat) (e : Nat) : State :=
  let old := s.rd b ev
  if old.testBit i then s
  else
    let s := s.wr b ev (setBit old i)
    if (s.rd b en).testBit i then (match k with | some k => s.evtK k e | none => s.evt e) else s

end State

end Sys2Proof.Machine
end

