-- ==== Sys2Proof/Machine/Taps.lean ====
section
/-!
DEFINITION. The taps through which the acquisition engines (R312 to R324) and the Almanac (R416 to R418) see the signals of
the other units: observations, records, trigger sources and the write port.
-/
namespace Sys2Proof.Machine

/-- What a command of the block answers. -/
abbrev Ans := Host.Outcome State Fault Refusal

/-- The order of records of one tick: the TRIGGER record first, then the changes by SIG (R313). -/
def AcqRec.rank (r : AcqRec) : Nat := if r.kind = 1 then 0 else if r.kind = 0 then 1 + r.sig else 300

/-- Put a record behind those that precede it. -/
def AcqRec.ins : List AcqRec → AcqRec → List AcqRec
  | [], r => [r]
  | x :: l, r =>
    if r.tick < x.tick ∨ (r.tick = x.tick ∧ r.rank < x.rank) then r :: x :: l else x :: AcqRec.ins l r

namespace State

/-! ## Acquisition (R312 to R324) -/

/-- The engine runs (R317). -/
def acqRuns (s : State) (k : Nat) : Bool :=
  s.part.q && (s.rd (acqB k) Acq.ACQ_STAT.STATE == 1 || s.rd (acqB k) Acq.ACQ_STAT.STATE == 2)

/-- Package time of tick `t`, seen from now (R321). -/
def ptOfTick (s : State) (t : Nat) : Nat := s.clk.pt + t * 33554432 / 165 - s.clk.el * 65536

/-- Set a bit of ACQ_EVT (R325). -/
def acqEvt (s : State) (k i : Nat) : State :=
  s.raiseBit (acqB k) Acq.ACQ_EVT.EVT Acq.ACQ_EVTEN.EN i (some k) (0xA0 + 8 * k)

/-- The CHANGE records in the queue (R315). -/
def acqChanges (x : AcqSt) : Nat := (x.queue.filter (fun r => r.kind == 0)).length

/-- Produce a record (R315): a CHANGE record finds 504 places of the queue, the others all 512; where its share is full it
is lost, and its entry is stale (R316) (DEDUCED, log 32). -/
def acqPut (s : State) (k : Nat) (r : AcqRec) : State :=
  let x := s.acqs k
  if r.kind = 0 ∧ 504 ≤ acqChanges x then
    s.setAcq k { x with lostNow := x.lostNow + 1, stale := x.stale ++ [r.sig] }
  else s.setAcq k { x with queue := AcqRec.ins x.queue r }

/-- Trigger source `b` asserts in tick `t` (R317, R318) (DEDUCED, log 32). -/
def acqAssert (s : State) (k b t : Nat) : State :=
  let bs := acqB k
  if !s.acqRuns k then s
  else
    let x := s.acqs k
    let x := if x.asTick = t then { x with asWord := setBit x.asWord b } else { x with asTick := t, asWord := setBit 0 b }
    let s := s.setAcq k x
    let en := (s.rd bs Acq.TRIG_CFG.TRIG_EN).testBit b && !(b == 4 && x.drives)
    let hit (late : Nat) (q : List AcqRec) : List AcqRec :=
      q.map (fun r => if r.kind = 1 ∧ r.tick = t ∧ r.val / 2 ^ 21 = late then { r with val := late * 2 ^ 21 + x.asWord } else r)
    if s.rd bs Acq.ACQ_STAT.STATE = 1 then
      if en then
        let s := s.acqPut k ⟨t, 1, 0, x.asWord⟩
        let x := { s.acqs k with t0 := t, trigT := t, trigged := false, post := 0, drives := s.on bs Acq.ACQ_CTL.XOUT }
        let s := (s.setAcq k x).wr bs Acq.ACQ_STAT.STATE 2
        let at_ := s.ptOfTick t
        let s := ((s.wr bs Acq.TRIG_WORD.WORD x.asWord).wr bs Acq.TRIG_TCNT.CNT t).wr bs Acq.TRIG_SEC.SEC (at_ / 65536000000000)
        ((s.wr bs Acq.TRIG_NS.NS (at_ / 65536 % 1000000000)).wr bs Acq.ACQ_STAT.TV 1).acqEvt k 0
      else s
    else if t = x.t0 then
      (s.wr bs Acq.TRIG_WORD.WORD x.asWord).setAcq k { x with queue := hit 0 x.queue }
    else if en ∧ x.t0 < t then
      if x.queue.any (fun r => r.kind == 1 && r.tick == t) then s.setAcq k { x with queue := hit 1 x.queue }
      else (s.acqPut k ⟨t, 1, 0, 2 ^ 21 + x.asWord⟩).inc bs Acq.ACQ_CNT.LATETRIG
    else s

/-- Condition `n` holds at an observation of its entry (R324). -/
def condHolds (s : State) (k n v : Nat) (chg : Bool) : Bool :=
  let b := acqB k
  let x := toSigned v 22
  let th := toSigned (s.rd b (Acq.COND_TH.TH.at n)) 22
  match s.rd b (Acq.COND_CTL.OP.at n) with
  | 1 => decide (th < x)
  | 2 => decide (x < th)
  | 3 => x == th
  | 4 => x != th
  | 5 => chg
  | _ => false

/-- Trace entry `i` observes value `v` in tick `t` (R314, R316, R324). -/
def acqEntry (s : State) (k i v t : Nat) (always : Bool) : State :=
  let x := s.acqs k
  let chg := always || Tab.get x.last i (2 ^ 22) != v || x.stale.contains i
  let s := if chg then
      (s.setAcq k { x with stale := x.stale.filter (fun j => j != i), last := Tab.put x.last i v }).acqPut k ⟨t, 0, i, v⟩
    else s
  (List.range 4).foldl (fun (s : State) n =>
    if s.rd (acqB k) (Acq.COND_CTL.SIG.at n) = i && s.condHolds k n v chg then s.acqAssert k (5 + n) t else s) s

/-- The firings that are due are observed (R314: two ticks after each firing). -/
def acqDue (s : State) (k : Nat) : State :=
  let x := s.acqs k
  if !s.acqRuns k then s.setAcq k { x with due := [] }
  else
    x.due.foldl (fun (s : State) e =>
      ((List.range 256).filter (fun i => s.rd (acqB k) (Acq.TRACE_SEL.CLASS.at i) == e.1 &&
        s.rd (acqB k) (Acq.TRACE_SEL.INDEX.at i) % (if e.1 = 6 then 256 else 512) == e.2.1)).foldl
        (fun (s : State) i => s.acqEntry k i 1 e.2.2 true) s) (s.setAcq k { x with due := [] })

/-- A signal of class `cls`, index `idx`, is observed now with value `v` by every entry that names it (R314); `mask` is the
modulus of the INDEX bits the class uses (DEDUCED, log 29). -/
def acqObs (s : State) (k cls mask idx v : Nat) : State :=
  if !s.acqRuns k then s
  else
    let s := s.acqDue k
    ((List.range 256).filter (fun i => s.rd (acqB k) (Acq.TRACE_SEL.CLASS.at i) == cls &&
      s.rd (acqB k) (Acq.TRACE_SEL.INDEX.at i) % mask == idx)).foldl
      (fun (s : State) i => s.acqEntry k i (v % 2 ^ 22) s.tick false) s

/-- The signals of class `cls` are observed now: entry by entry, `f` gives the value of an INDEX (R314). -/
def acqClass (s : State) (k cls : Nat) (f : Nat → Nat) : State :=
  if !s.acqRuns k then s
  else
    let s := s.acqDue k
    ((List.range 256).filter (fun i => s.rd (acqB k) (Acq.TRACE_SEL.CLASS.at i) == cls)).foldl
      (fun (s : State) i => s.acqEntry k i (f (s.rd (acqB k) (Acq.TRACE_SEL.INDEX.at i)) % 2 ^ 22) s.tick false) s

/-! ## Almanac observations (R416, R418) -/

/-- The INDEX of a record names signal `idx` of class `cls`. -/
def almNames (s : State) (r cls idx : Nat) : Bool :=
  let x := s.rd almB (Alm.REC_CFG0.INDEX.at r)
  s.rd almB (Alm.REC_CFG0.CLASS.at r) == cls &&
  (match cls with
   | 1 | 2 | 5 => x % 16 == idx
   | 3 => x == idx
   | 4 => x % 128 == idx
   | 6 => x % 64 == idx
   | 7 => true
   | _ => false)

/-- Record `r` observes value `v` (R416): every 2^DECIM-th observation goes into the queue; one that finds the queue full is
lost (R418). -/
def almTake (s : State) (r : Nat) (v : Int) (who : Nat) : State :=
  let a := s.alm
  let x := Tab.get a.recs r AlmRec.reset
  let n := x.skip + 1
  if n < 2 ^ s.rd almB (Alm.REC_CFG0.DECIM.at r) then
    { s with alm := { a with recs := Tab.put a.recs r { x with skip := n } } }
  else
    let a := { a with recs := Tab.put a.recs r { x with skip := 0 } }
    if a.obs.length < 2048 then
      { s with alm := { a with obs := a.obs ++ [⟨r, v, who, s.nowSec % 2 ^ 32, s.nowNs⟩], qfull := false } }
    else
      let was := a.qfull
      ({ s with alm := { a with qfull := true } }.inc almB Alm.ALM_CNT0.QLOST).fireIf (!was) 0x028

/-- The Almanac takes observations. -/
def almTakes (s : State) : Bool := s.on almB Alm.ALM_CTL.EN && !s.alm.stopped

/-- An observation of value `v`: each running record of the quantity observes it (DEDUCED, log 29). -/
def almObs (s : State) (cls idx : Nat) (v : Int) (who : Nat) : State :=
  if !s.almTakes then s
  else (s.alm.on.filter (fun r => s.almNames r cls idx)).foldl (fun (s : State) r => s.almTake r v who) s

end State

end Sys2Proof.Machine
end

