-- ==== Sys2Proof/Machine/Adie.lean ====
section
/-!
DEFINITION. The station converters of the A-dies (R278 to R298): sampling at the grid boundaries, results, urgent requests,
the pair check, background calibration, and their commands.
-/
namespace Sys2Proof.Machine

/-- The code and over-range flag of an input of `v` µV (R279, R280) (DESIGN CHOICE, log 26). -/
def adCode (signed : Bool) (v : Int) : Int × Bool :=
  if signed then
    if 1200000 ≤ v then (2047, true) else if v < -1200000 then (-2048, true) else (v * 2048 / 1200000, false)
  else
    if 1200000 ≤ v then (4095, true) else if v < 0 then (0, false) else (v * 4096 / 1200000, false)

/-- The DATA field of a code (R281). -/
def adData (signed : Bool) (aln : Nat) (code : Int) : Nat :=
  if aln = 1 then ofSigned code 12 * 16 else if signed then ofSigned code 16 else ofSigned code 12

namespace State

/-- A-die `a` is present and up. -/
def adUp (s : State) (a : Nat) : Bool := s.hasA a && s.dieUp (6 + a)
/-- Its PLL is locked (R455). -/
def adLocked (s : State) (a : Nat) : Bool := (s.rd pwrB Pwr.DIE_STAT.LOCK).testBit (6 + a)
/-- Do `f` if A-die `a` is up. -/
def onAd (s : State) (a : Nat) (f : State → State) : State := if s.adUp a then f s else s
/-- Fault source B + `i` of A-die `a` (R297). -/
def fireAd (s : State) (a i : Nat) : State := s.fire (0x140 + 16 * a + i)
/-- Set a bit of AD_EVT (R296). -/
def adEvt (s : State) (a i : Nat) : State := s.raiseBit (adB a) Ad.AD_EVT.EVT Ad.AD_EVTEN.EN i none (0x81 + 8 * a)

/-- Converter `n` converts selector `sel` as a signed input (R282). -/
def inSigned (s : State) (a n sel : Nat) : Bool :=
  let i := 4 * (n / 2) + sel
  decide (sel < 4) &&
    (if i < 32 then (s.rd (adB a) Ad.IN_SGN0.SGN).testBit i else (s.rd (adB a) Ad.IN_SGN1.SGN).testBit (i - 32))

/-! ## The grid boundary (R284, R287, R288, R290) -/

/-- Put in force the last EN write of sequencer `n` that landed at least 100 ns before the boundary (R13, R293). -/
def seqEnable (s : State) (a n : Nat) : State :=
  let b := seqB a n
  let ripe (e : Nat × Bool × Nat) : Bool := e.1 == n && decide (e.2.2 + 100 * 65536 ≤ s.clk.bn)
  let x := s.ad a
  let s := match (x.enAt.filter ripe).getLast? with
    | some (_, v, _) =>
      let start := v && s.rdA b Seq.SEQ_CTL.EN == 0
      let s := { s with act := s.act.set b Seq.SEQ_CTL.EN v.toNat }.wrB b Seq.SEQ_STAT.RUN v
      if start then s.wr b Seq.SEQ_STAT.PTR 0 else s
    | none => s
  s.setAd a { x with enAt := x.enAt.filter (fun e => !ripe e) }

/-- Converter `n` begins a conversion. -/
def convBegin (s : State) (a n sel aln ridx : Nat) (urg : Bool) : State :=
  s.modAd a (fun x => { x with conv := x.conv ++
    [⟨n, sel, aln, ridx, urg, s.on (seqB a n) Seq.SEQ_STAT.SPARE, s.inSigned a n sel, s.on (adB a) Ad.AD_STAT.REFBAD,
      s.clk.n % 256⟩] })

/-- The list entry due runs, and the pointer moves on (R284). -/
def seqEntry (s : State) (a n : Nat) : State :=
  let b := seqB a n
  let p := s.rd b Seq.SEQ_STAT.PTR
  let e := sleB a n
  let s := s.convBegin a n (s.rd e (Sle.LIST.SEL.at p)) (s.rd e (Sle.LIST.ALN.at p)) (s.rd e (Sle.LIST.RIDX.at p)) false
  s.wr b Seq.SEQ_STAT.PTR (if p = s.rd b Seq.SEQ_CTL.LEN then 0 else p + 1)

/-- One sequencer at a grid boundary (DEDUCED, log 30). -/
def seqStep (s : State) (a n : Nat) : State :=
  let b := seqB a n
  let s := s.seqEnable a n
  let runs := s.on b Seq.SEQ_STAT.RUN
  let put := (s.ad a).put.contains n
  let s := s.modAd a (fun x => { x with put := x.put.filter (fun i => i != n) })
  let s := if runs && s.on b Seq.SEQ_CTL.MERSYNC && s.running && s.subIdx == 0 then
      let s := if put && s.rd b Seq.SEQ_STAT.PTR != 0 then s.inc (adB a) Ad.AD_CNT0.SKIPPED else s
      s.wr b Seq.SEQ_STAT.PTR 0
    else s
  let due := (Tab.get ((s.ad a).urg.map (fun e => (e.1, some e.2))) n none).filter
    (fun r => decide (r.at_ + 100 * 65536 ≤ s.clk.bn))
  match due with
  | none => if runs then s.seqEntry a n else s
  | some r =>
    let s := (s.modAd a (fun x => { x with urg := Tab.drop x.urg (fun i => i == n) })).wr b Seq.SEQ_STAT.URGPEND 0
    if !runs then s.convBegin a n r.sel r.aln r.ridx true
    else if s.on b Seq.SEQ_CTL.URGMODE then
      (s.convBegin a n r.sel r.aln r.ridx true).modAd a (fun x => { x with put := x.put ++ [n] })
    else ((s.inc (adB a) Ad.AD_CNT0.URGDROP).adEvt a 1).seqEntry a n

/-- A-die `a` at the grid boundary that has just been reached: a dwell begins where one is due, and every sequencer samples
(DEDUCED, log 30). -/
def seqBoundary (s : State) (a : Nat) : State :=
  let s := s.modAd a (fun x => { x with conv := [], outs := [] })
  if !s.adLocked a then (List.range 24).foldl (fun (s : State) n => s.seqEnable a n) s
  else
    let s := if s.on (adB a) Ad.AD_CTL.CALEN && s.rd (adB a) Ad.AD_STAT.CALSEL == 0x1F then
        ((s.wr (adB a) Ad.AD_STAT.CALSEL (s.ad a).next).wr (adB a) Ad.AD_STAT.CALPH 0).modAd a
          (fun x => { x with noMatch := false })
      else s
    (List.range 24).foldl (fun (s : State) n => s.seqStep a n) s

/-! ## Results (R285, R286, R289) -/

/-- Compare the two codes of a checked pair when both are there (R289). -/
def pairCompare (s : State) (a : Nat) (o : ConvOut) : State :=
  let p := o.n / 2
  if !(s.rd (adB a) Ad.PAIR_CTL.PEN).testBit p then s
  else match (s.ad a).outs.find? (fun q => q.n / 2 == p && q.n != o.n && q.sel == o.sel) with
  | none => s
  | some q =>
    let bad := o.ov != q.ov || decide (s.rd (adB a) Ad.PAIR_CTL.PWIN < (o.code - q.code).natAbs)
    let r := Tab.get (s.ad a).runs p ⟨0, false⟩
    let s := s.modAd a (fun x => { x with runs := Tab.put x.runs p (if bad then { r with fails := r.fails + 1 } else ⟨0, false⟩) })
    if bad then s.inc (adB a) Ad.AD_CNT1.PFAIL else s

/-- A result goes to its register, unless a higher converter of the same boundary has written it (R286, R295). -/
def adStore (s : State) (a : Nat) (c : Conv) (code : Int) (ov : Bool) : State :=
  if (s.ad a).outs.any (fun q => q.ridx == c.ridx && decide (c.n < q.n)) then s
  else
    let b := adB a
    let i := c.ridx
    let s := ((s.wr b (Ares.RES.DATA.at i) (adData c.sgn c.aln code)).wrB b (Ares.RES.OV.at i) ov).wrB b (Ares.RES.SGN.at i) c.sgn
    let s := ((s.wrB b (Ares.RES.SPARE.at i) c.spare).wrB b (Ares.RES.URG.at i) c.urg).wrB b (Ares.RES.REFBAD.at i) c.refbad
    (s.wr b (Ares.RES.SUBN.at i) c.subn).modAd a (fun x => { x with codes := Tab.put x.codes i code })

/-- The taps see the results of the boundary at B_k + 1,100 ns (R314 class 4, R416 class 4) (DEDUCED, log 29). -/
def adTaps (s : State) (a : Nat) : State :=
  let won := (List.range 48).filter (fun i => (s.ad a).outs.any (fun q => q.ridx == i))
  won.foldl (fun (s : State) i =>
    let code := Tab.get (s.ad a).codes i 0
    let ov := s.rd (adB a) (Ares.RES.OV.at i)
    let s := s.almObs 4 (64 * a + i) code 0
    s.kdies.foldl (fun (s : State) k => s.acqObs k 4 128 (64 * a + i) (ofSigned code 12 + 4096 * ov)) s) s

/-- ADC_RESULT (R278, R285): the conversion of converter `n` ends; its input was `vin` µV. -/
def adcResult (s : State) (a n : Nat) (vin : Int) : State :=
  match (s.ad a).conv.find? (fun c => c.n == n) with
  | none => s
  | some c =>
    let s := s.reachOfs 1000
    let (code, ov) := adCode c.sgn vin
    let s := s.adStore a c code ov
    let o : ConvOut := ⟨n, c.sel, c.ridx, code, ov⟩
    let s := s.pairCompare a o
    let s := s.modAd a (fun x => { x with conv := x.conv.filter (fun q => q.n != n), outs := x.outs ++ [o] })
    let s := if c.urg then s.adEvt a 0 else s
    if (s.ad a).conv.isEmpty then ((s.reachOfs 1100).adTaps a).evt (0x80 + 8 * a) else s

/-- PAIR_MISMATCH (R289): PLIM consecutive failed comparisons, once per episode. -/
def pairMis (s : State) (a p : Nat) : State :=
  let b := adB a
  let r := Tab.get (s.ad a).runs p ⟨0, false⟩
  if r.told || decide (r.fails < max 1 (s.rd b Ad.PAIR_CTL.PLIM)) then s
  else
    let s := s.modAd a (fun x => { x with runs := Tab.put x.runs p { r with told := true } })
    ((s.wr b Ad.PAIRMIS.MIS (setBit (s.rd b Ad.PAIRMIS.MIS) p)).adEvt a 2).fireAd a 1

/-- URG_REQUEST (R287, R293): a write of the URG word of sequencer `n` (DEDUCED, log 30). -/
def urgWrite (s : State) (a n : Nat) (v : Word) : State :=
  let v := v.toNat
  let b := seqB a n
  let sel := bits v 2 0
  let ridx := bits v 21 16
  if 24 ≤ n then s
  else if sel = 7 ∨ 47 < ridx then (s.wr (adB a) Ad.AD_STAT.CFG_REJ 1).fireAd a 6
  else if s.on b Seq.SEQ_STAT.URGPEND then s.inc (adB a) Ad.AD_CNT0.URGDROP
  else (s.wr b Seq.SEQ_STAT.URGPEND 1).modAd a (fun x => { x with urg := Tab.put x.urg n ⟨sel, bits v 8 8, ridx, s.clk.pt⟩ })

/-! ## Calibration (R290, R291) -/

/-- CAL_MATCH_END: `sum` is the sum of the last 64 spare-minus-converter differences in LSB; their mean is held against
SPTOL (DEDUCED, log 30). -/
def calMatch (s : State) (a : Nat) (sum : Int) : State :=
  let b := adB a
  let n := s.rd b Ad.AD_STAT.CALSEL
  if n = 0x1F ∨ s.on b Ad.AD_STAT.CALPH ∨ (s.ad a).noMatch then s
  else if 64 * s.rd b Ad.AD_CTL.SPTOL < sum.natAbs then
    (((s.modAd a (fun x => { x with noMatch := true })).wr b Ad.SPMIS.MIS (setBit (s.rd b Ad.SPMIS.MIS) n)).adEvt a 4).fireAd a 3
  else (s.wr b Ad.AD_STAT.CALPH 1).wr (seqB a n) Seq.SEQ_STAT.SPARE 1

/-- A correction as CALDELTA shows it: eight bits, signed; the spec states no byte for a correction they do not hold
(DEDUCED, log 30). -/
def calByte (s : State) (d : Int) : Nat × State :=
  if -128 ≤ d ∧ d ≤ 127 then (ofSigned d 8, s)
  else let (w, s) := s.freeWord; (w.toNat % 256, s)

/-- CAL_DWELL_END: the dwell ends; after STAND-IN the new trim (1/16 LSB) is taken or refused, and the rotation moves on
(DEDUCED, log 30). -/
def calDwell (s : State) (a : Nat) (ofs gain : Int) : State :=
  let b := adB a
  let n := s.rd b Ad.AD_STAT.CALSEL
  if n = 0x1F then s
  else
    let q := seqB a n
    let s := if !s.on b Ad.AD_STAT.CALPH then s
      else if ofs.natAbs ≤ 32 * 16 ∧ gain.natAbs ≤ 64 * 16 then
        let t := Tab.get (s.ad a).trims n (0, 0)
        let (d0, s) := s.calByte (ofs - t.1)
        let (d1, s) := s.calByte (gain - t.2)
        let s := s.modAd a (fun x => { x with trims := Tab.put x.trims n (ofs, gain) })
        ((s.wr q Seq.CALDELTA.DOFS d0).wr q Seq.CALDELTA.DGAIN d1).wr q Seq.CALDELTA.VALID 1
      else ((s.wr b Ad.CALFAIL.FAIL (setBit (s.rd b Ad.CALFAIL.FAIL) n)).adEvt a 3).fireAd a 2
    let s := ((s.wr q Seq.SEQ_STAT.SPARE 0).wr b Ad.AD_STAT.CALSEL 0x1F).wr b Ad.AD_STAT.CALPH 0
    let s := s.modAd a (fun x => { x with next := (n + 1) % 24, noMatch := false })
    if n = 23 then (s.inc b Ad.AD_CNT1.ROTCNT).adEvt a 6 else s

/-- ADIE_RAM_ERROR (R297). -/
def adRamError (s : State) (a : Nat) (ue : Bool) (n : Nat) (ridx : Option Nat) : State :=
  let b := adB a
  if !ue then (s.wr b Ad.AD_STAT.RAMCE 1).fireAd a 4
  else
    let s := if n < 24 then
        let q := seqB a n
        ((s.wrBoth q Seq.SEQ_CTL.EN 0).wr q Seq.SEQ_STAT.RUN 0).modAd a
          (fun x => { x with enAt := x.enAt.filter (fun e => e.1 != n) })
      else s
    let s := match ridx with
      | none => s
      | some i =>
        if i < 48 then
          let s := [Ares.RES.DATA, Ares.RES.SGN, Ares.RES.SPARE, Ares.RES.URG, Ares.RES.REFBAD, Ares.RES.SUBN].foldl
            (fun (s : State) (f : Fld) => s.wr b (f.at i) 0) s
          (s.wr b (Ares.RES.OV.at i) 1).modAd a (fun x => { x with codes := Tab.put x.codes i 0 })
        else s
    (s.wr b Ad.AD_STAT.RAMUE 1).fireAd a 5

end State

/-! ## The commands -/

/-- ADC_RESULT. -/
def execAdcResult (a n : Nat) (vin : Int) (s : State) : Ans := .next (s.onAd a (fun s => s.adcResult a n vin))
/-- PAIR_MISMATCH. -/
def execPairMismatch (a p : Nat) (s : State) : Ans := .next (s.onAd a (fun s => s.pairMis a p))
/-- URG_REQUEST. -/
def execUrgRequest (w : Wr) (a n : Nat) (v : Word) (s : State) : Ans :=
  .next ((s.onAd a (fun s => s.urgWrite a n v)).retire w (seqB a n + 8))
/-- REF_DIFF (R283): AD_STAT.REFBAD reads 1 and later conversions carry REFBAD. -/
def execRefDiff (a : Nat) (s : State) : Ans := .next (s.onAd a (fun s => s.wr (adB a) Ad.AD_STAT.REFBAD 1))
/-- REF_DIFF_END (R283). -/
def execRefDiffEnd (a : Nat) (s : State) : Ans := .next (s.onAd a (fun s => s.wr (adB a) Ad.AD_STAT.REFBAD 0))
/-- REFERR (R283): the difference has lasted 16 µs. -/
def execReferr (a : Nat) (s : State) : Ans :=
  .next (s.onAd a (fun s =>
    if s.on (adB a) Ad.AD_STAT.REFBAD then ((s.wr (adB a) Ad.AD_STAT.REFERR 1).adEvt a 5).fireAd a 0 else s))
/-- CAL_MATCH_END. -/
def execCalMatchEnd (a : Nat) (sum64 : Int) (s : State) : Ans := .next (s.onAd a (fun s => s.calMatch a sum64))
/-- AD_CNTCLR (R292). -/
def execAdCntclr (w : Wr) (a : Nat) (s : State) : Ans :=
  .next ((s.onAd a (fun s =>
    (((s.wr (adB a) Ad.AD_CNT0.URGDROP 0).wr (adB a) Ad.AD_CNT0.SKIPPED 0).wr (adB a) Ad.AD_CNT1.PFAIL 0).wr (adB a)
      Ad.AD_CNT1.ROTCNT 0)).retire w (adB a + 0x30))
/-- ADIE_RAM_ERROR. -/
def execAdieRamError (a : Nat) (ue : Bool) (n : Nat) (ridx : Option Nat) (s : State) : Ans :=
  .next (s.onAd a (fun s => s.adRamError a ue n ridx))
/-- ADIE_OVERTEMP (R297). -/
def execAdieOvertemp (a : Nat) (s : State) : Ans := .next (s.onAd a (fun s => s.fireAd a 7))

end Sys2Proof.Machine
end

