-- ==== Sys2Proof/Machine/Flags.lean ====
section
/-!
DEFINITION. Every flag computation of the Polver (R246, R247, R250) and the saturation of accumulator results (R238).
-/
namespace Sys2Proof.Machine

/-- What an integer operation gives: its result, the new C and V where its row states them, and whether it saturated. -/
structure AluRes where
  val : Word
  c : Option Bool
  v : Option Bool
  sat : Bool
deriving DecidableEq, Repr

/-- SAT is sticky (R246). -/
def Flags.addSat (f : Flags) (b : Bool) : Flags := { f with sat := f.sat || b }

/-- Z and N from a result, C and V where the row gives them (R246). -/
def Flags.ofRes (f : Flags) (r : AluRes) : Flags :=
  { f with z := r.val == 0, n := r.val.msb, c := r.c.getD f.c, v := r.v.getD f.v }

/-- Carry out of a + b (R247). -/
def carryAdd (a b : Word) : Bool := decide (2 ^ 32 ≤ a.toNat + b.toNat)
/-- No borrow in a - b: C = 1 means a ≥ b unsigned (R246). -/
def noBorrow (a b : Word) : Bool := decide (b.toNat ≤ a.toNat)
/-- Signed overflow of an exact result (R247). -/
def overflow (x : Int) : Bool := decide (x < -2 ^ 31) || decide (2 ^ 31 ≤ x)
/-- Saturate an exact result to 32 bits (R247). -/
def sat32 (x : Int) : Word := BitVec.ofInt 32 (clampI (-2 ^ 31) (2 ^ 31 - 1) x)

/-- The conditions of the branches (R250). -/
def condHolds (f : Flags) (cond : BitVec 4) : Bool :=
  match cond.toNat with
  | 0 => f.z
  | 1 => !f.z
  | 2 => f.c
  | 3 => !f.c
  | 4 => f.n
  | 5 => !f.n
  | 6 => f.v
  | 7 => !f.v
  | 8 => f.c && !f.z
  | 9 => !f.c || f.z
  | 10 => f.n == f.v
  | 11 => f.n != f.v
  | 12 => !f.z && f.n == f.v
  | 13 => f.z || f.n != f.v
  | 14 => true
  | _ => f.sat

/-- A result outside the 72-bit range (R238). -/
def over72 (x : Int) : Bool := decide (x < -2 ^ 71) || decide (2 ^ 71 ≤ x)
/-- Saturate an exact accumulator result (R238). -/
def sat72 (x : Int) : Acc72 := BitVec.ofInt 72 (clampI (-2 ^ 71) (2 ^ 71 - 1) x)

end Sys2Proof.Machine
end

