-- ==== Sys2Proof/Machine/Operands.lean ====
section
/-!
DEFINITION. Every operand form and every arithmetic result of the Polver: the integer operations of R247, products and
shifts of the accumulators (R237), extraction (R239), normalisation (R240), and the addressing modes (R241 to R243).
-/
namespace Sys2Proof.Machine

/-! ## Integer operations (R247) -/

def plain (v : Word) : AluRes := ⟨v, none, none, false⟩

def aluAdd (a b : Word) : AluRes := ⟨a + b, some (carryAdd a b), some (overflow (a.toInt + b.toInt)), false⟩
def aluSub (a b : Word) : AluRes := ⟨a - b, some (noBorrow a b), some (overflow (a.toInt - b.toInt)), false⟩
/-- Shifts by n = 0 to 31; C takes the last bit out and is unchanged for n = 0. -/
def aluShl (a : Word) (n : Nat) : AluRes := ⟨a <<< n, if n = 0 then none else some (a.getLsbD (32 - n)), none, false⟩
def aluShr (a : Word) (n : Nat) : AluRes := ⟨a >>> n, if n = 0 then none else some (a.getLsbD (n - 1)), none, false⟩
def aluSar (a : Word) (n : Nat) : AluRes := ⟨a.sshiftRight n, if n = 0 then none else some (a.getLsbD (n - 1)), none, false⟩
/-- Rotate right; C takes bit 31 of the result for n ≠ 0. -/
def aluRor (a : Word) (n : Nat) : AluRes :=
  let r := a.rotateRight n
  ⟨r, if n = 0 then none else some r.msb, none, false⟩
def aluMul (a b : Word) : AluRes := plain (a * b)
def aluMulh (a b : Word) : AluRes := plain (BitVec.ofInt 32 (a.toInt * b.toInt / 2 ^ 32))
def aluMulhu (a b : Word) : AluRes := plain (BitVec.ofNat 32 (a.toNat * b.toNat / 2 ^ 32))
def aluSlt (a b : Word) : AluRes := plain (if a.toInt < b.toInt then 1 else 0)
def aluSltu (a b : Word) : AluRes := plain (if a.toNat < b.toNat then 1 else 0)
def aluMin (a b : Word) : AluRes := plain (if a.toInt < b.toInt then a else b)
def aluMax (a b : Word) : AluRes := plain (if a.toInt < b.toInt then b else a)
def aluAdds (a b : Word) : AluRes :=
  let x := a.toInt + b.toInt
  ⟨sat32 x, some (carryAdd a b), some (overflow x), overflow x⟩
def aluSubs (a b : Word) : AluRes :=
  let x := a.toInt - b.toInt
  ⟨sat32 x, some (noBorrow a b), some (overflow x), overflow x⟩
def aluAbss (a : Word) : AluRes :=
  let x := if a.toInt < 0 then -a.toInt else a.toInt
  ⟨sat32 x, none, none, overflow x⟩
def aluNegs (a : Word) : AluRes := ⟨sat32 (-a.toInt), none, none, overflow (-a.toInt)⟩

/-! ## Products, shifts and extraction of accumulators -/

/-- A signed shift amount sh[13:9], -16 to 15 (R237). -/
def shAmount (sh : BitVec 5) : Int := sh.toInt

/-- x × 2^n; a right shift rounds towards minus infinity (R237). -/
def scale (x : Int) (n : Int) : Int := if 0 ≤ n then x * 2 ^ n.toNat else x / 2 ^ (-n).toNat

/-- The product P of a MAC-group instruction (R237): fn bit 0 INT, bit 1 UA, bit 2 UB (R251). -/
def product (a b : Word) (fn : BitVec 9) (sh : BitVec 5) : Int :=
  let x := if fn.getLsbD 1 then (a.toNat : Int) else a.toInt
  let y := if fn.getLsbD 2 then (b.toNat : Int) else b.toInt
  let p := x * y
  scale (if fn.getLsbD 0 then p else 2 * p) (shAmount sh)

/-- Round a quotient by convergent rounding: to nearest, ties to even (R239). -/
def roundEven (x d : Int) : Int :=
  let q := x / d
  let r := x % d
  if 2 * r < d then q else if 2 * r > d then q + 1 else if q % 2 = 0 then q else q + 1

/-- The integer RNDC extracts before saturation: A × 2^sh / 2^32, convergent (R239). -/
def rndcInt (x : Acc72) (sh : BitVec 5) : Int := roundEven x.toInt (2 ^ (32 - shAmount sh).toNat)
/-- The integer EXTT extracts before saturation: rounded towards minus infinity (R239). -/
def exttInt (x : Acc72) (sh : BitVec 5) : Int := x.toInt / 2 ^ (32 - shAmount sh).toNat

/-- Leading bits from bit `i` down that equal `b`. -/
def leading (v : Nat) (b : Bool) : Nat → Nat
  | 0 => 0
  | i + 1 => if v.testBit i = b then 1 + leading v b i else 0

/-- EXPN of a register: leading bits equal to bit 31, minus one (R240). -/
def expn32 (a : Word) : Nat := leading a.toNat a.msb 32 - 1
/-- EXPN of an accumulator: leading bits equal to bit 71, minus nine (R240). -/
def expn72 (a : Acc72) : Int := (leading a.toNat a.msb 72 : Int) - 9

/-! ## Addressing (R241, R242) -/

/-- circ(p, m): the pointer update of mode 2 (R242) (DEDUCED, log 16). -/
def circ (p m cb cl : Word) : Word :=
  let n := p + m
  if cl = 0 then n
  else if (cb.toNat + cl.toNat) ≤ n.toNat then n - cl
  else if n.toNat < cb.toNat then n + cl
  else n

/-- The size in bytes a sz field names (R241). -/
def szBytes (sz : BitVec 2) : Nat := 2 ^ sz.toNat

/-- The fields a format C mode marks zero are zero, and an 8-byte access names an even d (R210, R241). -/
def legalC (o : OpC) : Bool :=
  (match o.mode.toNat with
   | 0 => o.m == 0
   | 1 => o.disp == 0
   | 2 => o.disp == 0
   | _ => o.m == 0) && !(o.sz == 3 && o.d.getLsbD 0)

/-- The address a format C access uses (R241). -/
def addrC (c : Core) (o : OpC) : Word :=
  let p := c.rp o.p.toNat
  if o.mode = 0 then p + BitVec.ofInt 32 (o.disp.toInt * szBytes o.sz) else p

/-- The pointer after a format C access (R241, R242). -/
def pointC (c : Core) (o : OpC) : Core :=
  let i := o.p.toNat
  let p := c.rp i
  match o.mode.toNat with
  | 0 => c
  | 1 => c.wp i (p + c.rm o.m.toNat)
  | 2 => c.wp i (circ p (c.rm o.m.toNat) (c.rcb i) (c.rcl i))
  | _ => c.wp i (p + BitVec.ofInt 32 (o.disp.toInt * szBytes o.sz))

/-- The address of LDW and STW: ga + sext(imm16) (R249). -/
def addrB (c : Core) (o : OpB) : Word := c.rg o.a.toNat + o.imm.signExtend 32

/-- The datum a load writes: extended to 32 bits for 1, 2 and 4 bytes (R210). -/
def extend (v : BitVec 64) (size : Nat) (sext : Bool) : Word :=
  if size = 1 then (if sext then (v.setWidth 8).signExtend 32 else (v.setWidth 8).setWidth 32)
  else if size = 2 then (if sext then (v.setWidth 16).signExtend 32 else (v.setWidth 16).setWidth 32)
  else v.setWidth 32

/-- A load's datum reaches its destination; 8 bytes go to gd and gd + 1 (R210). -/
def Core.land (c : Core) (l : Load) (v : BitVec 64) : Core :=
  if l.size = 8 then (c.wg l.dst (v.setWidth 32)).wg (l.dst + 1) ((v >>> 32).setWidth 32)
  else c.wg l.dst (extend v l.size l.sext)

end Sys2Proof.Machine
end

