-- ==== Sys2Proof/Machine/CpuAlu.lean ====
section
/-!
DEFINITION. The meanings of the Polver's arithmetic commands (R247, R248, R251): integer ALU, pointer moves, the
accumulators. A command names the core (MID) and the instruction's fields; a core that cannot run (R220, R222, R225, R230)
executes nothing.
-/
namespace Sys2Proof.Machine

open Host

/-- What a command of the block answers. -/
abbrev Out := Outcome State Fault Refusal

namespace State

/-- An instruction that only works on registers: ILLEGAL where a zero field is not zero (R245), a stall where an operand or
the destination awaits load data (R212), else its effect, and on to the next instruction. -/
def instr (s : State) (m : Nat) (srcs : List Nat) (d : Nat) (legal : Bool) (f : Core → Core) : State :=
  if !s.canRun m then s
  else if !legal then s.illegal m
  else if (s.core m).awaits d || srcs.any (s.core m).awaits then s.setCore m ((s.core m).wait .operand)
  else s.goOn m (f (s.core m)).done

/-- Opcode 0x00 (R247): gd and, with SF, the flags. -/
def alu3 (s : State) (m : Nat) (o : OpA) (sf legal : Bool) (f : Word → Word → AluRes) : State :=
  s.instr m [o.a.toNat, o.b.toNat] o.d.toNat legal (fun c =>
    let r := f (c.rg o.a.toNat) (c.rg o.b.toNat)
    { c.wg o.d.toNat r.val with flags := (if sf then c.flags.ofRes r else c.flags).addSat r.sat })

/-- Flags from a comparison, nothing written (R246). -/
def compare (s : State) (m : Nat) (srcs : List Nat) (legal : Bool) (f : Core → AluRes) : State :=
  s.instr m srcs 0 legal (fun c => { c with flags := c.flags.ofRes (f c) })

/-- A register-immediate operation (R248): gd, no flag. -/
def immOp (s : State) (m : Nat) (o : OpB) (legal : Bool) (f : Word → Word) : State :=
  s.instr m [o.a.toNat] o.d.toNat legal (fun c => c.wg o.d.toNat (f (c.rg o.a.toNat)))

/-- An accumulator operation whose exact result saturates (R238). -/
def accOp (s : State) (m : Nat) (srcs : List Nat) (acc : Nat) (legal : Bool) (f : Core → Int) : State :=
  s.instr m srcs 0 legal (fun c => { c.wa acc (sat72 (f c)) with flags := c.flags.addSat (over72 (f c)) })

/-- An extraction to a general register whose integer saturates to 32 bits (R239). -/
def extract (s : State) (m : Nat) (d : Nat) (legal : Bool) (f : Core → Int) : State :=
  s.instr m [] d legal (fun c => { c.wg d (sat32 (f c)) with flags := c.flags.addSat (overflow (f c)) })

end State

/-! ## Integer ALU (R247) -/

/-- ADD: gd = ga + gb (R247). -/
def execAdd (m : Nat) (o : OpA) (sf : Bool) (s : State) : Out := .next (s.alu3 m o sf true aluAdd)

/-- SUB: gd = ga - gb (R247). -/
def execSub (m : Nat) (o : OpA) (sf : Bool) (s : State) : Out := .next (s.alu3 m o sf true aluSub)

/-- AND: bitwise and (R247). -/
def execAnd (m : Nat) (o : OpA) (sf : Bool) (s : State) : Out := .next (s.alu3 m o sf true (fun a b => plain (a &&& b)))

/-- OR: bitwise or (R247). -/
def execOr (m : Nat) (o : OpA) (sf : Bool) (s : State) : Out := .next (s.alu3 m o sf true (fun a b => plain (a ||| b)))

/-- XOR: bitwise exclusive or (R247). -/
def execXor (m : Nat) (o : OpA) (sf : Bool) (s : State) : Out := .next (s.alu3 m o sf true (fun a b => plain (a ^^^ b)))

/-- ANDN: ga and not gb (R247). -/
def execAndn (m : Nat) (o : OpA) (sf : Bool) (s : State) : Out := .next (s.alu3 m o sf true (fun a b => plain (a &&& ~~~b)))

/-- SHL: left shift by gb[4:0] (R247). -/
def execShl (m : Nat) (o : OpA) (sf : Bool) (s : State) : Out := .next (s.alu3 m o sf true (fun a b => aluShl a (b.toNat % 32)))

/-- SHR: logical right shift by gb[4:0] (R247). -/
def execShr (m : Nat) (o : OpA) (sf : Bool) (s : State) : Out := .next (s.alu3 m o sf true (fun a b => aluShr a (b.toNat % 32)))

/-- SAR: arithmetic right shift by gb[4:0] (R247). -/
def execSar (m : Nat) (o : OpA) (sf : Bool) (s : State) : Out := .next (s.alu3 m o sf true (fun a b => aluSar a (b.toNat % 32)))

/-- ROR: rotate right by gb[4:0] (R247). -/
def execRor (m : Nat) (o : OpA) (sf : Bool) (s : State) : Out := .next (s.alu3 m o sf true (fun a b => aluRor a (b.toNat % 32)))

/-- MUL: low 32 bits of the product (R247). -/
def execMul (m : Nat) (o : OpA) (sf : Bool) (s : State) : Out := .next (s.alu3 m o sf true aluMul)

/-- MULH: high 32 bits, signed (R247). -/
def execMulh (m : Nat) (o : OpA) (sf : Bool) (s : State) : Out := .next (s.alu3 m o sf true aluMulh)

/-- MULHU: high 32 bits, unsigned (R247). -/
def execMulhu (m : Nat) (o : OpA) (sf : Bool) (s : State) : Out := .next (s.alu3 m o sf true aluMulhu)

/-- SLT: signed less-than (R247). -/
def execSlt (m : Nat) (o : OpA) (sf : Bool) (s : State) : Out := .next (s.alu3 m o sf true aluSlt)

/-- SLTU: unsigned less-than (R247). -/
def execSltu (m : Nat) (o : OpA) (sf : Bool) (s : State) : Out := .next (s.alu3 m o sf true aluSltu)

/-- MIN: signed minimum (R247). -/
def execMin (m : Nat) (o : OpA) (sf : Bool) (s : State) : Out := .next (s.alu3 m o sf true aluMin)

/-- MAX: signed maximum (R247). -/
def execMax (m : Nat) (o : OpA) (sf : Bool) (s : State) : Out := .next (s.alu3 m o sf true aluMax)

/-- ADDS: saturating sum; sets SAT (R247). -/
def execAdds (m : Nat) (o : OpA) (sf : Bool) (s : State) : Out := .next (s.alu3 m o sf true aluAdds)

/-- SUBS: saturating difference; sets SAT (R247). -/
def execSubs (m : Nat) (o : OpA) (sf : Bool) (s : State) : Out := .next (s.alu3 m o sf true aluSubs)

/-- ABSS: saturating absolute value; b zero (R247). -/
def execAbss (m : Nat) (o : OpA) (sf : Bool) (s : State) : Out := .next (s.alu3 m o sf (o.b == 0) (fun a _ => aluAbss a))

/-- NEGS: saturating negation; b zero (R247). -/
def execNegs (m : Nat) (o : OpA) (sf : Bool) (s : State) : Out := .next (s.alu3 m o sf (o.b == 0) (fun a _ => aluNegs a))

/-- CMP: flags from ga - gb, whatever SF is; d zero (R246, R247). -/
def execCmp (m : Nat) (o : OpA) (_sf : Bool) (s : State) : Out :=
  .next (s.compare m [o.a.toNat, o.b.toNat] (o.d == 0) (fun c => aluSub (c.rg o.a.toNat) (c.rg o.b.toNat)))

/-! ## Immediate forms and pointer moves (R248) -/

/-- ADDI: gd = ga + sext(imm16) (R248). -/
def execAddi (m : Nat) (o : OpB) (s : State) : Out := .next (s.immOp m o true (fun a => a + o.imm.signExtend 32))

/-- ANDI: gd = ga and zext(imm16) (R248). -/
def execAndi (m : Nat) (o : OpB) (s : State) : Out := .next (s.immOp m o true (fun a => a &&& o.imm.setWidth 32))

/-- ORI: gd = ga or zext(imm16) (R248). -/
def execOri (m : Nat) (o : OpB) (s : State) : Out := .next (s.immOp m o true (fun a => a ||| o.imm.setWidth 32))

/-- XORI: gd = ga xor zext(imm16) (R248). -/
def execXori (m : Nat) (o : OpB) (s : State) : Out := .next (s.immOp m o true (fun a => a ^^^ o.imm.setWidth 32))

/-- LUI: gd = imm16 shifted left by 16; a zero (R248). -/
def execLui (m : Nat) (o : OpB) (s : State) : Out := .next (s.immOp m o (o.a == 0) (fun _ => (o.imm.setWidth 32) <<< 16))

/-- The shift SHI selects with imm16[6:5] by imm16[4:0] (R248). -/
def shiKind (imm : BitVec 16) (a : Word) : Word :=
  let n := imm.toNat % 32
  match imm.toNat / 32 % 4 with
  | 0 => (aluShl a n).val
  | 1 => (aluShr a n).val
  | 2 => (aluSar a n).val
  | _ => (aluRor a n).val

/-- SHI: shift or rotate by an immediate; imm16[15:7] zero (R248). -/
def execShi (m : Nat) (o : OpB) (s : State) : Out := .next (s.immOp m o (o.imm.toNat < 128) (shiKind o.imm))

/-- CMPI: flags from ga - sext(imm16); d zero (R246, R248). -/
def execCmpi (m : Nat) (o : OpB) (s : State) : Out :=
  .next (s.compare m [o.a.toNat] (o.d == 0) (fun c => aluSub (c.rg o.a.toNat) (o.imm.signExtend 32)))

/-- PMOV fn 0: p[d] = ga; b and d[4:3] zero (R248). -/
def execPmovToP (m : Nat) (o : OpA) (s : State) : Out := .next (s.instr m [o.a.toNat] 0 (o.b == 0 && decide (o.d.toNat < 8)) (fun c => c.wp o.d.toNat (c.rg o.a.toNat)))

/-- PMOV fn 1: m[d] = ga (R248). -/
def execPmovToM (m : Nat) (o : OpA) (s : State) : Out := .next (s.instr m [o.a.toNat] 0 (o.b == 0 && decide (o.d.toNat < 8)) (fun c => c.wm o.d.toNat (c.rg o.a.toNat)))

/-- PMOV fn 2: gd = p[a] (R248). -/
def execPmovFromP (m : Nat) (o : OpA) (s : State) : Out := .next (s.instr m [] o.d.toNat (o.b == 0 && decide (o.a.toNat < 8)) (fun c => c.wg o.d.toNat (c.rp o.a.toNat)))

/-- PMOV fn 3: gd = m[a] (R248). -/
def execPmovFromM (m : Nat) (o : OpA) (s : State) : Out := .next (s.instr m [] o.d.toNat (o.b == 0 && decide (o.a.toNat < 8)) (fun c => c.wg o.d.toNat (c.rm o.a.toNat)))

/-- SETCB (PMOV fn 4): CB of p[d] = ga and CL of p[d] = gb (R242, R248). -/
def execSetcb (m : Nat) (o : OpA) (s : State) : Out := .next (s.instr m [o.a.toNat, o.b.toNat] 0 (decide (o.d.toNat < 8)) (fun c => c.wcirc o.d.toNat (c.rg o.a.toNat) (c.rg o.b.toNat)))

/-- PMOV fn 5: gd = CB of p[a] (R248). -/
def execPmovGetCb (m : Nat) (o : OpA) (s : State) : Out := .next (s.instr m [] o.d.toNat (o.b == 0 && decide (o.a.toNat < 8)) (fun c => c.wg o.d.toNat (c.rcb o.a.toNat)))

/-- PMOV fn 6: gd = CL of p[a] (R248). -/
def execPmovGetCl (m : Nat) (o : OpA) (s : State) : Out := .next (s.instr m [] o.d.toNat (o.b == 0 && decide (o.a.toNat < 8)) (fun c => c.wg o.d.toNat (c.rcl o.a.toNat)))

/-! ## Accumulators (R236 to R240, R251) -/

/-- MAC: acc = acc + P, saturating; fn[8:3] zero (R238). -/
def execMac (m : Nat) (o : OpE) (fn : BitVec 9) (s : State) : Out := .next (s.accOp m [o.a.toNat, o.b.toNat] o.acc.toNat (decide (fn.toNat < 8)) (fun c => (c.ra o.acc.toNat).toInt + product (c.rg o.a.toNat) (c.rg o.b.toNat) fn o.sh))

/-- MSU: acc = acc - P, saturating (R238). -/
def execMsu (m : Nat) (o : OpE) (fn : BitVec 9) (s : State) : Out := .next (s.accOp m [o.a.toNat, o.b.toNat] o.acc.toNat (decide (fn.toNat < 8)) (fun c => (c.ra o.acc.toNat).toInt - product (c.rg o.a.toNat) (c.rg o.b.toNat) fn o.sh))

/-- MPY: acc = P, saturating (R238). -/
def execMpy (m : Nat) (o : OpE) (fn : BitVec 9) (s : State) : Out := .next (s.accOp m [o.a.toNat, o.b.toNat] o.acc.toNat (decide (fn.toNat < 8)) (fun c => product (c.rg o.a.toNat) (c.rg o.b.toNat) fn o.sh))

/-- ACLR: acc = 0; a, b and sh zero (R251). -/
def execAclr (m : Nat) (o : OpE) (s : State) : Out := .next (s.instr m [] 0 (o.a == 0 && o.b == 0 && o.sh == 0) (fun c => c.wa o.acc.toNat 0))

/-- AMOV: acc = accumulator b[1:0] (R251). -/
def execAmov (m : Nat) (o : OpE) (s : State) : Out := .next (s.instr m [] 0 (o.a == 0 && decide (o.b.toNat < 4) && o.sh == 0) (fun c => c.wa o.acc.toNat (c.ra o.b.toNat)))

/-- ANEG: acc = -acc, saturating (R251). -/
def execAneg (m : Nat) (o : OpE) (s : State) : Out := .next (s.accOp m [] o.acc.toNat (o.a == 0 && o.b == 0 && o.sh == 0) (fun c => -(c.ra o.acc.toNat).toInt))

/-- ASH: acc = acc × 2^sh, saturating (R251). -/
def execAsh (m : Nat) (o : OpE) (s : State) : Out := .next (s.accOp m [] o.acc.toNat (o.a == 0 && o.b == 0) (fun c => scale (c.ra o.acc.toNat).toInt (shAmount o.sh)))

/-- ASHR: acc = acc × 2^n, n = sext(ga[7:0]) held to ±71, saturating (R251). -/
def execAshr (m : Nat) (o : OpE) (s : State) : Out := .next (s.accOp m [o.a.toNat] o.acc.toNat (o.b == 0 && o.sh == 0) (fun c => scale (c.ra o.acc.toNat).toInt (clampI (-71) 71 ((c.rg o.a.toNat).setWidth 8).toInt)))

/-- AADD: acc = acc + ga × 2^(32 + sh), saturating (R251). -/
def execAadd (m : Nat) (o : OpE) (s : State) : Out := .next (s.accOp m [o.a.toNat] o.acc.toNat (o.b == 0) (fun c => (c.ra o.acc.toNat).toInt + scale (c.rg o.a.toNat).toInt (32 + shAmount o.sh)))

/-- Replace bits hi:lo of an accumulator (R251: ALDL, ALDH, ALDG). -/
def accPut (x : Acc72) (lo w : Nat) (v : Nat) : Acc72 :=
  BitVec.ofNat 72 (x.toNat - x.toNat / 2 ^ lo % 2 ^ w * 2 ^ lo + v % 2 ^ w * 2 ^ lo)

/-- ALDL: acc[31:0] = ga (R251). -/
def execAldl (m : Nat) (o : OpE) (s : State) : Out := .next (s.instr m [o.a.toNat] 0 (o.b == 0 && o.sh == 0) (fun c => c.wa o.acc.toNat (accPut (c.ra o.acc.toNat) 0 32 (c.rg o.a.toNat).toNat)))

/-- ALDH: acc[63:32] = ga (R251). -/
def execAldh (m : Nat) (o : OpE) (s : State) : Out := .next (s.instr m [o.a.toNat] 0 (o.b == 0 && o.sh == 0) (fun c => c.wa o.acc.toNat (accPut (c.ra o.acc.toNat) 32 32 (c.rg o.a.toNat).toNat)))

/-- ALDG: acc[71:64] = ga[7:0] (R251). -/
def execAldg (m : Nat) (o : OpE) (s : State) : Out := .next (s.instr m [o.a.toNat] 0 (o.b == 0 && o.sh == 0) (fun c => c.wa o.acc.toNat (accPut (c.ra o.acc.toNat) 64 8 (c.rg o.a.toNat).toNat)))

/-- RNDC: extract with convergent rounding, then saturation; gd is field a, b zero (R239). -/
def execRndc (m : Nat) (o : OpE) (s : State) : Out := .next (s.extract m o.a.toNat (o.b == 0) (fun c => rndcInt (c.ra o.acc.toNat) o.sh))

/-- EXTT: extract rounding towards minus infinity (R239). -/
def execExtt (m : Nat) (o : OpE) (s : State) : Out := .next (s.extract m o.a.toNat (o.b == 0) (fun c => exttInt (c.ra o.acc.toNat) o.sh))

/-- RDL: gd = acc[31:0] (R251). -/
def execRdl (m : Nat) (o : OpE) (s : State) : Out := .next (s.instr m [] o.a.toNat (o.b == 0 && o.sh == 0) (fun c => c.wg o.a.toNat ((c.ra o.acc.toNat).setWidth 32)))

/-- RDH: gd = acc[63:32] (R251). -/
def execRdh (m : Nat) (o : OpE) (s : State) : Out := .next (s.instr m [] o.a.toNat (o.b == 0 && o.sh == 0) (fun c => c.wg o.a.toNat (((c.ra o.acc.toNat) >>> 32).setWidth 32)))

/-- RDG: gd = sext(acc[71:64]) (R251). -/
def execRdg (m : Nat) (o : OpE) (s : State) : Out := .next (s.instr m [] o.a.toNat (o.b == 0 && o.sh == 0) (fun c => c.wg o.a.toNat ((((c.ra o.acc.toNat) >>> 64).setWidth 8).signExtend 32)))

/-- NORM: gd = ga shifted left by EXPN(ga) (R240). -/
def execNorm (m : Nat) (o : OpA) (s : State) : Out := .next (s.instr m [o.a.toNat] o.d.toNat true (fun c => c.wg o.d.toNat (c.rg o.a.toNat <<< expn32 (c.rg o.a.toNat))))

/-- EXPN of a register; b zero (R240). -/
def execExpn (m : Nat) (o : OpA) (s : State) : Out := .next (s.instr m [o.a.toNat] o.d.toNat (o.b == 0) (fun c => c.wg o.d.toNat (BitVec.ofNat 32 (expn32 (c.rg o.a.toNat)))))

/-- EXPN of accumulator a[1:0]; a[4:2] and b zero (R240). -/
def execExpnAcc (m : Nat) (o : OpA) (s : State) : Out := .next (s.instr m [] o.d.toNat (o.b == 0 && decide (o.a.toNat < 4)) (fun c => c.wg o.d.toNat (BitVec.ofInt 32 (expn72 (c.ra o.a.toNat)))))

end Sys2Proof.Machine
end

