-- ==== Sys2Proof/Machine/CpuMem.lean ====
section
/-!
DEFINITION. The meanings of the Polver's loads and stores (R210 to R213, R241 to R243, R249) and branches (R250). A load of
RAM takes its datum when it is issued, a load of a register when the register answers; a store to RAM takes effect when it is
issued, a store to a register range goes into flight and lands by the command of its register (R30, R31).
-/
namespace Sys2Proof.Machine

open Host

namespace State

/-- Bytes that own writes still held on their way to RAM give to a load (R212). -/
def ramFor (s : State) (mid : Nat) : List Host.Cell :=
  (s.fab.flight.filter (fun f => f.mid == mid)).foldl (fun r f =>
    match memKey (s.locate none f.addr) f.addr with
    | some k => Mem.writeN r k f.val.toNat f.size
    | none => r) s.mem

/-- The datum of a load that is known at issue: RAM, the boot NOR, a reserved range under MID 0x7F, or the core's own
buffered write to the same register (R9, R212). A busy NOR controller answers zero (R467) (DESIGN CHOICE, log 13). -/
def loadNow (s : State) (mid a size : Nat) (l : Loc) : Option (BitVec 64) :=
  match l with
  | .xip o =>
    if s.on pwrB Pwr.XS_STAT.BUSY then some 0 else some (BitVec.ofNat 64 (Mem.readN s.nor o size))
  | .reserved => some 0
  | .reg =>
    match (s.fab.flight.filter (fun f => f.mid == mid && f.addr == a)).getLast? with
    | some f => some (f.val.setWidth 64)
    | none => none
  | .pcie => none
  | _ =>
    match memKey l a with
    | some k => some (BitVec.ofNat 64 (Mem.readN (s.ramFor mid) k size))
    | none => some 0

/-- An execute-in-place read that meets a busy NOR controller (R467). -/
def xipNote (s : State) (l : Loc) : State :=
  match l with
  | .xip _ => if s.on pwrB Pwr.XS_STAT.BUSY then (s.wr pwrB Pwr.XS_STAT.XIPBUSY 1).fire 0x1CD else s
  | _ => s

/-- An ORDERED access of this master is outstanding (R32). -/
def orderedOut (s : State) (m mid : Nat) : Bool :=
  (s.core m).loads.any (fun l => l.ordered) || s.fab.flight.any (fun f => f.mid == mid && f.ordered)

/-- Zero in the destination of a load that returned nothing (R6, R243). -/
def zeroTo (c : Core) (dst size : Nat) : Core := if size = 8 then (c.wg dst 0).wg (dst + 1) 0 else c.wg dst 0

/-- A load by core `m` (R210, R211): `upd` is the pointer update of its addressing mode (R243) (DESIGN CHOICE, log 13). -/
def load (s : State) (m : Nat) (legal : Bool) (src addr size : Nat) (sext : Bool) (dst : Nat) (upd : Core → Core) : State :=
  let c := s.core m
  let mid := s.accMid m
  let l := s.locate (some m) addr
  if !s.canRun m then s
  else if !legal then s.illegal m
  else if c.awaits src || c.awaits dst || (size == 8 && c.awaits (dst + 1)) then s.setCore m (c.wait .operand)
  else if addr % size ≠ 0 ∨ (0x20000000 ≤ addr ∧ addr < 0x60000000 ∧ size ≠ 4) then s.alignTrap m addr false
  else match s.violation mid c.prv l addr size .rd with
    | some cause => (s.setCore m { c with stall := none }).freeze ⟨addr, m, cause, false, false, !c.prv, c.exl, c.pc.toNat⟩
    | none =>
      match l with
      | .absent => (s.setCore m (upd (zeroTo c dst size))).absentTrap m addr false false
      | .off => (s.offEvt mid addr false).goOn m (upd (zeroTo c dst size)).done
      | _ =>
        let ord := s.isOrdered mid addr size
        if ord && s.orderedOut m mid then s.setCore m (c.wait .ordered)
        else if 8 ≤ c.loads.length then s.setCore m (c.wait .loads)
        else
          let e : Load := ⟨.mem, addr, size, sext, dst, c.prv, s.loadNow mid addr size l, ord, c.pc.toNat⟩
          let c' := upd { c with loads := c.loads ++ [e] }
          (s.xipNote l).goOn m c'.done

/-- The keys of RAM that a store to a location writes: both copies of a paired pair's TCM (R23). -/
def storeKeys (s : State) (l : Loc) (a : Nat) : List Nat :=
  match l with
  | .tcm n o => if s.paired n then [0x08000000 + n * 0x20000 + o, 0x08000000 + (n + 1) * 0x20000 + o]
                else [0x08000000 + n * 0x20000 + o]
  | .sram => [a]
  | _ => []

/-- Write `n` bytes to every copy of a location (DESIGN CHOICE, log 13). -/
def putRam (s : State) (l : Loc) (a v n : Nat) : State :=
  { s with mem := (s.storeKeys l a).foldl (fun r k => Mem.writeN r k v n) s.mem }

/-- The TCM at a location belongs to another core that stalls in FNC.SYS: writes to it are held (R38). -/
def heldBySys (s : State) (m : Nat) (l : Loc) : Bool :=
  match l with
  | .tcm n _ => n != m && (s.core n).stall == some .fenceSys
  | _ => false

/-- Cycle writes of a master to a target that are in flight or staged (R34). -/
def stagedCount (s : State) (mid : Nat) (t : Target) : Nat :=
  (s.fab.staged.filter (fun x => x.mid == mid && x.tgt == t)).length +
  (s.fab.flight.filter (fun f => f.mid == mid && cycTarget f.addr == some t)).length

/-- A cycle write of a core counts for its next FNC.CYC (R34, R35). -/
def countCyc (c : Core) (mid addr : Nat) : Core :=
  if mid < 32 && (cycTarget addr).isSome then { c with cycIssued := c.cycIssued + 1 } else c

/-- A store by core `m` (R210, R211) (DESIGN CHOICE, log 13). -/
def store (s : State) (m : Nat) (legal : Bool) (srcs : List Nat) (addr size : Nat) (v : Nat) (upd : Core → Core) : State :=
  let c := s.core m
  let mid := s.accMid m
  let l := s.locate (some m) addr
  if !s.canRun m then s
  else if !legal then s.illegal m
  else if srcs.any c.awaits then s.setCore m (c.wait .operand)
  else if addr % size ≠ 0 ∨ (0x20000000 ≤ addr ∧ addr < 0x60000000 ∧ size ≠ 4) then s.alignTrap m addr true
  else match s.violation mid c.prv l addr size .wr with
    | some cause => (s.setCore m { c with stall := none }).freeze ⟨addr, m, cause, true, false, !c.prv, c.exl, c.pc.toNat⟩
    | none =>
      match l with
      | .absent => (s.setCore m (upd c)).absentTrap m addr true false
      | .off => (s.offEvt mid addr true).goOn m (upd c).done
      | _ =>
        let ord := s.isOrdered mid addr size
        if ord && s.orderedOut m mid then s.setCore m (c.wait .ordered)
        else if l = .reg ∨ l.isCap ∨ s.heldBySys m l then
          if 8 ≤ (s.fab.flight.filter (fun f => f.mid == mid)).length then s.setCore m (c.wait .stores)
          else if mid < 32 && (match cycTarget addr with | some t => decide (32 ≤ s.stagedCount mid t) | none => false) then
            s.setCore m (c.wait .staging)
          else
            let f : Flight := ⟨mid, c.prv, addr, BitVec.ofNat 32 v, size, ord⟩
            ({ s with fab := { s.fab with flight := s.fab.flight ++ [f] } }).goOn m (countCyc (upd c) mid addr).done
        else (s.putRam l addr v size).goOn m (upd c).done

end State

/-- LD: s bytes, sign-extended (R249). -/
def execLd (m : Nat) (o : OpC) (s : State) : Out :=
  .next (s.load m (legalC o) 0 (addrC (s.core m) o).toNat (szBytes o.sz) true o.d.toNat (fun c => pointC c o))

/-- LDU: as LD, zero-extended (R249). -/
def execLdu (m : Nat) (o : OpC) (s : State) : Out :=
  .next (s.load m (legalC o) 0 (addrC (s.core m) o).toNat (szBytes o.sz) false o.d.toNat (fun c => pointC c o))

/-- The datum of a store of format C: the low s bytes of gd, or gd and gd + 1 (R249). -/
def storeVal (c : Core) (o : OpC) : Nat :=
  (c.rg o.d.toNat).toNat + (if o.sz = 3 then (c.rg (o.d.toNat + 1)).toNat * 2 ^ 32 else 0)

/-- ST: the low s bytes of gd (R249). -/
def execSt (m : Nat) (o : OpC) (s : State) : Out :=
  .next (s.store m (legalC o) (if o.sz = 3 then [o.d.toNat, o.d.toNat + 1] else [o.d.toNat])
    (addrC (s.core m) o).toNat (szBytes o.sz) (storeVal (s.core m) o) (fun c => pointC c o))

/-- LDW: 4 bytes at ga + sext(imm16) (R249). -/
def execLdw (m : Nat) (o : OpB) (s : State) : Out :=
  .next (s.load m true o.a.toNat (addrB (s.core m) o).toNat 4 false o.d.toNat id)

/-- STW: 4 bytes at ga + sext(imm16) = gd (R249). -/
def execStw (m : Nat) (o : OpB) (s : State) : Out :=
  .next (s.store m true [o.a.toNat, o.d.toNat] (addrB (s.core m) o).toNat 4 ((s.core m).rg o.d.toNat).toNat id)

/-! ## Branches (R250) -/

/-- The target of a branch: PC + sext(off22) × 4 (R244). -/
def branchTarget (pc : Word) (o : OpD) : Word := pc + (o.off.signExtend 32 <<< 2)

/-- B.cond: if cond holds, PC = target, where the fetch is checked (R250). -/
def execBCond (m : Nat) (o : OpD) (s : State) : Out :=
  .next (
    let c := s.core m
    if !s.canRun m then s
    else if condHolds c.flags o.cond then s.jumped m (c.doneAt (branchTarget c.pc o))
    else s.goOn m c.done)

/-- CALL.cond: if cond holds, g1 = PC + 4 and PC = target (R250). -/
def execCallCond (m : Nat) (o : OpD) (s : State) : Out :=
  .next (
    let c := s.core m
    if !s.canRun m then s
    else if condHolds c.flags o.cond then
      if c.awaits 1 then s.setCore m (c.wait .operand)
      else s.jumped m ((c.wg 1 (c.pc + 4)).doneAt (branchTarget c.pc o))
    else s.goOn m c.done)

/-- JR: PC = ga with bits 1:0 zero; d and b zero (R250). -/
def execJr (m : Nat) (o : OpA) (s : State) : Out :=
  .next (
    let c := s.core m
    if !s.canRun m then s
    else if !(o.d == 0 && o.b == 0) then s.illegal m
    else if c.awaits o.a.toNat then s.setCore m (c.wait .operand)
    else s.jumped m (c.doneAt (c.rg o.a.toNat)))

/-- JRL: PC = ga, and gd = PC + 4 after ga is read; b zero (R250). -/
def execJrl (m : Nat) (o : OpA) (s : State) : Out :=
  .next (
    let c := s.core m
    if !s.canRun m then s
    else if !(o.b == 0) then s.illegal m
    else if c.awaits o.a.toNat || c.awaits o.d.toNat then s.setCore m (c.wait .operand)
    else s.jumped m ((c.wg o.d.toNat (c.pc + 4)).doneAt (c.rg o.a.toNat)))

end Sys2Proof.Machine
end

