-- ==== Sys2Proof/Machine/Master.lean ====
section
/-!
DEFINITION. The fabric accesses of the masters that are not cores: the law export, the DMA channels, the Ethernet DMA and
the PCIe host (R24 to R26, R30, R31, R41). Their accesses carry supervisor privilege (R25, R208).
-/
namespace Sys2Proof.Machine

/-- What the fabric answers at the port of a master. -/
inductive Port where
  | go
  | freeze (cause : Nat)
  | absent
  | off
deriving DecidableEq, Repr

namespace State

/-- The checks of R211 for a master that is not a core: window, then absence. -/
def portCheck (s : State) (mid addr size : Nat) (wr : Bool) : Port :=
  let l := s.locate none addr
  match s.violation mid true l addr size (if wr then .wr else .rd) with
  | some c => .freeze c
  | none => match l with
    | .absent => .absent
    | .off => .off
    | _ => .go

/-- A write that passed its checks: RAM takes it, a register range has it in flight until it lands (R31). -/
def portWrite (s : State) (mid addr size v : Nat) : State :=
  let l := s.locate none addr
  match l with
  | .reg | .cap _ => { s with fab := { s.fab with flight := s.fab.flight ++
      [⟨mid, true, addr, BitVec.ofNat 32 v, size, s.isOrdered mid addr size⟩] } }
  | _ => if s.heldBySys 0xFF l then { s with fab := { s.fab with flight := s.fab.flight ++
      [⟨mid, true, addr, BitVec.ofNat 32 v, size, s.isOrdered mid addr size⟩] } }
    else s.putRam l addr v size

/-- A write by a master: it goes out, or is counted at an absent or switched-off unit (R6, R8, R457). -/
def masterWrite (s : State) (mid addr size v : Nat) : State :=
  match s.portCheck mid addr size true with
  | .go => s.portWrite mid addr size v
  | .absent => s.absentEvt mid addr true false
  | .off => s.offEvt mid addr true
  | .freeze _ => s

/-- A read of RAM or the boot NOR by a master; an absent or switched-off unit reads zero (R8, R457). -/
def portRead (s : State) (addr size : Nat) : Nat :=
  match s.locate none addr with
  | .xip o => if s.on pwrB Pwr.XS_STAT.BUSY then 0 else Mem.readN s.nor o size
  | l => match memKey l addr with
    | some k => Mem.readN s.mem k size
    | none => 0

/-- The freeze record of a master that is not a core (R223). -/
def masterRec (mid addr cause : Nat) (wr : Bool) : FzRec := ⟨addr, mid, cause, wr, false, false, false, 0⟩

/-- Writes of a master that have not been answered. -/
def unanswered (s : State) (mid : Nat) : Bool := s.fab.flight.any (fun f => f.mid == mid)

end State

end Sys2Proof.Machine
end

