-- ==== Sys2Proof/Machine/Link.lean ====
section
/-!
DEFINITION. The formats of the cell link: frame blocks and their CRC-32C (R68), reports and ranging bursts and their CRC-16
(R83), and the fields of the header, command, grant and maintenance blocks (R70 to R76).
-/
namespace Sys2Proof.Machine

/-- One step of a bitwise CRC of width `w`, most significant bit first. -/
def crcBit (w poly c : Nat) (b : Bool) : Nat :=
  let c2 := c * 2 % 2 ^ w
  if (c.testBit (w - 1)) != b then c2 ^^^ poly else c2

/-- The CRC of the low `n` bits of `v`, most significant first, from `c`. -/
def crcNat (w poly : Nat) (v : Nat) : Nat → Nat → Nat
  | 0, c => c
  | n + 1, c => crcNat w poly v n (crcBit w poly c (v.testBit n))

/-- CRC-32C of R68: polynomial 0x1EDC_6F41, initial ones, most significant bit first, not inverted. -/
def crc32 (v n : Nat) : Nat := crcNat 32 0x1EDC6F41 v n 0xFFFFFFFF

/-- CRC-16 of R83: polynomial 0x1_8BB7, initial 0xFFFF. -/
def crc16 (v n : Nat) : Nat := crcNat 16 0x8BB7 v n 0xFFFF

/-! ## Frame blocks (R68) -/

end Sys2Proof.Machine

namespace Sys2Proof.Block

open Sys2Proof.Machine

/-- BHDR and D0 to D7 as one number of 288 bits. -/
def body (b : Block) : Nat :=
  let h := (b.btype.toNat * 2 ^ 24 + b.bidx.toNat * 2 ^ 16 + b.subn.toNat)
  [b.d0, b.d1, b.d2, b.d3, b.d4, b.d5, b.d6, b.d7].foldl (fun a d => a * 2 ^ 32 + d.toNat) h

/-- The CRC of a block is good. -/
def good (b : Block) : Bool := b.crc.toNat == crc32 b.body 288

/-- A block with its CRC. -/
def make (btype bidx subn : Nat) (d : Nat → Nat) : Block :=
  let b : Block :=
    { btype := BitVec.ofNat 8 btype, bidx := BitVec.ofNat 8 bidx, subn := BitVec.ofNat 16 subn,
      d0 := BitVec.ofNat 32 (d 0), d1 := BitVec.ofNat 32 (d 1), d2 := BitVec.ofNat 32 (d 2), d3 := BitVec.ofNat 32 (d 3),
      d4 := BitVec.ofNat 32 (d 4), d5 := BitVec.ofNat 32 (d 5), d6 := BitVec.ofNat 32 (d 6), d7 := BitVec.ofNat 32 (d 7),
      crc := 0 }
  { b with crc := BitVec.ofNat 32 (crc32 b.body 288) }

/-- Data word `i`. -/
def word (b : Block) (i : Nat) : Word :=
  match i with
  | 0 => b.d0
  | 1 => b.d1
  | 2 => b.d2
  | 3 => b.d3
  | 4 => b.d4
  | 5 => b.d5
  | 6 => b.d6
  | _ => b.d7

/-- Data word `i` as a number. -/
def wd (b : Block) (i : Nat) : Nat := (b.word i).toNat

/-- SERIAL and MOP and SLOT of a MAINT block (R76). -/
def serial (b : Block) : Nat := b.wd 0 % 2 ^ 16 * 2 ^ 32 + b.wd 1
def mop (b : Block) : Nat := bits (b.wd 0) 31 28
def mslot (b : Block) : Nat := bits (b.wd 0) 22 16

end Sys2Proof.Block

namespace Sys2Proof.Machine

/-! ## Command words (R71, R118) -/

/-- OP and APPLY of a command word. -/
def cmdOp (w : Word) : Nat := w.toNat / 2 ^ 28
def cmdApply (w : Word) : Nat := bits w.toNat 27 26
/-- The operand bits 25:0. -/
def cmdArg (w : Word) : Nat := w.toNat % 2 ^ 26

/-- The entries of an ACMD block (R72): first and second words. -/
def acmdEntries (b : Block) : List (Word × Word) := [(b.d0, b.d1), (b.d2, b.d3), (b.d4, b.d5), (b.d6, b.d7)]

/-- The valid entry for a slot as a command entry. -/
def acmdFor (b : Block) (slot : Nat) : Option CmdEntry :=
  match (acmdEntries b).find? (fun e => e.1.toNat.testBit 31 && bits e.1.toNat 22 16 == slot) with
  | some e => some ⟨e.2, .acmd, if e.1.toNat.testBit 30 then some (BitVec.ofNat 2 (bits e.1.toNat 29 28)) else none⟩
  | none => none

/-! ## Grant maps (R75) -/

/-- Entry `u` of the three report blocks. -/
def grantEntry (bs : List Block) (u : Nat) : Nat :=
  match bs.find? (fun b => b.bidx.toNat == u / 32) with
  | some b => bits (b.wd (u % 32 / 4)) (31 - 8 * (u % 4)) (24 - 8 * (u % 4))
  | none => 0

/-- The map that four accepted GRANT blocks give; slot 0x80 marks an entry that is not valid. -/
def parseMap (cyc : Nat) (bs : List Block) : GrantMap :=
  let ent (u : Nat) : Nat := let e := grantEntry bs u; if e.testBit 7 then e % 128 else 0x80
  match bs.find? (fun b => b.bidx.toNat == 3) with
  | some b =>
    let rg (m : Nat) : Nat := let w := b.wd (m / 2 + 1); if m % 2 = 0 then w / 65536 else w % 65536
    let rgs := ((List.range 11).map rg).map (fun e => if e.testBit 15 then (bits e 14 8, e % 256) else (0x80, 0))
    let d7 := b.wd 7
    { cyc := cyc, slots := (List.range 96).map ent, mode := bits (b.wd 0) 31 30, rgs := rgs,
      rng := if d7.testBit 31 then some (bits d7 30 24, bits d7 10 0) else none }
  | none => { cyc := cyc, slots := [], mode := 0, rgs := [], rng := none }

/-- The four GRANT blocks of a map (R75). -/
def mapBlocks (subn : Nat) (g : GrantMap) : List Block :=
  let ent (u : Nat) : Nat :=
    match g.slots[u]? with
    | some e => if e < 0x80 then 0x80 + e else 0
    | none => 0
  let blk (i : Nat) : Block := Block.make 0x04 i subn (fun w =>
    let u := 32 * i + 4 * w
    ent u * 2 ^ 24 + ent (u + 1) * 2 ^ 16 + ent (u + 2) * 2 ^ 8 + ent (u + 3))
  let rg (m : Nat) : Nat :=
    match g.rgs[m]? with
    | some (sl, cy) => if sl < 0x80 then 0x8000 + sl * 256 + cy % 256 else 0
    | none => 0
  let last := Block.make 0x04 3 subn (fun w =>
    if w = 0 then g.mode * 2 ^ 30
    else if w = 7 then (match g.rng with | some (sl, gs) => 2 ^ 31 + sl * 2 ^ 24 + gs | none => 0)
    else rg (2 * (w - 1)) * 65536 + rg (2 * (w - 1) + 1))
  [blk 0, blk 1, blk 2, last]

/-! ## Reports (R83) -/

/-- Bits `hi:lo` of a burst. -/
def rfield (r : BitVec 128) (hi lo : Nat) : Nat := bits r.toNat hi lo
/-- A one-bit field of a burst. -/
def rbit (r : BitVec 128) (i : Nat) : Bool := r.toNat.testBit i
/-- The CRC of a burst is good. -/
def burstGood (r : BitVec 128) : Bool := r.toNat % 65536 == crc16 (r.toNat / 65536) 112
/-- Put the CRC on the upper 112 bits of a burst. -/
def withCrc (upper : Nat) : BitVec 128 := BitVec.ofNat 128 (upper * 65536 + crc16 (upper % 2 ^ 112) 112)

/-- The fields of a report above its CRC (R83). -/
structure ReportFields where
  slot : Nat
  cyc : Nat
  rg : Bool
  vca : Nat
  vcb : Nat
  ova : Bool
  ovb : Bool
  state : Nat
  pwmc : Bool
  late : Bool
  ackseq : Nat
  ackv : Bool
  dcrc : Nat
  trip : Nat
  tact : Bool
  gsup : Bool
  bypa : Bool
  bypf : Bool
  ppend : Bool
  flt : Bool
  badcmd : Bool
  temp : Nat
  dsee : Nat
  rdv : Bool
  raddr : Nat
  rdata : Nat
  rstep : Nat
deriving DecidableEq, Repr

/-- The bits of a report (R83). -/
def ReportFields.pack (f : ReportFields) : BitVec 128 :=
  let put (a v w : Nat) : Nat := a * 2 ^ w + v % 2 ^ w
  let a := [(f.slot, 7), (f.cyc, 8), (f.rg.toNat, 1), (f.vca, 12), (f.vcb, 12), (f.ova.toNat, 1), (f.ovb.toNat, 1),
    (f.state, 2), (f.pwmc.toNat, 1), (f.late.toNat, 1), (f.ackseq, 2), (f.ackv.toNat, 1), (f.dcrc, 3), (f.trip, 4),
    (f.tact.toNat, 1), (f.gsup.toNat, 1), (f.bypa.toNat, 1), (f.bypf.toNat, 1), (f.ppend.toNat, 1), (f.flt.toNat, 1),
    (f.badcmd.toNat, 1), (f.temp, 10), (f.dsee, 4), (f.rdv.toNat, 1), (f.raddr, 8), (f.rdata, 16), (f.rstep, 4),
    (0, 6)].foldl (fun a e => put a e.1 e.2) 0
  withCrc a

/-- A ranging burst (R83). -/
def rangingBurst (slot serial : Nat) : BitVec 128 :=
  withCrc ((slot % 128) * 2 ^ 105 + 0xA7 * 2 ^ 97 + (serial % 2 ^ 48) * 2 ^ 48)

end Sys2Proof.Machine
end

