-- ==== Sys2Proof/Machine/Modulator.lean ====
section
/-!
DEFINITION. The shared operations of the arm modulators (R152 to R179): staged writes and register writes of the block, arm
modes, references, eligibility, the estimator, the rank engine and the checker.
-/
namespace Sys2Proof.Machine

namespace State

/-- The mode in force of an arm; it runs in BLOCK and ACTIVE (R156). -/
def amode (s : State) (k a : Nat) : Nat := s.rd (armB k a) Arm.ARM_STAT.AMODE
def armRuns (s : State) (k a : Nat) : Bool := s.amode k a != 0
/-- The arm a mapped cell belongs to (R154). -/
def armOf (s : State) (k c : Nat) : Nat := s.rd (ctB k c) Ct.CMAP.ARM
/-- The cells of an arm, ascending. -/
def cellsOf (s : State) (k a : Nat) : List Nat := (s.modul k).mapped.filter (fun c => s.armOf k c == a)
/-- Cell `c` is mapped on K-die `k`. -/
def mappedOn (s : State) (k c : Nat) : Bool := s.on (ctB k c) Ct.CMAP.MAPV
/-- The K-die whose modulator maps a cell. -/
def mapper (s : State) (c : Nat) : Option Nat := (s.kdies).find? (fun k => s.mappedOn k c)

/-- The lane's view of a cell (R95): 0 READY, 1 LINKDEG, 2 OCCULTED, 3 DARK. -/
def view (s : State) (c : Nat) : Nat :=
  if s.rd (laneB (c / 96)) Lane.LANE_STAT.LSTATE ≠ 3 ∨ !s.hasL (c / 96 / 16) then 3
  else match s.rd (ctxB c) Ctx.CELL_STAT.CSTATE with
    | 3 => 0
    | 4 => 1
    | 5 => 2
    | _ => 3

/-- The state of the pair logic (R413). -/
def pstate (s : State) : Nat := s.rd pairB Pair.PAIR_STAT.PSTATE

/-- The modulators follow the peer's decisions: in STANDBY and TAKING, and until the first cut-off at least 50 ns after an
entry into ACTIVE (R402, R406). -/
def shadowing (s : State) : Bool :=
  s.pstate == 1 || s.pstate == 2 ||
  (s.pstate == 3 && s.pair.entry.isSome && decide (s.clk.bn + 300 * 65536 < s.pair.entryAt + 50 * 65536))

/-- Cycle `a` is later than cycle `b`; the numbers wrap (R57). -/
def cycAfter (a b : Nat) : Bool :=
  let d := (a + 2 ^ 48 - b) % 2 ^ 48
  decide (0 < d) && decide (d < 2 ^ 47)

/-- R166 is judged for a report of cycle `cyc` (R402, R407). -/
def judges (s : State) (cyc : Nat) : Bool :=
  !s.shadowing && (match s.pair.noJudge with | some c => cycAfter cyc c | none => true)

/-! ## Events (R177, R178) -/

/-- A scheduler event of the pass is due after the verdict. -/
def owe (s : State) (k e : Nat) : State :=
  let m := s.modul k
  if m.evq.contains e then s else s.setModul k { m with evq := m.evq ++ [e] }

/-- Set bit `i` of an event register of the modulator (R177). -/
def modRaise (s : State) (k b : Nat) (ev en : Fld) (i e : Nat) : State :=
  let old := s.rd b ev
  if old.testBit i then s
  else
    let s := s.wr b ev (setBit old i)
    if (s.rd b en).testBit i then s.owe k e else s

def armEvt (s : State) (k a i : Nat) : State := s.modRaise k (armB k a) Arm.ARM_EVT.EVT Arm.ARM_EVTEN.EN i (0x30 + a)
def modEvt (s : State) (k i : Nat) : State := s.modRaise k (modB k) Mod.MOD_EVT.EVT Mod.MOD_EVTEN.EN i 0x36

/-- The scheduler events of the pass fire (R178). -/
def flushEvts (s : State) (k : Nat) : State :=
  let q := (s.modul k).evq
  q.foldl (fun s e => s.evtK k e) (s.setModul k { s.modul k with evq := [] })

/-! ## Arm modes (R156) -/

def syncMask (s : State) (k : Nat) : State :=
  s.wr (modB k) Mod.MOD_STAT.RUNMASK ((List.range 6).foldl (fun v a => if s.armRuns k a then setBit v a else v) 0)

def setAmode (s : State) (k a m : Nat) : State := (s.wr (armB k a) Arm.ARM_STAT.AMODE m).syncMask k

/-- The arm goes into BLOCK on its own and stays there until firmware writes MODE = 2 (R156). -/
def blockArm (s : State) (k a : Nat) : State :=
  if s.armRuns k a then
    (((s.wr (armB k a) Arm.ARM_CTL.MODE 1).setAmode k a 1).modArm k a
      (fun x => { x with blocks := true, ranks := false })).armEvt k a 4
  else s

/-- The transition of an arm at a cut-off (R156): one row per pass. `edge`: SPR has newly reached the K-die. -/
def armMode (s : State) (k a : Nat) (spr edge : Bool) : State :=
  let b := armB k a
  let s := if edge && s.armRuns k a then s.wr b Arm.ARM_CTL.MODE 1 else s
  let want := s.rd b Arm.ARM_CTL.MODE
  let clear (x : ArmSt) : ArmSt := { x with ranks := false, blocks := false }
  let s := match s.amode k a with
    | 0 =>
      if want = 1 ∨ want = 2 then
        let s := (s.cellsOf k a).foldl (fun (s : State) c =>
          let s := ((s.wr (ctB k c) Ct.CMAP.SEED 0).wr (ctB k c) Ct.CEST.DWC 15).wr (ctB k c) Ct.CEST.SWC 0
          (s.wr (ctB k c) Ct.CMAP.HOLD 0).modEst k c (fun e =>
            { e with marks := [], hist := [], qacc := 0, learn := false, last := none })) s
        let s := s.wr b Arm.ARM_HOLD.HV 0
        (s.modArm k a (fun x => { clear x with blocks := true, cur := x.cur, prev := [], words := [], miss := 0, stale := false,
                                                rot := 0, sww := 0, fails := 0 })).setAmode k a 1
      else s.modArm k a (fun x => { clear x with words := [] })
    | 1 =>
      if want = 0 then (s.modArm k a (fun x => { clear x with words := [] })).setAmode k a 0
      else if want = 2 && !spr then
        (((s.cellsOf k a).foldl (fun (s : State) c => s.wr (ctB k c) Ct.CMAP.CST 3) s).modArm k a
          (fun x => { clear x with ranks := true })).setAmode k a 2
      else s.modArm k a (fun x => { clear x with blocks := true })
    | _ =>
      if want = 0 then (s.modArm k a (fun x => { clear x with blocks := true })).setAmode k a 0
      else if want = 1 then (s.modArm k a (fun x => { clear x with blocks := true })).setAmode k a 1
      else s.modArm k a (fun x => { clear x with ranks := true })
  s.wrB b Arm.ARM_STAT.SPRBLK (spr && s.armRuns k a)

/-! ## The estimator (R162 to R167) -/

/-- A quotient whose rounding the spec leaves open: the floor, or one more where there is a remainder
(DESIGN CHOICE, log 28). -/
def divFree (s : State) (num den : Int) : Int × State :=
  if num % den = 0 then (num / den, s)
  else
    let b := s.freeBit
    (num / den + (if b.1 then 1 else 0), b.2)

/-- The state of an interval nothing decided (R160: DARK). -/
def darkInterval : IntervalState := ⟨3, none, false⟩

/-- s(m) as a fraction (R162); a tick is 32 UI, 512/165 ns. -/
def factor (iv : IntervalState) (inum : Int) (fb : Bool) (fper : Nat) : Int × Int :=
  match iv.duty with
  | some d =>
    let a : Int := ((d.natAbs * fper + 256) / 512 : Nat)
    ((if d < 0 then -a else a) * 512, 165 * 1250)
  | none =>
    match iv.st with
    | 0 => (0, 1)
    | 1 => (1, 1)
    | 2 => (-1, 1)
    | _ => if 0 < inum then (1, 1) else if fb then (-1, 1) else (0, 1)

/-- dv of one interval between the current samples `i0` and `i1` (R162), in 0.25 mV with 8 fraction bits. -/
def dvOf (s : State) (k a c : Nat) (iv : IntervalState) (i0 i1 : Int) : Int × State :=
  let al : Int := s.alignNs
  let inum := (625 - al) * i0 + (625 + al) * i1
  let f := factor iv inum (s.on (ctB k c) Ct.CMAP.FB) (s.rd (armB k a) Arm.ARM_PWM.FPER)
  let num := f.1 * inum * (s.rd (armB k a) Arm.ARM_GNOM.GNOM) * (s.rd (ctB k c) Ct.CEST.K)
  s.divFree num (f.2 * 1250 * 2 ^ 53)

/-- Interval n - 2 of a cell settles (R162, R163). -/
def settleCell (s : State) (k a c : Nat) (i2 i1 : Int) (mark : Option Nat) : State :=
  let e := s.est k c
  let kk : Int := s.rd (ctB k c) Ct.CEST.K
  let iv := e.hist.getD 2 darkInterval
  let r := s.dvOf k a c iv i2 i1
  let q := r.2.divFree (r.1 * 0x4000) kk
  let s := q.2
  let v8 := s.divFree (r.1 * 8) 100
  let q8 := v8.2.divFree (q.1 * 8) 100
  match mark with
  | some cy =>
    let m : CycleMark := ⟨cy, e.vs + v8.1, e.qacc + q8.1, if iv.cmd then some iv.st else none⟩
    q8.2.setEst k c { e with vs := e.vs + r.1, qacc := e.qacc + q.1, marks := (m :: e.marks).take 4 }
  | none => s.setEst k c { e with vs := e.vs + r.1, qacc := e.qacc + q.1 }

/-- The prediction for boundary n + 1 (R162). -/
def predictCell (s : State) (k a c : Nat) (i2 i1 : Int) : State :=
  let e := s.est k c
  let x : Int := s.rd (modB k) Mod.MOD_CTL.EXTRAP
  let h0 := i1 + x * (i1 - i2)
  let h1 := i1 + x * 2 * (i1 - i2)
  let a1 := s.dvOf k a c (e.hist.getD 1 darkInterval) i1 h0
  let a0 := a1.2.dvOf k a c (e.hist.getD 0 darkInterval) h0 h1
  let vp := e.vs + a1.1 + a0.1
  let s := a0.2.setEst k c { e with vp := vp }
  s.wr (ctB k c) Ct.CMAP.VPH (ofSigned (vp / 65536) 16)

/-- Shift right by `n`, to nearest, halves away from zero (R165). -/
def shiftAway (x : Int) (n : Nat) : Int :=
  if n = 0 then x
  else
    let q : Int := ((x.natAbs + 2 ^ (n - 1)) / 2 ^ n : Nat)
    if x < 0 then -q else q

/-- PFX is set (R166): the cell is excluded, PFXCNT and the PLAUSX event follow, and source 0x069 fires. -/
def exclude (s : State) (k a c : Nat) : State :=
  if s.on (ctB k c) Ct.CMAP.PFX then s
  else (((s.wr (ctB k c) Ct.CMAP.PFX 1).inc (armB k a) Arm.ARM_CNT1.PFXCNT).modEvt k 0).fireK k 0x069

/-- A plausibility fault of a cell (R166). -/
def plausFault (s : State) (k a c : Nat) : State :=
  let b := armB k a
  let n := min 255 (s.rd (ctB k c) Ct.CEST.PFCNT + max 1 (s.rd b Arm.ARM_PLAUS.PF_UP))
  let s := s.wr (ctB k c) Ct.CEST.PFCNT n
  let s := s.modEst k c (fun e => { e with pftot := min 65535 (e.pftot + 1), learn := false })
  if max 1 (s.rd b Arm.ARM_PLAUS.PF_LIM) ≤ n then s.exclude k a c else s

/-- The flags of an applied report (R160, R161). -/
def reportFlags (s : State) (k c : Nat) (r : BitVec 128) : State :=
  let b := ctB k c
  let s := s.modEst k c (fun e => { e with rstate := rfield r 85 84, gsup0 := !rbit r 70,
                                           seen := rfield r 85 84 + 4 * rfield r 75 72 + 64 * rfield r 69 69 + 128 * rfield r 68 68 })
  let s := if rfield r 75 72 ≠ 0 then
      (if s.on b Ct.CMAP.TRIPX then s else (s.wr b Ct.CMAP.TRIPX 1).modEvt k 1)
    else if rbit r 71 then s else s.wr b Ct.CMAP.TRIPX 0
  if rbit r 68 && !s.on b Ct.CMAP.BYPR then (s.wr b Ct.CMAP.BYPR 1).modEvt k 2 else s

/-- Learning of K between two applied reports (R167). -/
def learnK (s : State) (k a c : Nat) (dvm q : Int) : State :=
  let b := armB k a
  let gs : Int := s.rd b Arm.ARM_EST.GSTEP
  let qmin : Int := s.rd b Arm.ARM_EST.QMIN * 16 * 256
  if gs ≠ 0 ∧ q ≠ 0 ∧ qmin ≤ q.natAbs then
    let kk : Int := s.rd (ctB k c) Ct.CEST.K
    let o := if 0 < q then s.divFree (dvm * 0x4000) q else s.divFree (-dvm * 0x4000) (-q)
    let d := clampI (-gs) gs ((o.1 - kk) / 2 ^ (max 4 (s.rd b Arm.ARM_EST.LSH)))
    o.2.wr (ctB k c) Ct.CEST.K (clampI 0x2000 0x7FFF (kk + d)).toNat
  else s

/-- What a good report gives its arm's estimator at the cycle `m` marked (R164 to R167). -/
def takeReport (s : State) (k a c : Nat) (r : BitVec 128) (m : CycleMark) : State :=
  let b := armB k a
  let va := rfield r 111 100
  let vb := rfield r 99 88
  let usable := !rbit r 87 && !rbit r 86 && decide ((if va < vb then vb - va else va - vb) ≤ s.rd b Arm.ARM_MON.ABWIN)
  let mis := match m.cmd with | some st => st != rfield r 85 84 | none => false
  let excused := rbit r 82 || rfield r 78 76 != 0
  let vm := s.divFree ((s.rd b Arm.ARM_VGAIN.VGAIN : Int) * (va + vb : Nat)) 2
  let s := (vm.2.reportFlags k c r).modEst k c (fun e => { e with last := some m.cyc })
  let s := (s.almObs 1 (6 * k + a) (vm.1 / 256) c).almObs 2 (6 * k + a) (toSigned (rfield r 64 55) 10) c
  let s := s.acqObs k 2 8192 c (s.est k c).seen
  let e := s.est k c
  let shift (e : CellEst) : CellEst :=
    { e with qacc := e.qacc - m.qmi,
             marks := e.marks.map (fun x => if cycAfter x.cyc m.cyc then { x with qmi := x.qmi - m.qmi } else x) }
  if !s.on (ctB k c) Ct.CMAP.SEED then
    if usable then
      let e' := shift { e with vs := vm.1, vmeas := vm.1, err := 0, learn := !mis,
                               marks := e.marks.map (fun x => { x with vmi := vm.1 }) }
      (s.setEst k c e').wr (ctB k c) Ct.CMAP.SEED 1
    else s.setEst k c (shift { e with learn := false })
  else if !usable then
    if s.judges m.cyc then (s.setEst k c (shift e)).plausFault k a c else s.setEst k c (shift { e with learn := false })
  else
    let er := vm.1 - m.vmi
    let cor := shiftAway er (s.rd b Arm.ARM_EST.CSH)
    let e1 := { e with vs := e.vs + cor, vmeas := vm.1, err := er,
                       marks := e.marks.map (fun x => if cycAfter x.cyc m.cyc then { x with vmi := x.vmi + cor } else x) }
    let big := decide ((s.rd b Arm.ARM_PLAUS.PBAND) * 1024 < er.natAbs)
    if !s.judges m.cyc then s.setEst k c (shift { e1 with learn := false })
    else if mis && excused then s.setEst k c (shift { e1 with learn := false })
    else if big || mis then (s.setEst k c (shift e1)).plausFault k a c
    else
      let s := s.wr (ctB k c) Ct.CEST.PFCNT (s.rd (ctB k c) Ct.CEST.PFCNT - 1)
      let s := if e.learn then s.learnK k a c (vm.1 - e.vmeas) m.qmi else s
      s.setEst k c (shift { e1 with learn := true })

/-- A good report is applied to the estimator of a running arm's cell (R164 to R167) (DEDUCED, log 23). -/
def applyReport (s : State) (k : Nat) (c : Nat) (r : BitVec 128) : State :=
  let e := s.est k c
  match e.marks.find? (fun m => m.cyc % 256 == rfield r 120 113) with
  | none => s.setEst k c { e with stale := min 65535 (e.stale + 1) }
  | some m =>
    if (match e.last with | some l => !cycAfter m.cyc l | none => false) then
      s.setEst k c { e with stale := min 65535 (e.stale + 1) }
    else s.takeReport k (s.armOf k c) c r m

/-! ## References and counts (R157 to R159) -/

/-- REFMISS_TH is reached (R159): REFSTALE, event, source 0x06A, and BLOCK with REFACT = 1. -/
def goStale (s : State) (k a : Nat) : State :=
  let b := armB k a
  let s := s.modArm k a (fun x => { x with stale := true })
  let s := ((s.wr b Arm.ARM_STAT.REFSTALE 1).armEvt k a 3).fireK k 0x06A
  if s.on b Arm.ARM_CTL.REFACT && s.amode k a == 2 then s.blockArm k a else s

/-- The threshold of consecutive misses has been reached and not yet acted on (DESIGN CHOICE, log 7). -/
def staleDue (s : State) (k a : Nat) : Bool :=
  s.armRuns k a && !(s.arm k a).stale && decide (max 1 (s.rd (armB k a) Arm.ARM_MON.REFMISS_TH) ≤ (s.arm k a).miss)

/-- The reference of an arm in this pass (R157), with its misses (R159). -/
def reference (s : State) (k a : Nat) : Int × State :=
  let b := armB k a
  let x := s.arm k a
  let src := s.rd b Arm.ARM_CTL.SRC
  let nref := toSigned (s.rd b Arm.ARM_REF.NREF) 32
  let ofs := toSigned (s.rd b Arm.ARM_OFS.OFS) 32
  let own := if src = 1 then nref else if src = 2 then clampI (-2 ^ 31) (2 ^ 31 - 1) (x.lawRef + ofs) else x.lawRef
  let held := if (if src = 1 then x.refRel else x.lawNew) then none else x.held
  let r := held.getD own
  let x := { x with held := held }
  let miss := if src = 1 then s.on b Arm.ARM_CTL.REFX && !x.refRel else !x.lawNew
  let s := if miss then (s.inc b Arm.ARM_CNT0.REFMISS).setArm k a { x with miss := x.miss + 1, lawNew := false, refRel := false }
           else s.setArm k a { x with miss := 0, stale := false, lawNew := false, refRel := false }
  (r, if s.staleDue k a then s.goStale k a else s)

/-- What R158 derives from a reference. -/
structure Counts where
  neg : Bool
  nint : Nat
  d : Nat
  short : Bool
  sat : Bool
deriving DecidableEq, Repr

/-- The counts of R158. -/
def countsOf (r : Int) (anyFb : Bool) (npos nneg : Nat) : Counts :=
  let neg := decide (r < 0)
  let sat := neg && !anyFb
  let m := if sat then 0 else r.natAbs
  let d0 := (m % 65536 + 64) / 128
  let nint := m / 65536 + (if d0 = 512 then 1 else 0)
  let d := if d0 = 512 then 0 else d0
  let nelig := if neg then nneg else npos
  if nelig < nint + (if d ≠ 0 then 1 else 0) then ⟨neg, nelig, 0, true, sat⟩ else ⟨neg, nint, d, false, sat⟩

/-! ## Eligibility (R160) -/

/-- The first row of R160 that applies: the word sent (none: a rank result) and the interval state the estimator takes. -/
def cellRow (s : State) (k a c : Nat) (blocks : Bool) : Option (Word × IntervalState) :=
  let b := ctB k c
  let e := s.est k c
  let xs := if s.on (armB k a) Arm.ARM_CTL.XSTATE then 3 else 0
  let setState (st : Nat) : Word × IntervalState := (BitVec.ofNat 32 (0x10000000 + st), ⟨st, none, true⟩)
  if s.rd b Ct.CMAP.VIEW = 3 then some (0, darkInterval)
  else if s.on b Ct.CMAP.TRIPX then some (0, ⟨e.rstate, none, false⟩)
  else if s.on b Ct.CMAP.BYPR || e.gsup0 then some (0, darkInterval)
  else if s.rd b Ct.CMAP.VIEW = 2 then some (setState xs)
  else if s.on b Ct.CMAP.EXCL || s.on b Ct.CMAP.PFX || !s.on b Ct.CMAP.SEED then some (setState xs)
  else if blocks then some (setState 3)
  else none

/-- ELIG of a cell. -/
def elig (s : State) (k c : Nat) : Bool := s.on (ctB k c) Ct.CMAP.ELIG
/-- Usable for the polarity (R169). -/
def usable (s : State) (k c : Nat) (neg : Bool) : Bool := s.elig k c && (!neg || s.on (ctB k c) Ct.CMAP.FB)

/-- The cut-off step of one arm in a pass: reference, counts, predictions and eligibility (R152, R158, R160, R162). -/
def armCutoff (s : State) (k a : Nat) : State :=
  let b := armB k a
  let x := s.arm k a
  if !(x.ranks || x.blocks) then s
  else
    let rs := s.reference k a
    let s := rs.2
    let x := s.arm k a
    let mer := s.subIdx = 0
    let cells := s.cellsOf k a
    let clr := mer && decide (max 1 (s.rd b Arm.ARM_BUDGET.SWW) ≤ x.sww + 1)
    let s := s.setArm k a { x with ref := rs.1, rot := if mer then x.rot + 1 else x.rot,
                                   sww := if clr then 0 else if mer then x.sww + 1 else x.sww }
    let i1 := x.cur.getD 0 0
    let i2 := x.cur.getD 1 i1
    let s := cells.foldl (fun (s : State) c =>
      let t := ctB k c
      let s := if clr then s.wr t Ct.CEST.SWC 0 else s
      let s := s.wr t Ct.CEST.DWC (min 15 (s.rd t Ct.CEST.DWC + 1))
      let s := s.wr t Ct.CMAP.VIEW (s.view c)
      let s := s.wrB t Ct.CMAP.ELIG ((s.cellRow k a c x.blocks).isNone)
      s.predictCell k a c i2 i1) s
    let us := cells.filter (s.elig k)
    let fbs := us.filter (fun c => s.on (ctB k c) Ct.CMAP.FB)
    let ct := countsOf rs.1 (cells.any (fun c => s.on (ctB k c) Ct.CMAP.FB)) us.length fbs.length
    let s := s.wr b Arm.ARM_STAT.NELIG us.length
    let vs := (cells.filter (fun c => s.on (ctB k c) Ct.CMAP.SEED)).foldl (fun v c => v + (s.est k c).vp) 0
    let s := s.wr b Arm.ARM_VSUM.VSUM (ofSigned (vs / 4096) 32)
    let s := s.modArm k a (fun x => { x with neg := ct.neg, nint := ct.nint, d := ct.d,
                                             nelig := if ct.neg then fbs.length else us.length })
    let s := if x.ranks && ct.short then
        ((s.fireK k 0x06B).wr b Arm.ARM_STAT.SHORT 1).armEvt k a 0 else s
    if x.ranks && ct.sat then (s.wr b Arm.ARM_STAT.SAT 1).armEvt k a 1 else s

/-! ## Rank engine (R169 to R172) -/

/-- A cell in the ranking. -/
structure Cand where
  cell : Nat
  key : Int
  on : Bool
  ok : Bool
  bud : Bool
  moved : Bool
deriving DecidableEq, Repr

/-- The first candidate with the lowest (`hi` = false) or highest key; ties go to the lower cell, which stands first. -/
def argBest (hi : Bool) (l : List Cand) : Option Cand :=
  l.foldl (fun b x => match b with
    | none => some x
    | some y => if (if hi then decide (y.key < x.key) else decide (x.key < y.key)) then some x else some y) none

/-- The candidate a count loop moves: among ok and bud, then ok, then all (R169). -/
def pick (hi : Bool) (l : List Cand) : Option Cand :=
  match argBest hi (l.filter (fun x => x.ok && x.bud)) with
  | some x => some x
  | none =>
    match argBest hi (l.filter (fun x => x.ok)) with
    | some x => some x
    | none => argBest hi l

/-- Move a candidate to the other side. -/
def flip (c : Nat) (l : List Cand) : List Cand :=
  l.map (fun x => if x.cell = c then { x with on := !x.on, moved := true } else x)

/-- The count loops (R169): at most `fuel` moves; the moves outside ok are counted. -/
def countLoop : Nat → Nat → List Cand → Nat → List Cand × Nat
  | 0, _, l, v => (l, v)
  | fuel + 1, n, l, v =>
    let on := (l.filter (fun x => x.on)).length
    let side := decide (n < on)
    if on = n then (l, v)
    else match pick side (l.filter (fun x => x.on == side)) with
      | none => (l, v)
      | some x => countLoop fuel n (flip x.cell l) (if x.ok then v else v + 1)

/-- The swap loop (R169). -/
def swapLoop : Nat → Int → List Cand → List Cand
  | 0, _, l => l
  | fuel + 1, tb, l =>
    let free := l.filter (fun x => x.ok && x.bud && !x.moved)
    match argBest false (free.filter (fun x => !x.on)), argBest true (free.filter (fun x => x.on)) with
    | some a, some b => if b.key - a.key ≤ tb then l else swapLoop fuel tb (flip b.cell (flip a.cell l))
    | _, _ => l

/-- The next cell of `order` after `old`, wrapping round, that qualifies (R171). -/
def nextHolder (order : List Nat) (old : Option Nat) (q : Nat → Bool) : Option Nat :=
  match old with
  | none => order.find? q
  | some h => ((order.filter (fun c => decide (h < c))) ++ (order.filter (fun c => decide (c < h)))).find? q

/-- The holder of an arm. -/
def holder (s : State) (k a : Nat) : Option Nat :=
  if s.on (armB k a) Arm.ARM_HOLD.HV then some (s.rd (armB k a) Arm.ARM_HOLD.CELL) else none

/-- The holder role moves where R171 asks for it. -/
def moveHolder (s : State) (k a : Nat) : State :=
  let b := armB k a
  let x := s.arm k a
  let h := s.holder k a
  let ip := if x.neg then 2 else 1
  let good := match h with | some c => s.usable k c x.neg && s.mappedOn k c && s.armOf k c == a | none => false
  let rotDue := decide (max 1 (s.rd b Arm.ARM_PWM.ROT) ≤ x.rot)
  if good && !rotDue then s
  else
    let q (c : Nat) : Bool := s.usable k c x.neg && s.rd (ctB k c) Ct.CMAP.CST != ip && h != some c
    match nextHolder (s.cellsOf k a) h q with
    | some n =>
      let s := match h with
        | some o => ((s.wr (ctB k o) Ct.CMAP.HOLD 0).wr (ctB k o) Ct.CEST.DWC 0).wr (ctB k o) Ct.CMAP.CST 0
        | none => s
      let s := ((s.wr b Arm.ARM_HOLD.CELL n).wr b Arm.ARM_HOLD.HV 1).wr (ctB k n) Ct.CMAP.HOLD 1
      (s.modArm k a (fun x => { x with rot := 0 })).armEvt k a 5
    | none =>
      if good then s.modArm k a (fun x => { x with rot := 0 })
      else
        let s := match h with
          | some o => ((s.wr (ctB k o) Ct.CMAP.HOLD 0).wr (ctB k o) Ct.CEST.DWC 0).wr (ctB k o) Ct.CMAP.CST 0
          | none => s
        let s := s.wr b Arm.ARM_HOLD.HV 0
        if x.d ≠ 0 then
          ((s.fireK k 0x06B).wr b Arm.ARM_STAT.SHORT 1).armEvt k a 0 |>.modArm k a
            (fun x => { x with d := 0 })
        else s

/-- SET_STATE and SET_PWM words (R172). -/
def stateWord (st : Nat) : Word := BitVec.ofNat 32 (0x10000000 + st)
def pwmWord (duty : Int) (per : Nat) : Word := BitVec.ofNat 32 (0x20000000 + ofSigned duty 10 * 65536 + per)

/-- The interval state a word commands (R160, R162). -/
def wordState (w : Word) : Option IntervalState :=
  if cmdOp w = 1 then some ⟨cmdArg w % 4, none, true⟩
  else if cmdOp w = 2 then
    let d := toSigned (cmdArg w / 65536) 10
    some ⟨if d < 0 then 2 else 1, some d, true⟩
  else none

/-- The rank result of an ACTIVE arm: states of the usable cells without the holder, and moves outside ok (R169, R170). -/
def rankCells (s : State) (k a : Nat) : List Cand × Nat :=
  let b := armB k a
  let x := s.arm k a
  let ip := if x.neg then 2 else 1
  let h := s.holder k a
  let i1 := x.cur.getD 0 0
  let i2 := x.cur.getD 1 i1
  let ih := i1 + (s.rd (modB k) Mod.MOD_CTL.EXTRAP : Int) * 2 * (i1 - i2)
  let dead := decide (ih.natAbs < s.rd b Arm.ARM_RANK.IDEAD * 2 ^ 19)
  let dir : Int := if dead then 0 else (if x.neg then -1 else 1) * (if 0 < ih then 1 else if ih < 0 then -1 else 0)
  let swb := min 15 (s.rd b Arm.ARM_BUDGET.SWB)
  let us := (s.cellsOf k a).filter (fun c => s.usable k c x.neg && h != some c)
  let cs := us.map (fun c =>
    let t := ctB k c
    let vp := (s.est k c).vp
    (⟨c, if dir < 0 then -vp else vp, s.rd t Ct.CMAP.CST == ip, decide (s.rd b Arm.ARM_RANK.DWELL ≤ s.rd t Ct.CEST.DWC),
      swb == 0 || decide (s.rd t Ct.CEST.SWC < swb), false⟩ : Cand))
  let hin := h.isSome && x.d == 0 && x.nint == x.nelig
  let n := if hin then x.nint - 1 else x.nint
  let r := countLoop cs.length n cs 0
  (if dir = 0 then r.1 else swapLoop (s.rd b Arm.ARM_RANK.SWAPMAX) (s.rd b Arm.ARM_RANK.TBAND * 1024) r.1, r.2)

/-- The words of an arm's pass (R160, R169 to R172). -/
def armWords (s : State) (k a : Nat) : State :=
  let b := armB k a
  let x0 := s.arm k a
  if !(x0.ranks || x0.blocks) then s
  else
    let s := if x0.ranks then s.moveHolder k a else s
    let x := s.arm k a
    let h := s.holder k a
    let rk := if x0.ranks then s.rankCells k a else ([], 0)
    let ip := if x.neg then 2 else 1
    let duty : Int := if x.neg then -(x.d : Int) else x.d
    let hin := x.d == 0 && x.nint == x.nelig
    let word (c : Nat) : Word :=
      match s.cellRow k a c x.blocks with
      | some (w, _) => w
      | none =>
        if h = some c && x0.ranks && s.usable k c x.neg then
          (if x.d ≠ 0 then pwmWord duty (s.rd b Arm.ARM_PWM.FPER) else stateWord (if hin then ip else 0))
        else match rk.1.find? (fun z => z.cell == c) with
          | some z => stateWord (if z.on then ip else 0)
          | none => stateWord 0
    let ws := (s.cellsOf k a).map (fun c => (c, word c))
    let s := rk.1.foldl (fun s z =>
      if z.moved then s.wr (ctB k z.cell) Ct.CEST.SWC (min 15 (s.rd (ctB k z.cell) Ct.CEST.SWC + 1)) else s) s
    let s := s.incBy b Arm.ARM_CNT0.DWELLV rk.2
    let s := s.setArm k a { x with words := ws }
    if x0.ranks then
      let s := s.wr b Arm.ARM_NACT.NACT (ofSigned ((if x.neg then -1 else 1) * (x.nint * 65536 + x.d * 128 : Nat)) 32)
      let s := s.wr b Arm.ARM_INS.NINS ((ws.filter (fun e => e.2 == stateWord ip)).length)
      ((s.wrB b Arm.ARM_INS.NEG x.neg).wrB b Arm.ARM_INS.PWMV (x.d != 0)).wr b Arm.ARM_INS.DUTY (ofSigned duty 10)
    else s

/-! ## Checker (R173) -/

/-- The conditions of R173 on the words of an arm. -/
def wordsOk (s : State) (k a : Nat) : Bool :=
  let x := s.arm k a
  let ip := if x.neg then 2 else 1
  let cells := s.cellsOf k a
  let isIns (w : Word) : Bool := w == stateWord 1 || w == stateWord 2 || cmdOp w == 2
  let isNeg (w : Word) : Bool := w == stateWord 2 || (cmdOp w == 2 && decide (toSigned (cmdArg w / 65536) 10 < 0))
  let duty : Int := if x.neg then -(x.d : Int) else x.d
  let pw := x.words.filter (fun e => cmdOp e.2 == 2)
  (x.words.map (fun e => e.1) == cells) &&
  (if x.ranks then
    (x.words.filter (fun e => e.2 == stateWord ip)).length == x.nint &&
    !x.words.any (fun e => e.2 == stateWord (3 - ip)) &&
    !x.words.any (fun e => isNeg e.2 && !s.on (ctB k e.1) Ct.CMAP.FB) &&
    !x.words.any (fun e => isIns e.2 && !s.elig k e.1) &&
    (if x.d = 0 then pw.isEmpty else pw.map (fun e => e.2) == [pwmWord duty (s.rd (armB k a) Arm.ARM_PWM.FPER)]) &&
    x.words.all (fun e => decide (cmdOp e.2 ≤ 2))
   else x.words.all (fun e => e.2 == stateWord 3 || e.2 == 0))

/-- What the cells of an arm are now taken to hold: the commanded state, its dwell, and the interval history (R160, R169)
(DEDUCED, log 23). -/
def commit (s : State) (k a : Nat) : State :=
  let x := s.arm k a
  let s := x.words.foldl (fun s e =>
    let t := ctB k e.1
    let iv := match wordState e.2 with
      | some v => v
      | none => if s.on t Ct.CMAP.TRIPX && s.rd t Ct.CMAP.VIEW != 3 then ⟨(s.est k e.1).rstate, none, false⟩ else darkInterval
    let st := match wordState e.2 with | some v => v.st | none => 3
    let s := if st = s.rd t Ct.CMAP.CST then s else (s.wr t Ct.CMAP.CST st).wr t Ct.CEST.DWC 0
    s.modEst k e.1 (fun z => { z with hist := (iv :: z.hist).take 4 })) s
  s.setArm k a { x with prev := x.words }

/-- The verdict on an arm (R173): on a failure the previous words go out again, and the second in a row blocks the arm
(DEDUCED, log 23). -/
def verdict (s : State) (k a : Nat) : State :=
  let b := armB k a
  let x := s.arm k a
  if !(x.ranks || x.blocks) then s
  else if s.wordsOk k a then (s.setArm k a { x with fails := 0 }).commit k a
  else
    let s := s.setArm k a { x with fails := x.fails + 1,
                                   words := (s.cellsOf k a).map (fun c => (c, Tab.get x.prev c 0)) }
    let s := (((s.wr b Arm.ARM_STAT.CHKERR 1).inc b Arm.ARM_CNT1.CHKCNT).armEvt k a 2).fireK k 0x068
    let s := if 2 ≤ x.fails + 1 && s.amode k a == 2 then s.blockArm k a else s
    s.commit k a

/-! ## View registers (R174) -/

/-- The snapshot of cell SELD. -/
def snapshot (s : State) (k c : Nat) : State :=
  let e := s.est k c
  let b := modB k
  let s := (s.wr b Mod.CV_STAT.SELD c).wr b Mod.CV_STAT.VALID 1
  let s := (s.wrB b Mod.CV_STAT.AGE e.age).wr b Mod.CV_VP.VP (ofSigned (e.vp / 256) 24)
  let s := (s.wr b Mod.CV_VS.VS (ofSigned (e.vs / 256) 24)).wr b Mod.CV_VMEAS.VMEAS (ofSigned (e.vmeas / 256) 24)
  let s := (s.wr b Mod.CV_ERR.E (ofSigned (e.err / 256) 32)).wr b Mod.CV_KLT.KLT e.klt
  let s := (s.wr b Mod.CV_KLT.TREND (ofSigned e.trend 16)).wr b Mod.CV_K0.K0 e.k0
  ((s.wr b Mod.CV_CNT.PFTOT e.pftot).wr b Mod.CV_CNT.STALE e.stale).modEvt k 5

/-- A snapshot that is due is taken. -/
def snapDue (s : State) (k : Nat) : State :=
  match (s.modul k).snap with
  | some c => (s.setModul k { s.modul k with snap := none }).snapshot k c
  | none => s

/-- Clearing the AGE bit of cell SELD (R174). -/
def ageClear (s : State) (k : Nat) : State :=
  let b := modB k
  let c := s.rd b Mod.CV_STAT.SELD
  let s := s.wr b Mod.CV_STAT.AGE 0
  if (s.est k c).age then
    (s.modEst k c (fun e => { e with age := false })).wr b Mod.MOD_STAT.NAGE (s.rd b Mod.MOD_STAT.NAGE - 1)
  else s

/-- Clearing PFX also clears PFCNT (R166, R176). -/
def pfxClear (s : State) (k c : Nat) : State := (s.wr (ctB k c) Ct.CMAP.PFX 0).wr (ctB k c) Ct.CEST.PFCNT 0

/-- ARM_CNTCLR (R175). -/
def armCntClr (s : State) (k a : Nat) : State :=
  let b := armB k a
  ((((s.wr b Arm.ARM_CNT0.REFMISS 0).wr b Arm.ARM_CNT0.DWELLV 0).wr b Arm.ARM_CNT1.CHKCNT 0).wr b Arm.ARM_CNT1.PFXCNT 0)

/-! ## Register writes of the block, as they are released (R34, R174 to R176) -/

/-- HELD_WR, MAP_REJ or CFG_REJ (R179). -/
def modRej (s : State) (k b : Nat) (f : Fld) : State := (s.wr b f 1).fireK k 0x06E

/-- A class H field: a write that would change it while its owner runs is ignored with HELD_WR (R12, R496). -/
def heldSet (s : State) (b : Nat) (f : Fld) (runs : Bool) (v : Nat) (rej : State → State) : State :=
  if runs then (if s.rd b f = v % 2 ^ f.wid then s else rej s) else s.wr b f v

/-- The event of a block fires when an enable is set while its bit is set (R177). -/
def setEn (s : State) (k b : Nat) (ev en : Fld) (v e : Nat) : State :=
  let hit := s.rd b ev &&& (v - (v &&& s.rd b en))
  let s := s.wr b en v
  if hit ≠ 0 then s.owe k e else s

/-- A released write to the global registers (R174). -/
def modGlobal (s : State) (k off v : Nat) : State :=
  let b := modB k
  let runs := s.rd b Mod.MOD_STAT.RUNMASK != 0
  let held (s : State) : State := s.modRej k b Mod.MOD_STAT.HELD_WR
  match off with
  | 0x000 =>
    let s := s.heldSet b Mod.MOD_CTL.EXTRAP runs (bits v 0 0) held
    let t := bits v 12 8
    if t = s.rd b Mod.MOD_CTL.TPER_EXP then s
    else if runs then held s
    else if t < 16 ∨ 30 < t then s.modRej k b Mod.MOD_STAT.CFG_REJ
    else s.wr b Mod.MOD_CTL.TPER_EXP t
  | 0x004 =>
    [Mod.MOD_STAT.HELD_WR, Mod.MOD_STAT.MAP_REJ, Mod.MOD_STAT.CFG_REJ, Mod.MOD_STAT.RAMCE, Mod.MOD_STAT.RAMUE].foldl
      (fun s f => if v.testBit f.lsb then s.wr b f 0 else s) s
  | 0x008 => s.wr b Mod.MOD_EVT.EVT (s.rd b Mod.MOD_EVT.EVT - (s.rd b Mod.MOD_EVT.EVT &&& v))
  | 0x00C => s.setEn k b Mod.MOD_EVT.EVT Mod.MOD_EVTEN.EN (v % 64) 0x36
  | 0x010 =>
    let s := (s.wr b Mod.CELL_SEL.CELL (v % 8192)).wr b Mod.CV_STAT.VALID 0
    s.setModul k { s.modul k with snap := some (v % 8192) }
  | 0x014 => if v.testBit 16 then s.ageClear k else s
  | 0x02C =>
    let c := s.rd b Mod.CV_STAT.SELD
    let er := s.mappedOn k c && !s.on (ctB k c) Ct.CMAP.EXCL && s.armRuns k (s.armOf k c)
    if er then (if (s.est k c).k0 = v % 65536 then s else held s)
    else (s.modEst k c (fun e => { e with k0 := v % 65536 })).wr b Mod.CV_K0.K0 (v % 65536)
  | _ => s

/-- A released write to the registers of arm `a` (R175). -/
def modArmWrite (s : State) (k a off v : Nat) : State :=
  let b := armB k a
  let runs := s.armRuns k a
  let held (s : State) : State := s.modRej k b Arm.ARM_STAT.HELD_WR
  match off with
  | 0x00 =>
    let s := if v % 4 = 3 then s.modRej k b Arm.ARM_STAT.CFG_REJ else s.wrBoth b Arm.ARM_CTL.MODE (v % 4)
    let src := bits v 3 2
    let s := if src = s.rd b Arm.ARM_CTL.SRC then s else if runs then held s
      else if src = 3 then s.modRej k b Arm.ARM_STAT.CFG_REJ else s.wr b Arm.ARM_CTL.SRC src
    let s := s.heldSet b Arm.ARM_CTL.REFX runs (bits v 4 4) held
    let s := s.heldSet b Arm.ARM_CTL.REFACT runs (bits v 5 5) held
    let s := s.heldSet b Arm.ARM_CTL.XSTATE runs (bits v 6 6) held
    s.heldSet b Arm.ARM_CTL.ISLOT runs (bits v 17 8) held
  | 0x04 => (s.wrBoth b Arm.ARM_REF.NREF v).modArm k a (fun x => { x with refRel := true })
  | 0x08 => s.wrBoth b Arm.ARM_OFS.OFS v
  | 0x0C => s.heldSet b Arm.ARM_GNOM.GNOM runs v held
  | 0x10 => s.heldSet b Arm.ARM_VGAIN.VGAIN runs (v % 2 ^ 24) held
  | 0x14 =>
    (((s.wr b Arm.ARM_EST.CSH (bits v 2 0)).wr b Arm.ARM_EST.LSH (bits v 7 4)).wr b Arm.ARM_EST.GSTEP (bits v 15 8)).wr b
      Arm.ARM_EST.QMIN (bits v 31 16)
  | 0x18 =>
    ((s.wr b Arm.ARM_PLAUS.PBAND (bits v 15 0)).wr b Arm.ARM_PLAUS.PF_UP (bits v 19 16)).wr b Arm.ARM_PLAUS.PF_LIM
      (bits v 27 20)
  | 0x1C =>
    (((s.wr b Arm.ARM_RANK.TBAND (bits v 15 0)).wr b Arm.ARM_RANK.SWAPMAX (bits v 19 16)).wr b Arm.ARM_RANK.DWELL
      (bits v 23 20)).wr b Arm.ARM_RANK.IDEAD (bits v 31 24)
  | 0x20 => (s.wr b Arm.ARM_BUDGET.SWB (bits v 7 0)).wr b Arm.ARM_BUDGET.SWW (bits v 15 8)
  | 0x24 =>
    let f := bits v 15 0
    (if f < 403 ∨ 4095 < f then s.modRej k b Arm.ARM_STAT.CFG_REJ else s.wr b Arm.ARM_PWM.FPER f).wr b Arm.ARM_PWM.ROT
      (bits v 23 16)
  | 0x28 => (s.wr b Arm.ARM_MON.REFMISS_TH (bits v 7 0)).wr b Arm.ARM_MON.ABWIN (bits v 15 8)
  | 0x2C => s.wr b Arm.ARM_AGE.AGE_TH (bits v 9 0)
  | 0x40 =>
    [Arm.ARM_STAT.SHORT, Arm.ARM_STAT.SAT, Arm.ARM_STAT.CHKERR, Arm.ARM_STAT.REFSTALE, Arm.ARM_STAT.HELD_WR,
      Arm.ARM_STAT.CFG_REJ].foldl (fun s f => if v.testBit f.lsb then s.wr b f 0 else s) s
  | 0x44 => s.wr b Arm.ARM_EVT.EVT (s.rd b Arm.ARM_EVT.EVT - (s.rd b Arm.ARM_EVT.EVT &&& v))
  | 0x48 => s.setEn k b Arm.ARM_EVT.EVT Arm.ARM_EVTEN.EN (v % 64) (0x30 + a)
  | 0x64 => if v.testBit 0 then s.armCntClr k a else s
  | _ => s

/-- A map write is refused (R154). -/
def mapRefused (s : State) (k c v : Nat) : Bool :=
  let was := s.mappedOn k c
  let a := bits v 3 1
  v.testBit 0 && (!was || a != s.armOf k c) &&
  (decide (6 ≤ a) || decide (1024 ≤ (s.cellsOf k a).length) || s.mappedOn (1 - k) c || !s.hasL (c / 96 / 16))

/-- A released write to a cell-table word (R154, R176). -/
def modTable (s : State) (k c word v : Nat) : State :=
  let t := ctB k c
  let b := modB k
  let held (s : State) : State := s.modRej k b Mod.MOD_STAT.HELD_WR
  let runs := s.mappedOn k c && !s.on t Ct.CMAP.EXCL && s.armRuns k (s.armOf k c)
  if word = 0 then
    if !runs && s.mapRefused k c v then s.modRej k b Mod.MOD_STAT.MAP_REJ
    else if !s.hasL (c / 96 / 16) then s
    else
      let chg := v % 32 ≠ s.rd t Ct.CMAP.MAPV + 2 * s.rd t Ct.CMAP.ARM + 16 * s.rd t Ct.CMAP.FB
      let s := if runs then (if chg then held s else s)
        else
          let s := ((s.wr t Ct.CMAP.MAPV (bits v 0 0)).wr t Ct.CMAP.ARM (bits v 3 1)).wr t Ct.CMAP.FB (bits v 4 4)
          let m := s.modul k
          let rest := m.mapped.filter (fun x => x != c)
          let low := rest.filter (fun x => decide (x < c))
          let high := rest.filter (fun x => decide (c < x))
          s.setModul k { m with mapped := if v.testBit 0 then low ++ [c] ++ high else rest }
      let s := s.wrBoth t Ct.CMAP.EXCL (bits v 5 5)
      let s := if v.testBit 6 then s.wr t Ct.CMAP.BYPR 0 else s
      if v.testBit 7 then s.pfxClear k c else s
  else if !s.hasL (c / 96 / 16) then s
  else
    let kv := max 0x2000 (min 0x7FFF (v % 65536))
    s.heldSet t Ct.CEST.K runs kv held

/-- A released write to the modulator block of K-die `k` (R174). -/
def modWrite (s : State) (k off v : Nat) : State :=
  if off < 0x1000 then s.modGlobal k off v
  else if off < 0x1600 then s.modArmWrite k ((off - 0x1000) / 0x100) (off % 0x100) v
  else if 0x4000 ≤ off ∧ off < 0x4000 + 6144 * 8 then s.modTable k ((off - 0x4000) / 8) (off % 8 / 4) v
  else s

/-! ## Staging (R34, R35) -/

/-- A staged write is released at the cut-off of subframe `n`: a commit covers it, or this is its STAGE_HOLD-th cut-off; a
write by another master than a core is released at its first (R34) (DEDUCED, log 19 and 20). -/
def released (s : State) (x : Staged) (n : Nat) : Bool :=
  if x.core then (match x.commit with | some c => decide (c ≤ n) | none => false) || decide (s.stageHold ≤ x.cuts + 1)
  else true

/-- A cut-off of subframe `n` for the staged writes that satisfy `p`: the released ones, oldest first, and what stays staged; a core whose write STAGE_HOLD
releases before a commit covered it will read SPLIT = 1 (R35) (DEDUCED, log 20). -/
def takeStaged (s : State) (p : Staged → Bool) (n : Nat) : List Staged × State :=
  let out := s.fab.staged.filter (fun x => p x && s.released x n)
  let stay := (s.fab.staged.filter (fun x => !(p x && s.released x n))).map
    (fun x => if p x then { x with cuts := x.cuts + 1 } else x)
  let s := { s with fab := { s.fab with staged := stay } }
  let s := out.foldl (fun (s : State) x =>
    if x.core && x.cov.isNone then s.modCore x.mid (fun c => { c with cycHeld := c.cycHeld + 1 }) else s) s
  (out, s)

/-- The build cut-off of a modulator up to the rank pass (R152). -/
def modCutoff (s : State) (k : Nat) : State :=
  let n := s.clk.n
  let st := s.takeStaged (fun x => x.tgt == .mod k) n
  let s := st.1.foldl (fun (s : State) x => s.modWrite k (x.addr % 0x10000) x.val.toNat) st.2
  if !s.running then
    let s := (List.range 6).foldl (fun (s : State) a => s.modArm k a (fun x => { x with refRel := false })) s
    (s.snapDue k).flushEvts k
  else
    let spr := s.on safB Saf.SAFE_STAT.SPR
    let edge := spr && !(s.modul k).spr
    let s := s.setModul k { s.modul k with spr := spr, phase := 1 }
    let shadow := s.shadowing
    let cyc := s.cycNum
    let mark := if s.subIdx = 2 then some cyc else none
    let s := (List.range 6).foldl (fun (s : State) a =>
      let s := if shadow then s.modArm k a (fun x => { x with ranks := false, blocks := false, words := [] })
               else s.armMode k a spr edge
      let slot := s.rd (armB k a) Arm.ARM_CTL.ISLOT
      let i := toSigned (s.rd (lawB k) (Larr.SIG.VAL.at slot)) 32
      let s := s.modArm k a (fun x => { x with cur := (i :: x.cur).take 3 })
      let x := s.arm k a
      if x.ranks || x.blocks || (shadow && s.armRuns k a) then
        let i1 := x.cur.getD 0 0
        let i2 := x.cur.getD 1 i1
        (s.cellsOf k a).foldl (fun (s : State) c => s.settleCell k a c i2 i1 mark) s
      else s) s
    let lim := s.clk.bn + 260 * 65536
    let m := s.modul k
    let due := m.inbox.filter (fun r => decide (r.at_ < lim))
    let s := s.setModul k { m with inbox := m.inbox.filter (fun r => decide (lim ≤ r.at_)) }
    let ids := m.mapped.filter (fun c => due.any (fun r => r.cell == c))
    let s := ids.foldl (fun (s : State) c =>
      let x := s.arm k (s.armOf k c)
      if x.ranks || x.blocks || (shadow && s.armRuns k (s.armOf k c)) then (due.filter (fun r => r.cell == c)).foldl (fun s r => s.applyReport k c r.rep) s else s) s
    (List.range 6).foldl (fun (s : State) a =>
      if shadow then
        let x := s.arm k a
        let i1 := x.cur.getD 0 0
        let i2 := x.cur.getD 1 i1
        (s.cellsOf k a).foldl (fun (s : State) c => s.predictCell k a c i2 i1) s
      else s.armCutoff k a) s

/-- The rank engine completes (R169); `glitch` are words that a fault of the engine replaces. -/
def rankDone (s : State) (k : Nat) (glitch : List (Nat × Word)) : State :=
  let m := s.modul k
  if m.phase ≠ 1 then s
  else
    let s := (List.range 6).foldl (fun (s : State) a => s.armWords k a) (s.setModul k { m with phase := 2 })
    (List.range 6).foldl (fun (s : State) a => s.modArm k a (fun x =>
      { x with words := x.words.map (fun e => match glitch.find? (fun g => g.1 == e.1) with | some g => g | none => e) })) s

/-- The checker verdict for every arm, then the snapshot and the events of the pass (R173, R174, R178). -/
def checkPass (s : State) (k : Nat) : State :=
  let m := s.modul k
  if m.phase ≠ 2 then s
  else
    let s := (List.range 6).foldl (fun (s : State) a => s.verdict k a) (s.setModul k { m with phase := 3 })
    (s.snapDue k).flushEvts k

/-- The rank result misses the lane build cut-off (R50): the cells of every arm that drives them get the words of the
previous pass again. -/
def missPass (s : State) (k : Nat) : State :=
  let m := s.modul k
  if m.phase = 3 ∨ m.phase = 4 then s
  else
    let s := s.setModul k { m with phase := 4 }
    let run := (List.range 6).filter (fun a => s.armRuns k a)
    if run.isEmpty || s.shadowing then s.flushEvts k
    else
      let s := run.foldl (fun (s : State) a =>
        let x := s.arm k a
        (s.setArm k a { x with words := (s.cellsOf k a).map (fun c => (c, Tab.get x.prev c 0)) }).commit k a) s
      ((s.wr pwrB Cyc.CYC_STAT.CUTMISS 1).fireK k 0x06F).flushEvts k

/-- The trend period ends (R168). -/
def trendEnd (s : State) (k : Nat) : State :=
  let s := (s.modul k).mapped.foldl (fun (s : State) c =>
    if !s.on (ctB k c) Ct.CMAP.SEED then s
    else
      let e := s.est k c
      let kk : Int := s.rd (ctB k c) Ct.CEST.K
      let n : Int := e.klt + (kk - e.klt) / 16
      let old := decide (((s.rd (armB k (s.armOf k c)) Arm.ARM_AGE.AGE_TH : Int) * e.k0) < (n - e.k0) * 1024)
      let s := s.setEst k c { e with klt := n.toNat, trend := n - e.klt, age := e.age || old }
      if old && !e.age then (s.wr (modB k) Mod.MOD_STAT.NAGE (s.rd (modB k) Mod.MOD_STAT.NAGE + 1)).modEvt k 4 else s) s
  s.modEvt k 3

/-- An error of the table or estimator RAM (R156, R179). -/
def modRam (s : State) (k c : Nat) (ue : Bool) : State :=
  if !ue then (s.wr (modB k) Mod.MOD_STAT.RAMCE 1).fireK k 0x06C
  else
    let s := (s.wr (modB k) Mod.MOD_STAT.RAMUE 1).wr (ctB k c) Ct.CMAP.SEED 0
    (if s.mappedOn k c then s.blockArm k (s.armOf k c) else s).fireK k 0x06D

/-- The cycle timer stops: every arm goes OFF and MODE is written to 0 (R56, R156). -/
def armsOff (s : State) (k : Nat) : State :=
  (List.range 6).foldl (fun (s : State) a =>
    let s := (s.wrBoth (armB k a) Arm.ARM_CTL.MODE 0).setAmode k a 0
    s.modArm k a (fun x => { x with ranks := false, blocks := false, words := [], cur := [] })) s

end State

end Sys2Proof.Machine
end

