-- ==== Sys2Proof/Machine/Law.lean ====
section
/-!
DEFINITION. The law engines (R181 to R206): input fill, sections and passes, references, start checks, deferred writes,
export, freeze, and their commands.
-/
namespace Sys2Proof.Machine

/-- Round to the nearest multiple of 2^n, ties to even, in units of 2^n (R187, R188). -/
def halfEven (v : Int) (n : Nat) : Int := roundEven v (2 ^ n)

/-- Saturate to the range of Q1.31 (R188). -/
def satQ (x : Int) : Int := clampI (-2147483648) 2147483647 x

/-- Coefficients, states and cost of a section type (R189). -/
def secShape (ty : Nat) : Nat × Nat × Nat :=
  match ty with
  | 0 => (3, 0, 2)
  | 1 => (1, 0, 1)
  | 2 => (2, 0, 1)
  | 3 => (0, 0, 1)
  | 4 => (4, 1, 3)
  | 5 => (4, 4, 4)
  | 6 => (5, 4, 4)
  | 7 => (9, 2, 6)
  | 8 => (4, 2, 4)
  | _ => (0, 0, 0)

/-- TYPE and OPT are valid (R189, R191). -/
def secValid (ty opt : Nat) : Bool :=
  match ty with
  | 0 | 1 | 5 | 6 | 7 => opt == 0
  | 2 | 4 => decide (opt ≤ 1)
  | 3 => decide (opt ≤ 2)
  | 8 => true
  | _ => false

/-- Two ranges [b, b + n) meet. -/
def rangesMeet (b1 n1 b2 n2 : Nat) : Bool := decide (b1 < b2 + n2) && decide (b2 < b1 + n1)

namespace State

/-! ## Slots, coefficients, states -/

/-- Signal slot `i` (R185). -/
def lawSlot (s : State) (k i : Nat) : Int := toSigned (s.rd (lawB k) (Larr.SIG.VAL.at i)) 32
def setSlot (s : State) (k i : Nat) (v : Int) : State := s.wr (lawB k) (Larr.SIG.VAL.at i) (ofSigned v 32)
/-- State word `j` (R203). -/
def lawState (s : State) (k j : Nat) : Int := toSigned (s.rd (lawB k) (Larr.STATE.X.at j)) 32
def setLawState (s : State) (k j : Nat) (v : Int) : State := s.wr (lawB k) (Larr.STATE.X.at j) (ofSigned v 32)
/-- Effective coefficient `j` in units of 2^-49: C × 2^(S + 18) (R188). -/
def lawCoef (s : State) (k j : Nat) : Int :=
  let f := match j % 4 with
    | 0 => Larr.SHIFT.S0
    | 1 => Larr.SHIFT.S1
    | 2 => Larr.SHIFT.S2
    | _ => Larr.SHIFT.S3
  toSigned (s.rd (lawB k) (Larr.COEF.C.at j)) 32 * 2 ^ (toSigned (s.rd (lawB k) (f.at (j / 4))) 5 + 18).toNat

def sopA (s : State) (k c i : Nat) : Nat := s.rd (lsecB k c i) Lsec.SEC_W0.A
def sopB (s : State) (k c i : Nat) : Nat := s.rd (lsecB k c i) Lsec.SEC_W1.B
def sopC (s : State) (k c i : Nat) : Nat := s.rd (lsecB k c i) Lsec.SEC_W1.C
def secOut (s : State) (k c i : Nat) : Nat := s.rd (lsecB k c i) Lsec.SEC_W0.OUT
def secType (s : State) (k c i : Nat) : Nat := s.rd (lsecB k c i) Lsec.SEC_W0.TYPE
def secOpt (s : State) (k c i : Nat) : Nat := s.rd (lsecB k c i) Lsec.SEC_W0.OPT
def secPass (s : State) (k c i : Nat) : Nat := s.rd (lsecB k c i) Lsec.SEC_W0.PASS
def secCb (s : State) (k c i : Nat) : Nat := s.rd (lsecB k c i) Lsec.SEC_W1.CB
/-- The sections of channel `c` (R181). -/
def secList (s : State) (k c : Nat) : List Nat := List.range (s.rd (lchB k c) Lch.CH_CTL.NSEC + 1)
/-- Section `i` is held (R196). -/
def secHeld (s : State) (k c i : Nat) : Bool := (s.rd (lawB k) (Larr.HOLD.HOLD.at (c * 8 + i / 32))).testBit (i % 32)
/-- Channel `c` runs (R183). -/
def chRuns (s : State) (k c : Nat) : Bool := s.on (lchB k c) Lch.CH_STAT.RUNNING
def chList (s : State) (k : Nat) : List Nat := (List.range 6).filter (fun c => s.chRuns k c)
/-- The engine is frozen (R198). -/
def lawFrozen (s : State) (k : Nat) : Bool := s.on (lawB k) Law.LAW_STAT.FROZEN

/-! ## Events (R204) -/

def chEvt (s : State) (k c i : Nat) : State := s.raiseBit (lchB k c) Lch.CH_EVT.EVT Lch.CH_EVTEN.EN i (some k) (0x20 + c)
def lawEvt (s : State) (k i : Nat) : State := s.raiseBit (lawB k) Law.LAW_EVT.EVT Law.LAW_EVTEN.EN i (some k) 0x26

/-! ## Sections (R188 to R192) -/

/-- Extract an accumulator (units of 2^-80) to Q1.31 (R188). -/
def lawExtract (s : State) (k c : Nat) (v : Int) : Int × State :=
  let q := halfEven v 49
  if satQ q = q then (q, s)
  else (satQ q, (((s.wr (lchB k c) Lch.CH_STAT.SAT 1).inc (lchB k c) Lch.CH_CNT.SATS).chEvt k c 1).fireK k 0x066)

/-- Extract into a state word. -/
def lawExtractTo (s : State) (k c j : Nat) (v : Int) : State :=
  let (q, s) := s.lawExtract k c v
  s.setLawState k j q

/-- The limits of a LIM or PI section in accumulator units: coefficients `j` and `j + 1`, or slots b and c (R189). -/
def secLimits (s : State) (k opt j : Nat) (b c : Int) : Int × Int :=
  let lo := if opt.testBit 0 then b * 2 ^ 49 else s.lawCoef k j * 2 ^ 31
  let hi := if opt.testBit 0 then c * 2 ^ 49 else s.lawCoef k (j + 1) * 2 ^ 31
  (lo, max lo hi)

/-- PI (R190). -/
def secPi (s : State) (k ch cb opt : Nat) (e b c : Int) : Int × State :=
  let (lo, hi) := s.secLimits k opt (cb + 2) b c
  let kpe := s.lawCoef k cb * e
  let i := s.lawState k cb * 2 ^ 49
  let g := s.lawCoef k (cb + 1) * e
  let vt := kpe + (i + g)
  let n := if (hi < vt ∧ 0 < g) ∨ (vt < lo ∧ g < 0) then i else i + g
  let (x, s) := s.lawExtract k ch (clampI lo hi n)
  (s.setLawState k cb x).lawExtract k ch (clampI lo hi (kpe + x * 2 ^ 49))

/-- MODEL (R192); its states are M and N, N the count with PRIMED in bit 31. -/
def secModel (s : State) (k ch sec cb opt : Nat) (a b c : Int) : Int × State :=
  let m := s.lawState k cb
  let nw := s.rd (lawB k) (Larr.STATE.X.at (cb + 1))
  let primed := nw.testBit 31
  let d := c - m
  let n0 := nw % 2 ^ 31
  let n := if primed then (if s.lawCoef k (cb + 3) * 2 ^ 31 < d.natAbs * 2 ^ 49 then min (n0 + 1) 15 else 0) else n0
  let plk := max 1 (opt % 16)
  let s := if primed ∧ n = plk ∧ n0 ≠ plk then s.modLaw k (fun x => { x with due := x.due ++ [(ch, sec)] }) else s
  let base := if opt.testBit 4 then m else c
  let (m2, s) := s.lawExtract k ch (s.lawCoef k (cb + 2) * base + s.lawCoef k cb * a + s.lawCoef k (cb + 1) * b)
  let s := (s.setLawState k cb m2).wr (lawB k) (Larr.STATE.X.at (cb + 1)) (2 ^ 31 + n)
  if opt.testBit 5 then (m2, s) else s.lawExtract k ch (d * 2 ^ 49)

/-- The output of a section and the state after its state update (R189): `a`, `b`, `c` are its inputs. -/
def secEval (s : State) (k ch sec : Nat) (a b c : Int) : Int × State :=
  let cb := s.secCb k ch sec
  let opt := s.secOpt k ch sec
  let kf (j : Nat) : Int := s.lawCoef k (cb + j)
  let st (j : Nat) : Int := s.lawState k (cb + j)
  match s.secType k ch sec with
  | 0 => s.lawExtract k ch (kf 0 * a + kf 1 * b + kf 2 * c)
  | 1 => s.lawExtract k ch (kf 0 * halfEven (a * b) 31)
  | 2 =>
    let (lo, hi) := s.secLimits k opt cb b c
    s.lawExtract k ch (clampI lo hi (a * 2 ^ 49))
  | 3 => (if opt = 0 then (if 0 ≤ c then a else b) else if opt = 1 then max a b else min a b, s)
  | 4 => s.secPi k ch cb opt a b c
  | 5 =>
    let r := kf 1 * (a - st 1) - kf 2 * st 2 - kf 3 * st 3
    let e1 := st 0
    let r1 := st 2
    let (y, s) := s.lawExtract k ch (kf 0 * a + r)
    let (rs, s) := s.lawExtract k ch r
    (y, (((s.setLawState k (cb + 1) e1).setLawState k cb a).setLawState k (cb + 3) r1).setLawState k (cb + 2) rs)
  | 6 =>
    let x1 := st 0
    let y1 := st 2
    let (y, s) := s.lawExtract k ch (kf 0 * a + kf 1 * x1 + kf 2 * st 1 - kf 3 * y1 - kf 4 * st 3)
    (y, (((s.setLawState k (cb + 1) x1).setLawState k cb a).setLawState k (cb + 3) y1).setLawState k (cb + 2) y)
  | 7 =>
    let x1 := st 0
    let x2 := st 1
    let n1 := kf 0 * x1 + kf 1 * x2 + kf 4 * a
    let n2 := kf 2 * x1 + kf 3 * x2 + kf 5 * a
    let (y, s) := s.lawExtract k ch (kf 6 * x1 + kf 7 * x2 + kf 8 * a)
    (y, (s.lawExtractTo k ch cb n1).lawExtractTo k ch (cb + 1) n2)
  | 8 => s.secModel k ch sec cb opt a b c
  | _ => (0, s)

/-- One channel of a pass: the sections of the kind in ascending index, each seeing what its own channel wrote in this pass
(R184); the outputs so far are kept apart. -/
def chanPass (s : State) (k ch kind : Nat) : State × List (Nat × Int) :=
  ((s.secList k ch).filter (fun i => s.secPass k ch i == kind)).foldl (fun (r : State × List (Nat × Int)) i =>
    let s := r.1
    if s.secHeld k ch i then r
    else
      let v (j : Nat) : Int := match r.2.find? (fun e => e.1 == j) with
        | some e => e.2
        | none => s.lawSlot k j
      let (y, s) := s.secEval k ch i (v (s.sopA k ch i)) (v (s.sopB k ch i)) (v (s.sopC k ch i))
      (s, (s.secOut k ch i, y) :: r.2)) (s, [])

/-- A pass of kind 0 FAST or 1 SLOW (R183, R184): every channel sees the slots as the last pass left them
(DEDUCED, log 31). -/
def lawPass (s : State) (k kind : Nat) : State :=
  let r := (s.law k).run.foldl (fun (r : State × List (Nat × Int)) ch =>
    let p := r.1.chanPass k ch kind
    (p.1, r.2 ++ p.2.reverse)) (s, [])
  r.2.foldl (fun (s : State) e => s.setSlot k e.1 e.2) r.1

/-! ## Deferred writes (R193, R196) -/

/-- PRIMED of the MODEL sections of channel `ch` that satisfy `p` clears (R192). -/
def unprime (s : State) (k ch : Nat) (p : Nat → Bool) : State :=
  ((s.secList k ch).filter (fun i => p i && s.secType k ch i == 8)).foldl (fun (s : State) i =>
    let f := Larr.STATE.X.at (s.secCb k ch i + 1)
    s.wr (lawB k) f (clrBit (s.rd (lawB k) f) 31)) s

/-- Apply a word write to COEF, SHIFT, a slot or the HOLD map (R193, R203): `off` is its offset in the law block. -/
def lawApply (s : State) (k off v : Nat) : State :=
  let b := lawB k
  if 0x800 ≤ off ∧ off < 0x8C0 then
    let w := (off - 0x800) / 4
    let f := Larr.HOLD.HOLD.at w
    let old := s.rd b f
    (s.wr b f v).unprime k (w / 8) (fun i => i / 32 == w % 8 && old.testBit (i % 32) && !v.testBit (i % 32))
  else if 0x1000 ≤ off ∧ off < 0x2000 then s.wr b (Larr.SIG.VAL.at ((off - 0x1000) / 4)) v
  else if 0x5000 ≤ off ∧ off < 0x9000 then s.wr b (Larr.COEF.C.at ((off - 0x5000) / 4)) v
  else if 0x9000 ≤ off ∧ off < 0xA000 then
    let q := (off - 0x9000) / 4
    (((s.wr b (Larr.SHIFT.S0.at q) (bits v 4 0)).wr b (Larr.SHIFT.S1.at q) (bits v 12 8)).wr b (Larr.SHIFT.S2.at q)
      (bits v 20 16)).wr b (Larr.SHIFT.S3.at q) (bits v 28 24)
  else s

/-- Apply writes in the order in which they landed; each response returns then (R31, R193). -/
def lawApplyAll (s : State) (k : Nat) (l : List (Wr × Nat × Word)) : State :=
  l.foldl (fun (s : State) e => (s.lawApply k e.2.1 e.2.2.toNat).retire e.1 (lawB k + e.2.1)) s

/-- Apply the writes whose pass has ended. -/
def lawRipe (s : State) (k : Nat) : State :=
  let x := s.law k
  (s.setLaw k { x with ripe := [] }).lawApplyAll k x.ripe

/-- Apply every write still held back. -/
def lawAll (s : State) (k : Nat) : State :=
  let x := s.law k
  (s.setLaw k { x with ripe := [], late := [] }).lawApplyAll k (x.ripe ++ x.late)

/-! ## The input fill (R186) -/

/-- Input map entry `i` loads its slot. -/
def fillEntry (s : State) (k i : Nat) : State :=
  let b := lawB k
  let sh := toSigned (s.rd b (Lmap.MAP.SHIFT.at i)) 5
  let idx := s.rd b (Lmap.MAP.IDX.at i)
  match s.rd b (Lmap.MAP.SRC.at i) with
  | 1 =>
    let a := s.rd b (Lmap.MAP.UNIT.at i)
    let code := Tab.get (s.ad a).codes idx 0
    let sgn := s.on (adB a) (Ares.RES.SGN.at idx)
    if s.on (adB a) (Ares.RES.OV.at idx) then
      let f := Law.IN_OVR.OVR.at (i / 32)
      (s.wr b f (setBit (s.rd b f) (i % 32))).setSlot k i (if sgn && decide (code < 0) then -2147483648 else 2147483647)
    else
      let x := code * 2 ^ (if sgn then 20 else 19)
      s.setSlot k i (satQ (if 0 ≤ sh then x * 2 ^ sh.toNat else x / 2 ^ (-sh).toNat))
  | 2 =>
    if !s.eth.svHas.contains idx then s
    else
      let x := toSigned (s.rd ethB (Sv.SV_DATA.VAL.at idx)) 32
      if 0 ≤ sh then s.setSlot k i (satQ (x * 2 ^ sh.toNat))
      else
        let (y, s) := s.divFree x (2 ^ (-sh).toNat)
        s.setSlot k i y
  | _ => s

/-- LAW_INPUT_FILL: the inputs of subframe n load, and the fast pass of the running channels begins (DEDUCED, log 31). -/
def lawFill (s : State) (k : Nat) : State :=
  if !s.dieUp k then s
  else
    let s := s.reachOfs 1100
    let s := if s.lawFrozen k then s else (List.range 128).foldl (fun (s : State) i => s.fillEntry k i) (s.lawAll k)
    let run := if s.lawFrozen k || (s.law k).wait then [] else s.chList k
    let s := s.modLaw k (fun x => { x with pass := if run.isEmpty then 0 else 1, idx := s.subIdx, sub := s.clk.n, run := run })
    ((List.range 6).filter (fun c => !run.contains c)).foldl
      (fun (s : State) c => s.wr (lchB k c) Lch.CH_STAT.NOTRENEW 1) s

/-! ## Freeze (R182, R198) -/

/-- MID of the engine's exports (R24). -/
def lawMid (k : Nat) : Nat := 0x40 + k

/-- The engine freezes: nothing is evaluated and no reference is renewed (DEDUCED, log 31). -/
def lawFreeze (s : State) (k : Nat) (r : FzRec) : State :=
  let s := (s.lawAll k).modLaw k (fun x => { x with pass := 0, run := [] })
  let s := (List.range 6).foldl (fun (s : State) c => s.wr (lchB k c) Lch.CH_STAT.NOTRENEW 1) s
  ((s.wr (lawB k) Law.LAW_STAT.FROZEN 1).lawEvt k 1).freeze r

/-- A freeze by the engine's own fault path: the spec states no address for it. -/
def lawFault (s : State) (k : Nat) : State :=
  let (w, s) := s.freeWord
  s.lawFreeze k (masterRec (lawMid k) w.toNat 7 false)

/-! ## Export (R197) -/

/-- A write of the export: it goes out, or its violation freezes the engine. -/
def exportWord (s : State) (k addr v : Nat) : Bool × State :=
  match s.portCheck (lawMid k) addr 4 true with
  | .freeze c =>
    (false, ((s.modLaw k (fun x => { x with exp := none })).lawFreeze k (masterRec (lawMid k) addr c true)
      |>.wr (lawB k) Law.LAW_STAT.EXPVIO 1).fireK k 0x064)
  | _ => (true, s.masterWrite (lawMid k) addr 4 v)

/-- An export is due after a pass of kind `kind` (DEDUCED, log 31). -/
def lawExport (s : State) (k kind : Nat) : State :=
  let b := lawB k
  let cnt := min 64 (s.rd b Law.EXP_CTL.COUNT)
  if !s.on b Law.LAW_CTL.EXPEN || s.rd b Law.LAW_CTL.EXPSEL != kind || cnt == 0 then s
  else if (s.law k).exp.isSome then (s.wr b Law.LAW_STAT.EXPSKIP 1).inc b Law.EXP_CNT.SKIP
  else
    let a0 := s.rd b Law.EXP_ADDR.ADDR * 4
    let first := s.rd b Law.EXP_CTL.FIRST
    let s := s.modLaw k (fun x => { x with exp := some ((a0 + 4 * cnt) % 2 ^ 32, BitVec.ofNat 32 x.sub, false) })
    ((List.range cnt).foldl (fun (r : Bool × State) j =>
      if r.1 then r.2.exportWord k ((a0 + 4 * j) % 2 ^ 32) (r.2.rd b (Larr.SIG.VAL.at ((first + j) % 1024))) else r)
      (true, s)).2

/-- EXPORT_TRAILER: every data word has its response; a frozen engine issues nothing (R222). -/
def exportTrailer (s : State) (k : Nat) : State :=
  match (s.law k).exp with
  | some (a, t, false) =>
    if s.lawFrozen k || s.unanswered (lawMid k) then s
    else ((s.modLaw k (fun x => { x with exp := some (a, t, true) })).exportWord k a t.toNat).2
  | _ => s

/-- EXPORT_DONE: the trailer's response returns. -/
def exportDone (s : State) (k : Nat) : State :=
  match (s.law k).exp with
  | some (_, _, true) =>
    if s.unanswered (lawMid k) then s
    else ((s.modLaw k (fun x => { x with exp := none })).inc (lawB k) Law.EXP_CNT.DONE).lawEvt k 0
  | _ => s

/-! ## The ends of the passes (R187, R204) -/

/-- The words of an epoch go to this K-die's states and parameter slots (R404). -/
def lawMirror (s : State) (k : Nat) : State :=
  let mine (e : Nat × Word) : Bool := s.rd pairB (Pair.MIR_LIST.KDIE.at e.1) == k
  let l := s.pair.mirIn
  let s := { s with pair := { s.pair with mirIn := l.filter (fun e => !mine e) } }
  (l.filter mine).foldl (fun (s : State) e =>
    let i := s.rd pairB (Pair.MIR_LIST.IDX.at e.1)
    if !s.on pairB (Pair.MIR_LIST.V.at e.1) then s
    else if s.on pairB (Pair.MIR_LIST.KIND.at e.1) then s.wr (lawB k) (Larr.SIG.VAL.at (i % 1024)) e.2.toNat
    else s.wr (lawB k) (Larr.STATE.X.at i) e.2.toNat) s

/-- The reference of channel `c` is handed over (R187). -/
def lawHand (s : State) (k c : Nat) : State :=
  let v := s.lawSlot k (s.rd (lchB k c) Lch.CH_REF.REFSLOT)
  let r := halfEven v (15 - s.rd (lchB k c) Lch.CH_REF.RSH)
  let s := (s.wr (lchB k c) Lch.CH_OUT.REF (ofSigned r 32)).wr (lchB k c) Lch.CH_STAT.NOTRENEW 0
  s.modArm k c (fun x => { x with lawRef := r, lawNew := true })

/-- Class 3 signals at the end of the fast pass (R314, R416) (DEDUCED, log 29). -/
def lawTaps (s : State) (k : Nat) : State :=
  let s := if !s.almTakes then s
    else (s.alm.on.filter (fun r => s.rd almB (Alm.REC_CFG0.CLASS.at r) == 3 &&
        s.rd almB (Alm.REC_CFG0.INDEX.at r) / 1024 == k)).foldl (fun (s : State) r =>
      s.almTake r (s.lawSlot k (s.rd almB (Alm.REC_CFG0.INDEX.at r) % 1024)) 0) s
  s.acqClass k 3 (fun i => s.rd (lawB k) (Larr.SIG.VAL.at (i % 1024)) / 1024)

/-- The pass that ends leaves its held-back writes to be applied. -/
def lawLeave (s : State) (k pass : Nat) : State :=
  s.modLaw k (fun x => { x with pass := pass, ripe := x.ripe ++ x.late, late := [] })

/-- FAST_PASS_END: the fast pass of subframe `sub` is complete, at B_k + 1,550 ns at the latest. -/
def fastEnd (s : State) (k : Nat) : State :=
  let x := s.law k
  if x.pass != 1 then s
  else
    let s := if s.clk.n = x.sub + 1 then s.reachOfs 300 else s
    let s := s.lawPass k 0
    let s := s.lawMirror k
    let s := x.run.foldl (fun (s : State) c => s.lawHand k c) s
    let s := (s.lawLeave k (if x.idx = 0 then 2 else 0)).evtK k 0x28
    (s.lawTaps k).lawExport k 0

/-- SLOW_PASS_END: the slow pass is complete (DEDUCED, log 22). -/
def slowEnd (s : State) (k : Nat) : State :=
  if (s.law k).pass != 2 then s
  else
    let s := (s.lawRipe k).lawPass k 1
    let s := ((s.lawMirror k).lawLeave k 0).evtK k 0x27
    s.lawExport k 1

/-- MODEL_PLAUSIBILITY (R192): the count of this section has reached PLK (DESIGN CHOICE, log 7) (DEDUCED, log 31). -/
def plausEvt (s : State) (k ch sec : Nat) : State :=
  let x := s.law k
  if !x.due.contains (ch, sec) then s
  else
    let b := lchB k ch
    let s := s.setLaw k { x with due := x.due.erase (ch, sec) }
    ((((s.wr b Lch.CH_STAT.PLAUS 1).wr b Lch.CH_STAT.PSEC sec).inc b Lch.CH_CNT.PLAUSCNT).chEvt k ch 0).fireK k 0x061

/-! ## Starting (R183, R191) -/

/-- FAST or SLOW cost of a channel (DEDUCED, log 31). -/
def secCost (s : State) (k c kind : Nat) : Nat :=
  ((s.secList k c).filter (fun i => s.secPass k c i == kind)).foldl
    (fun a i => a + (secShape (s.secType k c i)).2.2) 0

/-- The coefficient range of a section: base and length. -/
def secRange (s : State) (k c i : Nat) : Nat × Nat := (s.secCb k c i, (secShape (s.secType k c i)).1)
/-- A section has states. -/
def secStateful (s : State) (k c i : Nat) : Bool := (secShape (s.secType k c i)).2.1 != 0

/-- The first check that fails (R191); 0: none. `others` are the running channels. -/
def startCause (s : State) (k c : Nat) (others : List Nat) : Nat :=
  let l := s.secList k c
  let rest (i : Nat) : List (Nat × Nat) :=
    (l.filter (fun j => j != i)).map (fun j => (c, j)) ++
    (others.filter (fun d => d != c)).flatMap (fun d => (s.secList k d).map (fun j => (d, j)))
  if 432 < s.secCost k c 0 ∨ 768 < s.secCost k c 1 then 1
  else if !l.all (fun i => secValid (s.secType k c i) (s.secOpt k c i)) then 2
  else if !l.all (fun i => decide (0x100 ≤ s.secOut k c i) && (rest i).all (fun e => s.secOut k e.1 e.2 != s.secOut k c i)) then 3
  else if !l.all (fun i => decide ((s.secRange k c i).1 + (s.secRange k c i).2 ≤ 4096)) then 4
  else if !l.all (fun i => (rest i).all (fun e =>
      !(s.secStateful k c i || s.secStateful k e.1 e.2) ||
      !rangesMeet (s.secRange k c i).1 (s.secRange k c i).2 (s.secRange k e.1 e.2).1 (s.secRange k e.1 e.2).2)) then 5
  else 0

/-- A cost as CH_COST shows it: ten bits; the spec states none for a cost they do not hold. -/
def costShown (s : State) (v : Nat) : Nat × State :=
  if v < 1024 then (v, s) else let (w, s) := s.freeWord; (w.toNat % 1024, s)

/-- RUNMASK follows the channels. -/
def lawMask (s : State) (k : Nat) : State :=
  s.wr (lawB k) Law.LAW_STAT.RUNMASK ((s.chList k).foldl (fun a c => setBit a c) 0)

/-- The checks of R191 for channel `c`, and its start or its refusal. -/
def chanStart (s : State) (k c : Nat) : State :=
  let b := lchB k c
  let cause := s.startCause k c (s.chList k)
  let (f, s) := s.costShown (s.secCost k c 0)
  let (l, s) := s.costShown (s.secCost k c 1)
  let s := (s.wr b Lch.CH_COST.FCOST f).wr b Lch.CH_COST.SCOST l
  if cause = 0 then
    ((({ s with act := s.act.set b Lch.CH_CTL.RUN 1 }.wr b Lch.CH_STAT.RUNNING 1).lawMask k)).chEvt k c 3
  else
    (((({ s with act := s.act.set b Lch.CH_CTL.RUN 0 }.wr b Lch.CH_STAT.CFG_REJ 1).wr b Lch.CH_STAT.REJCAUSE cause).chEvt k c
      2)).fireK k 0x065

/-- A Meridian (R183, R191, R198): `first` is the first one after a start of the timer. -/
def lawMeridian (s : State) (k : Nat) (first : Bool) : State :=
  let x := s.law k
  let s := s.setLaw k { x with runW := [], wait := x.wait && s.lawFrozen k }
  (List.range 6).foldl (fun (s : State) c =>
    let b := lchB k c
    let wrote := x.runW.contains c
    if wrote && !s.on b Lch.CH_CTL.RUN then
      ({ s with act := s.act.set b Lch.CH_CTL.RUN 0 }.wr b Lch.CH_STAT.RUNNING 0).lawMask k
    else if s.chRuns k c then s
    else if (wrote && s.on b Lch.CH_CTL.RUN) || (first && s.rdA b Lch.CH_CTL.RUN == 1) then s.chanStart k c
    else s) s

/-- The cycle timer has stopped: no channel runs (R183). -/
def lawStop (s : State) (k : Nat) : State :=
  ((List.range 6).foldl (fun (s : State) c => s.wr (lchB k c) Lch.CH_STAT.RUNNING 0) s).lawMask k

/-! ## Commands on a channel (R200) -/

/-- An H field of channel `c` was written while it runs (R16, R205). -/
def chHeld (s : State) (k c : Nat) : State := (s.wr (lchB k c) Lch.CH_STAT.HELD_WR 1).fireK k 0x065

/-- CLRST: the state words of the stateful sections and every PRIMED flag clear. -/
def chClrst (s : State) (k c : Nat) : State :=
  if s.chRuns k c then s.chHeld k c
  else
    (s.secList k c).foldl (fun (s : State) i =>
      (List.range (secShape (s.secType k c i)).2.1).foldl (fun (s : State) j => s.setLawState k (s.secCb k c i + j) 0) s) s

/-- CLRPLAUS: every MODEL count clears. -/
def chClrplaus (s : State) (k c : Nat) : State :=
  ((s.secList k c).filter (fun i => s.secType k c i == 8)).foldl (fun (s : State) i =>
    let f := Larr.STATE.X.at (s.secCb k c i + 1)
    s.wr (lawB k) f (s.rd (lawB k) f / 2 ^ 31 * 2 ^ 31)) s

/-- SV_INPUT_STALE (R186). -/
def svStale (s : State) (k i : Nat) : State :=
  let b := lawB k
  let f := Law.IN_STALE.STALE.at (i / 32)
  if 128 ≤ i ∨ s.rd b (Lmap.MAP.SRC.at i) ≠ 2 ∨ (s.rd b f).testBit (i % 32) then s
  else ((s.wr b f (setBit (s.rd b f) (i % 32))).lawEvt k 2).fireK k 0x067

/-- Do `f` if K-die `k` is up. -/
def onK (s : State) (k : Nat) (f : State → State) : State := if s.dieUp k && decide (k < 2) then f s else s

end State

/-! ## The commands -/

/-- SV_INPUT_STALE. -/
def execSvInputStale (k i : Nat) (s : State) : Ans := .next (s.onK k (fun s => s.svStale k i))
/-- FAST_PASS_END. -/
def execFastPassEnd (k : Nat) (s : State) : Ans := .next (s.onK k (fun s => s.fastEnd k))
/-- MODEL_PLAUSIBILITY. -/
def execModelPlausibility (k ch sec : Nat) (s : State) : Ans := .next (s.onK k (fun s => s.plausEvt k ch sec))
/-- LAW_DEFERRED_WRITE (R193): the writes whose pass has ended are applied; with no pass in progress, all of them. -/
def execLawDeferredWrite (k : Nat) (s : State) : Ans :=
  .next (s.onK k (fun s => if (s.law k).pass = 0 then s.lawAll k else s.lawRipe k))
/-- CLRST. -/
def execClrst (w : Wr) (k ch : Nat) (s : State) : Ans :=
  .next ((s.onK k (fun s => if ch < 6 then s.chClrst k ch else s)).retire w (lchB k ch + 8))
/-- CLRPLAUS. -/
def execClrplaus (w : Wr) (k ch : Nat) (s : State) : Ans :=
  .next ((s.onK k (fun s => if ch < 6 then s.chClrplaus k ch else s)).retire w (lchB k ch + 8))
/-- LAW_LOCKSTEP_DIFF (R182, R198). -/
def execLawLockstepDiff (k : Nat) (s : State) : Ans :=
  .next (s.onK k (fun s =>
    if s.lawFrozen k then s else ((s.wr (lawB k) Law.LAW_STAT.LSMIS 1).lawFault k).fireK k 0x060))
/-- LAW_RAM_ERROR (R198, R205). -/
def execLawRamError (k : Nat) (ue : Bool) (s : State) : Ans :=
  .next (s.onK k (fun s =>
    if ue then
      let s := (s.wr (lawB k) Law.LAW_STAT.RAMUE 1).fireK k 0x063
      if s.lawFrozen k then s else s.lawFault k
    else (s.wr (lawB k) Law.LAW_STAT.RAMCE 1).fireK k 0x062))
/-- EXPORT_TRAILER. -/
def execExportTrailer (k : Nat) (s : State) : Ans := .next (s.onK k (fun s => s.exportTrailer k))
/-- EXPORT_DONE. -/
def execExportDone (k : Nat) (s : State) : Ans := .next (s.onK k (fun s => s.exportDone k))

end Sys2Proof.Machine
end

