-- ==== Sys2Proof/Machine/Acquire.lean ====
section
/-!
DEFINITION. The commands of the trigger and acquisition engines (R312 to R327): arming and stopping, triggers, the write
port, and the capture memory.
-/
namespace Sys2Proof.Machine

namespace State

/-- Do `f` if the part has the engine of K-die `k` (R312, R327). -/
def onAcq (s : State) (k : Nat) (f : State → State) : State :=
  if s.part.q && s.dieUp k && decide (k < 2) then f s else s

/-- The value a trace entry would observe now (R314, R317); none for classes 0, 6 and 7. -/
def acqValue (s : State) (k cls idx : Nat) : Option Nat :=
  match cls with
  | 1 => some (if s.mappedOn k idx then s.rd (ctB k idx) Ct.CMAP.CST else 3)
  | 2 => some (s.est k idx).seen
  | 3 => some (s.rd (lawB k) (Larr.SIG.VAL.at (idx % 1024)) / 1024)
  | 4 =>
    let a := idx / 64 % 2
    some (ofSigned (Tab.get (s.ad a).codes (idx % 64) 0) 12 + 4096 * s.rd (adB a) (Ares.RES.OV.at (idx % 64)))
  | 5 =>
    let b := armB k (idx / 4 % 8)
    some (match idx % 4 with
      | 0 => s.rd b Arm.ARM_INS.NINS + 2048 * s.rd b Arm.ARM_INS.NEG + 4096 * s.rd b Arm.ARM_INS.PWMV
      | 1 => s.rd b Arm.ARM_INS.DUTY
      | 2 => s.rd b Arm.ARM_NACT.NACT / 1024
      | _ => s.rd b Arm.ARM_VSUM.VSUM / 1024)
  | _ => none

/-- BASE_TCNT (R317, R322): the low word is kept current. -/
def setBase (s : State) (k v : Nat) : State :=
  (s.setAcq k { s.acqs k with base := v }).wr (acqB k) Acq.BASE_TCNT.CNT v

/-- ARM (R317) in IDLE or DONE, with T_A the next tick. -/
def acqArm (s : State) (k : Nat) : State :=
  let b := acqB k
  if s.acqRuns k then s
  else
    let t := s.clk.el * 165 / 512 + 1
    let s := [Acq.WPTR.IDX, Acq.NREC.N, Acq.ACQ_CNT.LOST, Acq.ACQ_CNT.LATETRIG, Acq.ACQ_STAT.POSTCUT, Acq.ACQ_STAT.LOSS,
      Acq.ACQ_STAT.TV].foldl (fun (s : State) (f : Fld) => s.wr b f 0) s
    let s := s.setAcq k { AcqSt.reset with prev := t, drives := (s.acqs k).drives, obsN := (s.acqs k).obsN,
                                           lastT := (s.acqs k).lastT, trigT := (s.acqs k).trigT }
    let s := (List.range 256).foldl (fun (s : State) i =>
      match s.acqValue k (s.rd b (Acq.TRACE_SEL.CLASS.at i)) (s.rd b (Acq.TRACE_SEL.INDEX.at i)) with
      | some v =>
        let v := v % 2 ^ 22
        ((s.wr b (Acq.BASE_VAL.VAL.at i) v).wr b (Acq.BASE_VAL.BV.at i) 1).setAcq k
          { s.acqs k with last := Tab.put (s.acqs k).last i v }
      | none => (s.wr b (Acq.BASE_VAL.VAL.at i) 0).wr b (Acq.BASE_VAL.BV.at i) 0) s
    (s.setBase k t).wr b Acq.ACQ_STAT.STATE 1

/-- The capture is over. -/
def acqOver (s : State) (k : Nat) : State :=
  (s.setAcq k { s.acqs k with queue := [], due := [] }).wr (acqB k) Acq.ACQ_STAT.STATE 3

/-- Record `j` of the capture memory of K-die `k` (R312). -/
def recAddr (k j : Nat) : Nat := 0x60000000 + k * 0x800000 + 8 * j

/-- A record that is overwritten goes to the base table first (R317). -/
def acqBase (s : State) (k j : Nat) : State :=
  let b := acqB k
  let old := Mem.readN s.mem (recAddr k j) 8
  let s := if bits old 31 30 = 0 then
      let i := bits old 29 22
      (s.wr b (Acq.BASE_VAL.VAL.at i) (bits old 21 0)).wr b (Acq.BASE_VAL.BV.at i) 1
    else s
  s.setBase k ((s.acqs k).base + old / 2 ^ 32)

/-- The write port stores a record (R313, R317). -/
def acqStore (s : State) (k : Nat) (r : AcqRec) : State :=
  let b := acqB k
  let j := s.rd b Acq.WPTR.IDX
  let n := s.rd b Acq.NREC.N
  let s := if n = 1048576 then s.acqBase k j else s
  let x := s.acqs k
  let main := r.kind == 1 && r.val / 2 ^ 21 == 0
  let s := if main then s.wr b Acq.TRIG_IDX.IDX j else s
  let word := (r.tick - x.prev) % 2 ^ 32 * 2 ^ 32 + r.kind * 2 ^ 30 + r.sig * 2 ^ 22 + r.val % 2 ^ 22
  let s := { s with mem := Mem.writeN s.mem (recAddr k j) word 8 }
  let x := { x with prev := r.tick, lastT := r.tick,
                    trigged := x.trigged || main,
                    kept := if main then min (min (s.rd b Acq.PREKEEP.N) 1048064) n else x.kept,
                    post := if main then 0 else if x.trigged then x.post + 1 else x.post }
  (((s.setAcq k x).wr b Acq.LAST_TCNT.CNT r.tick).wr b Acq.WPTR.IDX ((j + 1) % 1048576)).wr b Acq.NREC.N (min (n + 1) 1048576)

/-- Lost records are named once the queue has room again (R316). -/
def acqGap (s : State) (k : Nat) : State :=
  let x := s.acqs k
  if x.lostNow = 0 then s
  else
    let b := acqB k
    let s := (s.setAcq k { x with lostNow := 0 }).acqPut k ⟨s.tick, 3, 0, min x.lostNow 0x3FFFFF⟩
    (((s.wr b Acq.ACQ_STAT.LOSS 1).incBy b Acq.ACQ_CNT.LOST x.lostNow).acqEvt k 3).fire (0x020 + 4 * k)

/-- The last tick of the capture (R317). -/
def acqEndTick (s : State) (k : Nat) : Nat := (s.acqs k).t0 + s.rd (acqB k) Acq.POST.TICKS

/-- ACQ_RECORD_WRITE (R315 to R317, R320): the first queued record is stored, unless it lies beyond T0 + POST, or would
overwrite a protected one: then the capture stops. -/
def acqWrite (s : State) (k : Nat) : State :=
  let b := acqB k
  if !s.acqRuns k then s
  else
    let s := s.acqDue k
    let x := s.acqs k
    match x.queue with
    | [] => s
    | r :: rest =>
      let post := s.rd b Acq.ACQ_STAT.STATE == 2
      if post && decide (s.acqEndTick k < r.tick) then s
      else if post && x.trigged && decide (1048575 - x.kept ≤ x.post) then
        (((s.acqOver k).wr b Acq.ACQ_STAT.POSTCUT 1).acqEvt k 2).acqEvt k 1
      else ((s.setAcq k { x with queue := rest }).acqStore k r).acqGap k

/-- Store the queued records up to tick `t`, at most `n` of them. -/
def acqFlush (s : State) (k t : Nat) : Nat → State
  | 0 => s
  | n + 1 =>
    match (s.acqs k).queue with
    | r :: _ => if r.tick ≤ t then (s.acqWrite k).acqFlush k t n else s
    | [] => s

/-- STOP (R317): in POST the records of the current tick are still stored. -/
def acqStop (s : State) (k : Nat) : State :=
  if !s.acqRuns k then s
  else
    let s := s.acqDue k
    let s := s.acqFlush k s.tick 513
    if s.acqRuns k then s.acqOver k else s

/-- ACQ_TIME_RECORD (R313): 0xFFFF_FFFF ticks without a record. -/
def acqTime (s : State) (k : Nat) : State :=
  let x := s.acqs k
  if !s.acqRuns k || !x.queue.isEmpty then s
  else
    let t := x.prev + 0xFFFFFFFF
    (s.reach (s.ptOfTick t)).acqPut k ⟨t, 2, 0, 0⟩

/-- ACQ_POST_END (R317): every record up to T0 + POST has been stored. -/
def acqPostEnd (s : State) (k : Nat) : State :=
  let t := s.acqEndTick k
  if s.rd (acqB k) Acq.ACQ_STAT.STATE ≠ 2 ∨ (s.acqs k).queue.any (fun r => decide (r.tick ≤ t)) then s
  else ((s.reach (s.ptOfTick t)).acqOver k).acqEvt k 1

/-- TCNT_LOW_READ (R322): the low word of a pair is read and its high word latched. -/
def tcntRead (s : State) (m k off : Nat) : State :=
  let b := acqB k
  let x := s.acqs k
  let go (f : Fld) (v : Nat) : State :=
    ((s.wr b f v).wr b (f.at 1) (v / 2 ^ 32)).answer m (b + off) (BitVec.ofNat 32 v)
  match off with
  | 0x30 => go Acq.TRIG_TCNT.CNT x.trigT
  | 0x40 => go Acq.LAST_TCNT.CNT x.lastT
  | 0x48 => go Acq.BASE_TCNT.CNT x.base
  | 0x50 => go Acq.TCNT.CNT s.tick
  | _ => s

end State

/-! ## The commands -/

/-- ACQ_ARM. -/
def execAcqArm (w : Wr) (k : Nat) (s : State) : Ans := .next ((s.onAcq k (fun s => s.acqArm k)).retire w (acqB k))
/-- ACQ_STOP. -/
def execAcqStop (w : Wr) (k : Nat) (s : State) : Ans := .next ((s.onAcq k (fun s => s.acqStop k)).retire w (acqB k))
/-- SWTRIG (R318): source 9 asserts. -/
def execSwtrig (w : Wr) (k : Nat) (s : State) : Ans :=
  .next ((s.onAcq k (fun s => s.acqAssert k 9 s.tick)).retire w (acqB k))
/-- TRIG_IN_EDGE (R318): an edge of ball TRIG_IN`i`, seen three ticks later by the engines whose TRIG_POL selects it. -/
def execTrigInEdge (i : Nat) (falling : Bool) (s : State) : Ans :=
  .next ((List.range 2).foldl (fun (s : State) k => s.onAcq k (fun s =>
    if decide (i < 4) && (s.rd (acqB k) Acq.TRIG_CFG.TRIG_POL).testBit i == falling then s.acqAssert k i (s.tick + 3)
    else s)) s)
/-- XTRIG_FALL (R318): seen three ticks later by the engines that do not drive the line themselves. -/
def execXtrigFall (s : State) : Ans :=
  .next ((List.range 2).foldl (fun (s : State) k => s.onAcq k (fun s =>
    if (s.acqs k).drives then s else s.acqAssert k 4 (s.tick + 3))) s)
/-- XTRIG_RELEASE (R319): the engine lets go of the line after XW × 100 ns. -/
def execXtrigRelease (k : Nat) (s : State) : Ans :=
  .next (s.onAcq k (fun s => s.setAcq k { s.acqs k with drives := false }))
/-- ACQ_RECORD_WRITE. -/
def execAcqRecordWrite (k : Nat) (s : State) : Ans := .next (s.onAcq k (fun s => s.acqWrite k))
/-- ACQ_TIME_RECORD. -/
def execAcqTimeRecord (k : Nat) (s : State) : Ans := .next (s.onAcq k (fun s => s.acqTime k))
/-- ACQ_POST_END. -/
def execAcqPostEnd (k : Nat) (s : State) : Ans := .next (s.onAcq k (fun s => s.acqPostEnd k))
/-- CAPTURE_MEM_WRITE (R321): the write is discarded. -/
def execCaptureMemWrite (w : Wr) (addr : Nat) (s : State) : Ans :=
  .next ((match s.locate none addr with
    | .cap k => s.wr (acqB k) Acq.ACQ_STAT.WRDISC 1
    | _ => s).retire w addr)
/-- CAPTURE_MEM_READ (R321): what the SECDED check of a read found; the data are given as stored. -/
def execCaptureMemRead (_m addr : Nat) (ce ue : Bool) (s : State) : Ans :=
  .next (match s.locate none addr with
    | .cap k =>
      let s := if ce then (s.wr (acqB k) Acq.ACQ_STAT.CAPCE 1).fire (0x021 + 4 * k) else s
      if ue then (s.wr (acqB k) Acq.ACQ_STAT.CAPUE 1).fire (0x022 + 4 * k) else s
    | _ => s)
/-- TCNT_LOW_READ. -/
def execTcntLowRead (m k off : Nat) (s : State) : Ans := .next (s.onAcq k (fun s => s.tcntRead m k off))

end Sys2Proof.Machine
end

