-- ==== Sys2Proof/Machine/Almanac.lean ====
section
/-!
DEFINITION. The Almanac (R415 to R429): records, the delta buffer of a freeze, images in MRAM, restore, and its commands.
-/
namespace Sys2Proof.Machine

/-- The 32-bit counters of a record saturate (R417). -/
def cap32 (v : Nat) : Nat := min v 0xFFFFFFFF

/-- Bytes of a number, least significant first. -/
def leBytes (v : Nat) : Nat → List Byte
  | 0 => []
  | n + 1 => BitVec.ofNat 8 v :: leBytes (v / 256) n

/-- The number a list of bytes stands for, least significant first. -/
def ofLe : List Byte → Nat
  | [] => 0
  | b :: r => b.toNat + 256 * ofLe r

/-- CRC-32C of a list of bytes in address order (R423), most significant bit of each byte first as in R68. -/
def crcBytes (l : List Byte) : Nat := l.foldl (fun c b => crcNat 32 0x1EDC6F41 b.toNat 8 c) 0xFFFFFFFF

namespace AlmRec

/-- The bin of a value (R417). -/
def binOf (v base : Int) (shift : Nat) : Nat :=
  let x := v - base
  if x < 0 then 0 else min 63 (1 + x.toNat / 2 ^ shift)

def bin (x : AlmRec) (b : Nat) : Nat := Tab.get x.bins b 0
def del (x : AlmRec) (b : Nat) : Nat := Tab.get x.delta b 0

/-- `n` observations fall into bin `b` (R417). -/
def count (x : AlmRec) (b n : Nat) : AlmRec :=
  { x with bins := Tab.put x.bins b (cap32 (x.bin b + n)), delta := Tab.put x.delta b (x.del b + n),
           total := cap32 (x.total + n), changed := true, flushed := false }

/-- An extreme candidate beats the stored one (R417: on ties the earlier is kept). -/
def beats (isMax : Bool) (e : AlmExt) (old : Option AlmExt) : Bool :=
  match old with
  | none => true
  | some o => if isMax then decide (o.val < e.val) else decide (e.val < o.val)

/-- Take an extreme candidate. -/
def extreme (x : AlmRec) (isMax : Bool) (e : AlmExt) : AlmRec :=
  if isMax then (if beats true e x.mx then { x with mx := some e, changed := true, flushed := false } else x)
  else if beats false e x.mn then { x with mn := some e, changed := true, flushed := false } else x

/-- The eight words of a record at window 0x200 (R428): MIN, MAX, WHO, TOTAL. -/
def extWords (x : AlmRec) : List Nat :=
  let w (o : Option AlmExt) : List Nat := match o with
    | some e => [ofSigned e.val 32, e.sec, e.ns]
    | none => [0, 0, 0]
  let who (o : Option AlmExt) : Nat := match o with
    | some e => e.who % 2 ^ 13 + 2 ^ 14
    | none => 0
  w x.mn ++ w x.mx ++ [who x.mn + 2 ^ 16 * who x.mx, x.total]

/-- Extremes and TOTAL from the eight words of an image. -/
def ofExt (x : AlmRec) (w : List Nat) : AlmRec :=
  let g (i : Nat) : Nat := w.getD i 0
  let e (i lsb : Nat) : Option AlmExt :=
    if (g 6).testBit (lsb + 14) then some ⟨toSigned (g i) 32, g (i + 1), g (i + 2), bits (g 6) (lsb + 12) lsb⟩ else none
  { x with mn := e 0 0, mx := e 3 16, total := g 7 }

end AlmRec

namespace State

def almRec (s : State) (r : Nat) : AlmRec := Tab.get s.alm.recs r AlmRec.reset
def setAlmRec (s : State) (r : Nat) (x : AlmRec) : State := { s with alm := { s.alm with recs := Tab.put s.alm.recs r x } }
def modAlm (s : State) (f : Almanac → Almanac) : State := { s with alm := f s.alm }

/-- The bytes the delta buffer uses (R421). -/
def almUsed (s : State) : Nat := 8 * s.alm.bufBins.length + 16 * s.alm.bufExt.length
def almSyncBuf (s : State) : State := s.wr almB Alm.ALM_BUF.USED (s.almUsed / 8)

/-- A delta counter that has reached 0x8000 asks for an early write (R424). -/
def almEarly (s : State) (r : Nat) : State :=
  if (s.almRec r).delta.any (fun e => decide (0x8000 ≤ e.2)) && !s.alm.early.contains r then
    s.modAlm (fun a => { a with early := a.early ++ [r] })
  else s

/-- The bin of an observation under its record's configuration. -/
def almBin (s : State) (o : AlmObs) : Nat :=
  AlmRec.binOf o.val (toSigned (s.rd almB (Alm.REC_CFG1.BASE.at o.r)) 32) (s.rd almB (Alm.REC_CFG0.SHIFT.at o.r))

/-- An observation updates its record (R417). -/
def almDirect (s : State) (o : AlmObs) : State :=
  let e : AlmExt := ⟨o.val, o.sec, o.ns, o.who⟩
  (s.setAlmRec o.r ((((s.almRec o.r).count (s.almBin o) 1).extreme false e).extreme true e)).almEarly o.r

/-- An entry of a table of the buffer (DEDUCED, log 33). -/
def bufGet {β : Type} (l : List ((Nat × β) × α)) (p : Nat × β → Bool) : Option α := (l.find? (fun e => p e.1)).map (fun e => e.2)

/-- An observation goes to the delta buffer, whole or not at all (R421). -/
def almBuffer (s : State) (o : AlmObs) : State :=
  let a := s.alm
  let b := s.almBin o
  let e : AlmExt := ⟨o.val, o.sec, o.ns, o.who⟩
  let x := s.almRec o.r
  let hasBin := a.bufBins.any (fun q => q.1 == (o.r, b))
  let cand (m : Bool) : Option AlmExt := bufGet a.bufExt (fun q => q == (o.r, m))
  let wants (m : Bool) : Bool := AlmRec.beats m e (if m then x.mx else x.mn) && AlmRec.beats m e (cand m)
  let room (m : Bool) : Nat := if wants m && (cand m).isNone then 16 else 0
  if 4096 < s.almUsed + (if hasBin then 0 else 8) + room false + room true then
    let s := s.inc almB Alm.ALM_CNT0.LOSTINC
    let s := if wants false || wants true then s.wr almB Alm.ALM_STAT.XLOST 1 else s
    (s.modAlm (fun a => { a with bufLost := true })).fireIf (!a.bufLost) 0x029
  else
    let bins := if hasBin then a.bufBins.map (fun q => if q.1 == (o.r, b) then (q.1, q.2 + 1) else q)
                else a.bufBins ++ [((o.r, b), 1)]
    let put (m : Bool) (l : List ((Nat × Bool) × AlmExt)) : List ((Nat × Bool) × AlmExt) :=
      if !wants m then l else l.filter (fun q => q.1 != (o.r, m)) ++ [((o.r, m), e)]
    (s.modAlm (fun a => { a with bufBins := bins, bufExt := put true (put false a.bufExt) })).almSyncBuf

/-- ALMANAC_APPLY (R417, R421): the first waiting observation. -/
def almApply (s : State) : State :=
  match s.alm.obs with
  | [] => s
  | o :: rest =>
    let s := s.modAlm (fun a => { a with obs := rest })
    if s.alm.frozen || s.alm.merging then s.almBuffer o else s.almDirect o

/-- FRZ (R428): frozen or merging. -/
def almSyncFrz (s : State) : State := s.wrB almB Alm.ALM_STAT.FRZ (s.alm.frozen || s.alm.merging)

/-- The merge of R422 ends: the buffer's increments and candidates go into the records. -/
def almMerge (s : State) : State :=
  let a := s.alm
  let s := s.modAlm (fun a => { a with bufBins := [], bufExt := [], bufLost := false, merging := false, frozen := false })
  let s := a.bufBins.foldl (fun (s : State) q => (s.setAlmRec q.1.1 ((s.almRec q.1.1).count q.1.2 q.2)).almEarly q.1.1) s
  let s := a.bufExt.foldl (fun (s : State) q => s.setAlmRec q.1.1 ((s.almRec q.1.1).extreme q.1.2 q.2)) s
  s.almSyncBuf.almSyncFrz

/-- A record is cleared (R419); its buffer entries are discarded (R422). -/
def almClear (s : State) (r : Nat) : State :=
  let x := s.almRec r
  let s := s.setAlmRec r { AlmRec.reset with wcnt := x.wcnt, skip := x.skip, changed := true, flushed := false }
  (s.modAlm (fun a => { a with bufBins := a.bufBins.filter (fun q => q.1.1 != r),
                               bufExt := a.bufExt.filter (fun q => q.1.1 != r) })).almSyncBuf

/-! ## Images (R423, R424) -/

/-- Words 0 and 1 of REC_CFG. -/
def almCfg0 (s : State) (r : Nat) : Nat :=
  s.rd almB (Alm.REC_CFG0.ON.at r) + 2 * s.rd almB (Alm.REC_CFG0.CLASS.at r) + 16 * s.rd almB (Alm.REC_CFG0.DECIM.at r) +
  256 * s.rd almB (Alm.REC_CFG0.SHIFT.at r) + 65536 * s.rd almB (Alm.REC_CFG0.INDEX.at r)
def almCfg1 (s : State) (r : Nat) : Nat := s.rd almB (Alm.REC_CFG1.BASE.at r)

/-- The MRAM offset of the region (R423). -/
def almBase (s : State) : Nat := s.rd almB Alm.ALM_MBASE.BASE * 65536

/-- The record image of record `r` with image-write count `wcnt` (DEDUCED, log 33). -/
def almImage (s : State) (r wcnt : Nat) : List Byte :=
  let x := s.almRec r
  let body := (List.range 64).flatMap (fun b => leBytes (x.bin b) 4) ++ x.extWords.flatMap (fun w => leBytes w 4) ++
    leBytes (s.almCfg0 r) 4 ++ leBytes (s.almCfg1 r) 4 ++ leBytes wcnt 4 ++ leBytes s.nowSec 4 ++ leBytes 0 12
  body ++ leBytes (crcBytes body) 4

/-- The delta image of record `r`. -/
def almDelta (s : State) (r : Nat) : List Byte :=
  let x := s.almRec r
  let body := (List.range 64).flatMap (fun b => leBytes (x.del b) 2) ++ x.extWords.flatMap (fun w => leBytes w 4) ++
    leBytes x.wcnt 4 ++ leBytes s.nowSec 4 ++ leBytes 0 20
  body ++ leBytes (crcBytes body) 4

/-- A record image goes to copy WCNT mod 2 (R424) (DEDUCED, log 33). -/
def almPutImage (s : State) (r : Nat) : State :=
  let x := s.almRec r
  let w := x.wcnt + 1
  let s := { s with mram := Mem.writeBytes s.mram (s.almBase + w % 2 * 0xA0000 + 320 * r) (s.almImage r w) }
  s.setAlmRec r { x with delta := [], wcnt := w, changed := false }

/-- Records changed since their last image, ascending. -/
def almChanged (s : State) : List Nat := (s.alm.recs.filter (fun e => e.2.changed)).map (fun e => e.1)

/-- The background pass has no record left: it is over (R424). -/
def almPassEnd (s : State) : State :=
  if s.on almB Alm.ALM_STAT.BGBUSY && s.alm.pass.isEmpty then
    (s.wr almB Alm.ALM_STAT.BGBUSY 0).incW almB Alm.ALM_CNT1.PASSES
  else s

/-- A background pass starts, unless one still runs (R424) (DEDUCED, log 33). -/
def almPass (s : State) : State :=
  if s.on almB Alm.ALM_STAT.BGBUSY then s
  else ((s.modAlm (fun a => { a with pass := s.almChanged })).wr almB Alm.ALM_STAT.BGBUSY 1).almPassEnd

/-- A write to MRAM failed (R425). -/
def almWrErr (s : State) : State := (s.wr almB Alm.ALM_STAT.FLERR 1).fire 0x02A

/-- ALMANAC_IMAGE_WRITTEN: the next write is done: a delta image of a full flush, an early write, or an image of the pass. -/
def almWritten (s : State) (ok : Bool) : State :=
  match s.alm.flush, s.alm.early, s.alm.pass with
  | r :: rest, _, _ =>
    let s := s.modAlm (fun a => { a with flush := rest })
    if ok then
      { s with mram := Mem.writeBytes s.mram (s.almBase + 0x140000 + 192 * r) (s.almDelta r) }.setAlmRec r
        { s.almRec r with flushed := true }
    else s.almWrErr
  | [], r :: rest, _ =>
    let s := (s.modAlm (fun a => { a with early := rest, pass := a.pass.filter (fun q => q != r) })).inc almB Alm.ALM_CNT1.EARLY
    (if ok then s.almPutImage r else s.almWrErr).almPassEnd
  | [], [], r :: rest =>
    let s := s.modAlm (fun a => { a with pass := rest })
    (if ok then s.almPutImage r else s.almWrErr).almPassEnd
  | [], [], [] => s

/-- A full flush starts (R425): at an F-class firing, or (`fail`) at PWRFAIL_N, after which nothing is observed any more. One
that runs goes on, and writes again the records that changed since their own delta image (R464). -/
def almFlush (s : State) (fail : Bool) : State :=
  let s := if s.alm.frozen || s.alm.merging then
      (s.modAlm (fun a => { a with again := false })).almMerge.wr almB Alm.ALM_STAT.FRZBRK 1
    else s
  let going := s.on almB Alm.ALM_STAT.FFBUSY
  let rest := s.alm.flush
  let list := if going then rest ++ s.almChanged.filter (fun r => !rest.contains r && !(s.almRec r).flushed) else s.almChanged
  let s := if going then s
    else s.modAlm (fun a => { a with recs := a.recs.map (fun e => (e.1, { e.2 with flushed := false })) })
  (s.modAlm (fun a => { a with stopped := a.stopped || fail, flush := list })).wr almB Alm.ALM_STAT.FFBUSY 1

/-! ## Restore (R426) -/

/-- The words of `n` bytes of MRAM at an offset of the region. -/
def almWord (s : State) (off : Nat) : Nat := Mem.readN s.mram (s.almBase + off) 4

/-- The WCNT of copy `c` of record `r`: none if its CRC is bad; with whether its configuration words equal REC_CFG. -/
def almCopy (s : State) (r c : Nat) : Option (Nat × Bool) :=
  let o := c * 0xA0000 + 320 * r
  if s.almWord (o + 316) = crcBytes (Mem.bytes s.mram (s.almBase + o) 316) then
    some (s.almWord (o + 296), s.almWord (o + 288) == s.almCfg0 r && s.almWord (o + 292) == s.almCfg1 r)
  else none

/-- Restore one record; the result tells 0 cleared, 1 restored, 2 configuration mismatch (DEDUCED, log 33). -/
def almRestore (s : State) (r : Nat) : Nat × State :=
  let c0 := s.almCopy r 0
  let c1 := s.almCopy r 1
  let fit (c : Option (Nat × Bool)) : Option Nat := match c with
    | some (w, true) => some w
    | _ => none
  let pick : Option (Nat × Nat) := match fit c0, fit c1 with
    | some a, some b => if a < b then some (1, b) else some (0, a)
    | some a, none => some (0, a)
    | none, some b => some (1, b)
    | none, none => none
  let skip := (s.almRec r).skip
  match pick with
  | none =>
    (if c0.isSome || c1.isSome then 2 else 0, s.setAlmRec r { AlmRec.reset with skip := skip })
  | some (c, w) =>
    let o := c * 0xA0000 + 320 * r
    let bins := ((List.range 64).map (fun b => (b, s.almWord (o + 4 * b)))).filter (fun e => e.2 != 0)
    let x := ({ AlmRec.reset with bins := bins, wcnt := w, skip := skip }).ofExt
      ((List.range 8).map (fun i => s.almWord (o + 256 + 4 * i)))
    let d := 0x140000 + 192 * r
    let x := if s.almWord (d + 188) = crcBytes (Mem.bytes s.mram (s.almBase + d) 188) ∧ s.almWord (d + 160) = w then
        let inc := ((List.range 64).map (fun b => (b, Mem.readN s.mram (s.almBase + d + 2 * b) 2))).filter (fun e => e.2 != 0)
        (inc.foldl (fun x e => x.count e.1 e.2) x).ofExt ((List.range 8).map (fun i => s.almWord (d + 128 + 4 * i)))
      else x
    (1, s.setAlmRec r x)

/-- The restore ends. -/
def almRestoreAll (s : State) : State :=
  let r := (List.range 2048).foldl (fun (a : Nat × Nat × State) i =>
    let q := a.2.2.almRestore i
    (a.1 + (if q.1 = 1 then 1 else 0), a.2.1 + (if q.1 = 2 then 1 else 0), q.2)) (0, 0, s)
  (((r.2.2.wr almB Alm.ALM_RST.OK r.1).wr almB Alm.ALM_RST.CFGMIS r.2.1).wr almB Alm.ALM_STAT.RSTBUSY 0).wr almB
    Alm.ALM_STAT.RSTDONE 1

end State

/-! ## The commands -/

/-- ALMANAC_APPLY. -/
def execAlmanacApply (s : State) : Ans := .next s.almApply
/-- ALMANAC_FREEZE (R421, R422): during a merge it waits for the merge's end. -/
def execAlmanacFreeze (w : Wr) (s : State) : Ans :=
  let s := s.wr almB Alm.ALM_CTL.FREEZE 1
  .next ((if s.alm.merging then s.modAlm (fun a => { a with again := true })
    else if s.alm.frozen then s
    else (s.modAlm (fun a => { a with frozen := true, bufLost := false })).almSyncFrz).retire w almB)
/-- ALMANAC_UNFREEZE (R422): the merge begins. -/
def execAlmanacUnfreeze (w : Wr) (s : State) : Ans :=
  let s := s.wr almB Alm.ALM_CTL.FREEZE 0
  .next ((if s.alm.merging then s.modAlm (fun a => { a with again := false })
    else if s.alm.frozen then (s.modAlm (fun a => { a with frozen := false, merging := true })).almSyncFrz
    else s).retire w almB)
/-- ALMANAC_MERGE_DONE (R422). -/
def execAlmanacMergeDone (s : State) : Ans :=
  .next (if s.alm.merging then
    let again := s.alm.again
    let s := s.almMerge
    if again then (s.modAlm (fun a => { a with again := false, frozen := true })).almSyncFrz else s
  else s)
/-- CLRREC (R419). -/
def execClrrec (w : Wr) (s : State) : Ans := .next ((s.almClear (s.rd almB Alm.ALM_CUR.REC)).retire w almB)
/-- CLRALL (R419). -/
def execClrall (w : Wr) (s : State) : Ans :=
  .next (((s.modAlm (fun a => { a with
    recs := (List.range 2048).map (fun r =>
      let x := Tab.get a.recs r AlmRec.reset
      (r, { AlmRec.reset with wcnt := x.wcnt, skip := x.skip, changed := true, flushed := false })),
    bufBins := [], bufExt := [] })).almSyncBuf).retire w almB)
/-- RESTORE (R426): accepted only while EN = 0. -/
def execRestore (w : Wr) (s : State) : Ans :=
  .next ((if s.on almB Alm.ALM_CTL.EN then (s.wr almB Alm.ALM_STAT.CFG_REJ 1).fire 0x02D
    else s.wr almB Alm.ALM_STAT.RSTBUSY 1).retire w almB)
/-- ALMANAC_RESTORE_DONE (R426). -/
def execAlmanacRestoreDone (s : State) : Ans := .next (if s.on almB Alm.ALM_STAT.RSTBUSY then s.almRestoreAll else s)
/-- FLUSHNOW (R424). -/
def execFlushnow (w : Wr) (s : State) : Ans := .next (s.almPass.retire w almB)
/-- ALMANAC_BG_PASS (R424): a package-time whole second while the Almanac runs. -/
def execAlmanacBgPass (s : State) : Ans := .next (if s.on almB Alm.ALM_CTL.EN then s.almPass else s)
/-- ALMANAC_IMAGE_WRITTEN. -/
def execAlmanacImageWritten (ok : Bool) (s : State) : Ans := .next (s.almWritten ok)
/-- ALMANAC_FULL_FLUSH_DONE (R425, R462): every delta image is written. -/
def execAlmanacFullFlushDone (s : State) : Ans :=
  .next (if s.on almB Alm.ALM_STAT.FFBUSY && s.alm.flush.isEmpty then
    ((s.wr almB Alm.ALM_STAT.FFBUSY 0).wr almB Alm.ALM_STAT.FFDONE 1).wrB pwrB Pwr.PWR_STAT.PFDONE
      (s.on pwrB Pwr.PWR_STAT.PFSEEN) else s)
/-- ALMANAC_TOTAL_READ (R420). -/
def execAlmanacTotalRead (m : Nat) (s : State) : Ans :=
  let r := s.rd almB Alm.ALM_CUR.REC
  let s := s.answer m (almB + 0x21C) (BitVec.ofNat 32 (s.almRec r).total)
  .next (if s.on almB Alm.ALM_CTL.AUTOINC then s.wr almB Alm.ALM_CUR.REC ((r + 1) % 2048) else s)
/-- ALM_CNTCLR (R428). -/
def execAlmCntclr (w : Wr) (s : State) : Ans :=
  .next (([Alm.ALM_CNT0.QLOST, Alm.ALM_CNT0.LOSTINC, Alm.ALM_CNT1.PASSES, Alm.ALM_CNT1.EARLY].foldl
    (fun (s : State) f => s.wr almB f 0) s).retire w (almB + 0x20))
/-- ALMANAC_RAM_ERROR (R429). -/
def execAlmanacRamError (r : Nat) (ue : Bool) (s : State) : Ans :=
  .next (if ue then (((if r < 2048 then s.almClear r else s).wr almB Alm.ALM_STAT.RAMUE 1).fire 0x02C) else s.fire 0x02B)

end Sys2Proof.Machine
end

