-- ==== Sys2Proof/Machine/Meter.lean ====
section
/-!
DEFINITION. The metering unit (R430 to R442): points, spans, record bodies, checkpoints, restore; the queue of the signing
engine (R435, R436); and the metering commands.
-/
namespace Sys2Proof.Machine

namespace State

def modMtr (s : State) (f : MtrSt → MtrSt) : State := { s with mtr := f s.mtr }
def modSec (s : State) (f : SecSt → SecSt) : State := { s with sec := f s.sec }

/-! ## Keys and bytes (R434, R446) -/

/-- The bytes of a 1,952-byte public key. -/
def pkBytes (f : Nat → BitVec 32) : List Byte := (List.range 488).flatMap (fun i => leBytes (f i).toNat 4)
/-- MKD (R434): the digest of the metering public key. -/
def mkd : BitVec 256 := Config.shake256 (pkBytes Config.mpk)
/-- The context strings "DRVM", "DRVA" and "DRVB" (R435, R443). -/
def sigM : List Byte := [0x44, 0x52, 0x56, 0x4D]
def sigA : List Byte := [0x44, 0x52, 0x56, 0x41]
def sigB : List Byte := [0x44, 0x52, 0x56, 0x42]
/-- Zero-pad or cut a list of bytes to `n`. -/
def padTo (n : Nat) (l : List Byte) : List Byte := (l ++ List.replicate n 0).take n

/-! ## Registers (R431) -/

/-- Units of the exact sums in one 2^-42 Wh. -/
def mtrUnit : Nat := 720000000
/-- IMPORT and EXPORT, 2^-10 Wh, and their residuals, 2^-42 Wh. -/
def mtrReg (x : Nat) : Nat := x / (mtrUnit * 2 ^ 32) % 2 ^ 64
def mtrRes (x : Nat) : Nat := x / mtrUnit % 2 ^ 32

/-- The offset of the metering region in the MRAM (R448), and the ring slots. -/
def mtrBase (s : State) : Nat := s.rd mtrB Mtr.MTR_MBASE.BASE * 65536
def ringN (s : State) : Nat := max 16 (s.rd mtrB Mtr.RINGN.N)

/-- The unit runs (EN in force, R448). -/
def mtrRuns (s : State) : Bool := s.part.m && s.on mtrB Mtr.MTR_STAT.RUN
/-- The unit counts (R441). -/
def counting (s : State) : Bool := s.on mtrB Mtr.MTR_STAT.COUNTING
/-- The pair states in which a part counts (R441): SOLO, ACTIVE and HANDING. -/
def pairCounts (s : State) : Bool := s.pstate == 0 || s.pstate == 3 || s.pstate == 4
/-- COUNTING follows (R438, R439, R441). -/
def syncCounting (s : State) : State :=
  s.wrB mtrB Mtr.MTR_STAT.COUNTING (s.mtrRuns && !s.on mtrB Mtr.MTR_STAT.RSTBUSY && !s.mtr.stopped && s.pairCounts)

/-- A fault of a metering register write. -/
def mtrRej (s : State) : State := (s.wr mtrB Mtr.MTR_STAT.CFG_REJ 1).fire 0x1B7

/-- The unit owns converter `n` of A-die `a` (R430). -/
def mtrOwns (s : State) (a n : Nat) : Bool :=
  s.mtrRuns && s.rd mtrB Mtr.MTR_SRC.MAID == a && s.rd mtrB Mtr.MTR_SRC.MPAIR == n / 2

/-- A handback of calibration of converter `n` of A-die `a` (R430). -/
def mtrHandback (s : State) (a n : Nat) : State :=
  if s.mtrOwns a n then s.modMtr (fun x => { x with span := { x.span with calcnt := x.span.calcnt + 1 } }) else s

/-! ## Record bodies (R434) -/

/-- The length of a span in ns, and INCOMPLETE. -/
def spanShort (sec ns esec ens len : Nat) : Bool :=
  decide (((esec * 1000000000 + ens : Nat) : Int) - (sec * 1000000000 + ns : Nat) < (len * 60000000000 : Nat))

/-- The body of a record of `kind` for a span that ends at (`esec`, `ens`); averages and extremes are rounded to their
units in a way the spec leaves open (DEDUCED, log 40). -/
def mtrBody (s : State) (kind flags : Nat) (x : MtrSpan) (esec ens cause : Nat) : List Byte × State :=
  let len := s.rd mtrB Mtr.MTR_CTL.LENMIN
  let imp := mtrReg s.mtr.imp
  let exp := mtrReg s.mtr.exp
  let n : Int := if x.npts = 0 then 1 else x.npts
  let (vmin, s) := s.divFree x.vmin (800 * 65536)
  let (vmax, s) := s.divFree x.vmax (800 * 65536)
  let (vavg, s) := s.divFree x.vsum (800 * 65536 * n)
  let (imin, s) := s.divFree x.imin (800 * 4096)
  let (imax, s) := s.divFree x.imax (800 * 4096)
  let (iavg, s) := s.divFree x.isum (800 * 4096 * n)
  let (pmin, s) := s.divFree x.pmin (800000 * 2 ^ 40)
  let (pmax, s) := s.divFree x.pmax (800000 * 2 ^ 40)
  let fl := flags ||| x.flags ||| (if spanShort x.sec x.ns esec ens len then 1 else 0) |||
    (if x.novr = 0 then 0 else 2) ||| (if x.nref = 0 then 0 else 4)
  let w (v : Int) : List Byte := leBytes (ofSigned v 32) 4
  let user := (List.range 6).flatMap (fun i => leBytes (s.rd mtrB (Mtr.MTR_USER.DATA.at i)) 4)
  let res := if kind = 3 then leBytes (mtrRes s.mtr.imp) 4 ++ leBytes (mtrRes s.mtr.exp) 4 else leBytes 0 8
  (leBytes 1 1 ++ leBytes kind 1 ++ leBytes fl 2 ++ leBytes s.mtr.recno 8 ++ leBytes Config.devId.toNat 8 ++
    leBytes x.sec 8 ++ leBytes x.ns 4 ++ leBytes esec 8 ++ leBytes ens 4 ++ leBytes len 1 ++ leBytes 0 1 ++
    leBytes (s.rd mtrB Mtr.UTCOFS.OFS) 2 ++ leBytes imp 8 ++ leBytes exp 8 ++ leBytes (imp + 2 ^ 64 - x.imp) 8 ++
    leBytes (exp + 2 ^ 64 - x.exp) 8 ++ leBytes x.npts 4 ++ leBytes x.novr 4 ++ leBytes x.nref 4 ++
    w vmin ++ w vmax ++ w vavg ++ w imin ++ w imax ++ w iavg ++ w pmin ++ w pmax ++ leBytes x.calcnt 4 ++
    leBytes s.mtr.prev.toNat 32 ++ leBytes mkd.toNat 32 ++ leBytes s.sec.imgver 8 ++ user ++
    leBytes (if kind = 2 then cause else 0) 1 ++ leBytes 0 3 ++ res ++ leBytes 0 20, s)

/-- A span that begins now, with flags for what it begins at. -/
def spanNow (s : State) (flags : Nat) : MtrSpan := MtrSpan.start s.nowSec s.nowNs (mtrReg s.mtr.imp) (mtrReg s.mtr.exp) flags

/-! ## The signing engine (R435, R436) -/

/-- The order in which the engine serves kinds (R436). -/
def sigRank (k : Nat) : Nat := if k = 1 ∨ k = 2 then 0 else if k = 3 then 1 else 2

/-- Behind the jobs that are served before a job of this rank. -/
def sigIns : List SigJob → SigJob → List SigJob
  | [], j => [j]
  | x :: l, j => if sigRank j.kind < sigRank x.kind then j :: x :: l else x :: sigIns l j

/-- Queue a body; the one at the head is being signed and is not overtaken (DEDUCED, log 40). -/
def sigQueue (s : State) (j : SigJob) : State :=
  s.modSec (fun x => { x with queue := match x.queue with | [] => [j] | h :: r => h :: sigIns r j })

/-- A KIND 1 or 2 body is issued (R433, R434): it is queued, takes RECNO, and is what the next one's PREV digests. -/
def issue (s : State) (kind : Nat) (body : List Byte) : State :=
  (s.modMtr (fun x => { x with recno := x.recno + 1, prev := Config.shake256 body })).sigQueue ⟨kind, body⟩

/-- The interval in progress closes at (`sec`, `ns`) with `flags` (R433); the next span begins with `begins`
(DEDUCED, log 40). -/
def mtrClose (s : State) (flags sec ns begins : Nat) : State :=
  let (b, s) := s.mtrBody 1 flags s.mtr.span sec ns 0
  let s := s.issue 1 b
  s.modMtr (fun x => { x with span := s.spanNow begins })

/-- A GAP record from one instant to another (R439, R440) (DEDUCED, log 40). -/
def mtrGap (s : State) (flags sec ns esec ens cause : Nat) : State :=
  let (b, s) := s.mtrBody 2 flags (MtrSpan.start sec ns (mtrReg s.mtr.imp) (mtrReg s.mtr.exp) 0) esec ens cause
  s.issue 2 b

/-! ## Checkpoints (R437, R438) -/

/-- A checkpoint is captured now; one whose predecessor has not been written is skipped. -/
def mtrCapture (s : State) : State :=
  if !s.counting then s
  else if s.mtr.busy then (s.inc mtrB Mtr.MTR_CNT.CKSKIP).fire 0x1B4
  else
    let (b, s) := s.mtrBody 3 0 s.mtr.span s.nowSec s.nowNs 0
    (s.modMtr (fun x => { x with busy := true })).sigQueue ⟨3, b⟩

/-- The tag of a power-fail body (R438). -/
def pfTag (body : List Byte) : List Byte := leBytes (Config.shake256 (Config.macKey ++ body)).toNat 32

/-- PWRFAIL_N (R438): the unit stops; its power-fail body and tag go to the power-fail slot. -/
def mtrPowerFail (s : State) : State :=
  let s := if s.counting then
      let (b, s) := s.mtrBody 3 0x10 s.mtr.span s.nowSec s.nowNs 0
      { s with mram := Mem.writeBytes s.mram (s.mtrBase + 0x2000) (b ++ pfTag b) }
    else s
  (s.modMtr (fun x => { x with stopped := true })).syncCounting

/-- A record or checkpoint slot of 4,096 bytes (R436): body, signature, zeros, CRC-32C of bytes 0 to 3,564. -/
def slotBytes (body sig : List Byte) : List Byte :=
  let l := padTo 256 body ++ padTo 3309 sig
  l ++ List.replicate 527 0 ++ leBytes (crcBytes l) 4

/-- A write of a signed slot is done: a record is available (R433), or the checkpoint slots alternate (R437). -/
def slotDone (s : State) (ck : Option Nat) : State :=
  match ck with
  | some n => s.modMtr (fun x => { x with busy := false, slot := 1 - n })
  | none => s.fire 0x1B0

/-- Write a signed slot; a write that fails is repeated at the next second (R448: MRERR). -/
def slotWrite (s : State) (off : Nat) (l : List Byte) (ck : Option Nat) (err : Bool) : State :=
  if err then
    ((s.wr mtrB Mtr.MTR_STAT.MRERR 1).fire 0x1B1).modMtr (fun x => { x with redo := x.redo ++ [(off, l, ck)] })
  else { s with mram := Mem.writeBytes s.mram off l }.slotDone ck

/-- SIGNING_DONE: `ok1` and `ok2` tell whether the first signature and, after it, the second verified; `err` a failed MRAM
write (R435, R436, R447). -/
def signed (s : State) (ok1 ok2 err : Bool) : State :=
  match s.sec.queue with
  | [] => s
  | j :: rest =>
    let s := s.modSec (fun x => { x with queue := rest })
    let n := s.fresh
    let s := { s with fresh := n + (if ok1 then 1 else 2) }
    if !ok1 && !ok2 then
      ((s.wr mtrB Mtr.MTR_STAT.SIGFAIL 1).fire 0x1B2).modSec (fun x => { x with retry := x.retry ++ [j] })
    else
      let num := if ok1 then n else n + 1
      let att := j.kind = 0x10
      let sig := padTo 3309 (Config.mldsa (if att then 1 else 0) (if att then sigA else sigM) j.body num)
      if att then
        ((s.modSec (fun x => { x with attBody := j.body, attSig := sig })).wrB secB Secu.ATT_STAT.BUSY
          ((s.sec.queue ++ s.sec.retry).any (fun q => q.kind == 0x10))).wr secB Secu.ATT_STAT.ATT_DONE 1
      else if j.kind = 3 then
        s.slotWrite (s.mtrBase + s.mtr.slot * 0x1000) (slotBytes j.body sig) (some s.mtr.slot) err
      else
        let recno := ofLe ((j.body.drop 4).take 8)
        (s.modMtr (fun x => { x with lastBody := j.body, lastSig := sig })).slotWrite
          (s.mtrBase + 0x4000 + recno % s.ringN * 0x1000) (slotBytes j.body sig) none err

/-- A whole second of package time (R435, R437): failed writes are repeated, bodies whose signature failed are signed again,
and a checkpoint is captured. -/
def mtrSecond (s : State) : State :=
  let s := s.mtr.redo.foldl (fun (s : State) e => { s with mram := Mem.writeBytes s.mram e.1 e.2.1 }.slotDone e.2.2)
    (s.modMtr (fun x => { x with redo := [] }))
  let s := s.sec.retry.foldl (fun (s : State) j => s.sigQueue j) (s.modSec (fun x => { x with retry := [] }))
  s.mtrCapture

/-! ## Points (R431) -/

/-- One point: `samples` are the sample pairs of a millisecond (800 of them; fewer stand for 800 in proportion)
(DEDUCED, log 40). -/
def mtrPoint (s : State) (samples : List MSample) : State :=
  if !s.mtrRuns || samples.isEmpty then s
  else
    let b := mtrB
    let n : Int := samples.length
    let volt (x : MSample) : Int := s.rd b Mtr.VSCALE.SCALE * (16 * x.v - toSigned (s.rd b Mtr.MTR_OFS.VOFS) 16)
    let amp (x : MSample) : Int := s.rd b Mtr.ISCALE.SCALE * (16 * x.i - toSigned (s.rd b Mtr.MTR_OFS.IOFS) 16)
    let sum (f : MSample → Int) : Int := samples.foldl (fun a x => a + f x) 0 * 800 / n
    let v := sum volt
    let i := sum amp
    let p := sum (fun x => volt x * amp x)
    let (lv, s) := s.divFree v (800 * 65536)
    let (li, s) := s.divFree i (800 * 4096)
    let (lp, s) := s.divFree p (800000 * 2 ^ 40)
    let s := ((s.wr b Mtr.LIVE_V.VAL (ofSigned lv 32)).wr b Mtr.LIVE_I.VAL (ofSigned li 32)).wr b Mtr.LIVE_P.VAL (ofSigned lp 32)
    if !s.counting then s
    else
      let ovr := samples.any (fun x => x.ovr)
      let ref := samples.any (fun x => x.refbad)
      let e := if s.on b Mtr.MTR_CTL.INV then -p else p
      let tell := (ovr || ref) && !s.mtr.span.told
      let first := s.mtr.span.npts = 0
      let lo (o x : Int) : Int := if first || decide (x < o) then x else o
      let hi (o x : Int) : Int := if first || decide (o < x) then x else o
      let s := s.modMtr (fun m =>
        let x := m.span
        { m with
          imp := if 0 ≤ e then m.imp + e.toNat else m.imp
          exp := if 0 ≤ e then m.exp else m.exp + (-e).toNat
          span := { x with npts := x.npts + 1, novr := x.novr + ovr.toNat, nref := x.nref + ref.toNat,
                           vmin := lo x.vmin v, vmax := hi x.vmax v, vsum := x.vsum + v,
                           imin := lo x.imin i, imax := hi x.imax i, isum := x.isum + i,
                           pmin := lo x.pmin p, pmax := hi x.pmax p, told := x.told || ovr || ref } })
      (if ovr then s.inc b Mtr.MTR_CNT.OVRPTS else s).fireIf tell 0x1B3

/-! ## Enable, restore, interruptions (R437 to R441) -/

/-- The restore starts (R439). -/
def mtrStart (s : State) (fresh : Bool) : State :=
  ((s.modMtr (fun x => { x with fresh := fresh })).wr mtrB Mtr.MTR_STAT.RSTBUSY 1).syncCounting

/-- EN = 1 (R430, R438, R439, R441): refused while a sequencer of its pair runs, for an absent A-die, and after PWRFAIL_N; in
a pair state that does not count, the restore waits for the return to ACTIVE (DEDUCED, log 40). -/
def mtrEnable (s : State) (fresh : Bool) : State :=
  if s.mtrRuns || !s.part.m then s
  else
    let a := s.rd mtrB Mtr.MTR_SRC.MAID
    let p := s.rd mtrB Mtr.MTR_SRC.MPAIR
    if !s.dieUp (6 + a) || s.on (seqB a (2 * p)) Seq.SEQ_CTL.EN || s.on (seqB a (2 * p + 1)) Seq.SEQ_CTL.EN || s.mtr.stopped then
      s.mtrRej
    else
      let s := (s.wr mtrB Mtr.MTR_CTL.EN 1).wr mtrB Mtr.MTR_STAT.RUN 1
      if s.pairCounts then s.mtrStart fresh else (s.modMtr (fun x => { x with fresh := fresh, cause := 3 })).syncCounting

/-- EN is not in force any more. -/
def mtrOff (s : State) : State :=
  (((s.wr mtrB Mtr.MTR_CTL.EN 0).wr mtrB Mtr.MTR_STAT.RUN 0).wr mtrB Mtr.MTR_STAT.RSTBUSY 0).syncCounting

/-- EN = 0 (R437): a checkpoint is captured and counting stops. -/
def mtrDisable (s : State) : State :=
  if !s.mtrRuns then s else (s.mtrCapture.modMtr (fun x => { x with cause := 6 })).mtrOff

/-- The pair logic leaves SOLO, ACTIVE and HANDING (R441): the interval closes INCOMPLETE + PAIR, with a checkpoint. -/
def mtrPairLeave (s : State) : State :=
  let s := if s.counting then (s.mtrClose 0x41 s.nowSec s.nowNs 0x40).mtrCapture else s
  (s.modMtr (fun x => { x with cause := 3 })).wr mtrB Mtr.MTR_STAT.COUNTING 0

/-- The pair logic returns to ACTIVE (R441): the unit restores. -/
def mtrPairReturn (s : State) : State :=
  if s.mtrRuns && !s.mtr.stopped && !s.counting then s.mtrStart s.mtr.fresh else s.syncCounting

/-- A time step (R440): the interval closes INCOMPLETE + TSTEP at the time before, and a GAP record follows; `t0` is the
state before the step. -/
def mtrTimeStep (s : State) (t0 : State) : State :=
  if !s.counting then s
  else
    let s := s.mtrClose 0x09 t0.nowSec t0.nowNs 0x08
    (s.mtrGap 0x08 t0.nowSec t0.nowNs s.nowSec s.nowNs 5).modMtr (fun x => { x with span := s.spanNow 0x08 })

/-- A signed checkpoint slot of the MRAM: its body if it is valid (R439) (DEDUCED, log 40). -/
def ckRead (s : State) (n : Nat) : Option (List Byte) :=
  let o := s.mtrBase + n * 0x1000
  let body := Mem.bytes s.mram o 256
  let sig := Mem.bytes s.mram (o + 256) 3309
  if Mem.readN s.mram (o + 4092) 4 = crcBytes (body ++ sig) ∧ body.getD 1 0 = 3 ∧
      ofLe ((body.drop 12).take 8) = Config.devId.toNat ∧ Config.mldsaOk (pkBytes Config.mpk) sigM body sig then some body
  else none

/-- RECNO of a body, and its END in ns. -/
def bodyRecno (b : List Byte) : Nat := ofLe ((b.drop 4).take 8)
def bodyEnd (b : List Byte) : Nat := ofLe ((b.drop 32).take 8) * 1000000000 + ofLe ((b.drop 40).take 4)

/-- The better of two checkpoints: the higher RECNO, then the later END (R439). -/
def ckBetter (a b : Option (List Byte)) : Option (List Byte) :=
  match a, b with
  | some x, some y =>
    if bodyRecno x < bodyRecno y ∨ (bodyRecno x = bodyRecno y ∧ bodyEnd x < bodyEnd y) then some y else some x
  | some x, none => some x
  | none, y => y

/-- A checkpoint body as the record that closes its interval (R439): KIND 1, more flags, no residuals. -/
def ckRecord (b : List Byte) (flags : Nat) : List Byte :=
  let f := ofLe ((b.drop 2).take 2) ||| flags
  b.take 1 ++ leBytes 1 1 ++ leBytes f 2 ++ (b.drop 4).take 224 ++ leBytes 0 8 ++ b.drop 236

/-- The restore from a checkpoint body: its registers, the record of its interval, and the GAP up to now
(DEDUCED, log 40). -/
def mtrFrom (s : State) (b : List Byte) (flags cause : Nat) : State :=
  let num (o n : Nat) : Nat := ofLe ((b.drop o).take n)
  let s := s.modMtr (fun x => { x with
    imp := (num 48 8 * 2 ^ 32 + num 228 4) * mtrUnit
    exp := (num 56 8 * 2 ^ 32 + num 232 4) * mtrUnit
    recno := num 4 8
    prev := BitVec.ofNat 256 (num 128 32) })
  let extra := if cause = 3 then 0x40 else if cause = 6 then 0x80 else 0
  let s := if cause = 3 ∧ num 20 12 = num 32 12 then s else s.issue 1 (ckRecord b (flags ||| extra))
  let s := s.mtrGap extra (num 32 8) (num 40 4) s.nowSec s.nowNs cause
  s.modMtr (fun x => { x with span := s.spanNow (1 ||| extra) })

/-- The restore ends (R439). -/
def mtrRestored (s : State) : State :=
  if !s.on mtrB Mtr.MTR_STAT.RSTBUSY then s
  else
    let base := s.mtrBase
    let ck := ckBetter (s.ckRead 0) (s.ckRead 1)
    let pf := Mem.bytes s.mram (base + 0x2000) 256
    let held := (Mem.bytes s.mram (base + 0x2000) 288).any (fun b => b != 0)
    let tagOk := Mem.bytes s.mram (base + 0x2100) 32 == pfTag pf
    let s := if held && !tagOk then (s.wr mtrB Mtr.MTR_STAT.PFBAD 1).fire 0x1B6 else s
    let usePf := match ck with
      | some b => held && tagOk && bodyRecno pf == bodyRecno b && decide (bodyEnd b < bodyEnd pf)
      | none => false
    let erase (s : State) : State :=
      { s with mram := s.mram.filter (fun c => decide (c.1 < base + 0x2000) || decide (base + 0x3000 ≤ c.1)) }
    let next := if ck.isSome && ck == s.ckRead 0 then 1 else 0
    let ends (s : State) : State := ((s.wr mtrB Mtr.MTR_STAT.RSTBUSY 0).modMtr (fun x => { x with cause := 1, slot := next })).syncCounting
    match ck with
    | some b =>
      let c := if usePf then pf else b
      if s.nowSec < ofLe ((c.drop 32).take 8) then s.mtrRej.mtrOff
      else ends (erase (if usePf then s.mtrFrom pf 0x11 2 else s.mtrFrom b 0x21 s.mtr.cause))
    | none =>
      let blank := s.mram.all (fun c => decide (c.1 < base) || decide (base + 0x4000 + s.ringN * 0x1000 ≤ c.1))
      let zero (s : State) : State := s.modMtr (fun x => { x with imp := 0, exp := 0, recno := 0, prev := 0 })
      if blank then
        let s := zero s
        ends (s.modMtr (fun x => { x with span := s.spanNow 0 }))
      else if s.mtr.fresh then
        let s := (zero s).mtrGap 0 s.nowSec s.nowNs s.nowSec s.nowNs 4
        ends (erase (s.modMtr (fun x => { x with span := s.spanNow 1 })))
      else ((s.wr mtrB Mtr.MTR_STAT.NOCKPT 1).fire 0x1B5).mtrOff

/-- IMPORT_LOW_READ (R448): the low word of IMPORT or EXPORT latches the high one. -/
def mtrLowRead (s : State) (m : Nat) (exp : Bool) : State :=
  if !s.part.m then s
  else
    let v := mtrReg (if exp then s.mtr.exp else s.mtr.imp)
    let f := if exp then Mtr.EXPORT.E else Mtr.IMPORT.E
    (s.wr mtrB (f.at 1) (v / 2 ^ 32)).answer m (mtrB + f.off) (BitVec.ofNat 32 v)

end State

/-! ## The commands -/

/-- METER_POINT (R431). -/
def execMeterPoint (samples : List MSample) (s : State) : Ans := .next (s.mtrPoint samples)
/-- METER_INTERVAL_CLOSE (R433). -/
def execMeterIntervalClose (s : State) : Ans := .next (if s.counting then s.mtrClose 0 s.nowSec s.nowNs 0 else s)
/-- SIGNING_DONE (R435, R436). -/
def execSigningDone (ok1 ok2 mramErr : Bool) (s : State) : Ans := .next (s.signed ok1 ok2 mramErr)
/-- METER_CHECKPOINT (R437): a whole second. -/
def execMeterCheckpoint (s : State) : Ans := .next s.mtrSecond
/-- METER_ENABLE (R439). -/
def execMeterEnable (w : Wr) (fresh : Bool) (s : State) : Ans := .next ((s.mtrEnable fresh).retire w mtrB)
/-- METER_RESTORE_DONE (R439). -/
def execMeterRestoreDone (s : State) : Ans := .next s.mtrRestored
/-- METER_DISABLE (R437). -/
def execMeterDisable (w : Wr) (s : State) : Ans := .next (s.mtrDisable.retire w mtrB)
/-- IMPORT_LOW_READ (R448). -/
def execImportLowRead (m : Nat) (exp : Bool) (s : State) : Ans := .next (s.mtrLowRead m exp)

end Sys2Proof.Machine
end

