-- ==== Sys2Proof/Machine/RegRead.lean ====
section
/-!
DEFINITION. The register blocks by address (R22), the fields of a register word, and what a read of a word returns without
its side effects (R12).
-/
namespace Sys2Proof.Machine

/-- The copy of a field that lies in the word at offset `off` of its block. -/
def Fld.inWord (f : Fld) (off : Nat) : Option Fld :=
  if f.off ≤ off ∧ (off - f.off) % f.stp = 0 ∧ (off - f.off) / f.stp < f.cnt then some (f.at ((off - f.off) / f.stp)) else none

/-- The register block an offset of a K-die's block `j` falls into: base within the block and fields (R274, R275, R307,
R308, R199 to R203, R174 to R176, R322, R346 to R348). -/
def kBlock (k j o : Nat) : Option (Nat × List Fld) :=
  match j with
  | 0 => some (0, Sch.fields)
  | 1 => some (0, Mbx.fields)
  | 2 => if 0x100 ≤ o ∧ o < 0x500 then some (0x100 + (o - 0x100) / 0x40 * 0x40, Dch.fields) else some (0, Dma.fields)
  | 3 =>
    if 0x100 ≤ o ∧ o < 0x280 then some (0x100 + (o - 0x100) / 0x40 * 0x40, Lch.fields)
    else if 0x2000 ≤ o ∧ o < 0x5000 then some (0x2000 + (o - 0x2000) / 8 * 8, Lsec.fields)
    else some (0, Law.fields ++ Lmap.fields ++ Larr.fields)
  | 4 =>
    if 0x1000 ≤ o ∧ o < 0x1600 then some (o / 0x100 * 0x100, Arm.fields)
    else if 0x4000 ≤ o ∧ o < 0x10000 then some (o / 8 * 8, Ct.fields)
    else some (0, Mod.fields)
  | 5 => some (0, Acq.fields)
  | 6 =>
    if k ≠ 0 then none
    else if 0x1000 ≤ o ∧ o < 0x1400 then some (o / 0x100 * 0x100, Port.fields)
    else if 0x2000 ≤ o ∧ o < 0x2200 then some (o / 0x20 * 0x20, Sv.fields.filter (fun f => decide (f.off < 0x20)))
    else some (0, Eth.fields ++ Sv.fields.filter (fun f => decide (0x20 ≤ f.off)))
  | _ => none

/-- The register block at an address: its base and its fields. -/
def regBlock (a : Nat) : Option (Nat × List Fld) :=
  let off (b : Nat) (r : Option (Nat × List Fld)) : Option (Nat × List Fld) := r.map (fun e => (b + e.1, e.2))
  if a < 0x20000000 then none
  else if a < 0x20010000 then some (fcB, Fc.fields)
  else if a < 0x20020000 then some (safB, Saf.fields)
  else if a < 0x20030000 then some (pairB, Pair.fields)
  else if a < 0x20040000 then some (almB, Alm.fields)
  else if a < 0x20046000 then some (secB, Secu.fields)
  else if a < 0x20047000 then (if a < 0x20046200 then some (a / 0x10 * 0x10, Cc.fields) else none)
  else if a < 0x20048000 then some (fzB, Fz.fields)
  else if a < 0x20050000 then some (a / 0x10 * 0x10, Win.fields)
  else if a < 0x20060000 then some (mtrB, Mtr.fields)
  else if a < 0x20070000 then some (capsB, Caps.fields ++ Fab.fields)
  else if a < 0x20080000 then some (pwrB, Pwr.fields ++ Cyc.fields)
  else if a < 0x20090000 then some (bistB, Bist.fields)
  else if a < 0x30000000 then none
  else if a < 0x32000000 then
    let k := (a - 0x30000000) / 0x1000000
    off (a / 0x10000 * 0x10000) (kBlock k (a / 0x10000 % 0x100) (a % 0x10000))
  else if a < 0x40000000 then none
  else if a < 0x44000000 then
    let o := a % 0x1000000
    if o < 0x10000 then some (a / 0x1000 * 0x1000, Lane.fields)
    else if 0x100000 ≤ o ∧ o < 0x160000 then some (a / 0x100 * 0x100, Ctx.fields)
    else none
  else if a < 0x50000000 then none
  else if a < 0x50200000 then
    let b := a / 0x100000 * 0x100000
    let o := a % 0x100000
    if 0x100 ≤ o ∧ o < 0x280 then some (b + o / 0x10 * 0x10, Seq.fields)
    else if 0x400 ≤ o ∧ o < 0x1000 then some (b + o / 0x80 * 0x80, Sle.fields)
    else some (b, Ad.fields ++ Ares.fields)
  else none

/-- The fields of the word at an address, each with the base it counts from. -/
def regFields (a : Nat) : List (Nat × Fld) :=
  match regBlock a with
  | some (b, fs) => fs.filterMap (fun f => (f.inWord (a - b)).map (fun g => (b, g)))
  | none => []

namespace State

/-- Word `i` of a list of bytes, zero beyond its end. -/
def wordOf (l : List Byte) (i : Nat) : Nat := ofLe ((l.drop (4 * i)).take 4)

/-- The words of the metering block that are computed (R448): the energies, RECNO, the last body and its signature, and the
public key. -/
def mtrWord (s : State) (o : Nat) : Option Nat :=
  if o = 0x100 then some (mtrReg s.mtr.imp % 2 ^ 32)
  else if o = 0x108 then some (mtrReg s.mtr.exp % 2 ^ 32)
  else if o = 0x110 then some (s.mtr.recno % 2 ^ 32)
  else if o = 0x114 then some (s.mtr.recno / 2 ^ 32 % 2 ^ 32)
  else if 0x1000 ≤ o ∧ o < 0x1100 then some (wordOf s.mtr.lastBody ((o - 0x1000) / 4))
  else if 0x1400 ≤ o ∧ o < 0x20F0 then some (wordOf s.mtr.lastSig ((o - 0x1400) / 4))
  else if 0x2400 ≤ o ∧ o < 0x2BA0 then some (Config.mpk ((o - 0x2400) / 4)).toNat
  else none

/-- The words of the security block that are computed (R449): the identity key, the attestation body and its signature. -/
def secWord (s : State) (o : Nat) : Option Nat :=
  if 0x1000 ≤ o ∧ o < 0x17A0 then some (Config.idpk ((o - 0x1000) / 4)).toNat
  else if 0x3000 ≤ o ∧ o < 0x3200 then some (wordOf s.sec.attBody ((o - 0x3000) / 4))
  else if 0x3400 ≤ o ∧ o < 0x40F0 then some (wordOf s.sec.attSig ((o - 0x3400) / 4))
  else none

/-- The DEG timer in seconds (R383). -/
def degSec (s : State) : Nat :=
  match s.saf.degAt with
  | some t => min 65535 ((s.clk.pt - t) / 65536000000000)
  | none => s.rd safB Saf.DEG_T.SEC

/-- Source `n` is one that can fire on the part (R351). -/
def srcOnPart (s : State) (n : Nat) : Bool :=
  (srcInfo n).isSome &&
  (if 0x020 ≤ n ∧ n < 0x024 then s.part.q
   else if 0x024 ≤ n ∧ n < 0x028 then s.part.q && s.hasK 1
   else if 0x080 ≤ n ∧ n < 0x0C0 then s.hasK 1
   else if 0x0C0 ≤ n ∧ n < 0x140 then s.hasL ((n - 0x0C0) / 0x20)
   else if 0x140 ≤ n ∧ n < 0x160 then s.hasA ((n - 0x140) / 0x10)
   else if 0x1B0 ≤ n ∧ n < 0x1B8 then s.part.m
   else if 0x1E0 ≤ n ∧ n < 0x200 then s.hasL ((n - 0x1E0) / 8)
   else true)

/-- Words that read zero because what they belong to is not on the part or not in use (R232, R275, R293, R371, R413). -/
def zeroWord (s : State) (a : Nat) : Bool :=
  (decide (0x20046100 ≤ a ∧ a < 0x20046200) && !s.hasK 1) ||
  (decide (fcB + 0x1000 ≤ a ∧ a < fcB + 0x2000) && !s.srcOnPart (a % 0x800 / 4)) ||
  (decide (pairB + 0x800 ≤ a ∧ a < pairB + 0x900) && !s.hasL ((a - pairB - 0x800) / 64)) ||
  (List.range 2).any (fun k => decide (mbxB k + 0x800 ≤ a ∧ a < mbxB k + 0x900) && (a / 16 % 2 == 1) &&
    s.paired (16 * k + (a - mbxB k - 0x800) / 16))

/-- The word of FS_CFG of source `n` (R371). -/
def fsWord (s : State) (n : Nat) : Nat :=
  (Fc.fields.filter (fun f => f.off == 0x1000)).foldl (fun w f => w + s.rd fcB (fsCfg f n) * 2 ^ f.lsb) 0

/-- Words that are computed rather than held: the current time (R346), the always-on count (R454), the tick count (R322), the
record at the Almanac's cursor (R428), the DEG timer (R392), FS_CFG with the reset value of its source (R371), and those of
the metering and security blocks. -/
def liveWord (s : State) (a : Nat) : Option Nat :=
  if s.zeroWord a then some 0
  else if a = ethB then some s.nowNs
  else if a = pwrB + 0x10 then some ((s.pwr.aoNs + s.clk.el) / 1000000000 % 2 ^ 32)
  else if a = acqB 0 + 0x50 ∨ a = acqB 1 + 0x50 then some (s.tick % 2 ^ 32)
  else if almB + 0x100 ≤ a ∧ a < almB + 0x200 then
    some ((s.almRec (s.rd almB Alm.ALM_CUR.REC)).bin ((a - almB - 0x100) / 4))
  else if almB + 0x200 ≤ a ∧ a < almB + 0x220 then
    some ((s.almRec (s.rd almB Alm.ALM_CUR.REC)).extWords.getD ((a - almB - 0x200) / 4) 0)
  else if a = safB + 0x24 then some s.degSec
  else if fcB + 0x1000 ≤ a ∧ a < fcB + 0x1800 then some (s.fsWord ((a - fcB - 0x1000) / 4))
  else if mtrB ≤ a ∧ a < mtrB + 0x10000 then s.mtrWord (a - mtrB)
  else if secB ≤ a ∧ a < secB + 0x6000 then s.secWord (a - secB)
  else none

/-- CH_STAT.OLD of mailbox channel `c` (R271): the word was put in an earlier life of its sender. -/
def chOld (s : State) (k c : Nat) : Bool :=
  let b := mbxB k
  let m := s.rd b (Mbx.CH_STAT.SMID.at c)
  s.on b (Mbx.CH_STAT.FULL.at c) && decide (m < 32) &&
    s.rd b (Mbx.CH_STAT.SEPOCH.at c) != s.rd (coreB m) Cc.CORE_STAT.EPOCH

/-- The word at a channel's CH_STAT: its channel (R275). -/
def chStatAt (a : Nat) : Option (Nat × Nat) :=
  let k := (a - 0x30000000) / 0x1000000
  let o := a - mbxB k
  if 0x30000000 ≤ a ∧ k < 2 ∧ mbxB k + 0x104 ≤ a ∧ o < 0x500 ∧ (o - 0x104) % 0x10 = 0 then some (k, (o - 0x104) / 0x10) else none

/-- What a read of the register word at an address returns (R12): write-only fields and reserved bits read zero. -/
def regWord (s : State) (a : Nat) : Word :=
  match s.liveWord a with
  | some v => BitVec.ofNat 32 v
  | none =>
    let w := (regFields a).foldl (fun w e => if e.2.acc = .wo then w else w + s.rd e.1 e.2 * 2 ^ e.2.lsb) 0
    BitVec.ofNat 32 (match chStatAt a with
      | some (k, c) => putBit w 1 (s.chOld k c)
      | none => w)

/-- What master `mid` staged last for an address (R34) (DEDUCED, log 19). -/
def stagedWord (s : State) (mid a : Nat) : Option Word :=
  match (s.fab.staged.filter (fun x => x.mid == mid && x.addr == a)).getLast? with
  | some x => some x.val
  | none => none

/-- The datum of a register read: what a read with a side effect has left for this master (R30), its latest staged value
(R34), else the word. -/
def takeRead (s : State) (mid a : Nat) : Word × State :=
  match s.fab.reads.find? (fun e => e.1 == mid && e.2.1 == a) with
  | some e => (e.2.2, { s with fab := { s.fab with reads := s.fab.reads.erase e } })
  | none => ((s.stagedWord mid a).getD (s.regWord a), s)

/-- A read of `n` bytes by a master that is not a core, window already checked: RAM, register words, zero elsewhere. -/
def masterRead (s : State) (mid a n : Nat) : Nat × State :=
  match s.locate none a with
  | .reg =>
    if a % 4 ≠ 0 ∨ n % 4 ≠ 0 then let (w, s) := s.freeWord; (w.toNat, s)
    else (List.range (n / 4)).foldl (fun (r : Nat × State) i =>
      let (w, s) := r.2.takeRead mid (a + 4 * i)
      (r.1 + w.toNat * 2 ^ (32 * i), s)) (0, s)
  | .pcie => let (w, s) := s.freeWord; (w.toNat % 2 ^ (8 * n), s)
  | l => (s.portRead a n, s.xipNote l)

end State

end Sys2Proof.Machine
end

