-- ==== Sys2Proof/Machine/Dma.lean ====
section
/-!
DEFINITION. The DMA engines (R299 to R311): descriptors, transfers, channel states, and the commands.
-/
namespace Sys2Proof.Machine

/-- The eight words of a descriptor (R300). -/
structure Desc where
  ctl : Nat
  src : Nat
  dst : Nat
  len : Nat
  idx : Nat
  wlen : Nat
  lnk : Nat
  last : Nat
deriving DecidableEq, Repr

namespace Desc

def index (d : Desc) : Bool := d.ctl.testBit 0
def esize (d : Desc) : Nat := bits d.ctl 14 8
/-- Bytes written by the descriptor. -/
def bytes (d : Desc) : Nat := if d.index then d.len * d.esize else d.len

/-- Check 1 of R300. -/
def shaped (d : Desc) : Bool :=
  d.ctl.testBit 31 && bits d.ctl 7 2 == 0 && bits d.ctl 30 15 == 0 && bits d.len 31 24 == 0 && bits d.lnk 4 1 == 0 &&
  d.last == 0 && d.len != 0 &&
  (if d.index then decide (1 ≤ d.esize) && decide (d.esize ≤ 64) && d.wlen != 0 && d.idx % 4 == 0
   else d.esize == 0 && d.wlen == 0 && d.idx == 0)

/-- A range meets the register ranges. -/
def inRegs (b n : Nat) : Bool := decide (b < 0x60000000) && decide (0x20000000 < b + n)

/-- Check 2 of R300: what touches the register ranges is made of words. -/
def aligned (d : Desc) : Bool :=
  if d.index then
    !(inRegs d.src d.wlen || inRegs d.dst d.bytes || inRegs d.idx (4 * d.len)) ||
      (d.src % 4 == 0 && d.dst % 4 == 0 && d.esize % 4 == 0)
  else !(inRegs d.src d.len || inRegs d.dst d.len) || (d.src % 4 == 0 && d.dst % 4 == 0 && d.len % 4 == 0)

def meets (a n b m : Nat) : Bool := decide (a < b + m) && decide (b < a + n)

/-- Check 3 of R300: the ranges overlap. -/
def overlaps (d : Desc) : Bool :=
  if d.index then meets d.dst d.bytes d.src d.wlen || meets d.dst d.bytes d.idx (4 * d.len)
  else meets d.src d.len d.dst d.len

end Desc

namespace State

/-- MID of a channel (R24). -/
def dmaMid (k c : Nat) : Nat := 0x20 + 16 * k + c
def dchEvt (s : State) (k c i : Nat) : State := s.raiseBit (dchB k c) Dch.CH_EVT.EVT Dch.CH_EVTEN.EN i (some k) (0x10 + c)
def dState (s : State) (k c : Nat) : Nat := s.rd (dchB k c) Dch.CH_STAT.STATE
/-- A channel runs in every state except IDLE and ERROR (R303). -/
def dRuns (s : State) (k c : Nat) : Bool := s.dState k c != 0 && s.dState k c != 6

/-- Set the state of a channel; DMA_ACT follows. -/
def dSet (s : State) (k c st : Nat) : State :=
  let s := s.wr (dchB k c) Dch.CH_STAT.STATE st
  s.wr (dmaB k) Dma.DMA_ACT.RUN (putBit (s.rd (dmaB k) Dma.DMA_ACT.RUN) c (st != 0 && st != 6))

/-- The channel stops in ERROR (R303) with flag `f` and fault source `src`. -/
def dError (s : State) (k c : Nat) (f : Fld) (src : Nat) : State :=
  (((s.wr (dchB k c) f 1).dSet k c 6).dchEvt k c 2).fireK k src

/-- The channel is frozen (R222, R304, R306): it stops as if paused, with FRZ set. -/
def dFreeze (s : State) (k c addr cause : Nat) (wr : Bool) : State :=
  let s := (s.modDma k c (fun x => { x with left := s.dState k c })).dSet k c 5
  ((s.wr (dchB k c) Dch.CH_STAT.FRZ 1).dchEvt k c 3).freeze (masterRec (dmaMid k c) addr cause wr)

/-- An access met an absent unit (R306). -/
def dAbsent (s : State) (k c : Nat) : State := (s.wr (dchB k c) Dch.CH_STAT.ABSENT 1).fireK k 0x079

/-- What a read of `n` bytes gives a channel: none if its window forbids it. -/
def dRead (s : State) (k c a n : Nat) : Option Nat × State :=
  let mid := dmaMid k c
  match s.portCheck mid a n false with
  | .freeze cause => (none, s.dFreeze k c a cause false)
  | .absent => (some 0, (s.absentEvt mid a false false).dAbsent k c)
  | .off => (some 0, s.offEvt mid a false)
  | .go => let (v, s) := s.masterRead mid a n; (some v, s)

/-- A write of `n` bytes whose window has been checked. -/
def dWrite (s : State) (k c a n v : Nat) : State :=
  let mid := dmaMid k c
  match s.portCheck mid a n true with
  | .absent => (s.absentEvt mid a true false).dAbsent k c
  | _ => s.masterWrite mid a n v

/-! ## Descriptors and links -/

/-- D_LINK of the descriptor at CH_DESC is read (R303): its window may forbid it (DEDUCED, log 34). -/
def dLinkRead (s : State) (k c : Nat) : State :=
  let a := s.rd (dchB k c) Dch.CH_DESC.DESC + 0x18
  let r := s.dRead k c a 4
  match r.1 with
  | some v => r.2.modDma k c (fun x => { x with link := some (BitVec.ofNat 32 v) })
  | none => r.2.modDma k c (fun x => { x with link := none })

/-- Pause a running channel (R303, R304). -/
def dPause (s : State) (k c : Nat) : State :=
  if s.dRuns k c && s.dState k c != 5 then
    ((s.modDma k c (fun x => { x with left := s.dState k c })).dSet k c 5).dchEvt k c 3
  else s

/-- A descriptor at `a` is to be loaded. -/
def dAim (s : State) (k c a : Nat) : State :=
  ((s.wr (dchB k c) Dch.CH_DESC.DESC a).modDma k c (fun x => { x with load := true, link := none })).dSet k c 1

/-- DMA_START (R303): in IDLE and ERROR. -/
def dStart (s : State) (k c : Nat) : State :=
  let b := dchB k c
  if s.dRuns k c then s
  else
    let s := [Dch.CH_STAT.RECHECK, Dch.CH_STAT.BADDESC, Dch.CH_STAT.OVERLAP, Dch.CH_STAT.IDXRANGE, Dch.CH_STAT.MEMUE,
      Dch.CH_STAT.ABSENT, Dch.CH_STAT.TMO, Dch.CH_CNT.DONE].foldl (fun (s : State) (f : Fld) => s.wr b f 0) s
    let s := s.dAim k c (s.rd b Dch.CH_HEAD.HEAD * 32)
    if s.on b Dch.CH_CTL.PAUSE then s.dPause k c else s

/-- PAUSE = 0 (R303): the channel goes on from the state it left; an append that IDLE_TAIL missed is served
(DEDUCED, log 34). -/
def dResume (s : State) (k c : Nat) : State :=
  let b := dchB k c
  if s.dState k c != 5 || s.on b Dch.CH_STAT.FRZ then s
  else
    let x := s.dma k c
    if x.left = 4 ∧ s.on b Dch.CH_STAT.RECHECK then ((s.wr b Dch.CH_STAT.RECHECK 0).dSet k c 3).dLinkRead k c
    else if x.left = 3 ∧ x.link.isNone then (s.dSet k c 3).dLinkRead k c
    else s.dSet k c x.left

/-- ABORT (R303): the chain is abandoned. -/
def dAbort (s : State) (k c : Nat) : State :=
  if s.dRuns k c then (s.modDma k c (fun _ => DmaCh.reset)).dSet k c 0 else s

/-- APPEND (R303, R305) (DEDUCED, log 34). -/
def dAppend (s : State) (k c : Nat) : State :=
  match s.dState k c with
  | 4 => (s.dSet k c 3).dLinkRead k c
  | 1 | 2 | 3 | 5 => s.wr (dchB k c) Dch.CH_STAT.RECHECK 1
  | _ => s

/-- The loaded descriptor as its eight words tell it. -/
def descOf (v : Nat) : Desc :=
  let w (i : Nat) : Nat := v / 2 ^ (32 * i) % 2 ^ 32
  ⟨w 0, w 1, w 2, w 3, w 4, w 5, w 6, w 7⟩

/-- The eight words of a descriptor are checked and taken (R300, R302). -/
def dTakeDesc (s : State) (k c v : Nat) : State :=
  let b := dchB k c
  let d := descOf v
  if !d.shaped || !d.aligned then s.dError k c Dch.CH_STAT.BADDESC 0x078
  else if d.overlaps then s.dError k c Dch.CH_STAT.OVERLAP 0x078
  else
    let s := ((s.wr b Dch.CH_SRC.SRC d.src).wr b Dch.CH_DST.DST d.dst).wr b Dch.CH_REMAIN.REMAIN d.len
    (s.wr b Dch.CH_IDXP.IDXP d.idx).modDma k c (fun x =>
      { x with load := false, index := d.index, ie := d.ctl.testBit 1, esize := d.esize, wb := d.src, wlen := d.wlen })

/-- DMA_DESC_LOADED (R300): the descriptor is read through the channel's windows and checked. -/
def dLoaded (s : State) (k c : Nat) : State :=
  if !(s.dState k c == 1 && (s.dma k c).load) then s
  else
    let r := s.dRead k c (s.rd (dchB k c) Dch.CH_DESC.DESC) 32
    match r.1 with
    | none => r.2
    | some v => r.2.dTakeDesc k c v

/-! ## Transfers (R301, R303) -/

/-- Bytes of the next burst of a linear descriptor: words in the register ranges, else up to a 64-byte line
(DEDUCED, log 34). -/
def dChunk (src dst n : Nat) : Nat :=
  if Desc.inRegs src 1 || Desc.inRegs dst 1 then min n 4 else min n (min (64 - src % 64) (64 - dst % 64))

/-- The last read of the descriptor has been issued: the channel drains. -/
def dAfter (s : State) (k c : Nat) : State :=
  if s.rd (dchB k c) Dch.CH_REMAIN.REMAIN = 0 then s.dSet k c 2 else s

/-- Copy `n` bytes: what the read gives is written, word by word in the register ranges (R210). Nothing is written where a
window forbids either access (DEDUCED, log 34). -/
def dCopy (s : State) (k c src dst n : Nat) : Bool × State :=
  match s.portCheck (dmaMid k c) dst n true with
  | .freeze cause => (false, s.dFreeze k c dst cause true)
  | _ =>
    let r := s.dRead k c src n
    match r.1 with
    | none => (false, r.2)
    | some v => (true, r.2.dWrite k c dst n v)

/-- Copy an element of `n` bytes in steps the address ranges allow. -/
def dCopyAll (s : State) (k c src dst n : Nat) : Nat → Bool × State
  | 0 => (true, s)
  | fuel + 1 =>
    if n = 0 then (true, s)
    else
      let m := dChunk src dst n
      let r := s.dCopy k c src dst m
      if r.1 then r.2.dCopyAll k c (src + m) (dst + m) (n - m) fuel else r

/-- DMA_READ_RETURN of a linear descriptor. -/
def dLinear (s : State) (k c : Nat) : State :=
  let b := dchB k c
  let src := s.rd b Dch.CH_SRC.SRC
  let dst := s.rd b Dch.CH_DST.DST
  let rem := s.rd b Dch.CH_REMAIN.REMAIN
  let n := dChunk src dst rem
  let r := s.dCopy k c src dst n
  if !r.1 then r.2
  else (((r.2.wr b Dch.CH_SRC.SRC (src + n)).wr b Dch.CH_DST.DST (dst + n)).wr b Dch.CH_REMAIN.REMAIN (rem - n)).dAfter k c

/-- One element of an index descriptor, at the offset `o` that was read. -/
def dElement (s : State) (k c o : Nat) : State :=
  let b := dchB k c
  let x := s.dma k c
  let off := toSigned o 32
  if off < 0 ∨ (x.wlen : Int) < off + x.esize then s.dError k c Dch.CH_STAT.IDXRANGE 0x078
  else
    let src := x.wb + off.toNat
    let dst := s.rd b Dch.CH_DST.DST
    let r := s.dCopyAll k c src dst x.esize 64
    if !r.1 then r.2
    else
      let s := r.2
      let s := ((s.wr b Dch.CH_SRC.SRC (src + x.esize)).wr b Dch.CH_DST.DST (dst + x.esize)).wr b Dch.CH_IDXP.IDXP
        (s.rd b Dch.CH_IDXP.IDXP + 4)
      (s.wr b Dch.CH_REMAIN.REMAIN (s.rd b Dch.CH_REMAIN.REMAIN - 1)).dAfter k c

/-- DMA_READ_RETURN of an index descriptor: one element. -/
def dIndex (s : State) (k c : Nat) : State :=
  let r := s.dRead k c (s.rd (dchB k c) Dch.CH_IDXP.IDXP) 4
  match r.1 with
  | none => r.2
  | some o => r.2.dElement k c o

/-- DMA_READ_RETURN (R301, R303, R306). -/
def dReturn (s : State) (k c : Nat) (ue : Bool) : State :=
  if !(s.dState k c == 1 && !(s.dma k c).load) then s
  else if ue then s.dError k c Dch.CH_STAT.MEMUE 0x07A
  else if (s.dma k c).index then s.dIndex k c
  else s.dLinear k c

/-- DMA_DRAIN_DONE (R303): every write response has returned. -/
def dDrained (s : State) (k c : Nat) : State :=
  if s.dState k c != 2 || s.unanswered (dmaMid k c) then s
  else
    let s := s.inc (dchB k c) Dch.CH_CNT.DONE
    let s := if (s.dma k c).ie then s.dchEvt k c 0 else s
    (s.dSet k c 3).dLinkRead k c

/-- DMA_LINK_RETURN (R303, R305): the link word that was read. -/
def dLink (s : State) (k c : Nat) : State :=
  let b := dchB k c
  if s.dState k c != 3 then s
  else match (s.dma k c).link with
  | none => s
  | some w =>
    if !w.getLsbD 0 then s.dAim k c (w.toNat / 32 * 32)
    else if s.on b Dch.CH_STAT.RECHECK then (s.wr b Dch.CH_STAT.RECHECK 0).dLinkRead k c
    else ((s.modDma k c (fun x => { x with link := none })).dSet k c 4).dchEvt k c 1

/-- DMA_RAM_ERROR (R310). -/
def dRamError (s : State) (k : Nat) (ue : Bool) (chs : List Nat) : State :=
  if ue then
    let s := (s.wr (dmaB k) Dma.DMA_STAT.RAMUE 1).fireK k 0x07C
    (chs.filter (fun c => decide (c < 16) && s.dRuns k c)).foldl (fun (s : State) c =>
      ((s.wr (dchB k c) Dch.CH_STAT.MEMUE 1).dSet k c 6).dchEvt k c 2) s
  else (s.wr (dmaB k) Dma.DMA_STAT.RAMCE 1).fireK k 0x07B

/-- A read of a channel has timed out and returns zero (R41): a descriptor, a link, an index, or the burst at CH_SRC. -/
def dZeroRead (s : State) (k c addr : Nat) : State :=
  let b := dchB k c
  if s.dState k c = 3 then s.modDma k c (fun x => { x with link := some 0 })
  else if s.dState k c ≠ 1 then s
  else if (s.dma k c).load then s.dTakeDesc k c 0
  else if (s.dma k c).index then (if addr = s.rd b Dch.CH_IDXP.IDXP then s.dElement k c 0 else s)
  else
    let src := s.rd b Dch.CH_SRC.SRC
    let dst := s.rd b Dch.CH_DST.DST
    let rem := s.rd b Dch.CH_REMAIN.REMAIN
    let n := dChunk src dst rem
    if addr ≠ src then s
    else
      let s := s.dWrite k c dst n 0
      (((s.wr b Dch.CH_SRC.SRC (src + n)).wr b Dch.CH_DST.DST (dst + n)).wr b Dch.CH_REMAIN.REMAIN (rem - n)).dAfter k c

/-- A transaction of a channel timed out (R41, R306). -/
def dTimeout (s : State) (mid : Nat) : State :=
  let k := (mid - 0x20) / 16
  (s.wr (dchB k ((mid - 0x20) % 16)) Dch.CH_STAT.TMO 1).fireK k 0x079

/-- Release of a frozen channel (R224, R304): RETRY goes on from the registers, RESET abandons the chain. -/
def dRelease (s : State) (mid : Nat) (reset : Bool) : State :=
  let k := (mid - 0x20) / 16
  let c := (mid - 0x20) % 16
  let s := s.wr (dchB k c) Dch.CH_STAT.FRZ 0
  if reset then (s.modDma k c (fun _ => DmaCh.reset)).dSet k c 0
  else if s.on (dchB k c) Dch.CH_CTL.PAUSE then s
  else s.dResume k c

/-- Do `f` on channel `c` of K-die `k` if the die is up. -/
def onDch (s : State) (k c : Nat) (f : State → State) : State := s.onK k (fun s => if c < 16 then f s else s)

end State

/-! ## The commands -/

/-- DMA_START. -/
def execDmaStart (w : Wr) (k ch : Nat) (s : State) : Ans := .next ((s.onDch k ch (fun s => s.dStart k ch)).retire w (dchB k ch))
/-- DMA_PAUSE (R303): PAUSE = 1. -/
def execDmaPause (w : Wr) (k ch : Nat) (s : State) : Ans :=
  .next ((s.onDch k ch (fun s => (s.wr (dchB k ch) Dch.CH_CTL.PAUSE 1).dPause k ch)).retire w (dchB k ch))
/-- DMA_RESUME (R303): PAUSE = 0. -/
def execDmaResume (w : Wr) (k ch : Nat) (s : State) : Ans :=
  .next ((s.onDch k ch (fun s => (s.wr (dchB k ch) Dch.CH_CTL.PAUSE 0).dResume k ch)).retire w (dchB k ch))
/-- DMA_ABORT. -/
def execDmaAbort (w : Wr) (k ch : Nat) (s : State) : Ans := .next ((s.onDch k ch (fun s => s.dAbort k ch)).retire w (dchB k ch))
/-- DMA_APPEND. -/
def execDmaAppend (w : Wr) (k ch : Nat) (s : State) : Ans := .next ((s.onDch k ch (fun s => s.dAppend k ch)).retire w (dchB k ch))
/-- DMA_DESC_LOADED. -/
def execDmaDescLoaded (k ch : Nat) (s : State) : Ans := .next (s.onDch k ch (fun s => s.dLoaded k ch))
/-- DMA_READ_RETURN. -/
def execDmaReadReturn (k ch : Nat) (ue : Bool) (s : State) : Ans := .next (s.onDch k ch (fun s => s.dReturn k ch ue))
/-- DMA_DRAIN_DONE. -/
def execDmaDrainDone (k ch : Nat) (s : State) : Ans := .next (s.onDch k ch (fun s => s.dDrained k ch))
/-- DMA_LINK_RETURN. -/
def execDmaLinkReturn (k ch : Nat) (s : State) : Ans := .next (s.onDch k ch (fun s => s.dLink k ch))
/-- DMA_RAM_ERROR. -/
def execDmaRamError (k : Nat) (ue : Bool) (chs : List Nat) (s : State) : Ans := .next (s.onK k (fun s => s.dRamError k ue chs))

end Sys2Proof.Machine
end

