-- ==== Sys2Proof/Machine/Ethernet.lean ====
section
/-!
DEFINITION. Package time and the Vernier servo, the synchronising pins, the Ethernet ports and the sampled-value subscriber
(R328 to R350), and their commands.
-/
namespace Sys2Proof.Machine

namespace State

def modEth (s : State) (f : EthSt → EthSt) : State := { s with eth := f s.eth }

/-! ## Package time (R328, R329) -/

/-- A step of package time to `t` (2^-16 ns): the grid is counted from the new second (R44); an instant from which a time is
counted moves with it. -/
def timeStep (s : State) (t : Nat) : State :=
  let grid := 1250 * 65536
  let mv (x : Nat) : Nat := ((x : Int) + ((t : Int) - s.clk.pt)).toNat
  { s with
    clk := { s.clk with pt := t, bn := t / grid * grid, b0 := s.clk.b0.map (fun e => (mv e.1, e.2)),
                        prev := s.clk.prev.map (fun e => (mv e.1, e.2)) }
    cores := s.cores.map (fun e => (e.1, { e.2 with cycResp := mv e.2.cycResp }))
    ads := s.ads.map (fun e => (e.1, { e.2 with enAt := e.2.enAt.map (fun x => (x.1, x.2.1, mv x.2.2))
                                                urg := e.2.urg.map (fun x => (x.1, { x.2 with at_ := mv x.2.at_ })) }))
    eth := { s.eth with prpSeen := s.eth.prpSeen.map (fun x => (x.1, x.2.1, mv x.2.2)), soHigh := s.eth.soHigh.map mv }
    saf := { s.saf with degAt := s.saf.degAt.map mv } }

/-- A bit of VN_EVT becomes set (R349). -/
def vnEvt (s : State) (i : Nat) : State := s.raiseBit ethB Eth.VN_EVT.EVT Eth.VN_EVTEN.EN i (some 0) 0x94

/-- TIME_CMD (R329): the step is accepted only while the cycle timer is stopped. -/
def timeCmd (s : State) (set adj : Bool) : State :=
  if s.running then ((s.wr ethB Eth.TIME_STAT.STEP_REJ 1).vnEvt 4).fire 0x166
  else
    let sec := s.rd ethB Eth.SET_SEC.SEC + s.rd ethB (Eth.SET_SEC.SEC.at 1) * 2 ^ 32
    let t := if set then (sec * 1000000000 + s.rd ethB Eth.SET_NS.NS) * 65536 else s.clk.pt
    let d := if adj then toSigned (s.rd ethB Eth.ADJ_NS.ADJ) 32 * 65536 else 0
    s.timeStep ((t : Int) + d).toNat

/-- TIME_NS_READ (R346): a read of NS latches SEC and FRAC. -/
def timeRead (s : State) (m : Nat) : State :=
  let s := ((s.wr ethB Eth.TIME_SEC.SEC s.nowSec).wr ethB (Eth.TIME_SEC.SEC.at 1) (s.nowSec / 2 ^ 32)).wr ethB
    Eth.TIME_FRAC.FRAC s.nowFrac
  s.answer m ethB (BitVec.ofNat 32 s.nowNs)

/-! ## The Vernier servo (R339, R340) -/

def vnState (s : State) : Nat := s.rd ethB Eth.VN_STAT.STATE
def vnGo (s : State) (st : Nat) : State := s.wr ethB Eth.VN_STAT.STATE st

/-- The frequency in force, in 2^-15 ppb; VN_FREQ shows it in 2^-16 ppb. -/
def vnFreq (s : State) (f : Int) : State := (s.modEth (fun e => { e with vnF := f })).wr ethB Eth.VN_FREQ.F (ofSigned (2 * f) 32)

/-- SLEWMAX in 2^-15 ppb: 0 acts as 1, above 1,000 acts as 1,000. -/
def vnSlew (s : State) : Int := (min 1000 (max 1 (s.rd ethB Eth.VN_LIM.SLEWMAX)) : Nat) * 32768

/-- The servo's update on an offset in ns (R339). -/
def vnUpdate (s : State) (e : Int) : State :=
  let m := s.vnSlew
  let i := clampI (-m) m (s.eth.vnI + s.rd ethB Eth.VN_GAIN.KI * e)
  let f := clampI (-m) m (s.rd ethB Eth.VN_GAIN.KP * e + i)
  (s.modEth (fun x => { x with vnI := i })).vnFreq f

/-- A primary sample is used: the Almanac observes it (R416). -/
def vnUse (s : State) (e : Int) : State := (s.vnUpdate e).almObs 7 0 e 0

/-- A primary sample lies beyond PATHSTEP_TH: it is counted, and at PSN the path is checked (R340). -/
def vnBeyond (s : State) (path : Nat) : State :=
  let n := s.eth.vnSteps + 1
  let s := s.modEth (fun x => { x with vnSteps := n })
  if n < max 1 (s.rd ethB Eth.VN_PCFG.PSN) then s
  else
    let s := ((s.wr ethB Eth.PSLOG_OLD.PATH (s.rd ethB Eth.VN_PATHREF.PATH)).wr ethB Eth.PSLOG_NEW.PATH path).wr ethB
      Eth.PSLOG_SEC.SEC s.nowSec
    let s := (s.vnFreq s.eth.vnI).modEth (fun x => { x with vnSteps := 0, vnPrim := [], vnSec := [] })
    ((s.vnGo 3).vnEvt 1).fire 0x168

/-- The new path is accepted. -/
def vnAccept (s : State) (n : Nat) (paths : Nat) : State :=
  let (m, s) := s.divFree paths n
  let s := (s.wr ethB Eth.VN_PATHREF.PATH m.toNat).modEth (fun x => { x with vnPrim := [], vnSec := [], vnSteps := 0 })
  (s.vnGo 1).vnEvt 2

/-- CHECK looks at what it has collected (R340). -/
def vnCheck (s : State) : State :=
  let n := max 1 (s.rd ethB Eth.VN_PCFG.CHKN)
  let p := s.eth.vnPrim
  let q := s.eth.vnSec
  if p.length < n then s
  else
    let paths := (p.map (fun e => e.2)).foldl (fun a b => a + b) 0
    if s.rd ethB Eth.VN_CTL.SSRC = 0 then
      if p.all (fun e => decide ((((e.2 * n : Nat) : Int) - (paths : Nat)).natAbs * 4 ≤ s.rd ethB Eth.VN_PCFG.PATHSTEP_TH * n)) then
        s.vnAccept n paths
      else s.modEth (fun x => { x with vnPrim := [] })
    else if q.length < n then s
    else
      let d := (p.map (fun e => e.1)).foldl (fun a b => a + b) 0 - q.foldl (fun a b => a + b) 0
      if d.natAbs ≤ s.rd ethB Eth.VN_PCFG.PAIR_TOL * n then s.vnAccept n paths
      else (((s.modEth (fun x => { x with vnPrim := [], vnSec := [] })).vnGo 4).vnEvt 3).fire 0x169

/-- A primary sample: offset in ns, and its path unless it comes from SYNC_IN (R339, R340). -/
def vnPrimary (s : State) (e : Int) (path : Option Nat) : State :=
  if !s.on ethB Eth.VN_CTL.EN then s
  else
    let ref (s : State) : State := match path with
      | some p => s.wr ethB Eth.VN_PATHREF.PATH p
      | none => s
    let within : Bool := match path with
      | some p => decide (((p : Int) - (s.rd ethB Eth.VN_PATHREF.PATH : Nat)).natAbs ≤ s.rd ethB Eth.VN_PCFG.PATHSTEP_TH)
      | none => true
    match s.vnState with
    | 0 => ((ref (s.modEth (fun x => { x with vnI := 0, vnSteps := 0, vnRef := false }))).vnUse e).vnGo 1
    | 1 =>
      if s.eth.vnRef then (ref (s.modEth (fun x => { x with vnRef := false, vnSteps := 0 }))).vnUse e
      else if within then (s.modEth (fun x => { x with vnSteps := 0 })).vnUse e
      else s.vnBeyond (path.getD 0)
    | 2 =>
      if s.eth.vnRef then ((ref (s.modEth (fun x => { x with vnRef := false, vnSteps := 0 }))).vnUse e).vnGo 1
      else if within then ((s.modEth (fun x => { x with vnSteps := 0 })).vnUse e).vnGo 1
      else s.vnBeyond (path.getD 0)
    | 3 =>
      let n := max 1 (s.rd ethB Eth.VN_PCFG.CHKN)
      (s.modEth (fun x => if x.vnPrim.length < n then { x with vnPrim := x.vnPrim ++ [(e, path.getD 0)] } else x)).vnCheck
    | _ => s

/-- A secondary sample (R340): collected in CHECK, tracked in TRACK_S. -/
def vnSecondary (s : State) (e : Int) : State :=
  if !s.on ethB Eth.VN_CTL.EN then s
  else match s.vnState with
    | 3 =>
      let n := max 1 (s.rd ethB Eth.VN_PCFG.CHKN)
      (s.modEth (fun x => if x.vnSec.length < n then { x with vnSec := x.vnSec ++ [e] } else x)).vnCheck
    | 4 => s.vnUpdate e
    | _ => s

/-- SYNC_IN_CAPTURE (R343): `ts` is the package time of the edge at the ball. -/
def syncIn (s : State) (ts : Nat) (falling : Bool) : State :=
  if !s.on ethB Eth.SYNC_CTL.SIEN || s.on ethB Eth.SYNC_CTL.SIEDGE != falling then s
  else
    let t := ((ts : Int) - toSigned (s.rd ethB Eth.SI_DLY.DLY) 32 * 65536).toNat
    let ns := t / 65536 % 1000000000
    let s := (s.modEth (fun x => { x with siTs := t, siCnt := (x.siCnt + 1) % 65536 })).wr ethB Eth.SI_TS_NS.NS ns
    let s := s.evtK 0 0x95
    let e : Int := if 500000000 ≤ ns then (ns : Int) - 1000000000 else ns
    let s := if s.rd ethB Eth.VN_CTL.PSRC = 1 then s.vnPrimary e none else s
    if s.rd ethB Eth.VN_CTL.SSRC = 2 then s.vnSecondary e else s

/-! ## Ports (R330 to R338) -/

/-- MID of a port's DMA (R24). -/
def ethMid (e : Nat) : Nat := 0x60 + e
def portEvt (s : State) (e i : Nat) : State := s.raiseBit (portB e) Port.PORT_EVT.EVT Port.PORT_EVTEN.EN i (some 0) (0x90 + e)
def portOn (s : State) (e : Nat) : Bool := decide (e < 4) && s.on (portB e) Port.PORT_CTL.EN

/-- The number of a field of a frame: `n` bytes at `o`, first byte most significant. -/
def beAt (l : List Byte) (o n : Nat) : Nat := ((l.drop o).take n).foldl (fun a b => a * 256 + b.toNat) 0

/-- `n` bytes of a number, most significant first. -/
def beBytes (v n : Nat) : List Byte := (leBytes v n).reverse

/-- Where the Ethertype lies: after a single VLAN tag if there is one (R331). -/
def typeAt (l : List Byte) : Nat := if beAt l 12 2 = 0x8100 then 16 else 12
def etherType (l : List Byte) : Nat := beAt l (typeAt l) 2

/-- Replace the bytes of a list from `o` on. -/
def patch (l : List Byte) (o : Nat) (new : List Byte) : List Byte := l.take o ++ new ++ l.drop (o + new.length)

/-- The port accepts frames to this address (R330). -/
def macAccepts (s : State) (e : Nat) (l : List Byte) : Bool :=
  let d := beAt l 0 6
  d == s.rd (portB e) Port.MAC_LO.ADDR + s.rd (portB e) Port.MAC_HI.ADDR * 2 ^ 32 || d / 2 ^ 40 % 2 == 1

/-- A time-stamp referred to the ball (R336): latency in tenths of ns and the port's adjustment; the last bit is open. -/
def stampOf (s : State) (macTs : Nat) (lat : Int) (adj : Nat) : Nat × State :=
  let (t, s) := s.divFree ((macTs : Int) * 10 + lat * 65536 + toSigned adj 16 * 4096 * 10) 10
  (t.toNat, s)

/-- RXLAT and TXLAT in tenths of ns (R336). -/
def rxLat (s : State) (e : Nat) : Int := if s.on (portB e) Port.PORT_CTL.MODE then 2480 else 672
def txLat (s : State) (e : Nat) : Int := if s.on (portB e) Port.PORT_CTL.MODE then 1520 else 448

/-- Descriptors of a ring: 4 to 4,096; others act as 4 (R347). -/
def ringSize (n : Nat) : Nat := if 4 ≤ n ∧ n ≤ 4096 then n else 4

/-- The port's DMA reads `n` bytes: none if its window forbids it, and it is frozen then (R222, R333). -/
def ethRead (s : State) (e a n : Nat) : Option Nat × State :=
  match s.portCheck (ethMid e) a n false with
  | .freeze c => (none, s.freeze (masterRec (ethMid e) a c false))
  | .absent => (some 0, s.absentEvt (ethMid e) a false false)
  | .off => (some 0, s.offEvt (ethMid e) a false)
  | .go => let (v, s) := s.masterRead (ethMid e) a n; (some v, s)

/-- The port's DMA writes `n` bytes. -/
def ethWrite (s : State) (e a n v : Nat) : Bool × State :=
  match s.portCheck (ethMid e) a n true with
  | .freeze c => (false, s.freeze (masterRec (ethMid e) a c true))
  | _ => (true, s.masterWrite (ethMid e) a n v)

/-- The port's DMA writes a buffer, line by line. -/
def ethPut (s : State) (e a : Nat) (l : List Byte) : Nat → Bool × State
  | 0 => (true, s)
  | fuel + 1 =>
    if l.isEmpty then (true, s)
    else
      let n := dChunk a a l.length
      let r := s.ethWrite e a n (ofLe (l.take n))
      if r.1 then r.2.ethPut e (a + n) (l.drop n) fuel else r

/-- The port's DMA reads a buffer of `n` bytes. -/
def ethGet (s : State) (e a n : Nat) : Nat → Option (List Byte) × State
  | 0 => (some [], s)
  | fuel + 1 =>
    if n = 0 then (some [], s)
    else
      let m := dChunk a a n
      let r := s.ethRead e a m
      match r.1 with
      | none => (none, r.2)
      | some v =>
        let q := r.2.ethGet e (a + m) (n - m) fuel
        (q.1.map (fun l => leBytes v m ++ l), q.2)

/-- A descriptor is handed back: words 0, 2 and 3 first, then word 1 (R332). -/
def handBack (s : State) (e a w0 w1 w2 w3 : Nat) : Bool × State :=
  [(0, w0), (8, w2), (12, w3), (4, w1)].foldl (fun (r : Bool × State) p =>
    if r.1 then r.2.ethWrite e (a + p.1) 4 p.2 else r) (true, s)

/-- Words 2 and 3 of a time-stamp (R332). -/
def stampWords (t : Nat) : Nat × Nat :=
  (t / 65536 % 1000000000, t / 65536000000000 % 65536 * 65536 + t % 65536)

/-! ### Redundancy trailers (R334, R335) -/

/-- The trailer of a frame: sequence number and LanId, if it is valid (PRESUMED, log 35). -/
def rct (l : List Byte) : Option (Nat × Nat) :=
  let n := l.length
  let o := n - 6
  let lan := beAt l (o + 2) 2 / 4096
  if n < typeAt l + 8 ∨ beAt l (o + 4) 2 ≠ 0x88FB ∨ ¬(lan = 0xA ∨ lan = 0xB) ∨
      beAt l (o + 2) 2 % 4096 ≠ (n - (typeAt l + 2)) % 4096 then none
  else some (beAt l o 2, lan)

/-- A frame with its trailer (PRESUMED, log 35). -/
def withRct (l : List Byte) (seq lan : Nat) : List Byte :=
  l ++ beBytes seq 2 ++ beBytes (lan * 4096 + (l.length + 6 - (typeAt l + 2)) % 4096) 2 ++ beBytes 0x88FB 2

/-- What duplicate handling does with a frame of port `e`: none if it is a later copy, else the frame for the ring
(PRESUMED, log 35). -/
def prpFilter (s : State) (e : Nat) (l : List Byte) : Option (List Byte) × State :=
  if !s.on ethB Eth.PRP_CTL.PRPEN || 2 ≤ e || etherType l == 0x88F7 then (some l, s)
  else match rct l with
  | none => (some l, s)
  | some (seq, lan) =>
    let s := if lan = 0xA + e then s else s.inc ethB Eth.PRP_CNT.ERRLAN
    let src := beAt l 6 6
    let age := max 1 (s.rd ethB Eth.PRP_CTL.AGE) * 10000000 * 65536
    if s.eth.prpSeen.any (fun x => x.1 == src && x.2.1 == seq && decide (s.clk.pt ≤ x.2.2 + age)) then
      (none, s.inc ethB Eth.PRP_CNT.DUP)
    else
      let t := s.eth.prpSeen.filter (fun x => !(x.1 == src && x.2.1 == seq)) ++ [(src, seq, s.clk.pt)]
      (some (l.take (l.length - 6)), s.modEth (fun x => { x with prpSeen := t.drop (t.length - 512) }))

/-! ### Receiving (R330 to R333, R336) -/

/-- A running stream entry takes sampled values of this port and APPID (R331, R344). -/
def svMatch (s : State) (port appid : Nat) : Option Nat :=
  (List.range 16).find? (fun i => s.on (svB i) Sv.SV_CTL.EN && s.rd (svB i) Sv.SV_CTL.APPID == appid &&
    (s.rd (svB i) Sv.SV_CTL.PORT == port ||
      (s.on ethB Eth.PRP_CTL.PRPEN && s.rd (svB i) Sv.SV_CTL.PORT == 0 && port == 1)))

/-- A frame goes to the receive ring of port `e`. -/
def rxRing (s : State) (e : Nat) (l : List Byte) (t : Nat) : State :=
  let b := portB e
  if s.isFrozen (ethMid e) then s.inc b Port.RXFRZ.COUNT
  else
    let i := s.rd b Port.RING_IDX.RX
    let a := s.rd b Port.RXR_BASE.BASE * 16 + 16 * i
    let r := s.ethRead e a 16
    match r.1 with
    | none => r.2
    | some d =>
      let s := r.2
      let w1 := d / 2 ^ 32 % 2 ^ 32
      if !w1.testBit 31 then (s.inc b Port.RXDROP.COUNT).portEvt e 3
      else
        let size := w1 % 65536
        let kept := l.take size
        let q := s.ethPut e (d % 2 ^ 32) kept 2048
        if !q.1 then q.2
        else
          let w := stampWords t
          let trunc := decide (size < l.length)
          let r := q.2.handBack e a (d % 2 ^ 32) (kept.length + (if trunc then 2 ^ 28 else 0) + 2 ^ 30) w.1 w.2
          if !r.1 then r.2
          else (r.2.wr b Port.RING_IDX.RX ((i + 1) % ringSize (s.rd b Port.RXR_SIZE.N))).portEvt e 1

/-- FRAME_RECEIVED (R330, R331, R333, R335, R336). -/
def frameIn (s : State) (e : Nat) (fr : EthFrame) : State :=
  let b := portB e
  let n := fr.bytes.length + 4
  if !s.portOn e then s
  else if !fr.fcsOk || decide (2048 < n) then s.inc b Port.RXERR.COUNT
  else if decide (n < 64) || !s.macAccepts e fr.bytes then s
  else
    let s := s.inc b Port.RXOK.COUNT
    let ty := etherType fr.bytes
    if ty = 0x88B5 ∧ e < 2 then s
    else if ty = 0x88BA ∧ (s.svMatch e (beAt fr.bytes (typeAt fr.bytes + 2) 2)).isSome then s
    else
      let r := s.prpFilter e fr.bytes
      match r.1 with
      | none => r.2
      | some l =>
        let (t, s) := r.2.stampOf fr.macTs (-(r.2.rxLat e)) (r.2.rd b Port.ING_ADJ.ADJ)
        s.rxRing e l t

/-! ### Transmitting (R332, R334, R336, R338) -/

/-- A Sync message whose PTP header begins right after the Ethertype (R338) (PRESUMED, log 35). -/
def isSync (l : List Byte) : Bool := etherType l == 0x88F7 && beAt l (typeAt l + 2) 1 % 16 == 0 && decide (typeAt l + 46 ≤ l.length)

/-- One-step insertion: originTimestamp and correctionField of the PTP header (R338) (PRESUMED, log 35). -/
def oneStep (l : List Byte) (t : Nat) : List Byte :=
  let p := typeAt l + 2
  let l := patch l (p + 34) (beBytes (t / 65536000000000) 6 ++ beBytes (t / 65536 % 1000000000) 4)
  patch l (p + 8) (beBytes ((beAt l (p + 8) 8 + t % 65536) % 2 ^ 64) 8)

/-- The transmit ring moves on, and TXDONE is raised. -/
def txNext (s : State) (e i : Nat) : State :=
  (s.wr (portB e) Port.RING_IDX.TX ((i + 1) % ringSize (s.rd (portB e) Port.TXR_SIZE.N))).portEvt e 2

/-- The frame `l` of transmit descriptor `i` at `a` with words `w0` and `w1` leaves and its descriptor goes back (R355,
R361, R362). -/
def sendFrame (s : State) (e i a w0 w1 : Nat) (l : List Byte) (macTs : Nat) : State :=
  let b := portB e
  let (t, s) := s.stampOf macTs (s.txLat e) (s.rd b Port.EGR_ADJ.ADJ)
  let l := if w1.testBit 17 then oneStep l t else l
  let dup := w1.testBit 18 && e == 0 && s.on ethB Eth.PRP_CTL.PRPEN && etherType l != 0x88F7
  let s := if dup then
      let n := s.eth.prpSeq
      let both := s.portOn 1 && s.on (portB 1) Port.PORT_STAT.LINK
      let s := s.modEth (fun x => { x with prpSeq := (n + 1) % 65536, sent := (0, withRct l n 0xA) ::
        (if both then [(1, withRct l n 0xB)] else []) })
      if both then s.inc (portB 1) Port.TXOK.COUNT else s
    else s.modEth (fun x => { x with sent := [(e, l)] })
  let ts := w1.testBit 16
  let w := if ts then stampWords t else (0, 0)
  let r := s.handBack e a w0 (w1 % 2 ^ 19 + (if ts then 2 ^ 30 else 0)) w.1 w.2
  if r.1 then (r.2.inc b Port.TXOK.COUNT).txNext e i else r.2

/-- FRAME_TRANSMITTED: the frame of the next transmit descriptor leaves; `macTs` is the MAC instant. -/
def frameOut (s : State) (e macTs : Nat) : State :=
  let b := portB e
  if !s.portOn e || !s.on b Port.PORT_STAT.LINK || s.isFrozen (ethMid e) || s.eth.txIdle.contains e then s
  else
    let i := s.rd b Port.RING_IDX.TX
    let a := s.rd b Port.TXR_BASE.BASE * 16 + 16 * i
    let r := s.ethRead e a 16
    match r.1 with
    | none => r.2
    | some d =>
      let s := r.2
      let w0 := d % 2 ^ 32
      let w1 := d / 2 ^ 32 % 2 ^ 32
      let len := w1 % 65536
      if !w1.testBit 31 then s.modEth (fun x => { x with txIdle := x.txIdle ++ [e] })
      else if len < 60 ∨ 2044 < len then
        let r := s.handBack e a w0 (setBit (w1 % 2 ^ 19) 29) 0 0
        if r.1 then r.2.txNext e i else r.2
      else
        let q := s.ethGet e w0 len 2048
        match q.1 with
        | none => q.2
        | some l =>
          let s := q.2
          if w1.testBit 17 ∧ !isSync l then
            let r := s.handBack e a w0 (setBit (w1 % 2 ^ 19) 29) 0 0
            if r.1 then r.2.txNext e i else r.2
          else s.sendFrame e i a w0 w1 l macTs

/-! ## Sampled values (R344, R345) -/

/-- QBAD or NOSYNC is set (R350). -/
def svFlag (s : State) (i : Nat) (f : Fld) : State := (s.wr (svB i) f 1).fire 0x16A

/-- SV_FRAME_RECEIVED for stream entry `i`. -/
def svFrame (s : State) (i : Nat) (fr : SvFrame) : State :=
  let b := svB i
  let pair := s.on ethB Eth.PRP_CTL.PRPEN && s.rd b Sv.SV_CTL.PORT == 0
  if 16 ≤ i || !s.on b Sv.SV_CTL.EN || s.rd b Sv.SV_CTL.APPID != fr.appid.toNat || !s.portOn fr.port ||
      !(s.rd b Sv.SV_CTL.PORT == fr.port || (pair && fr.port == 1)) then s
  else
    let s := s.inc (portB fr.port) Port.RXOK.COUNT
    let n := s.rd b Sv.SV_CTL.NCH + 1
    let seen := Tab.get (s.eth.svLast.map (fun e => (e.1, some e.2))) i none
    if pair && seen == some (fr.smpCnt.toNat, 1 - fr.port) then s.inc ethB Eth.PRP_CNT.DUP
    else
      let s := s.modEth (fun x => { x with svLast := Tab.put x.svLast i (fr.smpCnt.toNat, fr.port) })
      if fr.chans.length < n then s.inc b Sv.SV_CNT.REJ
      else if s.on b Sv.SV_CTL.SYNCREQ && fr.smpSynch == 0 then (s.inc b Sv.SV_CNT.REJ).svFlag i Sv.SV_STAT.NOSYNC
      else
        let bad (q : Word) : Bool := q.toNat % 4 != 0 || q.getLsbD 11
        let l := fr.chans.take n
        let s := (l.zip (List.range n)).foldl (fun (s : State) e =>
          if bad e.1.2 then s
          else (s.wr ethB (Sv.SV_DATA.VAL.at (8 * i + e.2)) e.1.1.toNat).modEth (fun x =>
            { x with svHas := if x.svHas.contains (8 * i + e.2) then x.svHas else x.svHas ++ [8 * i + e.2] })) s
        let s := if l.any (fun e => bad e.2) then s.svFlag i Sv.SV_STAT.QBAD else s
        ((s.wr b Sv.SV_STAT.SMPCNT fr.smpCnt.toNat).wr b Sv.SV_RXNS.NS s.nowNs).inc b Sv.SV_CNT.TAKEN

/-- Do `f` for port `e`. -/
def onPort (s : State) (e : Nat) (f : State → State) : State := if e < 4 then f s else s

end State

/-! ## The commands -/

/-- TIME_NS_READ. -/
def execTimeNsRead (m : Nat) (s : State) : Ans := .next (s.timeRead m)
/-- VN_PRIMARY_SAMPLE (R339): a write of VN_OFS_P, with the path in VN_PATH_P. -/
def execVnPrimarySample (w : Wr) (ofs : Word) (s : State) : Ans :=
  .next ((if s.rd ethB Eth.VN_CTL.PSRC = 0 then s.vnPrimary ofs.toInt (some (s.rd ethB Eth.VN_PATH_P.PATH)) else s).retire w
    (ethB + 0x110))
/-- VN_SECONDARY_SAMPLE (R339): a write of VN_OFS_S. -/
def execVnSecondarySample (w : Wr) (ofs : Word) (s : State) : Ans :=
  .next ((if s.rd ethB Eth.VN_CTL.SSRC = 1 then s.vnSecondary ofs.toInt else s).retire w (ethB + 0x118))
/-- VN_REARM (R340). -/
def execVnRearm (w : Wr) (s : State) : Ans :=
  .next ((if s.on ethB Eth.VN_CTL.EN && s.vnState == 4 then
    (s.modEth (fun x => { x with vnRef := true, vnSteps := 0 })).vnGo 1 else s).retire w (ethB + 0x100))
/-- VN_DISABLE (R340): f is held. -/
def execVnDisable (w : Wr) (s : State) : Ans := .next (((s.wr ethB Eth.VN_CTL.EN 0).vnGo 0).retire w (ethB + 0x100))
/-- VERNIER_HOLDOVER (R340): no primary sample for HOLD_TO × 100 ms in TRACK. -/
def execVernierHoldover (s : State) : Ans :=
  .next (if s.on ethB Eth.VN_CTL.EN && s.vnState == 1 then (((s.vnFreq s.eth.vnI).vnGo 2).vnEvt 0).fire 0x167 else s)
/-- SYNC_IN_CAPTURE. -/
def execSyncInCapture (ts : Nat) (falling : Bool) (s : State) : Ans := .next (s.syncIn ts falling)
/-- SI_TS_NS_READ (R346): the read latches the seconds, the fraction and the count. -/
def execSiTsNsRead (m : Nat) (s : State) : Ans :=
  let t := s.eth.siTs
  .next ((((s.wr ethB Eth.SI_TS_SEC.SEC (t / 65536000000000)).wr ethB Eth.SI_TS_FRAC.FRAC (t % 65536)).wr ethB
    Eth.SI_TS_FRAC.SI_CNT s.eth.siCnt).answer m (ethB + 0x208) (BitVec.ofNat 32 (s.rd ethB Eth.SI_TS_NS.NS)))
/-- SYNC_OUT_PULSE (R342): SYNC_OUT rises, or its width restarts. -/
def execSyncOutPulse (s : State) : Ans :=
  .next (if s.on ethB Eth.SYNC_CTL.SOEN && (!s.on ethB Eth.SYNC_CTL.SOSEL || s.running) then
    s.modEth (fun x => { x with soHigh := some (s.clk.pt + max 1 (s.rd ethB Eth.SYNC_CTL.SOW) * 6553600) }) else s)
/-- PORT_ENABLE (R347): the rings restart at index 0. -/
def execPortEnable (w : Wr) (e : Nat) (s : State) : Ans :=
  .next ((s.onPort e (fun s =>
    if s.on (portB e) Port.PORT_CTL.EN then s
    else (((s.wr (portB e) Port.PORT_CTL.EN 1).wr (portB e) Port.RING_IDX.RX 0).wr (portB e) Port.RING_IDX.TX 0).modEth
      (fun x => { x with txIdle := x.txIdle.filter (fun q => q != e) }))).retire w (portB e))
/-- FRAME_RECEIVED. -/
def execFrameReceived (e : Nat) (fr : EthFrame) (s : State) : Ans := .next (s.frameIn e fr)
/-- SV_FRAME_RECEIVED: `i` is the stream entry. -/
def execSvFrameReceived (i : Nat) (fr : SvFrame) (s : State) : Ans := .next (s.svFrame i fr)
/-- TX_KICK (R332). -/
def execTxKick (w : Wr) (e : Nat) (s : State) : Ans :=
  .next ((s.onPort e (fun s => s.modEth (fun x => { x with txIdle := x.txIdle.filter (fun q => q != e) }))).retire w
    (portB e + 0x28))
/-- FRAME_TRANSMITTED. -/
def execFrameTransmitted (e macTs : Nat) (s : State) : Ans := .next (s.frameOut e macTs)
/-- PORT_CNT_CLR (R347). -/
def execPortCntClr (w : Wr) (e : Nat) (s : State) : Ans :=
  .next ((s.onPort e (fun s => [Port.RXOK.COUNT, Port.RXDROP.COUNT, Port.RXFRZ.COUNT, Port.RXERR.COUNT, Port.TXOK.COUNT].foldl
    (fun (s : State) f => s.wr (portB e) f 0) s)).retire w (portB e + 0x54))
/-- ETH_LINK_LOSS (R347, R350). -/
def execEthLinkLoss (e : Nat) (s : State) : Ans :=
  .next (s.onPort e (fun s =>
    if s.on (portB e) Port.PORT_STAT.LINK then
      ((s.wr (portB e) Port.PORT_STAT.LINK 0).portEvt e 0).fireIf (s.on (portB e) Port.PORT_CTL.EN) (0x160 + e)
    else s))
/-- ETH_LINK_UP (R347). -/
def execEthLinkUp (e : Nat) (s : State) : Ans :=
  .next (s.onPort e (fun s =>
    if s.on (portB e) Port.PORT_STAT.LINK then s else (s.wr (portB e) Port.PORT_STAT.LINK 1).portEvt e 0))
/-- PORT_RAM_ERROR (R350): with an uncorrectable error the frame is discarded. -/
def execPortRamError (e : Nat) (ue : Bool) (s : State) : Ans := .next (s.onPort e (fun s => s.fire (if ue then 0x165 else 0x164)))

end Sys2Proof.Machine
end

