-- ==== Sys2Proof/Machine/Tasks.lean ====
section
/-!
DEFINITION. The meanings of the scheduler, mailbox and doorbell commands (R255 to R277), with the shared operations on
channels and doorbells.
-/
namespace Sys2Proof.Machine

open Host

namespace State

/-! ## Doorbells (R268 to R270) -/

def dbPend (s : State) (m : Nat) : Word := BitVec.ofNat 32 (s.rd (mbxB (m / 16)) (Mbx.DB_PEND.PEND.at (m % 16)))
def dbMask (s : State) (m : Nat) : Word := BitVec.ofNat 32 (s.rd (mbxB (m / 16)) (Mbx.DB_MASK.MASK.at (m % 16)))
def setPend (s : State) (m : Nat) (v : Word) : State := s.wr (mbxB (m / 16)) (Mbx.DB_PEND.PEND.at (m % 16)) v.toNat

/-- A core blocked in DB.WAIT completes once an unmasked bit is pending (R269). -/
def wakeDb (s : State) (m : Nat) : State :=
  let hit := s.dbPend m &&& ~~~(s.dbMask m)
  match (s.core m).blockedIn with
  | some (.dbWait d) =>
    if hit = 0 ∨ s.isFrozen m then s
    else
      let s := s.setPend m (s.dbPend m &&& ~~~hit)
      let s := s.wr (mbxB (m / 16)) (Mbx.DB_STAT.WAITING.at (m % 16)) 0
      let s := s.modCore m (fun c => { c with blockedIn := none })
      (s.goOn m ((s.core m).wg d hit).done).syncCore m
  | _ => s

/-- Doorbell bits of a core become pending (R268); the odd core of a paired pair stands for the even one. -/
def ring (s : State) (m : Nat) (mask : Word) : State :=
  let m := s.lead m
  if s.hasK (m / 16) then (s.setPend m (s.dbPend m ||| mask)).wakeDb m else s

/-- A ring that names a MID outside 0x00-0x1F is discarded (R268); `k` is the K-die that counts it. -/
def dropRing (s : State) (k : Nat) : State := (s.inc (mbxB k) Mbx.MBX_CNT0.DBDROP).fireK k 0x073

/-- Ring from a channel of K-die `k` (R268). -/
def chanRing (s : State) (k m bit : Nat) : State :=
  if m < 32 then s.ring m (BitVec.ofNat 32 (2 ^ bit)) else s.dropRing k

/-! ## Channels (R261 to R267) -/

/-- The current EPOCH of a MID: CORE_STAT.EPOCH of a core, 0 for other masters (R261). -/
def epochOf (s : State) (mid : Nat) : Nat := if mid < 32 then s.rd (coreB mid) Cc.CORE_STAT.EPOCH else 0

/-- Master `mid` may put into (or get from) channel `c` of K-die `k` (R265, R266). -/
def mayUse (s : State) (k c mid : Nat) (sup put : Bool) : Bool :=
  let b := mbxB k
  if s.on b Mbx.MBX_CTL.COMPAT then
    if c < 32 then mid == 0x7F || (decide (mid < 32) && sup) else true
  else
    s.on b (Mbx.CH_BIND.V.at c) &&
      (if put then s.rd b (Mbx.CH_BIND.TXMID.at c) else s.rd b (Mbx.CH_BIND.RXMID.at c)) == mid

/-- A put reaches a channel (R262): its status and what it leaves. -/
def chanPut (s : State) (k c mid : Nat) (sup : Bool) (word : Word) (epoch : Nat) : Nat × State :=
  let b := mbxB k
  if !s.mayUse k c mid sup true then (2, (s.inc b Mbx.MBX_CNT0.DENY).fireK k 0x072)
  else if s.on b (Mbx.CH_STAT.FULL.at c) then (1, s)
  else
    let s := (((s.wr b (Mbx.CH_GET.WORD.at c) word.toNat).wr b (Mbx.CH_STAT.SMID.at c) mid).wr b
      (Mbx.CH_STAT.SEPOCH.at c) epoch).wr b (Mbx.CH_STAT.FULL.at c) 1
    (0, if s.on b (Mbx.CH_BIND.DBEN.at c) then
          s.chanRing k (s.rd b (Mbx.CH_BIND.RXMID.at c)) (s.rd b (Mbx.CH_BIND.RXBIT.at c)) else s)

/-- A get reaches a channel (R263): its datum and what it leaves. -/
def chanGet (s : State) (k c mid : Nat) (sup : Bool) : Word × State :=
  let b := mbxB k
  if !s.mayUse k c mid sup false then (0, (s.inc b Mbx.MBX_CNT0.DENY).fireK k 0x072)
  else if !s.on b (Mbx.CH_STAT.FULL.at c) then (0, s.inc b Mbx.MBX_CNT1.EMPTYRD)
  else
    let w := BitVec.ofNat 32 (s.rd b (Mbx.CH_GET.WORD.at c))
    let s := s.wr b (Mbx.CH_STAT.FULL.at c) 0
    (w, if s.on b (Mbx.CH_BIND.DBEN.at c) then
          s.chanRing k (s.rd b (Mbx.CH_BIND.TXMID.at c)) (s.rd b (Mbx.CH_BIND.TXBIT.at c)) else s)

/-- The `i`-th outstanding operation of core `m`, with its answer. -/
def answerLoad (s : State) (m i : Nat) (v : BitVec 64) : State :=
  s.modCore m (fun c => { c with loads := c.loads.modify i (fun l => { l with val := some v }) })

/-- An outstanding put or get of core `m` reaches its channel (R262, R263). -/
def chanReach (s : State) (m i : Nat) : State :=
  match (s.core m).loads[i]? with
  | some l =>
    if l.val.isSome then s
    else match l.kind with
      | .put k c w e => let r := s.chanPut k c (s.accMid m) l.sup w e; r.2.answerLoad m i (BitVec.ofNat 64 r.1)
      | .get k c => let r := s.chanGet k c (s.accMid m) l.sup; r.2.answerLoad m i (r.1.setWidth 64)
      | .mem => s
  | none => s

/-- MBX.PUT and MBX.GET take an outstanding-load place (R262, R263). -/
def mbxIssue (s : State) (m : Nat) (srcs : List Nat) (d : Nat) (legal : Bool) (a : Nat) (kind : Nat → Nat → LoadKind) :
    State :=
  let c := s.core m
  let k := (c.rg a).toNat / 64 % 2
  let ch := (c.rg a).toNat % 64
  if !s.canRun m then s
  else if !legal then s.illegal m
  else if srcs.any c.awaits || c.awaits d then s.setCore m (c.wait .operand)
  else if !s.hasK k then (s.setCore m (c.wg d 0)).absentTrap m c.pc.toNat false true
  else if !s.dieUp k then (s.offEvt (s.accMid m) (mbxB k + 0x100 + 16 * ch) false).goOn m (c.wg d 0).done
  else if 8 ≤ c.loads.length then s.setCore m (c.wait .loads)
  else
    let e : Load := ⟨kind k ch, mbxB k + 0x100 + 16 * ch, 4, false, d, c.prv, none, false, c.pc.toNat⟩
    s.goOn m { c with loads := c.loads ++ [e] }.done

/-- The ready slot core `m` takes: the first slot of the highest level whose affinity permits it (R259). -/
def pickTask (s : State) (m : Nat) : Option Nat :=
  let k := m / 16
  let el := (s.sch k).ready.filter (fun i => s.mayTake k i m)
  let top := el.foldl (fun p i => max p (s.rd (schB k) (Sch.TASK_CFG.PRI.at i))) 0
  el.find? (fun i => s.rd (schB k) (Sch.TASK_CFG.PRI.at i) == top)

/-- EN of a slot clears (R257). -/
def disableSlot (s : State) (k i : Nat) : State :=
  let b := schB k
  let s := s.wr b (Sch.TASK_CFG.EN.at i) 0
  if s.rd b (Sch.TASK_STAT.STATE.at i) = 1 then
    ((s.dequeue k i).wr b (Sch.TASK_STAT.STATE.at i) 0).wr b (Sch.TASK_STAT.DROPPED.at i) 1
  else s

/-- The tasks given to a core that is reset are abandoned (R257) (DESIGN CHOICE, log 17). -/
def abandon (s : State) (m : Nat) : State :=
  let k := m / 16
  (List.range 256).foldl (fun s i =>
    let st := s.rd (schB k) (Sch.TASK_STAT.STATE.at i)
    if (st == 2 || st == 3) && s.rd (schB k) (Sch.TASK_STAT.HOLDER.at i) == m then
      ((s.wr (schB k) (Sch.TASK_STAT.ABANDONED.at i) 1).fireK k 0x077).endTask k i
    else s) s

end State

/-! ## Tasks -/

/-- TASK.POST ga: activates slot ga[7:0] of the own K-die; d and b zero (R256, R257). -/
def execTaskPost (m : Nat) (o : OpA) (s : State) : Out :=
  .next (
    let c := s.core m
    if !s.canRun m then s
    else if !(o.d == 0 && o.b == 0) then s.illegal m
    else if c.awaits o.a.toNat then s.setCore m (c.wait .operand)
    else (s.goOn m c.done).activate (m / 16) ((c.rg o.a.toNat).toNat % 256))

/-- TASK.GET gd: takes the first eligible READY slot of the highest level, or blocks; a and b zero (R259). -/
def execTaskGet (m : Nat) (o : OpA) (s : State) : Out :=
  .next (
    let c := s.core m
    let k := m / 16
    if !s.canRun m then s
    else if !(o.a == 0 && o.b == 0) then s.illegal m
    else if c.awaits o.d.toNat then s.setCore m (c.wait .operand)
    else match s.pickTask m with
      | some i => s.giveTask k i m o.d.toNat
      | none =>
        let q := s.sch k
        let s := s.setCore m { c with blockedIn := some (.taskGet o.d.toNat), stall := none }
        let s := s.setSch k { q with blocked := q.blocked ++ [m] }
        (s.wr (schB k) Sch.SCH_WAIT.WAIT (setBit (s.rd (schB k) Sch.SCH_WAIT.WAIT) (m % 16))).syncCore m)

/-- TASK.DONE ga: ends the holder's run of a slot, or sets BADDONE (R257). -/
def execTaskDone (m : Nat) (o : OpA) (s : State) : Out :=
  .next (
    let c := s.core m
    let k := m / 16
    let i := (c.rg o.a.toNat).toNat % 256
    if !s.canRun m then s
    else if !(o.d == 0 && o.b == 0) then s.illegal m
    else if c.awaits o.a.toNat then s.setCore m (c.wait .operand)
    else
      let st := s.rd (schB k) (Sch.TASK_STAT.STATE.at i)
      let s := s.goOn m c.done
      if 2 ≤ st ∧ s.rd (schB k) (Sch.TASK_STAT.HOLDER.at i) = m then s.endTask k i
      else ((s.wr (schB k) Sch.SCH_STAT.BADDONE 1).inc (schB k) Sch.SCH_CNT.BADDONE).fireK k 0x071)

/-- A write of EN = 0 to a slot: a READY slot leaves its queue with DROPPED (R257). -/
def execTaskDisable (w : Wr) (k slot : Nat) (s : State) : Out :=
  .next ((s.disableSlot k slot).retire w (schB k + 0x1000 + 8 * slot))

/-- SCH_RAISE: software event 0xC0 + EVT on this K-die (R274). -/
def execSchRaise (w : Wr) (k evt : Nat) (s : State) : Out :=
  .next ((s.evtK k (0xC0 + evt % 64)).retire w (schB k + 4))

/-! ## Mailboxes -/

/-- MBX.PUT gd, ga, gb: a put on its way to channel ga[5:0] of K-die ga[6] (R262). -/
def execMbxPut (m : Nat) (o : OpA) (s : State) : Out :=
  .next (s.mbxIssue m [o.a.toNat, o.b.toNat] o.d.toNat true o.a.toNat
    (fun k ch => .put k ch ((s.core m).rg o.b.toNat) (s.epochOf (s.accMid m))))

/-- MBX.GET gd, ga: a get on its way; b zero (R263). -/
def execMbxGet (m : Nat) (o : OpA) (s : State) : Out :=
  .next (s.mbxIssue m [o.a.toNat] o.d.toNat (o.b == 0) o.a.toNat (fun k ch => .get k ch))

/-- Core `m`'s outstanding operation `i`, a put, reaches its channel (R262). -/
def execMbxChannelPut (m i : Nat) (s : State) : Out := .next (s.chanReach m i)

/-- Core `m`'s outstanding operation `i`, a get, reaches its channel (R263). -/
def execMbxChannelGet (m i : Nat) (s : State) : Out := .next (s.chanReach m i)

/-- A write to CH_PUT of channel `ch` (0 to 127 over both K-dies) is a put; BUSY or DENIED discard it (R267). -/
def execChPutWrite (w : Wr) (ch : Nat) (v : Word) (s : State) : Out :=
  .next (
    let k := ch / 64
    let r := s.chanPut k (ch % 64) w.mid w.sup v (s.epochOf w.mid)
    (if r.1 = 1 then r.2.inc (mbxB k) Mbx.MBX_CNT1.PUTBUSY else r.2).retire w (mbxB k + 0x108 + 16 * (ch % 64)))

/-- A read of CH_GET is a get (R263, R267). -/
def execChGetRead (w : Wr) (ch : Nat) (s : State) : Out :=
  .next (
    let k := ch / 64
    let r := s.chanGet k (ch % 64) w.mid w.sup
    r.2.answer w.mid (mbxB k + 0x10C + 16 * (ch % 64)) r.1)

/-- A write to CH_BIND: a core at supervisor privilege or MID 0x7F, while BIND_LOCK = 0; else ignored (R265). -/
def execChBindWrite (w : Wr) (ch : Nat) (v : Word) (s : State) : Out :=
  .next (
    let k := ch / 64
    let c := ch % 64
    let b := mbxB k
    let x := v.toNat
    (if privileged w && !s.on b Mbx.MBX_CTL.BIND_LOCK then
      (((((s.wr b (Mbx.CH_BIND.TXMID.at c) (bits x 7 0)).wr b (Mbx.CH_BIND.RXMID.at c) (bits x 15 8)).wr b
        (Mbx.CH_BIND.RXBIT.at c) (bits x 20 16)).wr b (Mbx.CH_BIND.TXBIT.at c) (bits x 28 24)).wr b
        (Mbx.CH_BIND.DBEN.at c) (bits x 30 30)).wr b (Mbx.CH_BIND.V.at c) (bits x 31 31)
    else s).retire w (b + 0x100 + 16 * c))

/-- BIND_LOCK = 1 locks every CH_BIND of the block until chip reset (R265). -/
def execBindLock (w : Wr) (k : Nat) (s : State) : Out :=
  .next ((s.wr (mbxB k) Mbx.MBX_CTL.BIND_LOCK 1).retire w (mbxB k))

/-! ## Doorbells -/

/-- DB.RING ga, gb: a ring on its way to MID ga[7:0]; d zero (R268). -/
def execDbRing (m : Nat) (o : OpA) (s : State) : Out :=
  .next (
    let c := s.core m
    let r := (c.rg o.a.toNat).toNat % 256
    let mid := s.accMid m
    if !s.canRun m then s
    else if !(o.d == 0) then s.illegal m
    else if c.awaits o.a.toNat || c.awaits o.b.toNat then s.setCore m (c.wait .operand)
    else if 32 ≤ r then (s.dropRing (m / 16)).goOn m c.done
    else if !s.hasK (r / 16) then s.absentTrap m c.pc.toNat false true
    else if 8 ≤ (s.fab.flight.filter (fun f => f.mid == mid)).length then s.setCore m (c.wait .stores)
    else
      let f : Flight := ⟨mid, c.prv, mbxB (r / 16) + 0x800 + 16 * (r % 16), c.rg o.b.toNat, 4, false⟩
      ({ s with fab := { s.fab with flight := s.fab.flight ++ [f] } }).goOn m c.done)

/-- The bits of a DB.RING reach the doorbells of MID `m` (R268, R269). -/
def execDoorbellSet (m : Nat) (mask : Word) (s : State) : Out :=
  .next (
    let a := mbxB (m / 16) + 0x800 + 16 * (m % 16)
    let s := { s with fab := { s.fab with flight := s.fab.flight.eraseP (fun f => f.addr == a && f.val == mask) } }
    if m < 32 then s.ring m mask else s)

/-- DB.WAIT gd: takes the unmasked pending bits, or blocks; a and b zero (R269). -/
def execDbWait (m : Nat) (o : OpA) (s : State) : Out :=
  .next (
    let c := s.core m
    let hit := s.dbPend m &&& ~~~(s.dbMask m)
    let b := mbxB (m / 16)
    if !s.canRun m then s
    else if !(o.a == 0 && o.b == 0) then s.illegal m
    else if c.awaits o.d.toNat then s.setCore m (c.wait .operand)
    else if hit ≠ 0 then (s.setPend m (s.dbPend m &&& ~~~hit)).goOn m (c.wg o.d.toNat hit).done
    else
      let s := s.setCore m { c with blockedIn := some (.dbWait o.d.toNat), stall := none }
      let s := s.wr b (Mbx.DB_STAT.WAITING.at (m % 16)) 1
      (if s.dbMask m = 0xFFFFFFFF then (s.wr b (Mbx.DB_STAT.WAITMASKED.at (m % 16)) 1).fireK (m / 16) 0x073
       else s).syncCore m)

/-- A write of ones to DB_PEND rings those bits; the odd core of a paired pair ignores it (R268, R275). -/
def execDbPendWrite (w : Wr) (m : Nat) (mask : Word) (s : State) : Out :=
  .next ((if s.paired m && m % 2 == 1 then s else s.ring m mask).retire w (mbxB (m / 16) + 0x800 + 16 * (m % 16)))

/-- DB_CLR: ones clear pending bits (R275). -/
def execDbClr (w : Wr) (m : Nat) (mask : Word) (s : State) : Out :=
  .next ((if s.paired m && m % 2 == 1 then s else s.setPend m (s.dbPend m &&& ~~~mask)).retire w
    (mbxB (m / 16) + 0x808 + 16 * (m % 16)))

/-- A write to DB_MASK; an unmasked pending bit wakes the core (R269). -/
def execDbMaskWrite (w : Wr) (m : Nat) (v : Word) (s : State) : Out :=
  .next ((if s.paired m && m % 2 == 1 then s
    else (s.wr (mbxB (m / 16)) (Mbx.DB_MASK.MASK.at (m % 16)) v.toNat).wakeDb m).retire w
    (mbxB (m / 16) + 0x804 + 16 * (m % 16)))

/-- An ECC error of the scheduler or mailbox RAM (R276): corrected, or the affected slot is disabled, or the affected
channel's FULL clears and its word is lost. -/
def execSchedRamError (k : Nat) (ue mbx : Bool) (i : Nat) (s : State) : Out :=
  .next (
    if !ue then (s.wr (schB k) Sch.SCH_STAT.RAMCE 1).fireK k 0x074
    else
      let s := s.wr (schB k) Sch.SCH_STAT.RAMUE 1
      (if mbx then s.wr (mbxB k) (Mbx.CH_STAT.FULL.at i) 0 else s.disableSlot k i).fireK k 0x075)

end Sys2Proof.Machine
end

