-- ==== Sys2Proof/Machine/CpuSys.lean ====
section
/-!
DEFINITION. The meanings of the Polver's fences (R33, R35, R253) and system instructions (R215 to R231, R254), of NMI entry
(R218, R219), and of the errors a core meets (R227, R234).
-/
namespace Sys2Proof.Machine

open Host

namespace State

/-! ## Fences -/

/-- Core `m` has no outstanding load (R33). -/
def loadsDone (s : State) (m : Nat) : Bool := (s.core m).loads.all (fun l => match l.kind with | .put .. => true | _ => false)
/-- Every store of core `m`, puts among them, has its response (R33). -/
def storesDone (s : State) (m : Nat) : Bool :=
  !s.fab.flight.any (fun f => f.mid == s.accMid m) &&
  (s.core m).loads.all (fun l => match l.kind with | .put .. => false | _ => true)

/-- The access waits of a fence are over (R33). -/
def fenceMet (s : State) (m : Nat) (f : Stall) : Bool :=
  match f with
  | .fenceR => s.loadsDone m
  | .fenceW => s.storesDone m
  | .fenceRW | .fenceSys => s.loadsDone m && s.storesDone m
  | _ => false

/-- A fence without a destination: d, a and b zero (R253). One that waits for something stalls the core. -/
def fence (s : State) (m : Nat) (o : OpA) (f : Stall) (always : Bool) : State :=
  if !s.canRun m then s
  else if !(o.d == 0 && o.a == 0 && o.b == 0) then s.illegal m
  else if s.fenceMet m f && !always then s.goOn m (s.core m).done
  else s.setCore m ((s.core m).wait f)

/-- Writes that were held because core `m` stalled in FNC.SYS now reach its TCM (R38). -/
def freeHeld (s : State) (m : Nat) : State :=
  let mine (f : Flight) : Bool :=
    match s.locate none f.addr with
    | .tcm n _ => n == m
    | _ => false
  let t := (s.fab.flight.filter mine).foldl (fun t f => t.putRam (t.locate none f.addr) f.addr f.val.toNat f.size) s
  { t with fab := { t.fab with flight := t.fab.flight.filter (fun f => !mine f) } }

/-- Covered writes of core `m` that are still staged (R35). -/
def covered (s : State) (m : Nat) : List Staged :=
  s.fab.staged.filter (fun x => x.core && x.mid == m && x.cov.isNone)

/-- The build cut-off that decides a commit: B_n + 300 ns if a covered write lies at a modulator, else B_n + 620 ns
(R35, R48). -/
def cutoffNs (l : List Staged) : Nat :=
  if l.any (fun x => match x.tgt with | .mod _ => true | .ctx _ => false) then 300 else 620

/-- The subframe FNC.CYC chooses (R35): the first whose deciding cut-off lies at least 60 ns after the last response, and
not in the past; the next subframe where nothing covered is still staged. -/
def cycChoice (s : State) (m : Nat) : Nat :=
  let l := s.covered m
  if l.isEmpty then s.clk.n + 1
  else
    let cut := s.clk.bn + cutoffNs l * 65536
    let from_ := max ((s.core m).cycResp + 60 * 65536) s.clk.pt
    if from_ ≤ cut then s.clk.n else s.clk.n + (from_ - cut + 1250 * 65536 - 1) / (1250 * 65536)

/-- No cycle write of core `m` awaits its response (R35 step 1). -/
def cycLanded (s : State) (m : Nat) : Bool := !s.fab.flight.any (fun f => f.mid == m && (cycTarget f.addr).isSome)

/-- The STAGE_HOLD cut-off of a staged write comes before the cut-off of subframe `n` (R34, R35): the write is released on
its own, so the fence that covers it is not kept whole (DEDUCED, log 20). -/
def heldBefore (s : State) (n : Nat) (x : Staged) : Bool :=
  let gone := if s.clk.bn + cutoffNs [x] * 65536 < s.clk.pt then 1 else 0
  decide (s.stageHold ≤ x.cuts + (n - s.clk.n - gone))

/-- SPLIT of an FNC.CYC (R35): STAGE_HOLD has released a covered write, or releases one before the cut-off of the subframe
`n` of its commit (DEDUCED, log 20). -/
def cycSplit (s : State) (m n : Nat) : Bool :=
  decide (0 < (s.core m).cycHeld) || (s.covered m).any (s.heldBefore n)

/-- Steps 2 to 4 of FNC.CYC (R35). -/
def cycCommitGo (s : State) (m n d : Nat) : State :=
  let c := s.core m
  let v : Nat := n % 65536 + (if s.cycSplit m n then 2 ^ 31 else 0)
  let mark (x : Staged) : Staged := if x.core && x.mid == m && x.cov.isNone then { x with cov := some n } else x
  let s := { s with fab := { s.fab with staged := s.fab.staged.map mark } }
  s.goOn m ({ c.wg d (BitVec.ofNat 32 v) with cycIssued := 0, cycHeld := 0, cycLast := some n }).done

/-! ## System registers (R231) -/

end State

/-- The system registers a task may use (R231). -/
def srTask (sr : Nat) : Bool := sr == 0x01 || (decide (0x0D ≤ sr) && decide (sr ≤ 0x11))

namespace State

/-- The value of a system register (R231). -/
def srRead (s : State) (m sr : Nat) : Word :=
  let c := s.core m
  let ccnt := s.clk.el - c.born
  match sr with
  | 0x00 => c.status (s.paired m)
  | 0x01 => c.flagWord
  | 0x02 => c.epc &&& 0xFFFFFFFC
  | 0x03 => c.estatus
  | 0x04 => c.ecause
  | 0x05 => c.eaddr
  | 0x06 => c.tvec
  | 0x07 => c.nepc
  | 0x08 => c.nstatus
  | 0x09 => c.ncause
  | 0x0A => c.nvec
  | 0x0B => c.sscr0
  | 0x0C => c.sscr1
  | 0x0D => BitVec.ofNat 32 m
  | 0x0E => BitVec.ofNat 32 ccnt
  | 0x0F => c.ccntHi
  | 0x10 => c.icnt
  | 0x11 => c.tscr
  | _ => 0

end State

/-- A write to a system register (R231): read-only fields ignore it. -/
def srWrite (c : Core) (sr : Nat) (v : Word) : Core :=
  match sr with
  | 0x00 => { c with prv := v.getLsbD 0, exl := v.getLsbD 1 }
  | 0x01 => { c with flags := ⟨v.getLsbD 0, v.getLsbD 1, v.getLsbD 2, v.getLsbD 3, v.getLsbD 4⟩ }
  | 0x02 => { c with epc := v &&& 0xFFFFFFFC }
  | 0x03 => { c with estatus := v &&& 0x3F }
  | 0x06 => { c with tvec := v &&& 0xFFFFFFFC }
  | 0x07 => { c with nepc := v }
  | 0x08 => { c with nstatus := v &&& 0x3F }
  | 0x0A => { c with nvec := v &&& 0xFFFFFFFC }
  | 0x0B => { c with sscr0 := v }
  | 0x0C => { c with sscr1 := v }
  | 0x11 => { c with tscr := v }
  | _ => c

namespace State

/-! ## NMI (R218, R219) -/

/-- A core leaves the instruction it is blocked or stalled in, without any effect of it (R219). -/
def unblock (s : State) (m : Nat) : State :=
  let k := m / 16
  let s := match (s.core m).blockedIn with
    | some (.taskGet _) =>
      let q := s.sch k
      (s.setSch k { q with blocked := q.blocked.filter (fun j => j != m) }).wr (schB k) Sch.SCH_WAIT.WAIT
        (clrBit (s.rd (schB k) Sch.SCH_WAIT.WAIT) (m % 16))
    | some (.dbWait _) => s.wr (mbxB k) (Mbx.DB_STAT.WAITING.at (m % 16)) 0
    | none => s
  s.modCore m (fun c => { c with blockedIn := none, stall := none })

/-- The lowest pending source. -/
def lowest : List Nat → Option Nat
  | [] => none
  | x :: r => some (r.foldl min x)

/-- Core `m` enters NVEC for the lowest pending source (R218, R219, R228) (DESIGN CHOICE, log 17). -/
def takeNmi (s : State) (m : Nat) : State :=
  match lowest (s.core m).nmi with
  | none => s
  | some src =>
    let s := s.unblock m
    let c := s.core m
    let c := { c with nepc := c.pc, nstatus := c.status (s.paired m), ncause := BitVec.ofNat 32 src, prv := true,
                      nmil := true, pwr := 0, pc := c.nvec, nmi := c.nmi.filter (fun x => x != src) }
    (s.jumped m c).syncCore m

end State

/-- FNC.R: later loads wait for earlier loads; here the core goes on once they have returned (R33, R253). -/
def execFncR (m : Nat) (o : OpA) (s : State) : Out := .next (s.fence m o .fenceR false)

/-- FNC.W: the core goes on once its earlier stores have their responses (R33, R253). -/
def execFncW (m : Nat) (o : OpA) (s : State) : Out := .next (s.fence m o .fenceW false)

/-- FNC.RW: the core goes on once earlier loads and stores are answered (R33, R253). -/
def execFncRw (m : Nat) (o : OpA) (s : State) : Out := .next (s.fence m o .fenceRW false)

/-- FNC.SYS: drain markers go out and the core stalls until every die has reported (R33, R253). -/
def execFncSys (m : Nat) (o : OpA) (s : State) : Out := .next (s.fence m o .fenceSys true)

/-- FNC.CYC: the core stalls until its covered cycle writes are answered and committed; a and b zero (R35, R253). -/
def execFncCyc (m : Nat) (o : OpA) (s : State) : Out :=
  .next (
    if !s.canRun m then s
    else if !(o.a == 0 && o.b == 0) then s.illegal m
    else if (s.core m).awaits o.d.toNat then s.setCore m ((s.core m).wait .operand)
    else s.setCore m ((s.core m).wait (.fenceCyc o.d.toNat)))

/-- What a stalled fence awaits has arrived: the fence completes, and writes held for FNC.SYS reach the TCM (R33, R38). -/
def execFenceRelease (m : Nat) (s : State) : Out :=
  .next (
    let c := s.core m
    match c.stall with
    | some f =>
      if s.fenceMet m f && !s.isFrozen m && !s.inRst m then
        let t := s.goOn m c.done
        if f = .fenceSys then t.freeHeld m else t
      else s
    | none => s)

/-- FNC.CYC sends commit(n) and completes (R35): `n` is the subframe the rule gives. -/
def execFncCycCommit (m n : Nat) (s : State) : Out :=
  .next (
    match (s.core m).stall with
    | some (.fenceCyc d) =>
      if s.cycLanded m && n == s.cycChoice m && !s.isFrozen m && !s.inRst m then s.cycCommitGo m n d else s
    | _ => s)

/-- SRD gd, sr: a read of CCNT_LO latches CCNT_HI (R229, R231). -/
def execSrd (m : Nat) (o : OpS) (s : State) : Out :=
  .next (
    let c := s.core m
    let sr := o.imm.toNat
    if !s.canRun m then s
    else if !(o.r2 == 0) || 0x12 ≤ sr then s.illegal m
    else if !c.prv && !srTask sr then s.privTrap m
    else if c.awaits o.r1.toNat then s.setCore m (c.wait .operand)
    else
      let c' := if sr = 0x0E then { c with ccntHi := BitVec.ofNat 32 ((s.clk.el - c.born) / 2 ^ 32) } else c
      s.goOn m (c'.wg o.r1.toNat (s.srRead m sr)).done)

/-- SWR sr, ga: takes effect for the next instruction, whose fetch is checked under the new STATUS (R229, R231). -/
def execSwr (m : Nat) (o : OpS) (s : State) : Out :=
  .next (
    let c := s.core m
    let sr := o.imm.toNat
    if !s.canRun m then s
    else if !(o.r2 == 0) || 0x12 ≤ sr then s.illegal m
    else if !c.prv && !srTask sr then s.privTrap m
    else if c.awaits o.r1.toNat then s.setCore m (c.wait .operand)
    else
      let c' := (srWrite c sr (c.rg o.r1.toNat)).done
      if sr = 0 then s.jumped m c' else s.goOn m c')

/-- TRET: STATUS but for the power mode from ESTATUS, PC from EPC; ILLEGAL while EXL = 0 (R216, R228). -/
def execTret (m : Nat) (o : OpS) (s : State) : Out :=
  .next (
    let c := s.core m
    if !s.canRun m then s
    else if !(o.r1 == 0 && o.r2 == 0 && o.imm == 0) || !c.exl then s.illegal m
    else if !c.prv then s.privTrap m
    else s.jumped m ({ c.setStatus c.estatus with pwr := c.pwr }.doneAt c.epc))

/-- NRET: STATUS from NSTATUS, the power mode with it, PC from NEPC; a pending NMI is then taken; ILLEGAL while NMIL = 0
(R218, R228). -/
def execNret (m : Nat) (o : OpS) (s : State) : Out :=
  .next (
    let c := s.core m
    if !s.canRun m then s
    else if !(o.r1 == 0 && o.r2 == 0 && o.imm == 0) || !c.nmil then s.illegal m
    else if !c.prv then s.privTrap m
    else
      let c' := (c.setStatus c.nstatus).doneAt c.nepc
      if c'.nmi.isEmpty then
        (if c'.pwr = 2 then s.setCore m c' else s.jumped m c').syncCore m
      else if c'.nmil then s.setCore m c'
      else (s.setCore m c').takeNmi m)

/-- SYSCALL imm16: trap 0x05 with the immediate in ECAUSE[31:16]; the bits above imm16 zero (R215, R254). -/
def execSyscall (m : Nat) (hi : BitVec 4) (imm : BitVec 16) (s : State) : Out :=
  .next (
    if !s.canRun m then s
    else if !(hi == 0) then s.illegal m
    else
      let c := s.core m
      if c.exl then s.trap m 0 0 0
      else (s.setCore m { c with icnt := c.icnt + 1 }).trap m (BitVec.ofNat 32 (imm.toNat * 65536 + 5)) (c.pc + 4) 0)

/-- BREAK: trap 0x06 (R215). -/
def execBrk (m : Nat) (o : OpS) (s : State) : Out :=
  .next (
    if !s.canRun m then s
    else if !(o.r1 == 0 && o.r2 == 0 && o.imm == 0) then s.illegal m
    else s.trap m 0x06 (s.core m).pc (s.core m).pc)

/-- What FREEZE.Q says of a MID (R229). -/
def freezeWord (s : State) (mid : Nat) : Word :=
  match s.fz.find? (fun r => r.mid == mid) with
  | some r => BitVec.ofNat 32 ((s.isFrozen mid).toNat + 256 * r.cause + 4096)
  | none => BitVec.ofNat 32 (s.isFrozen mid).toNat

/-- FREEZE.Q gd, ga: supervisor only (R229, R254). -/
def execFreezeQ (m : Nat) (o : OpS) (s : State) : Out :=
  .next (
    let c := s.core m
    if !s.canRun m then s
    else if !(o.imm == 0) then s.illegal m
    else if !c.prv then s.privTrap m
    else if c.awaits o.r1.toNat || c.awaits o.r2.toNat then s.setCore m (c.wait .operand)
    else s.goOn m (c.wg o.r1.toNat (freezeWord s ((c.rg o.r2.toNat).toNat % 256))).done)

/-- PWR.HINT mode: RUN and DOZE from any privilege, PARK from supervisor, mode 3 ILLEGAL (R228, R254). -/
def execPwrHint (m : Nat) (o : OpS) (s : State) : Out :=
  .next (
    let c := s.core m
    if !s.canRun m then s
    else if !(o.r1 == 0 && o.r2 == 0) || 3 ≤ o.imm.toNat then s.illegal m
    else if o.imm.toNat = 2 && !c.prv then s.privTrap m
    else
      let c' := { c with pwr := o.imm.toNat }.done
      (if o.imm.toNat = 2 then s.setCore m c' else s.goOn m c').syncCore m)

/-- An NMI from source `src` reaches core `m` (R218, R219): held while NMIL = 1 or the core is frozen, discarded by a core
in reset, else entered at once. -/
def execNmiEntry (m src : Nat) (s : State) : Out :=
  .next (
    let s := { s with fc := { s.fc with nmis := s.fc.nmis.eraseP (fun e => e.1 == m && e.2 == src) } }
    if 32 ≤ m || !s.dieUp (m / 16) || s.inRst m || (s.paired m && m % 2 == 1) then s
    else
      let s := s.modCore m (fun c => { c with nmi := if c.nmi.contains src then c.nmi else c.nmi ++ [src % 512] })
      if (s.core m).nmil || s.isFrozen m then s else s.takeNmi m)

/-- The two cores of paired pair `q` of K-die `k` differ: the access is not issued, the pair freezes with LOCKSTEP and the
source fires (R227, R234); a split pair never does this. -/
def execCoreLockstepDiff (k q : Nat) (s : State) : Out :=
  .next (
    let m := 16 * k + 2 * q
    if q < 8 && s.dieUp k && decide (k < 2) && s.paired m && !s.inRst m && !s.isFrozen m then
      let c := s.core m
      ((s.modCore m (fun c => { c with stall := none })).freeze ⟨0, m, 3, false, false, !c.prv, c.exl, c.pc.toNat⟩).fireK k
        (0x040 + q)
    else s)

/-- A TCM error of core `m` (R234): corrected and counted, or the core (the pair in paired mode) freezes with TCMUE. Which
address failed, and whether a fetch met it, the spec leaves to the run. -/
def execTcmEccError (m : Nat) (ue : Bool) (s : State) : Out :=
  .next (
    let k := m / 16
    let q := m % 16 / 2
    let l := s.lead m
    if 32 ≤ m || !s.dieUp k then s
    else if !ue then
      let s := s.inc (coreB l) Cc.CORE_STAT.TCMCE
      (if s.paired m then s.wr (coreB (l + 1)) Cc.CORE_STAT.TCMCE (s.rd (coreB l) Cc.CORE_STAT.TCMCE) else s).fireK k
        (0x050 + q)
    else
      let c := s.core l
      let w := s.freeWord
      let b := w.2.freeBit
      let s := b.2
      (if s.inRst l then s
       else (s.modCore l (fun c => { c with stall := none })).freeze
         ⟨w.1.toNat, l, 5, false, b.1, !c.prv, c.exl, c.pc.toNat⟩).fireK k (0x058 + q))

/-- A shared SRAM error on K-die `k` (R234): corrected, or returned to the reader. -/
def execSramEccError (k : Nat) (ue : Bool) (s : State) : Out :=
  .next (if s.dieUp k then s.fireK k (if ue then 0x049 else 0x048) else s)

end Sys2Proof.Machine
end

