-- ==== Sys2Proof/Machine/CoreCtl.lean ====
section
/-!
DEFINITION. Core control, load data and the release of frozen masters (R209, R212, R223, R224, R230, R270).
-/
namespace Sys2Proof.Machine

namespace State

/-- A write refused under R209. -/
def noPerm (s : State) : State := s.wr fzB Fz.FZ_RSTAT.NOPERM 1

/-! ## Load data (R212, R262, R263) -/

/-- The datum as the destination takes it: `size` bytes, extended. -/
def extended (l : Load) (v : BitVec 64) : BitVec 64 :=
  let n := v.toNat % 2 ^ (8 * l.size)
  if l.sext && n.testBit (8 * l.size - 1) then BitVec.ofNat 64 (n + 2 ^ 64 - 2 ^ (8 * l.size)) else BitVec.ofNat 64 n

/-- Outstanding load `i` of core `m` completes with its datum. -/
def finishLoad (s : State) (m i : Nat) (l : Load) (v : BitVec 64) : State :=
  s.modCore m (fun c =>
    let c := { c with loads := c.loads.eraseIdx i }
    let v := extended l v
    if l.size = 8 then (c.wg l.dst (v.setWidth 32)).wg (l.dst + 1) (BitVec.ofNat 32 (v.toNat / 2 ^ 32))
    else c.wg l.dst (v.setWidth 32))

/-- LOAD_DATA_RETURN: an uncorrectable shared SRAM error freezes the core with MEMUE at the load (R221), which stays
outstanding for a RETRY; otherwise the destination is written, on a frozen core too (R40) (DESIGN CHOICE, log 13). -/
def loadReturn (s : State) (m i : Nat) (ue : Bool) : State :=
  let s := s.chanReach m i
  match (s.core m).loads[i]? with
  | none => s
  | some l =>
    let sram := decide (0x10000000 ≤ l.addr) && decide (l.addr < 0x10800000) && l.kind == .mem
    if ue && sram then
      (s.modCore m (fun c => { c with stall := none })).freeze
        ⟨l.addr, m, 6, false, false, !l.sup, (s.core m).exl, l.pc⟩
    else match l.val with
      | some v => s.finishLoad m i l v
      | none =>
        if l.addr < 0x60000000 then
          let (w, s) := s.takeRead (s.accMid m) l.addr
          s.finishLoad m i l (w.setWidth 64)
        else
          let (w, s) := s.freeWord
          let (v, s) := s.freeWord
          s.finishLoad m i l (BitVec.ofNat 64 (w.toNat + v.toNat * 2 ^ 32))

/-! ## Reset and release of a core (R230, R257, R270) -/

/-- One core is held in reset: its puts and gets complete, its given tasks are abandoned, its freeze ends, its NMI is lost
(DEDUCED, log 18). -/
def resetOne (s : State) (m : Nat) : State :=
  let s := (List.range (s.core m).loads.length).foldl (fun (s : State) i => s.chanReach m i) s
  let k := m / 16
  let s := s.setCore m Core.reset
  let q := s.sch k
  let s := s.setSch k { q with blocked := q.blocked.filter (fun j => j != m) }
  let s := s.wr (schB k) Sch.SCH_WAIT.WAIT (clrBit (s.rd (schB k) Sch.SCH_WAIT.WAIT) (m % 16))
  let s := s.wr (mbxB k) (Mbx.DB_STAT.WAITING.at (m % 16)) 0
  let s := { s with fc := { s.fc with nmis := s.fc.nmis.filter (fun e => e.1 != m) } }
  let s := (s.wr (coreB m) Cc.CORE_CTL.RST 1).unfreeze m
  (s.abandon m).syncCore m

/-- RST = 1 (R230): ignored on the odd core of a paired pair, and on the even one it resets both. -/
def coreReset (s : State) (m : Nat) : State :=
  if 32 ≤ m || !s.hasK (m / 16) then s
  else
    let both := s.on (coreB (m / 2 * 2)) Cc.CORE_CTL.PAIRED
    if both && m % 2 = 1 then s
    else
      let s := s.resetOne m
      let s := if both then s.resetOne (m + 1) else s
      if m = 0 then { s with rom := false } else s

/-- The doorbells of a released core (R270). -/
def bellsAtRelease (s : State) (m : Nat) : State :=
  let b := mbxB (m / 16)
  let s := (s.wr b (Mbx.DB_PEND.PEND.at (m % 16)) 0).wr b (Mbx.DB_MASK.MASK.at (m % 16)) 0
  s.kdies.foldl (fun (s : State) k => (List.range 64).foldl (fun (s : State) c =>
    let b := mbxB k
    if s.on b (Mbx.CH_STAT.FULL.at c) && s.on b (Mbx.CH_BIND.DBEN.at c) && s.rd b (Mbx.CH_BIND.RXMID.at c) == m then
      (s.chanRing k m (s.rd b (Mbx.CH_BIND.RXBIT.at c))).wr b (Mbx.CH_STAT.RX_RESET_SEEN.at c) 1
    else s) s) s

/-- One core leaves reset (R230). -/
def releaseOne (s : State) (m : Nat) : State :=
  let e := s.rd (coreB m) Cc.CORE_STAT.EPOCH
  let s := (s.wr (coreB m) Cc.CORE_CTL.RST 0).wr (coreB m) Cc.CORE_STAT.EPOCH (e + 1)
  s.setCore m { Core.reset with pc := BitVec.ofNat 32 (s.rd (coreB m) Cc.CORE_BOOT.BOOTPC * 4), born := s.clk.el }

/-- RST = 0 on a core that is held in reset (R226, R230, R270); its first fetch is checked. -/
def coreRelease (s : State) (m : Nat) : State :=
  if 32 ≤ m || !s.dieUp (m / 16) || !s.inRst m then s
  else
    let ev := m / 2 * 2
    let both := s.on (coreB ev) Cc.CORE_CTL.PAIRED
    if both && m % 2 = 1 then s
    else
      let s := if m = ev || !both then (s.wrB (coreB ev) Cc.CORE_STAT.PAIRACT both).wrB (coreB (ev + 1)) Cc.CORE_STAT.PAIRACT both
               else s
      let s := s.releaseOne m
      let s := if both then s.releaseOne (m + 1) else s
      ((s.bellsAtRelease m).fetchAt m).syncCore m

/-! ## Release of a frozen master (R224) -/

/-- A core goes on after its freeze: a pending NMI is entered (R219), else a faulting fetch is tried again. -/
def goAgain (s : State) (m : Nat) (fetch : Bool) : State :=
  let c := s.core m
  if !c.nmi.isEmpty && !c.nmil then s.takeNmi m else if fetch then s.fetchAt m else s

/-- ACT 1: the action, if the master and the cause permit it (DEDUCED, log 18). -/
def actRetry (s : State) (m : Nat) (r : FzRec) : Option State :=
  if m < 32 then
    if r.cause = 3 ∨ r.cause = 5 then none else some ((s.unfreeze m).goAgain m r.fetch)
  else if m < 0x40 then some ((s.unfreeze m).dRelease m false)
  else if m = 0x40 ∨ m = 0x41 then
    some (((s.unfreeze m).modLaw (m - 0x40) (fun x => { x with wait := true })).wr (lawB (m - 0x40)) Law.LAW_STAT.FROZEN 0)
  else some (s.unfreeze m)

/-- ACT 2: VIOL for a core frozen by a window or by MEMUE with EXL = 0 (R215); the load that met MEMUE is given up
(DEDUCED, log 18). -/
def actTrap (s : State) (m : Nat) (r : FzRec) : Option State :=
  if m < 32 ∧ (r.cause ≤ 2 ∨ r.cause = 6) ∧ !r.exl then
    let s := s.unfreeze m
    let s := if r.cause = 6 then s.modCore m (fun c => { c with loads := c.loads.eraseP (fun l => l.addr == r.addr && l.pc == r.pc) })
             else s
    let s := s.enterTrap m (BitVec.ofNat 32 (7 + 256 * r.fetch.toNat + 1024 * r.wr.toNat)) (BitVec.ofNat 32 r.pc)
      (BitVec.ofNat 32 r.addr)
    some (s.goAgain m false)
  else none

/-- ACT 3: a core is reset and held, both cores of a pair; a DMA channel becomes idle (DEDUCED, log 18). -/
def actReset (s : State) (m : Nat) (_ : FzRec) : Option State :=
  if m < 32 then some (s.coreReset m)
  else if m < 0x40 then some ((s.unfreeze m).dRelease m true)
  else none

/-- A write to FREEZE_CTL (R224): the first refusal that applies sets its flag (DEDUCED, log 18). -/
def release (s : State) (w : Wr) (m : Nat) (act : State → Nat → FzRec → Option State) : State :=
  if !privileged w then s.noPerm
  else match s.frozen.find? (fun e => e.1 == m) with
    | none => s.wr fzB Fz.FZ_RSTAT.NOTFROZEN 1
    | some e => match act s m e.2 with
      | some t => t
      | none => s.wr fzB Fz.FZ_RSTAT.BADACT 1

end State

/-! ## The commands -/

/-- LOAD_DATA_RETURN (R212). -/
def execLoadDataReturn (m i : Nat) (ue : Bool) (s : State) : Ans := .next (if m < 32 then s.loadReturn m i ue else s)
/-- RELEASE_RETRY (R224). -/
def execReleaseRetry (w : Wr) (m : Nat) (s : State) : Ans := .next ((s.release w m State.actRetry).retire w (fzB + 0x10))
/-- RELEASE_TRAP (R224). -/
def execReleaseTrap (w : Wr) (m : Nat) (s : State) : Ans := .next ((s.release w m State.actTrap).retire w (fzB + 0x10))
/-- RELEASE_RESET (R224). -/
def execReleaseReset (w : Wr) (m : Nat) (s : State) : Ans := .next ((s.release w m State.actReset).retire w (fzB + 0x10))
/-- FZ_POP (R223): the head record goes. -/
def execFzPop (w : Wr) (s : State) : Ans := .next ((({ s with fz := s.fz.tail }).syncFz).retire w (fzB + 0x2C))
/-- CORE_RESET (R209, R230). -/
def execCoreReset (w : Wr) (m : Nat) (s : State) : Ans :=
  .next ((if privileged w then s.coreReset m else s.noPerm).retire w (coreB m))
/-- CORE_RELEASE (R209, R230). -/
def execCoreRelease (w : Wr) (m : Nat) (s : State) : Ans :=
  .next ((if privileged w then s.coreRelease m else s.noPerm).retire w (coreB m))

end Sys2Proof.Machine
end

