-- ==== Sys2Proof/Machine/Lane.lean ====
section
/-!
DEFINITION. The shared operations of the cell lanes (R59 to R108): lane states and the laser enable, cell contexts, ranging,
grant maps, the frame built at the lane build cut-off, and what a reception does.
-/
namespace Sys2Proof.Machine

namespace State

def modLane (s : State) (ln : Nat) (f : Lane → Lane) : State := s.setLane ln (f (s.lane ln))
def modCtx (s : State) (c : Nat) (f : Ctx → Ctx) : State := s.setCtx c (f (s.ctx c))

/-- The lane is on the part and its die is up (R108, R457). -/
def laneUp (s : State) (ln : Nat) : Bool := s.hasL (ln / 16) && s.dieUp (2 + ln / 16)
/-- LSTATE (R100): 0 DARK, 1 WAKING, 2 OFF, 3 RUN, 4 LISTEN. -/
def lstate (s : State) (ln : Nat) : Nat := s.rd (laneB ln) Lane.LANE_STAT.LSTATE
/-- The first fault source of the lane's L-die (R107). -/
def ldieSrc (ln : Nat) : Nat := 0x0C0 + 0x20 * (ln / 16)

/-- Set bit `i` of LANE_EVT (R106). -/
def laneEvt (s : State) (ln i : Nat) : State :=
  s.raiseBit (laneB ln) Lane.LANE_EVT.EVT Lane.LANE_EVTEN.EN i none (0x40 + ln)

/-- A lane fault cause is detected: it is set, and the lane's source fires (R104, R107, R352). -/
def laneFault (s : State) (ln cause : Nat) : State :=
  (s.wr (laneB ln) Lane.LANE_FLT.CAUSE (setBit (s.rd (laneB ln) Lane.LANE_FLT.CAUSE) cause)).fire (ldieSrc ln + ln % 16)

/-! ## The laser enable and lane states (R100, R102, R397) -/

/-- The pair interlock permits light (R397). -/
def pairPermits (s : State) : Bool :=
  !s.on pairB Pair.PAIR_CTL.PAIR_EN || (s.pair.actOut && !s.on pairB Pair.PAIR_STAT.ACTIN)

/-- LANEn_TXEN (R102, R107, R397). -/
def syncTx (s : State) (ln : Nat) : State :=
  s.wrB (laneB ln) Lane.LANE_STAT.TXEN (s.lstate ln == 3 && !s.txHold.contains (ln / 16) && s.pairPermits)

/-- Every lane's TXEN follows. -/
def syncAllTx (s : State) : State := s.laneList.foldl (fun (s : State) n => s.syncTx n) s

/-- Every context of the lane is EMPTY. -/
def allEmpty (s : State) (ln : Nat) : Bool :=
  (List.range 96).all (fun i => s.rd (ctxB (ln * 96 + i)) Ctx.CELL_STAT.CSTATE == 0)

/-- A scan ends early (R99). -/
def endScan (s : State) (ln : Nat) : State :=
  match (s.lane ln).scan with
  | some _ => ((s.modLane ln (fun x => { x with scan := none })).wr (laneB ln) Lane.RS_STAT.BUSY 0).wr (laneB ln)
      Lane.RS_STAT.ABORTED 1
  | none => s

/-- The lane reaches OFF: a held DARK request takes effect or is refused (R100). -/
def reachOff (s : State) (ln : Nat) : State :=
  let b := laneB ln
  let s := s.wr b Lane.LANE_STAT.LSTATE 2
  if (s.lane ln).darkHeld then
    let s := s.modLane ln (fun x => { x with darkHeld := false })
    if s.allEmpty ln then (s.wr b Lane.LANE_STAT.LSTATE 0).wr b Lane.LANE_CTL.DARK 1
    else (s.wr b Lane.LANE_STAT.DARK_REJ 1).wr b Lane.LANE_CTL.DARK 0
  else s.wr b Lane.LANE_CTL.DARK 0

/-- The lane goes into state `v` (R100, R101). -/
def setLstate (s : State) (ln v : Nat) : State :=
  let b := laneB ln
  let s := if s.lstate ln = 3 ∧ v ≠ 3 then s.wr b Lane.WAKE_CTL.BUSY 0 else s
  (if v = 2 then s.reachOff ln else s.wr b Lane.LANE_STAT.LSTATE v).syncTx ln

/-- The running state of a lane with EN = 1 (R100, R394). -/
def runState (s : State) (ln : Nat) : Nat :=
  if s.pstate = 1 ∨ s.pstate = 2 then 4
  else if s.pstate = 3 ∨ s.pstate = 4 then 3
  else if s.on (laneB ln) Lane.LANE_CTL.LISTEN then 4 else 3

/-- The running lanes take the state that the pair logic holds them in (R394). -/
def syncLanes (s : State) : State :=
  (s.laneList.filter (fun n => s.lstate n == 3 || s.lstate n == 4)).foldl
    (fun (s : State) n => if s.lstate n = s.runState n then s.syncTx n else s.setLstate n (s.runState n)) s

/-! ## Contexts (R93, R105) -/

def cstate (s : State) (c : Nat) : Nat := s.rd (ctxB c) Ctx.CELL_STAT.CSTATE
/-- RANGING, ACTIVE or DEGRADED (R93). -/
def enabledSt (v : Nat) : Bool := v == 2 || v == 3 || v == 4
/-- The serial number bound to the slot. -/
def serialOf (s : State) (c : Nat) : BitVec 48 :=
  BitVec.ofNat 48 (s.rd (ctxB c) Ctx.CELL_SER_HI.SERIAL * 2 ^ 32 + s.rd (ctxB c) Ctx.CELL_SER_LO.SERIAL)

/-- A context changes its state: NENABLED, a scan of its cell and the pair's list of changes follow (R93, R99, R369, R403). -/
def setCstate (s : State) (c v : Nat) : State :=
  let ln := c / 96
  let old := s.cstate c
  let s := s.wr (ctxB c) Ctx.CELL_STAT.CSTATE v
  let n := s.rd (laneB ln) Lane.LANE_STAT.NENABLED
  let s := if enabledSt old && !enabledSt v then s.wr (laneB ln) Lane.LANE_STAT.NENABLED (n - 1)
    else if !enabledSt old && enabledSt v then s.wr (laneB ln) Lane.LANE_STAT.NENABLED (n + 1) else s
  let scanned := match (s.lane ln).scan with | some x => x.slot == c % 96 | none => false
  let s := if scanned && v != 3 && v != 4 then s.endScan ln else s
  let s := if v = 3 ∧ old = 2 then s.modCtx c (fun x => { x with flt := none }) else s
  if s.pstate = 3 ∨ s.pstate = 4 then
    { s with pair := { s.pair with changes := s.pair.changes ++
      [⟨c, v, s.rd (ctxB c) Ctx.CELL_RTD.RTD, s.rd (ctxB c) Ctx.CELL_DDN.DDN, (s.cycNum + 2) % 2 ^ 32⟩] } }
  else s

/-- ACMD_STAT follows the queue (R105). -/
def syncAcmd (s : State) (c : Nat) : State :=
  let x := s.ctx c
  let b := ctxB c
  ((s.wr b Ctx.ACMD_STAT.DEPTH (x.queue.length + (if x.out.isSome then 1 else 0))).wrB b Ctx.ACMD_STAT.OUT x.out.isSome).wr b
    Ctx.ACMD_STAT.RESENDS (match x.out with | some o => o.resends | none => 0)

/-- The queue is flushed (R93). -/
def flushCtx (s : State) (c : Nat) : State :=
  let x := s.ctx c
  let had := !x.queue.isEmpty || x.out.isSome
  let s := (s.setCtx c { x with queue := [], out := none }).syncAcmd c
  if had then s.wr (ctxB c) Ctx.ACMD_STAT.FLUSHED 1 else s

/-- An operation for MAINT is queued, once (R76). -/
def maintAdd (s : State) (ln : Nat) (o : MaintOp) : State :=
  s.modLane ln (fun x => if x.maint.contains o then x else { x with maint := x.maint ++ [o] })

/-- OCCULT by identity (R76). -/
def occultId (s : State) (c : Nat) (serial : BitVec 48) : State := s.maintAdd (c / 96) ⟨2, c % 96, serial, 0, 0⟩

/-- What a cell leaves behind when its context leaves a state: ranging, episode, tracking, entries. -/
def leaveCtx (s : State) (c : Nat) : State :=
  let sl := c % 96
  let s := s.modCtx c (fun x => { x with rng := none, episode := false, rgMade := 0, goods := 0, drift := [], eqWait := false })
  let s := s.wr (ctxB c) Ctx.CELL_STAT.RGCNT 0
  s.modLane (c / 96) (fun x =>
    { x with regrant := x.regrant.filter (fun e => e.1 != sl), occ := x.occ.filter (fun o => o.slot != sl),
             maint := x.maint.filter (fun o => !(o.mop == 4 && o.slot == sl)) })

/-- Ranging of a context begins (R89, R90). -/
def startRanging (s : State) (c : Nat) (gs : List Nat) (retried : Bool) : State :=
  let s := (s.leaveCtx c).setCstate c 2
  match gs with
  | [] => s
  | g :: r => s.modCtx c (fun x =>
      { x with rng := some { guesses := r, guess := g, placed := false, retried := retried, await := false, sent := false,
                             waited := 0 } })

/-- Ranging fails (R89, R93). -/
def rangeFail (s : State) (c cause : Nat) : State :=
  let s := (s.wr (ctxB c) Ctx.CELL_STAT.RFCAUSE cause).occultId c (s.serialOf c)
  ((s.leaveCtx c).setCstate c 1).laneEvt (c / 96) 4

/-- RTD in whole ns, as a guess (R75, R89: 11 bits) (DESIGN CHOICE, log 28). -/
def rtdNs (s : State) (c : Nat) : Nat := min 2047 ((s.rd (ctxB c) Ctx.CELL_RTD.RTD + 82) / 165)

/-- Step 7 of R89: one retry with G = RTD, then cause ALIGN. -/
def retryRanging (s : State) (c : Nat) : State :=
  match (s.ctx c).rng with
  | some r => if r.retried then s.rangeFail c 4 else s.startRanging c [s.rtdNs c] true
  | none => s

/-- DDN follows RTD and ASYM (R88) (DESIGN CHOICE, log 28). -/
def setDdn (s : State) (c : Nat) : State :=
  let a := toSigned (s.rd (laneB (c / 96)) Lane.ASYM.ASYM) 16
  let d := s.divFree ((s.rd (ctxB c) Ctx.CELL_RTD.RTD : Int) + a) 2
  d.2.wr (ctxB c) Ctx.CELL_DDN.DDN (max 0 d.1).toNat

/-- DDN breaks R46: it exceeds ALIGN_DELAY - 40 ns. -/
def ddnTooLong (s : State) (c : Nat) : Bool :=
  decide ((s.alignNs - 40) * 165 < s.rd (ctxB c) Ctx.CELL_DDN.DDN)

/-- A cell is occulted (R93, R96, R97); `entries`: by ACMD entries. -/
def occultCtx (s : State) (c : Nat) (entries : Bool) : State :=
  if enabledSt (s.cstate c) then
    let s := (s.leaveCtx c).setCstate c 5
    if entries then s.modLane (c / 96) (fun x => { x with occ := x.occ ++ [⟨c % 96, 8, 0, false⟩] }) else s
  else s

/-- A cell becomes DEGRADED (R85, R86, R93). -/
def degrade (s : State) (c : Nat) : State :=
  if s.cstate c = 3 then
    let s := s.modCtx c (fun x => { x with episode := false, rgMade := 0, goods := 0 })
    let s := (s.wr (ctxB c) Ctx.CELL_STAT.RGCNT 0).modLane (c / 96) (fun x =>
      { x with regrant := x.regrant.filter (fun e => e.1 != c % 96) })
    ((s.setCstate c 4).laneEvt (c / 96) 7).fire (ldieSrc (c / 96) + 19)
  else s

/-! ### CELL_CMD -/

def cmdCntclr (s : State) (c : Nat) : State :=
  let b := ctxB c
  ((((s.wr b Ctx.CELL_CNT0.RPT_OK 0).wr b Ctx.CELL_CNT0.RPT_FAIL 0).wr b Ctx.CELL_CNT1.LATE 0).wr b Ctx.CELL_CNT1.DCRC 0).wr b
    Ctx.CELL_SEE.MIN 255

def cmdRelease (s : State) (c : Nat) : State :=
  if s.cstate c = 0 then s
  else
    let s := s.maintAdd (c / 96) ⟨3, c % 96, s.serialOf c, 0, 0⟩
    ((s.flushCtx c).leaveCtx c).setCstate c 0

def cmdOccult (s : State) (c : Nat) : State := s.occultCtx c true

def cmdEnable (s : State) (c : Nat) : State :=
  if s.cstate c = 1 ∨ s.cstate c = 5 then
    if s.rd (laneB (c / 96)) Lane.LANE_STAT.NENABLED < s.upSlots then s.startRanging c [260, 780, 1300] false
    else s.wr (ctxB c) Ctx.CELL_STAT.ENREJ 1
  else s

def cmdAssign (s : State) (c : Nat) : State := if s.cstate c = 0 then s.setCstate c 1 else s

/-- CELL_CMD as written (R93): CNTCLR, RELEASE, OCCULT, ENABLE, ASSIGN. -/
def cellCmd (s : State) (c v : Nat) : State :=
  let s := if v.testBit 4 then s.cmdCntclr c else s
  let s := if v.testBit 3 then s.cmdRelease c else s
  let s := if v.testBit 2 then s.cmdOccult c else s
  let s := if v.testBit 1 then s.cmdEnable c else s
  if v.testBit 0 then s.cmdAssign c else s

/-- A push onto the context's queue (R105). -/
def acmdPush (s : State) (c : Nat) (w : Word) : State :=
  let x := s.ctx c
  let op := cmdOp w
  if op = 7 ∨ op = 8 ∨ op = 0xC then s.wr (ctxB c) Ctx.ACMD_STAT.REJ 1
  else if 4 ≤ x.queue.length + (if x.out.isSome then 1 else 0) then s.wr (ctxB c) Ctx.ACMD_STAT.OVF 1
  else (s.setCtx c { x with queue := x.queue ++ [w] }).syncAcmd c

/-- HELD_WR of a context (R104, R105, R107). -/
def ctxHeld (s : State) (c : Nat) : State :=
  ((s.wr (ctxB c) Ctx.CELL_STAT.HELD_WR 1).wr (laneB (c / 96)) Lane.LANE_STAT.HELD_WR 1).fire (ldieSrc (c / 96) + 22)

/-- The words of an arm reach its cells in this pass (R71). -/
def armDrives (s : State) (k c : Nat) : Bool :=
  let x := s.arm k (s.armOf k c)
  x.ranks || x.blocks

/-- The K-die whose modulator gives the cell's slot word. -/
def driver (s : State) (c : Nat) : Option Nat :=
  (s.kdies).find? (fun k => s.mappedOn k c && (s.armRuns k (s.armOf k c) || s.armDrives k c))

/-- A released write to a context (R105). -/
def ctxWrite (s : State) (c off v : Nat) : State :=
  let b := ctxB c
  let runs := s.cstate c != 0
  let held (s : State) : State := s.ctxHeld c
  let w1c (fs : List Fld) (s : State) : State := fs.foldl (fun (s : State) f => if v.testBit f.lsb then s.wr b f 0 else s) s
  match off with
  | 0x00 => s.heldSet b Ctx.CELL_SER_LO.SERIAL runs v held
  | 0x04 => s.heldSet b Ctx.CELL_SER_HI.SERIAL runs (v % 65536) held
  | 0x08 => s.cellCmd c (v % 32)
  | 0x0C => w1c [Ctx.CELL_STAT.ENREJ, Ctx.CELL_STAT.CMDW_REJ, Ctx.CELL_STAT.HELD_WR, Ctx.CELL_STAT.LATE] s
  | 0x1C =>
    let s := s.wr b Ctx.CMDW.WORD v
    if (s.driver c).isSome then s.wr b Ctx.CELL_STAT.CMDW_REJ 1
    else s.modCtx c (fun x => { x with cmdw := some (BitVec.ofNat 32 v) })
  | 0x20 => s.acmdPush c (BitVec.ofNat 32 v)
  | 0x24 => w1c [Ctx.ACMD_STAT.DONE, Ctx.ACMD_STAT.FAIL, Ctx.ACMD_STAT.OVF, Ctx.ACMD_STAT.REJ, Ctx.ACMD_STAT.FLUSHED] s
  | 0x28 => if v.testBit 24 then s.wr b Ctx.RDATA.VALID 0 else s
  | _ => s

/-- The context an address of an L-die's context range lies in (R22). -/
def ctxOfAddr (a : Nat) : Nat :=
  let o := a % 0x1000000 - 0x100000
  ((a - 0x40000000) / 0x1000000 * 16 + o / 0x6000) * 96 + o % 0x6000 / 0x100

/-! ## Upstream frames (R51, R75) -/

/-- The cycle whose upstream frame is being received, and its B_0 (R51). -/
def upFrame (s : State) : Option (Nat × Nat) :=
  match s.clk.b0 with
  | none => none
  | some (t, c) =>
    let dur := s.nsub * 1250 * 65536
    if s.clk.pt < t + 2000 * 65536 then
      (match s.clk.prev with
       | some (p, l) => if s.clk.pt < p + dur + 2000 * 65536 then some (l, p) else none
       | none => none)
    else if s.running || decide (s.clk.pt < t + dur + 2000 * 65536) then some (c, t)
    else none

/-- The own map that governs the upstream frame of cycle `c`. -/
def mapFor (s : State) (ln c : Nat) : Option GrantMap := (s.lane ln).maps.find? (fun g => (g.cyc + 1) % 2 ^ 48 == c)

/-- The slot number granted report slot `u` of cycle `c`: by the own map, else as the pair mirror told (R102, R406). -/
def reportOwner (s : State) (ln c u : Nat) : Option Nat :=
  match (if s.lstate ln = 3 then s.mapFor ln c else none) with
  | some g => (match g.slots[u]? with | some sl => if sl < 96 then some sl else none | none => none)
  | none => (List.range 96).find? (fun sl => s.rd (ctxB (ln * 96 + sl)) Ctx.CELL_STAT.GRANT_U == u)

/-! ## The frame built at the lane build cut-off (R67 to R76) -/

/-- The slot word of slot `sl` (R50, R71). -/
def slotWord (s : State) (c : Nat) : Word :=
  let x := s.ctx c
  if x.nopOnce then 0
  else
    match s.kdies.find? (fun k => (s.modul k).rstFrames != 0 && (s.modul k).rstCells.contains c) with
    | some _ => stateWord 3
    | none =>
      match s.driver c with
      | some k => Tab.get (s.arm k (s.armOf k c)).words c 0
      | none => (match x.cmdw with | some w => w | none => 0)

/-- An ACMD entry (R72): first word. -/
def acmdFirst (ack : Bool) (seq slot : Nat) : Nat := 2 ^ 31 + ack.toNat * 2 ^ 30 + seq % 4 * 2 ^ 28 + slot * 2 ^ 16

/-- Re-sends that are due, ascending, up to `n` (R72, R85). -/
def acmdResends (s : State) (ln n : Nat) : List (Nat × Nat) × State :=
  let due := ((List.range 96).filter (fun sl =>
    let c := ln * 96 + sl
    (s.cstate c == 3 || s.cstate c == 4) && (match (s.ctx c).out with | some o => o.due | none => false))).take n
  due.foldl (fun (p : List (Nat × Nat) × State) sl =>
    let c := ln * 96 + sl
    match (p.2.ctx c).out with
    | some o =>
      let o' := { o with due := false, resends := o.resends + 1, cyc := p.2.cycNum, held := 0 }
      let s := p.2.modCtx c (fun x => { x with out := some o' })
      (p.1 ++ [(acmdFirst true o.seq.toNat sl, o.word.toNat)], (s.syncAcmd c).inc (laneB ln) Lane.CNT_ACMDRS.COUNT)
    | none => p) ([], s)

/-- New commands, round-robin after the slot served last, up to `n` (R72, R85, R407). -/
def acmdNew (s : State) (ln n : Nat) : List (Nat × Nat) × State :=
  let order := (List.range 96).map (fun i => ((s.lane ln).rr + 1 + i) % 96)
  let pick := (order.filter (fun sl =>
    let x := s.ctx (ln * 96 + sl)
    let st := s.cstate (ln * 96 + sl)
    (st == 3 || st == 4) && x.out.isNone && !x.queue.isEmpty && !x.seqWait)).take n
  pick.foldl (fun (p : List (Nat × Nat) × State) sl =>
    let c := ln * 96 + sl
    let x := p.2.ctx c
    match x.queue with
    | w :: r =>
      let seq := (p.2.rd (ctxB c) Ctx.ACMD_STAT.SEQ + 1) % 4
      let s := p.2.setCtx c { x with queue := r, out := some ⟨w, BitVec.ofNat 2 seq, p.2.cycNum, 0, false, 0⟩ }
      let s := ((s.wr (ctxB c) Ctx.ACMD_STAT.SEQ seq).syncAcmd c).modLane ln (fun l => { l with rr := sl })
      (p.1 ++ [(acmdFirst true seq sl, w.toNat)], s)
    | [] => p) ([], s)

/-- The two ACMD blocks of R72. -/
def buildAcmd (s : State) (ln subn : Nat) : List Block × State :=
  let occ := ((s.lane ln).occ.map (fun o => (acmdFirst false 0 o.slot, 0x70000000))).take 8
  let rs := s.acmdResends ln (8 - occ.length)
  let nw := rs.2.acmdNew ln (8 - occ.length - rs.1.length)
  let es := occ ++ rs.1 ++ nw.1
  let blk (i : Nat) : Block := Block.make 0x11 i subn (fun w =>
    let e := es.getD (4 * i + w / 2) (0, 0)
    if w % 2 = 0 then e.1 else e.2)
  ([blk 0, blk 1], nw.2)

/-- A MAINT block (R76). -/
def maintBlock (subn : Nat) (o : Option MaintOp) : Block :=
  match o with
  | some o => Block.make 0x05 0 subn (fun w => match w with
      | 0 => o.mop * 2 ^ 28 + o.slot * 2 ^ 16 + o.serial.toNat / 2 ^ 32
      | 1 => o.serial.toNat % 2 ^ 32
      | 2 => o.rtd
      | 3 => o.ddn
      | _ => 0)
  | none => Block.make 0x05 0 subn (fun _ => 0)

/-- EQSET of a context (R76). -/
def eqset (s : State) (c : Nat) : MaintOp :=
  ⟨4, c % 96, s.serialOf c, s.rd (ctxB c) Ctx.CELL_RTD.RTD, s.rd (ctxB c) Ctx.CELL_DDN.DDN⟩

/-- The slots whose cells have a report slot (R89 step 6, R94). -/
def wantSlot (s : State) (ln : Nat) : List Nat :=
  (List.range 96).filter (fun sl =>
    let c := ln * 96 + sl
    s.cstate c == 3 || s.cstate c == 4 ||
    (s.cstate c == 2 && (match (s.ctx c).rng with | some r => r.await && r.sent | none => false)))

/-- The context whose ranging entry takes the window: the longest waiting, the lowest slot first (R89). -/
def rangingPick (s : State) (ln : Nat) : Option (Nat × Ranging) :=
  (List.range 96).foldl (fun (b : Option (Nat × Ranging)) sl =>
    match (s.ctx (ln * 96 + sl)).rng with
    | some r =>
      if r.placed || r.await then b
      else (match b with
        | some (_, q) => if q.waited < r.waited then some (sl, r) else b
        | none => some (sl, r))
    | none => b) none

/-- What a Meridian changes before the map is built: light and OCCULT entries (R96, R97), burst light (R104), the
suspended ACKWAIT counts (R72) and GRANT_U (R105). -/
def meridianLane (s : State) (ln : Nat) : State :=
  let s := s.modLane ln (fun x =>
    { x with
      occ := (x.occ.map (fun o => if o.whole then { o with left := o.left - 1, clean := if x.lightNow then 0 else o.clean + 1 }
                                   else { o with left := o.left - 1, whole := true })).filter
               (fun o => o.left != 0 && decide (o.clean < 2)),
      occPersist := (if x.lightNow then x.occPersist.map (fun n => n + 1) else none),
      lightRun := if x.lightNow then x.lightRun + 1 else 0, lightNow := false,
      darkCyc := if x.burstNow then 0 else x.darkCyc + 1, burstNow := false })
  let s := (List.range 96).foldl (fun (s : State) sl =>
    let c := ln * 96 + sl
    match (s.ctx c).out with
    | some o => if s.cstate c = 3 ∨ s.cstate c = 4 then s else s.modCtx c (fun x => { x with out := some { o with held := o.held + 1 } })
    | none => s) s
  match s.mapFor ln s.cycNum with
  | some g => (List.range 96).foldl (fun (s : State) sl =>
      let u := g.slots.findIdx (fun e => e == sl)
      let v := if u < g.slots.length then u else 255
      if s.rd (ctxB (ln * 96 + sl)) Ctx.CELL_STAT.GRANT_U = v then s else s.wr (ctxB (ln * 96 + sl)) Ctx.CELL_STAT.GRANT_U v) s
  | none => s

/-- The grant map and the MAINT operation of a Meridian frame (R75, R76, R86, R89, R94). -/
def buildMap (s : State) (ln : Nat) : GrantMap × Option MaintOp × State :=
  let first := (s.lane ln).maint.find? (fun o => o.mop == 2 || o.mop == 3)
  let eqd := if first.isSome then none
    else (List.range 96).find? (fun sl =>
      match (s.ctx (ln * 96 + sl)).rng with | some r => r.await && !r.sent | none => false)
  let s := match eqd with
    | some sl => s.modCtx (ln * 96 + sl) (fun x => { x with rng := x.rng.map (fun r => { r with sent := true }) })
    | none => s
  let pick := if first.isSome || eqd.isSome then none else s.rangingPick ln
  let rgAll := (s.lane ln).regrant
  let ranging := match pick with
    | some (sl, r) => if rgAll.isEmpty || decide (16 ≤ r.waited) then some (sl, r) else none
    | none => none
  let s := (List.range 96).foldl (fun (s : State) sl =>
    let x := s.ctx (ln * 96 + sl)
    match x.rng with
    | some r =>
      if r.placed || r.await then s
      else
        let mine := match ranging with | some (q, _) => q == sl | none => false
        s.setCtx (ln * 96 + sl) { x with rng := some (if mine then { r with placed := true, waited := 0 }
                                                      else { r with waited := r.waited + 1 }) }
    | none => s) s
  let now := if ranging.isSome then [] else rgAll.take 11
  let later := if ranging.isSome then rgAll else rgAll.drop 11
  let s := (s.modLane ln (fun x => { x with regrant := later })).incBy (laneB ln) Lane.CNT_REGRANT.COUNT now.length
  let s := s.incBy (laneB ln) Lane.CNT_RGDROP.COUNT later.length
  let s := now.foldl (fun (s : State) e =>
    let c := ln * 96 + e.1
    (s.modCtx c (fun x => { x with rgMade := x.rgMade + 1 })).wr (ctxB c) Ctx.CELL_STAT.RGCNT ((s.ctx c).rgMade + 1)) s
  let g : GrantMap :=
    { cyc := s.cycNum, slots := (s.wantSlot ln).take s.upSlots,
      mode := if ranging.isSome then 2 else if now.isEmpty then 0 else 1, rgs := now,
      rng := ranging.map (fun e => (e.1, e.2.guess)) }
  let m := match first, eqd, ranging with
    | some o, _, _ => some o
    | none, some sl, _ => some (s.eqset (ln * 96 + sl))
    | none, none, some (sl, _) => some ⟨1, sl, s.serialOf (ln * 96 + sl), 0, 0⟩
    | none, none, none => (s.lane ln).maint.head?
  (g, m, s.modLane ln (fun x => { x with maps := (g :: x.maps).take 3 }))

/-- MAINT of a frame that is not the Meridian's (R76). -/
def nextMaint (s : State) (ln : Nat) : Option MaintOp :=
  match (s.lane ln).maint.find? (fun o => o.mop == 2 || o.mop == 3) with
  | some o => some o
  | none => (s.lane ln).maint.head?

/-- An operation has gone into a frame; an EQSET is followed by none to its cell before a report (R90). -/
def maintSent (s : State) (ln : Nat) (o : Option MaintOp) : State :=
  match o with
  | some o =>
    let s := s.modLane ln (fun x => { x with maint := x.maint.filter (fun y => y != o) })
    if o.mop = 4 then s.modCtx (ln * 96 + o.slot) (fun x => { x with eqWait := true }) else s
  | none => s

/-- The MER block (R74). -/
def merBlock (s : State) (subn : Nat) : Block :=
  let t := s.clk.bn
  let sec := t / 65536000000000
  Block.make 0x02 0 subn (fun w => match w with
    | 0 => s.cycNum % 2 ^ 32
    | 1 => s.cycNum / 2 ^ 32
    | 2 => sec % 2 ^ 32
    | 3 => sec / 2 ^ 32
    | 4 => t / 65536 % 1000000000
    | 5 => t % 65536
    | _ => 0)

/-- A CMDW word serves the frame of its cut-off alone (R71). -/
def clearCmdw (s : State) (ln : Nat) : State :=
  (List.range 96).foldl (fun (s : State) sl =>
    let x := s.ctx (ln * 96 + sl)
    if x.cmdw.isSome || x.nopOnce then s.setCtx (ln * 96 + sl) { x with cmdw := none, nopOnce := false } else s) s

/-- The frame of a running lane (R67, R71 to R76). -/
def buildFrame (s : State) (ln : Nat) : State :=
  let n := s.clk.n
  let subn := n % 65536
  let mer := s.subIdx = 0
  let s := if mer then s.meridianLane ln else s
  let words := (List.range 96).map (fun sl => (s.slotWord (ln * 96 + sl)).toNat)
  let s := s.clearCmdw ln
  let cmd (t : Nat) : List Block := (List.range 12).map (fun b => Block.make t b subn (fun w => words.getD (8 * b + w) 0))
  let ac := s.buildAcmd ln subn
  let bc := (ac.2.lane ln).bcast
  let s := (ac.2.modLane ln (fun x => { x with bcast := bc.drop 8 })).wr (laneB ln) Lane.BCAST_STAT.DEPTH (bc.length - 8)
  let bcb := Block.make 0x03 0 subn (fun w => (bc.getD w 0).toNat)
  let mp := if mer then s.buildMap ln else (⟨0, [], 0, [], none⟩, s.nextMaint ln, s)
  let s := mp.2.2.maintSent ln mp.2.1
  let merb := if mer then [s.merBlock subn] ++ mapBlocks subn mp.1 else []
  let rpt := if s.rdA (laneB ln) Lane.LANE_CTL.RPT_EN ≠ 0 then cmd 0x12 else []
  let fr := cmd 0x10 ++ ac.1 ++ [bcb] ++ merb ++ [maintBlock subn mp.2.1] ++ rpt
  s.modLane ln (fun x => { x with built := fr, builtN := some n })

/-! ## Receptions (R84 to R90, R96, R98) -/

/-- The seeing figure of a burst (R98); `good`: it counts for the mean (DESIGN CHOICE, log 28). -/
def seeing (s : State) (c fig : Nat) : State :=
  let b := ctxB c
  let ln := c / 96
  let f := min fig 255
  let h := (f :: (s.ctx c).see).take 16
  let a := s.divFree ((h.foldl (fun v x => v + x) 0 : Nat) : Int) h.length
  let avg := a.1.toNat
  let s := (((a.2.wr b Ctx.CELL_SEE.LAST f).wr b Ctx.CELL_SEE.MIN (min f (s.rd b Ctx.CELL_SEE.MIN))).wr b Ctx.CELL_SEE.AVG
    avg).almObs 6 ln f c
  let low := decide (avg < s.rd (laneB ln) Lane.SEE_CTL.SEE_WARN)
  let was := s.on b Ctx.CELL_STAT.SEE_LOW
  let s := s.wrB b Ctx.CELL_STAT.SEE_LOW low
  let s := if low && !was then s.laneEvt ln 8 else s
  let bad := decide (avg < s.rd (laneB ln) Lane.SEE_CTL.SEE_ERR)
  s.modCtx c (fun x => { x with see := h, seeBad := if bad then x.seeBad + 1 else 0, seeDone := x.seeDone && bad })

/-- RNG_LIM in UI/16 (R104). -/
def rngLim (s : State) (ln : Nat) : Nat := min 20 (s.rd (laneB ln) Lane.RNG_CTL.RNG_LIM) * 16

/-- Continuous ranging by a good report of an ACTIVE or DEGRADED cell (R90). -/
def track (s : State) (c : Nat) (err : Int) : State :=
  let ln := c / 96
  let x := s.ctx c
  let band : Nat := s.rd (laneB ln) Lane.RNG_CTL.RNG_TRK * 16
  let pend := (s.lane ln).maint.any (fun o => o.mop == 4 && o.slot == c % 96)
  if s.rngLim ln < err.natAbs then
    (s.startRanging c [s.rtdNs c, 260, 780, 1300] false).fire (ldieSrc ln + 20)
  else if pend || x.eqWait || decide (err.natAbs ≤ band) then s.setCtx c { x with drift := [] }
  else
    let d := if x.drift.all (fun e => decide (0 < e) == decide (0 < err)) then x.drift ++ [err] else [err]
    if d.length < 4 then s.setCtx c { x with drift := d }
    else
      let m := s.divFree (d.foldl (fun a e => a + e) 0) 4
      let s := m.2.modCtx c (fun x => { x with drift := [] })
      let s := (s.wr (ctxB c) Ctx.CELL_RTD.RTD (max 0 ((s.rd (ctxB c) Ctx.CELL_RTD.RTD : Int) + m.1)).toNat).setDdn c
      s.maintAdd ln (s.eqset c)

/-- A report acknowledges the outstanding command (R85), delivers READ_REG data (R105) and, after a takeover, fixes the
next SEQ (R407). -/
def ackReport (s : State) (c : Nat) (r : BitVec 128) : State :=
  let x := s.ctx c
  let b := ctxB c
  let s := if x.seqWait then
      let s := s.setCtx c { x with seqWait := false }
      if rbit r 79 then s.wr b Ctx.ACMD_STAT.SEQ (rfield r 81 80) else s
    else s
  match (s.ctx c).out with
  | some o =>
    if rbit r 79 && rfield r 81 80 == o.seq.toNat then
      let s := (s.modCtx c (fun x => { x with out := none })).syncAcmd c
      let s := (s.wr b Ctx.ACMD_STAT.DONE 1).laneEvt (c / 96) 1
      if cmdOp o.word = 5 && rbit r 50 then
        (((s.wr b Ctx.RDATA.DATA (rfield r 41 26)).wr b Ctx.RDATA.ADDR (rfield r 49 42)).wr b Ctx.RDATA.VALID 1).laneEvt
          (c / 96) 0
      else s
    else s
  | none => s

/-- The cell's FLT bit (R369). -/
def cellFault (s : State) (c : Nat) (flt : Bool) : State :=
  let f := Fc.CF_MAP.FLT.at (c / 32)
  let s := s.wr fcB f (putBit (s.rd fcB f) (c % 32) flt)
  let x := s.ctx c
  let rise := flt && (x.flt == some false || (x.flt.isNone && s.cstate c == 3))
  let s := s.setCtx c { x with flt := some flt }
  s.fireIf rise (0x1E0 + c / 192)

/-- A failed reception of the report of cycle `cyc` (R84, R86, R87, R89). -/
def rxFail (s : State) (c cyc : Nat) (regular : Bool) : State :=
  let ln := c / 96
  let s := (s.inc (laneB ln) Lane.CNT_RXFAIL.COUNT).inc (ctxB c) Ctx.CELL_CNT0.RPT_FAIL
  if s.lstate ln ≠ 3 then s
  else
    let x := s.ctx c
    if regular then
      let s := s.setCtx c { x with goods := 0 }
      let first := match x.rng with | some r => r.await | none => false
      if s.cstate c == 2 && first then s.retryRanging c
      else if s.cstate c = 3 ∧ !x.episode then
        (s.modCtx c (fun x => { x with episode := true, rgMade := 0 })).modLane ln (fun l =>
          { l with regrant := l.regrant ++ [(c % 96, cyc % 256)] })
      else s
    else if s.cstate c = 3 ∧ x.episode then
      if 2 ≤ x.rgMade then s.degrade c
      else s.modLane ln (fun l => { l with regrant := l.regrant ++ [(c % 96, cyc % 256)] })
    else s

/-- A good reception (R84 to R90, R98, R369); `at_` is the instant its reception ended. -/
def rxGood (s : State) (c cyc at_ : Nat) (rx : BurstRx) (regular : Bool) : State :=
  let ln := c / 96
  let b := ctxB c
  let r := rx.bits
  let s := (s.inc (laneB ln) Lane.CNT_RXOK.COUNT).inc b Ctx.CELL_CNT0.RPT_OK
  let s := (List.range 4).foldl (fun (s : State) i => s.wr b (Ctx.LAST_RPT.RPT.at i) (r.toNat / 2 ^ (32 * i))) s
  let full := cyc - (cyc + 256 - rfield r 120 113) % 256
  let s := (s.wr b Ctx.LAST_CYC.CYC full).wr b Ctx.CELL_ERR.ERR (ofSigned rx.err 16)
  let s := if rbit r 82 then ((s.wr b Ctx.CELL_STAT.LATE 1).inc b Ctx.CELL_CNT1.LATE).laneEvt ln 10 else s
  let s := s.incBy b Ctx.CELL_CNT1.DCRC (rfield r 78 76)
  let s := s.seeing c rx.see
  let s := match s.mapper c with
    | some k => s.setModul k { s.modul k with inbox := (s.modul k).inbox ++ [⟨c, r, at_⟩] }
    | none => s
  if s.lstate ln ≠ 3 then s
  else
    let s := s.ackReport c r
    let s := s.modCtx c (fun x => { x with episode := false, rgMade := 0, eqWait := false })
    let s := (s.wr b Ctx.CELL_STAT.RGCNT 0).modLane ln (fun l => { l with regrant := l.regrant.filter (fun e => e.1 != c % 96) })
    let s :=
      if s.cstate c = 2 then
        (match (s.ctx c).rng with
         | some q =>
           if q.await then
             (if rx.err.natAbs ≤ s.rngLim ln then
               ((s.modCtx c (fun x => { x with rng := none, drift := [] })).setCstate c 3).laneEvt ln 3
              else s.retryRanging c)
           else s
         | none => s)
      else if s.cstate c = 3 ∨ s.cstate c = 4 then
        let s := s.track c rx.err
        if s.cstate c = 4 ∧ regular then
          let g := (s.ctx c).goods + 1
          if 16 ≤ g then ((s.modCtx c (fun x => { x with goods := 0 })).setCstate c 3).laneEvt ln 5
          else s.modCtx c (fun x => { x with goods := g })
        else s
      else s
    s.cellFault c (rbit r 66)

/-- Light outside grants (R96, R102): the counter, the event and the source; an identified cell is occulted at once. -/
def babble (s : State) (ln : Nat) (who : Option Nat) : State :=
  let s := ((s.modLane ln (fun x => { x with lightNow := true })).inc (laneB ln) Lane.CNT_BABBLE.COUNT).laneEvt ln 6
  if s.lstate ln ≠ 3 then s
  else
    let s := s.fire (ldieSrc ln + 18)
    match who with
    | some sl => if sl < 96 then s.occultCtx (ln * 96 + sl) true else s
    | none => s

/-- The scan of a cell goes on with each of its bursts (R99). -/
def scanBurst (s : State) (ln sl : Nat) : State :=
  match (s.lane ln).scan with
  | some x =>
    if x.slot = sl ∧ x.point < 512 then
      let x := if x.done + 1 < x.bursts then { x with done := x.done + 1 } else { x with done := 0, point := x.point + 1 }
      (s.modLane ln (fun l => { l with scan := some x })).wr (laneB ln) Lane.RS_STAT.POINT (min 511 x.point)
    else s
  | none => s

/-- A re-grant counts as not yet made (R86). -/
def unmade (s : State) (c : Nat) : State :=
  (s.modCtx c (fun x => { x with rgMade := x.rgMade - 1 })).wr (ctxB c) Ctx.CELL_STAT.RGCNT ((s.ctx c).rgMade - 1)

/-- A context at a start of the timer whose cycle number jumps by `d`: no map is in force, its ranging entry has met no window,
and the cycle of its last transmission is as many cycles ago as before (R75, R85, R89). -/
def restartCtx (s : State) (c d : Nat) : State :=
  (s.modCtx c (fun x => { x with rng := x.rng.map (fun r => { r with placed := false }),
                                 out := x.out.map (fun o => { o with cyc := (o.cyc + d) % 2 ^ 48 }) })).wr (ctxB c)
    Ctx.CELL_STAT.GRANT_U 255

/-- A start of the timer: cycles without light are counted anew (R104). Where its cycle number does not follow `last`, the map built in the last cycle governs no upstream frame,
so what it granted is asked again, and cycles are counted on for R85 (R56, R75) (DEDUCED, log 21). -/
def restartLane (s : State) (ln last : Nat) : State :=
  let d := (s.cycNum + 2 ^ 48 - (last + 1) % 2 ^ 48) % 2 ^ 48
  let s := s.modLane ln (fun x => { x with darkCyc := 0 })
  if d = 0 then s
  else
    let x := s.lane ln
    let made := match x.maps with
      | g :: _ => if g.cyc = last then g.rgs else []
      | [] => []
    let back := made.filter (fun e => s.cstate (ln * 96 + e.1) == 3 && (s.ctx (ln * 96 + e.1)).episode)
    let s := s.setLane ln { x with maps := x.maps.filter (fun g => (g.cyc + 1) % 2 ^ 48 == last), regrant := back ++ x.regrant }
    let s := back.foldl (fun (s : State) e => s.unmade (ln * 96 + e.1)) s
    (List.range 96).foldl (fun (s : State) sl => s.restartCtx (ln * 96 + sl) d) s

/-- R92: at a start of the timer, contexts whose DDN is too long for the new ALIGN_DELAY go to ASSIGNED. -/
def timerDdn (s : State) : State :=
  s.laneList.foldl (fun (s : State) ln => (List.range 96).foldl (fun (s : State) sl =>
    let c := ln * 96 + sl
    if enabledSt (s.cstate c) && s.ddnTooLong c then
      let s := (s.wr (ctxB c) Ctx.CELL_STAT.RFCAUSE 3).occultId c (s.serialOf c)
      ((s.leaveCtx c).setCstate c 1).laneFault ln 2
    else s) s) s

end State

end Sys2Proof.Machine
end

