-- ==== Sys2Proof/Machine/SafeOps.lean ====
section
/-!
DEFINITION. The shared operations of the safety unit and of ALIVE: requests of SPR and SRS (R373, R374, R376), and the stop
of ALIVE with the fall of PAIR_ACT_OUT (R355, R397).
-/
namespace Sys2Proof.Machine

namespace State

def modSaf (s : State) (f : SafSt → SafSt) : State := { s with saf := f s.saf }

/-- SPR is active (R373). -/
def sprOn (s : State) : Bool := s.on safB Saf.SAFE_STAT.SPR

/-- SPR is requested with a cause (R373, R374); of requests in one cycle the lowest code is recorded. An SPR ends SRS. -/
def sprRequest (s : State) (cause : Nat) : State :=
  if s.sprOn then
    if s.saf.sprAt = s.clk.el ∧ cause < s.rd safB Saf.SAFE_STAT.SPRCAUSE then s.wr safB Saf.SAFE_STAT.SPRCAUSE cause else s
  else
    let s := ((s.wr safB Saf.SAFE_STAT.SPR 1).wr safB Saf.SAFE_STAT.SPRCAUSE cause).wr safB Saf.SAFE_STAT.SRS 0
    (s.modSaf (fun x => { x with sprAt := s.clk.el, stopDue := true, brkDue := cause != 0, brkAt := none,
                                 violDue := none, rampDue := false, timeDue := false })).fire 0x180

/-- SRS is requested (R376); while SRS or SPR is active the request is ignored. -/
def srsRequest (s : State) (cause : Nat) : State :=
  if s.sprOn || s.on safB Saf.SAFE_STAT.SRS then s
  else
    let s := (s.wr safB Saf.SAFE_STAT.SRS 1).wr safB Saf.SAFE_STAT.SRSCAUSE cause
    (s.modSaf (fun x => { x with srsAt := s.clk.el, fill0 := none, viol := [], stale := [], violDue := none,
                                 rampDue := false, timeDue := false })).fire 0x181

/-- PAIR_ACT_OUT falls, and with it the laser enables of a package with PAIR_EN = 1 (R397). -/
def pairOutLow (s : State) : State := ({ s with pair := { s.pair with actOut := false } }).syncAllTx

/-- ALIVE stops and is held low (R355): its first cause is recorded, and PAIR_ACT_OUT falls (R397). -/
def aliveStop (s : State) (cause : Nat) : State :=
  if !s.on fcB Fc.FC_STAT.ALIVE_RUN then s
  else
    let s := (s.wr fcB Fc.FC_STAT.ALIVE_RUN 0).wr fcB Fc.FC_STAT.ALIVE_CAUSE cause
    ({ s.wr fcB Fc.FC_CTL.ALIVE_EN 0 with fc := { s.fc with alive := false } }).pairOutLow

end State

end Sys2Proof.Machine
end

