-- ==== Sys2Proof/Machine/Pair.lean ====
section
/-!
DEFINITION. The pair logic (R394 to R414): pair states, the mirror stream's records, the shadow, takeover, handover, drills,
and their commands.
-/
namespace Sys2Proof.Machine

namespace State

def modPair (s : State) (f : PairSt → PairSt) : State := { s with pair := f s.pair }

/-! ## Conditions (R408, R414) -/

/-- GRIDOFS in 0.1 ns. -/
def gridOfs (s : State) : Int := toSigned (s.rd pairB Pair.PAIR_GRID.GRIDOFS) 16
/-- |GRIDOFS| is above GRIDTOL. -/
def gridBad (s : State) : Bool := decide (s.rd pairB Pair.PAIR_CFG.GRIDTOL < s.gridOfs.natAbs)
/-- EPAGE: values below 2 act as 2 (R413). -/
def epAge (s : State) : Nat := max 2 (s.rd pairB Pair.PAIR_CTL.EPAGE)
def epochOld (s : State) : Bool := decide (s.epAge < s.rd pairB Pair.PAIR_EPOCH.AGE)
/-- FLATCH (R357). -/
def flatch (s : State) : Bool := s.on fcB Fc.FC_STAT.FLATCH

/-- The conditions of STBY_OK (R408). -/
def stbyOk (s : State) : Bool :=
  s.running && !s.on pairB Pair.PAIR_STAT.CYCMIS && !s.gridBad && s.on pairB Pair.PAIR_STAT.EPV && !s.epochOld &&
  s.on pairB Pair.PAIR_STAT.SHDW_OK && !s.on pairB Pair.PAIR_STAT.CFGMIS && s.rd pairB Pair.PAIR_STAT.MIRUP != 0 &&
  s.on safB Saf.SAFE_STAT.ARMED && !s.sprOn && !s.flatch

/-- A condition that fires its source when it begins to hold; `key` tells conditions with one source apart. -/
def pairEdge (s : State) (key src : Nat) (b : Bool) : State :=
  if !b then s.modPair (fun x => { x with told := x.told.filter (fun k => k != key) })
  else if s.pair.told.contains key then s
  else (s.modPair (fun x => { x with told := key :: x.told })).fire src

/-- The CRC of the MIR_LIST table (R403, R408) (PRESUMED, log 42). -/
def mirCrc (s : State) : Word :=
  BitVec.ofNat 32 ((List.range 256).foldl (fun c i => crcNat 32 0x1EDC6F41 (s.regWord (pairB + 0x100 + 4 * i)).toNat 32 c)
    0xFFFFFFFF)

/-- CFGMIS follows what is known of the peer (R408). -/
def syncCfg (s : State) : State :=
  let caps := match s.pair.peerCaps with | some w => w != s.regWord (capsB + 4) | none => false
  let mir := match s.pair.peerMir with | some w => w != s.mirCrc | none => false
  let pref := match s.pair.status with | some r => r.pref == s.on pairB Pair.PAIR_STAT.PREF | none => false
  s.wrB pairB Pair.PAIR_STAT.CFGMIS (caps || mir || pref)

/-- STBY_OK and the judged conditions follow (R408, R410, R414). -/
def syncPair (s : State) : State :=
  let ok := s.stbyOk
  let s := s.wrB pairB Pair.PAIR_STAT.STBY_OK ok
  let s := if ok then s else s.modPair (fun x => { x with tbreq := false })
  let s := s.pairEdge 0x1A3 0x1A3 (s.pstate == 1 && s.on pairB Pair.PAIR_STAT.EPV && s.epochOld)
  let s := s.pairEdge 0x1A6 0x1A6 s.gridBad
  (s.pairEdge 0x1A7 0x1A7 (s.on pairB Pair.PAIR_STAT.CYCMIS)).pairEdge 0x11A7 0x1A7 (s.on pairB Pair.PAIR_STAT.CFGMIS)

/-- A good record has arrived: a lane that is up stays up, and whether one that is down delivered it too is open; one of
them did (R400) (DEDUCED, log 41) (PRESUMED, log 42). -/
def mirArrived (s : State) : State :=
  let up := s.rd pairB Pair.PAIR_STAT.MIRUP
  if up = 3 then s
  else
    let (w, s) := s.freeWord
    s.wr pairB Pair.PAIR_STAT.MIRUP (if up = 0 then 1 + w.toNat % 3 else if w.getLsbD 0 then 3 else up)

/-! ## Changes of state (R394) -/

/-- The last entry into or exit from ACTIVE (R413), at package time `t` (DEDUCED, log 41). -/
def pairLast (s : State) (cause t : Nat) : State :=
  ((s.wr pairB Pair.PAIR_LAST.CAUSE cause).wr pairB Pair.PAIR_LAST_SEC.SEC (t / 65536000000000)).wr pairB
    Pair.PAIR_LAST_NS.NS (t / 65536 % 1000000000)

/-- To STANDBY: PAIR_ACT_OUT low, lanes to LISTEN, metering stops (R394, R441). -/
def toStandby (s : State) : State :=
  let was := s.pairCounts
  let s := if was then s.mtrPairLeave else s
  let s := s.modPair (fun x => { x with actOut := false, entry := none, clash := 0, tbreq := false, noJudge := none })
  let s := if was then (s.modPair (fun x => { x with passes := [], passAge := none })).wr pairB Pair.PAIR_STAT.SHDW_OK 0 else s
  ((s.wr pairB Pair.PAIR_STAT.PSTATE 1).syncLanes).syncAllTx.syncPair

/-- FLATCH takes the package out for good (R394). -/
def pairFlatch (s : State) : State :=
  let s := s.pairOutLow
  if s.pstate = 0 then s else s.toStandby.modPair (fun x => { x with out := true })

/-- The rows that leave STANDBY and TAKING act (R394): the own timer runs and FLATCH has not taken the package out. -/
def mayLeave (s : State) : Bool := s.running && !s.pair.out && !s.flatch

/-- The ACMD and BCAST queues start empty, and the next SEQ waits for a good report (R407). -/
def takeQueues (s : State) : State :=
  s.laneList.foldl (fun (s : State) n =>
    let s := s.modLane n (fun x => { x with bcast := [] })
    (List.range 96).foldl (fun (s : State) i =>
      let c := n * 96 + i
      if enabledSt (s.cstate c) then
        (s.modCtx c (fun x => { x with queue := [], out := none, seqWait := true })).syncAcmd c else s) s) s

/-- MODE of every arm is written with its AMODE (R407); learning restarts. -/
def takeArms (s : State) : State :=
  s.kdies.foldl (fun (s : State) k =>
    let s := (List.range 6).foldl (fun (s : State) a => s.wrBoth (armB k a) Arm.ARM_CTL.MODE (s.amode k a)) s
    let m := s.modul k
    s.setModul k { m with ests := m.ests.map (fun e => (e.1, { e.2 with learn := false })) }) s

/-- Entry into ACTIVE (R394, R406, R407, R441). -/
def toActive (s : State) (cause : Nat) : State :=
  let spr := !s.on pairB Pair.PAIR_STAT.EPV || s.epochOld || (match s.pair.passes with | r :: _ => r.spr | [] => false)
  let s := s.wr pairB Pair.PAIR_STAT.PSTATE 3
  let s := s.modPair (fun x => { x with actOut := true, entry := some cause, entryAt := s.clk.pt,
                                        noJudge := some (s.cycNum + 1), clash := 0, tbreq := false })
  let s := ((s.takeArms.takeQueues).syncLanes.syncAllTx).inc pairB Pair.PAIR_CNT1.TAKEOVER
  let s := s.wrB pairB Pair.PAIR_LAST.SPRT spr
  let s := if spr then (s.sprRequest 11).fire 0x1AC else s
  s.mtrPairReturn.syncPair

/-- The first own Meridian completes an entry into ACTIVE (R406, R409, R412). -/
def entryDone (s : State) : State :=
  match s.pair.entry with
  | none => s
  | some cause =>
    let s := s.pairLast cause s.pair.entryAt
    let s := s.modPair (fun x => { x with entry := none })
    let s := if s.pair.drill then
        (s.modPair (fun x => { x with drill := false, drreq := false })).wr pairB Pair.PAIR_STAT.DRBUSY 0 else s
    s.fire (if cause = 1 ∨ cause = 5 then 0x1A0 else 0x1A1)

/-- ACTIVE announces a handover: h is the first subframe that begins at least 3 subframes from now (R409). -/
def announce (s : State) (cause : Nat) : State :=
  let h := s.clk.n + (if s.clk.pt = s.clk.bn then 3 else 4)
  (s.wr pairB Pair.PAIR_STAT.PSTATE 4).modPair (fun x => { x with h := h, hcause := cause })

/-- A handover is abandoned (R394) (DEDUCED, log 41). -/
def hoAbort (s : State) : State := (s.wr pairB Pair.PAIR_STAT.HOABORT 1).fire 0x1A9

/-! ## Records that leave (R400, R401, R403) -/

/-- The status record of this package (R400). -/
def statusRec (s : State) : StatusRec :=
  { good := true, pstate := s.pstate, pref := s.on pairB Pair.PAIR_STAT.PREF, stbyOk := s.on pairB Pair.PAIR_STAT.STBY_OK,
    tbreq := s.pair.tbreq, drreq := s.pair.drreq, flatch := s.flatch, spr := s.sprOn, cyc := BitVec.ofNat 48 s.cycNum }

/-- The bytes 0 to 171 of a pass record as one number, first byte highest (R401). -/
def passNumber (r : PassRec) : Nat :=
  let put (a v w : Nat) : Nat := a * 2 ^ w + v % 2 ^ w
  let fl := r.active.toNat + 2 * r.spr.toNat + 4 * r.handing.toNat + 8 * r.ovf.toNat + 16 * r.drill.toNat
  let a := put (put (put 0 r.n.toNat 32) fl 16) r.h.toNat 16
  let a := (List.range 12).foldl (fun a i =>
    match r.arms[i]? with
    | some x => put (put (put (put a x.r.toNat 32) (x.hv.toNat * 2 ^ 15 + x.holder.toNat) 16) x.amode.toNat 8) 0 8
    | none => put a 0 64) a
  let a := (List.range 32).foldl (fun a i =>
    match r.changes[i]? with
    | some x => put a (2 ^ 15 + x.st.toNat * 2 ^ 13 + x.cell.toNat) 16
    | none => put a 0 16) a
  put a 0 32

/-- The CRC-32C of a pass record (PRESUMED, log 42). -/
def passCrc (r : PassRec) : Word := BitVec.ofNat 32 (crcNat 32 0x1EDC6F41 (passNumber r) (172 * 8) 0xFFFFFFFF)

/-- The pass record of this subframe, with the cells whose commanded state changed in it (R401). -/
def passRec (s : State) (changed : List Nat) : PassRec :=
  let arm (i : Nat) : PassArm :=
    let k := i / 6
    let a := i % 6
    let b := armB k a
    let x := s.arm k a
    { r := BitVec.ofInt 32 x.ref, holder := BitVec.ofNat 13 (s.rd b Arm.ARM_HOLD.CELL),
      hv := s.on b Arm.ARM_HOLD.HV, amode := BitVec.ofNat 2 (s.amode k a) }
  let st (c : Nat) : Nat := match s.mapper c with | some k => s.rd (ctB k c) Ct.CMAP.CST | none => 3
  let h := s.pstate == 4
  let r : PassRec :=
    { n := BitVec.ofNat 32 s.clk.n, active := true, spr := s.sprOn, handing := h, ovf := decide (32 < changed.length),
      drill := h && s.pair.hcause == 4, h := BitVec.ofNat 16 (if h then s.pair.h else 0),
      arms := (List.range 12).map (fun i => if s.hasK (i / 6) then arm i else ⟨0, 0, false, 0⟩),
      changes := (changed.take 32).map (fun c => ⟨BitVec.ofNat 2 (st c), BitVec.ofNat 13 c⟩), crc := 0 }
  { r with crc := passCrc r }

/-- The word MIR_LIST entry `i` names (R403, R413). -/
def mirWord (s : State) (i : Nat) : Word :=
  let b := lawB (s.rd pairB (Pair.MIR_LIST.KDIE.at i))
  let j := s.rd pairB (Pair.MIR_LIST.IDX.at i)
  if !s.on pairB (Pair.MIR_LIST.V.at i) then 0
  else BitVec.ofNat 32 (if s.on pairB (Pair.MIR_LIST.KIND.at i) then s.rd b (Larr.SIG.VAL.at (j % 1024)) else s.rd b (Larr.STATE.X.at j))

/-- The epoch captured now (R403). -/
def epochRec (s : State) : EpochRec :=
  let on (c : Nat) (f : Nat → Nat) (d : Nat) : Nat := match s.mapper c with | some k => f k | none => d
  let cellOf (i : Nat) : EpochCell :=
    let c := (s.pair.cellBase + i) % 6144
    match s.mapper c with
    | none => ⟨0, 0, 0, 0, 0, false, false, false, false⟩
    | some k =>
      let b := ctB k c
      ⟨s.rd b Ct.CEST.K, (s.est k c).klt, s.rd b Ct.CEST.PFCNT, s.rd b Ct.CEST.DWC, s.rd b Ct.CEST.SWC, s.on b Ct.CMAP.PFX,
        s.on b Ct.CMAP.TRIPX, s.on b Ct.CMAP.BYPR, (s.est k c).age⟩
  let ctxOf (i : Nat) : EpochCtx :=
    let b := ctxB ((s.pair.laneBase + i) % 6144)
    ⟨s.rd b Ctx.CELL_STAT.CSTATE, s.rd b Ctx.CELL_RTD.RTD, s.rd b Ctx.CELL_DDN.DDN, s.rd b Ctx.CELL_STAT.GRANT_U⟩
  let armOf (i : Nat) : EpochArm :=
    let b := armB (i / 6) (i % 6)
    let x := s.arm (i / 6) (i % 6)
    ⟨s.amode (i / 6) (i % 6), BitVec.ofNat 13 (s.rd b Arm.ARM_HOLD.CELL), s.on b Arm.ARM_HOLD.HV, x.rot, x.sww⟩
  { good := true, seq := BitVec.ofNat 16 s.pair.seqOut, cyc := BitVec.ofNat 48 s.cycNum, capture := BitVec.ofNat 32 s.clk.n,
    nsub := s.nsub, align := s.rd pwrB Cyc.CYC_CTL.ALIGN, spr := s.sprOn, sprcause := s.rd safB Saf.SAFE_STAT.SPRCAUSE,
    capsDies := s.regWord (capsB + 4), mirCrc := s.mirCrc, cellBase := s.pair.cellBase, laneBase := s.pair.laneBase,
    cst := (List.range 6144).map (fun c => BitVec.ofNat 2 (on c (fun k => s.rd (ctB k c) Ct.CMAP.CST) 3)),
    arms := (List.range 12).map armOf, words := (List.range 256).map s.mirWord, cells := (List.range 128).map cellOf,
    ctxs := (List.range 128).map ctxOf, changes := s.pair.changes.take 16 }

/-- An epoch leaves (R400, R403): the slice bases advance, and context changes beyond 16 wait (DEDUCED, log 22). -/
def sendEpoch (s : State) : State :=
  if !(s.pstate == 3 || s.pstate == 4) then s
  else
    let e := s.epochRec
    s.modPair (fun x => { x with sentEpoch := some e, seqOut := (x.seqOut + 1) % 65536, changes := x.changes.drop 16,
                                 cellBase := (x.cellBase + 128) % 6144, laneBase := (x.laneBase + 128) % 6144 })

/-- The pass record leaves after the verdict of K-die `k` (R400, R401): `before` gives the commanded states before the pass.
The verdicts of one subframe make one record. -/
def sendPass (s : State) (k : Nat) (before : List (Nat × Nat)) : State :=
  if !(s.pstate == 3 || s.pstate == 4) then s
  else
    let mine := (before.filter (fun e => s.rd (ctB k e.1) Ct.CMAP.CST != e.2 && !s.on (ctB k e.1) Ct.CMAP.HOLD)).map (fun e => e.1)
    let old := match s.pair.sentPass with
      | some r => if r.n.toNat = s.clk.n % 2 ^ 32 then r.changes.map (fun (c : PassChange) => c.cell.toNat) else []
      | none => []
    let r := s.passRec ((List.range 6144).filter (fun c => old.contains c || mine.contains c))
    s.modPair (fun x => { x with sentPass := some r })

/-! ## The shadow (R402, R404) -/

/-- The holder of an arm as the peer tells it. -/
def shadowHolder (s : State) (k a cell : Nat) (hv : Bool) : State :=
  let b := armB k a
  let s := match s.holder k a with | some o => s.wr (ctB k o) Ct.CMAP.HOLD 0 | none => s
  let s := (s.wr b Arm.ARM_HOLD.CELL cell).wrB b Arm.ARM_HOLD.HV hv
  if hv && s.mappedOn k cell then s.wr (ctB k cell) Ct.CMAP.HOLD 1 else s

/-- A commanded state of the shadow set. -/
def shadowState (s : State) (c st : Nat) : State :=
  match s.mapper c with | some k => s.wr (ctB k c) Ct.CMAP.CST st | none => s

/-- The arms and changes of a pass record (R402). -/
def shadowRecord (s : State) (r : PassRec) : State :=
  let s := (List.range 12).foldl (fun (s : State) i =>
    match r.arms[i]? with
    | some x =>
      if s.hasK (i / 6) then
        ((s.shadowHolder (i / 6) (i % 6) x.holder.toNat x.hv).setAmode (i / 6) (i % 6) x.amode.toNat).modArm (i / 6) (i % 6)
          (fun y => { y with held := some x.r.toInt, ref := x.r.toInt })
      else s
    | none => s) s
  r.changes.foldl (fun (s : State) c => s.shadowState c.cell.toNat c.st.toNat) s

/-- The interval the estimator takes for a cell of the shadow (R162, R402): the holder's carrier, else the commanded state
(DEDUCED, log 41). -/
def shadowInterval (s : State) (k a c : Nat) : IntervalState :=
  let cells := s.cellsOf k a
  if s.holder k a = some c then
    let fbs := cells.filter (fun c => s.on (ctB k c) Ct.CMAP.FB)
    let ct := countsOf (s.arm k a).ref (!fbs.isEmpty) cells.length fbs.length
    if ct.d ≠ 0 then ⟨if ct.neg then 2 else 1, some (if ct.neg then -(ct.d : Int) else ct.d), true⟩
    else ⟨s.rd (ctB k c) Ct.CMAP.CST, none, true⟩
  else ⟨s.rd (ctB k c) Ct.CMAP.CST, none, true⟩

/-- The intervals of this pass join the shadow's histories. -/
def shadowPass (s : State) : State :=
  s.kdies.foldl (fun (s : State) k => (List.range 6).foldl (fun (s : State) a =>
    if s.armRuns k a then
      (s.cellsOf k a).foldl (fun (s : State) c =>
        let iv := s.shadowInterval k a c
        s.modEst k c (fun e => { e with hist := (iv :: e.hist).take 4 })) s
    else s) s) s

/-- A pass record that is missing or whose list overflowed (R402). -/
def passLost (s : State) : State :=
  ((s.wr pairB Pair.PAIR_STAT.SHDW_OK 0).inc pairB Pair.PAIR_CNT0.PRLOST).fire 0x1A5

/-- The subframe number that the 16 bits of h name, from subframe `n` on (R401). -/
def fullH (n : Nat) (h : Nat) : Nat := n + (h + 65536 - n % 65536) % 65536

/-- PASS_RECORD_RECEIVED (R394, R402, R409): a record with a bad CRC is not delivered. -/
def passIn (s : State) (r : PassRec) : State :=
  if s.pstate = 0 ∨ r.crc ≠ passCrc r then s
  else
    let s := s.mirArrived
    if s.pstate = 1 ∨ s.pstate = 2 then
      let s := s.modPair (fun x => { x with passes := (r :: x.passes).take 8, passNow := true,
                                            passAge := if r.active then some 0 else x.passAge })
      let s := (s.shadowRecord r).shadowPass
      let s := if r.ovf then s.passLost else s
      let s := if r.handing && s.pstate == 1 && s.mayLeave then
          let cause := if r.drill then 4 else if s.pair.tbreq then 3 else 2
          (s.wr pairB Pair.PAIR_STAT.PSTATE 2).modPair (fun x => { x with h := fullH s.clk.n r.h.toNat, hcause := cause, drilled := r.drill })
        else s
      s.syncPair
    else
      let n := if r.active && !s.pair.passNow then s.pair.clash + 1 else s.pair.clash
      let s := s.modPair (fun x => { x with passNow := x.passNow || r.active, clash := n })
      if s.pstate = 3 ∧ 2 ≤ n ∧ (!s.on pairB Pair.PAIR_STAT.PREF || s.on pairB Pair.PAIR_STAT.CFGMIS) then
        (((s.wr pairB Pair.PAIR_STAT.CONFLICT 1).fire 0x1A8).pairLast 6 s.clk.pt).toStandby
      else s.syncPair

/-- PASS_RECORD_MISSING (R402): the shadow goes on with the states it holds. -/
def passGone (s : State) : State :=
  if s.pstate = 1 ∨ s.pstate = 2 then (s.shadowPass.passLost).syncPair else s

/-- The slices of an epoch (R403, R404). -/
def epochSlices (s : State) (e : EpochRec) : State :=
  let s := (List.range e.cells.length).foldl (fun (s : State) i =>
    match e.cells[i]? with
    | none => s
    | some x =>
      let c := (e.cellBase + i) % 6144
      match s.mapper c with
      | none => s
      | some k =>
        let b := ctB k c
        let s := (((s.wr b Ct.CEST.K x.k).wr b Ct.CEST.PFCNT x.pfcnt).wr b Ct.CEST.DWC x.dwc).wr b Ct.CEST.SWC x.swc
        let s := ((s.wrB b Ct.CMAP.PFX x.pfx).wrB b Ct.CMAP.TRIPX x.tripx).wrB b Ct.CMAP.BYPR x.bypr
        s.modEst k c (fun y => { y with klt := x.klt, age := x.age })) s
  let put (s : State) (c st rtd ddn : Nat) : State :=
    if s.laneUp (c / 96) then
      let s := if s.cstate c = st then s else s.setCstate c st
      (s.wr (ctxB c) Ctx.CELL_RTD.RTD rtd).wr (ctxB c) Ctx.CELL_DDN.DDN ddn
    else s
  let s := (List.range e.ctxs.length).foldl (fun (s : State) i =>
    match e.ctxs[i]? with
    | none => s
    | some x =>
      let c := (e.laneBase + i) % 6144
      if s.laneUp (c / 96) then (put s c x.cstate x.rtd x.ddn).wr (ctxB c) Ctx.CELL_STAT.GRANT_U x.grantU else s) s
  e.changes.foldl (fun (s : State) x => put s (x.cell % 6144) x.cstate x.rtd x.ddn) s

/-- Cycles from the capture of an epoch to now (R398, R413): by the own cycle number while the timer runs, else by the
peer's last pass record. -/
def epochAgeNow (s : State) (e : EpochRec) : Nat :=
  if s.running then s.cycNum - e.cyc.toNat
  else match s.pair.passes with
    | r :: _ => ((r.n - e.capture).toNat + 1) / max 1 e.nsub
    | [] => 0

/-- EPOCH_RECEIVED (R404) (DEDUCED, log 41). -/
def epochIn (s : State) (e : EpochRec) : State :=
  if !(s.pstate == 1 || s.pstate == 2) then s
  else
    let next := (s.rd pairB Pair.PAIR_EPOCH.SEQ + 1) % 65536
    if !e.good || (s.on pairB Pair.PAIR_STAT.EPV && e.seq.toNat != next) then
      (s.inc pairB Pair.PAIR_CNT0.EPBAD).fire 0x1A2
    else
      let age := min 255 (s.epochAgeNow e)
      let s := s.mirArrived
      let s := ((s.wr pairB Pair.PAIR_STAT.EPV 1).wr pairB Pair.PAIR_EPOCH.SEQ e.seq.toNat).wr pairB Pair.PAIR_EPOCH.AGE age
      let s := s.modPair (fun x => { x with epoch := some e, peerMir := some e.mirCrc, peerCaps := some e.capsDies })
      let s := s.wr pairB Pair.PAIR_STAT.SHDW_OK 1
      let used := (List.range 256).filter (fun i => s.on pairB (Pair.MIR_LIST.V.at i))
      let s := s.modPair (fun x => { x with mirIn := used.map (fun i => (i, e.words.getD i 0)) })
      let s := s.kdies.foldl (fun (s : State) k => ((s.modul k).mapped).foldl (fun (s : State) c =>
        s.wr (ctB k c) Ct.CMAP.CST (e.cst.getD c 3).toNat) s) s
      let s := (List.range 12).foldl (fun (s : State) i =>
        match e.arms[i]? with
        | some x =>
          if s.hasK (i / 6) then
            ((s.shadowHolder (i / 6) (i % 6) x.holder.toNat x.hv).setAmode (i / 6) (i % 6) x.amode).modArm (i / 6) (i % 6)
              (fun y => { y with rot := x.rot + age, sww := x.sww + age })
          else s
        | none => s) s
      let later := (s.pair.passes.filter (fun r => decide (0 < (r.n - e.capture).toNat ∧ (r.n - e.capture).toNat < 2 ^ 31))).reverse
      let s := later.foldl (fun (s : State) r => s.shadowRecord r) s
      let s := s.epochSlices e
      let bad := !s.running || e.nsub != s.nsub || e.align != s.rd pwrB Cyc.CYC_CTL.ALIGN ||
        decide (1 < age) || decide (s.cycNum < e.cyc.toNat)
      ((s.wrB pairB Pair.PAIR_STAT.CYCMIS bad).syncCfg).syncPair

/-- STATUS_RECORD_RECEIVED (R398, R400, R408, R410, R412). -/
def statusIn (s : State) (r : StatusRec) (ofs : Int) : State :=
  if s.pstate = 0 ∨ !r.good then s
  else
    let s := s.mirArrived
    let s := (s.modPair (fun x => { x with status := some r, statusAge := 0 })).wrB pairB Pair.PAIR_STAT.PEER_OK r.stbyOk
    let s := s.wr pairB Pair.PAIR_GRID.GRIDOFS (ofSigned (clampI (-32768) 32767 ofs) 16)
    let s := s.wrB pairB Pair.PAIR_STAT.CYCMIS (!s.running || r.cyc.toNat != s.cycNum % 2 ^ 48)
    let s := s.syncCfg.syncPair
    if s.pstate = 3 then
      if r.drreq then s.announce 4
      else if r.tbreq && s.on pairB Pair.PAIR_CTL.TBEN && !s.on pairB Pair.PAIR_STAT.PREF && s.on pairB Pair.PAIR_STAT.PALIVE then
        s.announce 3
      else s
    else s

/-- A grid boundary for the pair logic: records of the last subframe are past, and at a Meridian (`mer`) an epoch ages and an
entry into ACTIVE is complete (R394, R402, R406, R413). -/
def pairBoundary (s : State) (mer : Bool) : State :=
  if s.pstate = 0 then s
  else
    let s := s.modPair (fun x => { x with passAge := x.passAge.map (· + 1), statusAge := x.statusAge + 1,
                                          clash := if x.passNow then x.clash else 0, passNow := false })
    let s := if mer then (if s.on pairB Pair.PAIR_STAT.EPV then s.inc pairB Pair.PAIR_EPOCH.AGE else s).entryDone else s
    let s := if s.running then s else s.wr pairB Pair.PAIR_STAT.CYCMIS 1
    s.syncPair

/-- PAIR_ACT_IN falls (R394, R397) (DEDUCED, log 41). -/
def actInFall (s : State) : State :=
  let s := (s.wr pairB Pair.PAIR_STAT.ACTIN 0).syncAllTx
  if !s.mayLeave then s
  else if s.pstate = 2 then s.toActive s.pair.hcause
  else if s.pstate = 1 then
    match s.pair.passAge with
    | some a => if a ≤ 2 then s.toActive 1 else s
    | none => s
  else s

/-- The start-up claim (R394): STARTWAIT in subframes is 8,000 per unit of 10 ms. -/
def claim (s : State) : State :=
  let wait := max 1 (s.rd pairB Pair.PAIR_CTL.STARTWAIT) * 8000
  let silent := match s.pair.passAge with | some a => decide (wait ≤ a) | none => true
  let alone := s.on pairB Pair.PAIR_STAT.PREF ||
    (match s.pair.status with | some r => !r.pref || decide (wait ≤ s.pair.statusAge) | none => true)
  if s.pstate == 1 && s.mayLeave && !s.on pairB Pair.PAIR_STAT.ACTIN && silent && alone && !s.on pairB Pair.PAIR_STAT.CFGMIS then
    s.toActive 5
  else s

/-- Lanes with an ACTIVE context (R412). -/
def activeLanes (s : State) : List Nat :=
  s.laneList.filter (fun n => (List.range 96).any (fun i => s.cstate (n * 96 + i) == 3))

/-- HANDOVER_RELEASE (R409): the last block of frame h has been sent (DEDUCED, log 41). -/
def handRelease (s : State) : State :=
  if s.pstate ≠ 4 then s
  else
    let s := s.modPair (fun x => { x with drillLanes := s.activeLanes })
    ((s.inc pairB Pair.PAIR_CNT1.HANDOVER).pairLast s.pair.hcause s.clk.pt).toStandby

/-- HANDING_PEER_CHECK (R394). -/
def handCheck (s : State) : State :=
  let ok : Bool := match s.pair.status with | some r => r.stbyOk && decide (s.pair.statusAge ≤ 2) | none => false
  if s.pstate ≠ 4 ∨ ok then s
  else
    let s := (s.wr pairB Pair.PAIR_STAT.PSTATE 3).hoAbort
    (s.modPair (fun x => { x with drill := false })).wr pairB Pair.PAIR_STAT.DRBUSY 0

/-- CYCSYNC (R398): NSUB, ALIGN and the number of the peer's next Meridian come from the last complete epoch; the timer
starts at that Meridian (CYCLE_TIMER_START). -/
def cycSync (s : State) : State :=
  match s.running, s.pair.epoch with
  | false, some e =>
    let c := e.cyc.toNat + s.epochAgeNow e + 1
    let s := (s.wrBoth pwrB Cyc.CYC_CTL.NSUB e.nsub).wrBoth pwrB Cyc.CYC_CTL.ALIGN e.align
    let s := (s.wr pwrB Cyc.CYC_NUM_LO.NUM_LO (c % 2 ^ 32)).wr pwrB Cyc.CYC_NUM_HI.NUM_HI (c / 2 ^ 32)
    { s.wr pwrB Cyc.CYC_CTL.EN 1 with clk := { s.clk with cycHi := c / 2 ^ 32 % 65536 } }
  | _, _ => s

/-- DRILL_FAIL (R412). -/
def drillFail (s : State) : State :=
  if !s.pair.drill then s
  else
    let s := (s.wr pairB Pair.PAIR_STAT.DRFAIL 1).fire 0x1AE
    if s.pstate = 1 ∧ !s.on pairB Pair.PAIR_STAT.ACTIN ∧ s.mayLeave then s.toActive 4
    else s.modPair (fun x => { x with drreq := true })

end State

/-! ## The commands -/

/-- PAIR_EN (R394). -/
def execPairEn (w : Wr) (s : State) : Ans :=
  let t := if s.pstate ≠ 0 then s
    else
      let s := (s.wr pairB Pair.PAIR_CTL.PAIR_EN 1).wrB pairB Pair.PAIR_STAT.CYCMIS (!s.running)
      (if s.flatch then s.modPair (fun x => { x with out := true }) else s).toStandby
  .next (t.retire w pairB)
/-- PAIR_ACT_IN_FALL (R394, R406). -/
def execPairActInFall (s : State) : Ans := .next s.actInFall
/-- STARTUP_CLAIM (R394). -/
def execStartupClaim (s : State) : Ans := .next s.claim
/-- PASS_RECORD_RECEIVED (R402). -/
def execPassRecordReceived (r : PassRec) (s : State) : Ans := .next (s.passIn r)
/-- PASS_RECORD_MISSING (R402). -/
def execPassRecordMissing (s : State) : Ans := .next s.passGone
/-- STATUS_RECORD_TX (R400). -/
def execStatusRecordTx (s : State) : Ans :=
  .next (if s.pstate = 1 ∨ s.pstate = 2 then
    let s := s.syncPair
    s.modPair (fun x => { x with sentStatus := some s.statusRec }) else s)
/-- STATUS_RECORD_RECEIVED (R400). -/
def execStatusRecordReceived (r : StatusRec) (gridOfs : Int) (s : State) : Ans := .next (s.statusIn r gridOfs)
/-- EPOCH_RECEIVED (R404). -/
def execEpochReceived (e : EpochRec) (s : State) : Ans := .next (s.epochIn e)
/-- MIRROR_LANE_DOWN (R400, R414). -/
def execMirrorLaneDown (i : Nat) (s : State) : Ans :=
  let up := s.rd pairB Pair.PAIR_STAT.MIRUP
  .next (if i < 2 ∧ up.testBit i then ((s.wr pairB Pair.PAIR_STAT.MIRUP (clrBit up i)).fire 0x1A4).syncPair else s)
/-- HANDOVER (R409): ignored outside ACTIVE. -/
def execHandover (w : Wr) (s : State) : Ans := .next ((if s.pstate = 3 then s.announce 2 else s).retire w pairB)
/-- DRILL (R412): ignored outside ACTIVE. -/
def execDrill (w : Wr) (s : State) : Ans :=
  .next ((if s.pstate = 3 then
    ((s.announce 4).modPair (fun x => { x with drill := true, drreq := false })).wr pairB Pair.PAIR_STAT.DRBUSY 1 else s).retire w pairB)
/-- CYCSYNC (R398): ignored while the cycle timer runs. -/
def execCycsync (w : Wr) (s : State) : Ans := .next (s.cycSync.retire w pairB)
/-- HANDOVER_RELEASE (R409). -/
def execHandoverRelease (s : State) : Ans := .next s.handRelease
/-- HANDING_PEER_CHECK (R394). -/
def execHandingPeerCheck (s : State) : Ans := .next s.handCheck
/-- TAKING_TIMEOUT (R394). -/
def execTakingTimeout (s : State) : Ans :=
  .next (if s.pstate = 2 ∧ s.mayLeave ∧ s.on pairB Pair.PAIR_STAT.ACTIN then
    (s.wr pairB Pair.PAIR_STAT.PSTATE 1).hoAbort.syncPair else s)
/-- TAKEBACK_REQUEST (R410): STBY_OK has held for HOLDOFF seconds. -/
def execTakebackRequest (s : State) : Ans :=
  .next (if s.pstate == 1 && s.on pairB Pair.PAIR_CTL.TBEN && s.on pairB Pair.PAIR_STAT.PREF && s.stbyOk then
    s.modPair (fun x => { x with tbreq := true }) else s)
/-- DRILL_RETURN (R412): DRILL_T has passed. -/
def execDrillReturn (s : State) : Ans :=
  .next (if s.pair.drill && s.pstate == 1 then s.modPair (fun x => { x with drreq := true }) else s)
/-- DRILL_FAIL (R412). -/
def execDrillFail (s : State) : Ans := .next s.drillFail
/-- PEER_ALIVE_EDGE (R413). -/
def execPeerAliveEdge (s : State) : Ans := .next (s.wr pairB Pair.PAIR_STAT.PALIVE 1)
/-- PALIVE_TIMEOUT (R413, R414). -/
def execPaliveTimeout (s : State) : Ans :=
  .next ((s.wr pairB Pair.PAIR_STAT.PALIVE 0).fireIf (s.pstate == 1 && s.on pairB Pair.PAIR_STAT.ACTIN) 0x1AB)
/-- PAIR_ACT_IN_RISE (R397). -/
def execPairActInRise (s : State) : Ans := .next (s.wr pairB Pair.PAIR_STAT.ACTIN 1).syncAllTx
/-- PAIR_ACT_READBACK_FAIL (R414). -/
def execPairActReadbackFail (s : State) : Ans := .next (s.fire 0x1AA)

end Sys2Proof.Machine
end

