-- ==== Sys2Proof/Machine/Reset.lean ====
section
/-!
DEFINITION. Chip reset (R18, R458, R459) and the resets of single blocks (R359).
-/
namespace Sys2Proof.Machine

namespace State

/-! ## Chip reset (R458, R459) -/

/-- The register fields a chip reset keeps: always-on items (R454), fuses and OTP (R18), straps and pins, and what names the
part (R5) (DEDUCED, log 45). -/
def keptRegs : List (Nat × Fld) :=
  [Fc.FC_STAT.FLATCH, Fc.FC_STAT.ALIVE_CAUSE, Fc.FC_RSTCAUSE.SRC, Fc.FC_RSTCAUSE.VALID, Fc.FC_RSTCAUSE.ESC, Fc.FC_FFIRST.SRC,
    Fc.FC_FFIRST.VALID, Fc.FC_FSEC.SEC, Fc.FC_FNS.NS].map (fun f => (fcB, f)) ++
  [Secu.BOOTCNT.N, Secu.SEC_SVN.FLOOR, Secu.SEC_OTP.PROG, Secu.SEC_OTP.REVOKED].map (fun f => (secB, f)) ++
  [Pwr.PWR_STAT.RSTCAUSE, Pwr.AO_CNT.SEC, Pwr.AO_CTL.BOOTBIST].map (fun f => (pwrB, f)) ++
  [Caps.CAPS_DIES.KCOUNT, Caps.CAPS_DIES.LCOUNT, Caps.CAPS_DIES.ACOUNT, Caps.CAPS_DIES.M, Caps.CAPS_DIES.Q,
    Caps.CAPS_DIES.LMASK, Caps.CAPS_DIES.AMASK, Caps.CAPS_SIZE.LANES, Caps.CAPS_SIZE.ARMS, Caps.CAPS_SIZE.CELLSLOTS].map
    (fun f => (capsB, f)) ++
  [(safB, Saf.SAFE_STAT.STIN), (pairB, Pair.PAIR_STAT.PREF), (pairB, Pair.PAIR_STAT.ACTIN), (mbxB 0, Mbx.MBX_CTL.COMPAT),
    (mbxB 1, Mbx.MBX_CTL.COMPAT)]

/-- The state a chip reset holds the package in: reset values but for what is kept; the cells, the devices on the xSPI ports
and the capture memories are not part of it (R321, R458) (DEDUCED, log 45). -/
def resetImage (s : State) (held porst : Bool) : State :=
  let regs := keptRegs.foldl (fun (r : RegFile) e => r.set e.1 e.2 (s.rd e.1 e.2)) State.resetRegs
  let regs := regs.set fcB Fc.FC_STAT.SPRREQ (s.rd fcB Fc.FC_STAT.FLATCH)
  { State.reset with
    pending := s.pending, part := s.part, clk := { State.reset.clk with ct := s.clk.ct }, regs := regs, cregs := s.cregs, cact := s.cact, cells := s.cells,
    mem := s.mem.filter (fun c => decide (0x60000000 ≤ c.1) && decide (c.1 < 0x61000000)),
    nor := s.nor, mram := s.mram, fresh := s.fresh,
    pwr := { PwrSt.reset with held := held, porst := porst, aoOff := s.pwr.aoOff, xtal := s.pwr.xtal,
                              aoNs := s.pwr.aoNs + s.clk.el, perst := s.pwr.perst } }

/-- A chip reset begins (R355, R397, R459): `rc` is its RSTCAUSE, `src` the source that caused it with ESC
(DEDUCED, log 45). -/
def chipReset (s : State) (rc : Nat) (src : Option (Nat × Bool)) : State :=
  let s := s.aliveStop 4
  let s := s.wr pwrB Pwr.PWR_STAT.RSTCAUSE rc
  let s := match src with
    | some (n, esc) =>
      ((s.wr fcB Fc.FC_RSTCAUSE.SRC n).wr fcB Fc.FC_RSTCAUSE.VALID 1).wrB fcB Fc.FC_RSTCAUSE.ESC esc
    | none =>
      let s := (s.wr fcB Fc.FC_RSTCAUSE.SRC 0).wr fcB Fc.FC_RSTCAUSE.VALID 0
      if rc = 3 then s.wr fcB Fc.FC_RSTCAUSE.ESC 0 else s
  s.resetImage true (rc == 1)

/-- A chip reset ends (R459, R460): every register still has its reset value. An escalation is logged now (R362)
(DEDUCED, log 45). -/
def resetEnd (s : State) : State :=
  let s := s.resetImage false false
  s.fireIf (s.on fcB Fc.FC_RSTCAUSE.VALID && s.on fcB Fc.FC_RSTCAUSE.ESC) 0x005

/-! ## Block resets (R359) -/

/-- Registers of an address range return to their reset values. -/
def dropRange (s : State) (lo hi : Nat) (keep : Nat → Bool) : State :=
  let gone (k : Nat) : Bool := decide (lo * 32 ≤ k) && decide (k < hi * 32) && !keep k
  { s with regs := s.regs.drop gone, act := s.act.drop gone }

def dropK (s : State) (k j : Nat) : State := s.dropRange (kB k j) (kB k j + 0x10000) (fun _ => false)

/-- Frozen masters of a block are released with ACT = RESET (R224, R359). -/
def unfreezeAll (s : State) (ms : List Nat) : State := ms.foldl (fun (s : State) m => if s.isFrozen m then s.unfreeze m else s) s

def resetDma (s : State) (k : Nat) : State :=
  let s := s.unfreezeAll ((List.range 16).map (fun c => 0x20 + 16 * k + c))
  { s.dropK k 2 with dmas := Tab.drop s.dmas (fun c => c / 16 == k) }

def resetLaw (s : State) (k : Nat) : State :=
  let s := s.unfreezeAll [0x40 + k]
  (s.dropK k 3).setLaw k LawSt.reset

/-- The modulator: the cells of its table get SET_STATE block in the next two frames (R71, R359). -/
def resetMod (s : State) (k : Nat) : State :=
  let m := s.modul k
  let m' := if m.mapped.isEmpty then { Modul.reset with rstCells := m.rstCells, rstFrames := m.rstFrames }
            else { Modul.reset with rstCells := m.mapped, rstFrames := if s.clk.pt < s.clk.bn + 620 * 65536 then 2 else 3 }
  (s.dropK k 4).setModul k m'

/-- Scheduler and mailboxes: cores that wait in TASK.GET and DB.WAIT go on waiting. -/
def resetSch (s : State) (k : Nat) : State :=
  let keep (b : Nat) : Bool := b == Mbx.MBX_CTL.COMPAT.key (mbxB k)
  let s := s.dropRange (schB k) (mbxB k + 0x10000) keep
  let s := s.setSch k { s.sch k with ready := [] }
  (List.range 16).foldl (fun (s : State) i =>
    let m := 16 * k + i
    match (s.core m).blockedIn with
    | some (.taskGet _) => s.wr (schB k) Sch.SCH_WAIT.WAIT (setBit (s.rd (schB k) Sch.SCH_WAIT.WAIT) i)
    | some _ => s.wr (mbxB k) (Mbx.DB_STAT.WAITING.at i) 1
    | none => s) s

def resetAcq (s : State) (k : Nat) : State := (s.dropK k 5).setAcq k AcqSt.reset

/-- An L-die: every lane goes dark (R359). -/
def resetLdie (s : State) (l : Nat) : State :=
  let s := s.dropRange (0x40000000 + l * 0x1000000) (0x41000000 + l * 0x1000000) (fun _ => false)
  { s with lanes := Tab.drop s.lanes (fun n => n / 16 == l), ctxs := Tab.drop s.ctxs (fun c => c / 96 / 16 == l),
           txHold := s.txHold.filter (fun x => x != l) }

def resetAdie (s : State) (a : Nat) : State :=
  let s := s.dropRange (adB a) (adB a + 0x100000) (fun _ => false)
  { s with ads := Tab.drop s.ads (fun x => x == a) }

/-- Ethernet and time: package time goes on (R328). -/
def resetEth (s : State) : State :=
  let s := s.unfreezeAll [0x60, 0x61, 0x62, 0x63]
  { s.dropRange ethB (ethB + 0x10000) (fun _ => false) with eth := { EthSt.reset with sent := s.eth.sent } }

/-- Reset block `b` returns to its reset values. -/
def blockReset (s : State) (b : Nat) : State :=
  let kd (k i : Nat) (s : State) : State :=
    if i < 9 then (s.resetOne (16 * k + 2 * (i - 1))).resetOne (16 * k + 2 * (i - 1) + 1)
    else match i with
      | 9 => s.resetDma k
      | 10 => s.resetLaw k
      | 11 => s.resetMod k
      | 12 => s.resetSch k
      | _ => s.resetAcq k
  if b = 0 then s
  else if b < 14 then kd 0 b s
  else if b < 27 then kd 1 (b - 13) s
  else if b < 31 then s.resetLdie (b - 27)
  else if b < 33 then s.resetAdie (b - 31)
  else s.resetEth

end State

end Sys2Proof.Machine
end

