-- ==== Sys2Proof/Machine/Faults.lean ====
section
/-!
DEFINITION. The fault collector (R351 to R371): firings and their reactions, the log, ALIVE, the safe state, block resets and
their windows, the watchdog, error injection, and its commands.
-/
namespace Sys2Proof.Machine

namespace State

def modFc (s : State) (f : Collector → Collector) : State := { s with fc := f s.fc }

/-- An FS_CFG bit of source `n`, with the source's own reset value (R371). -/
def fsOn (s : State) (n : Nat) (f : Fld) : Bool := s.on fcB (fsCfg f n)

/-! ## The log (R365) -/

/-- The head record as the registers show it. -/
def syncFlog (s : State) : State :=
  let r := s.fc.log.headD ⟨0, false, false, false, false, 0, 0⟩
  let s := (s.wr fcB Fc.FLOG_CNT.DEPTH s.fc.log.length).wrB fcB Fc.FLOG_INFO.VALID (!s.fc.log.isEmpty)
  let s := (s.wr fcB Fc.FLOG_INFO.SRC r.src).wrB fcB Fc.FLOG_INFO.CONSEQ r.conseq
  let s := ((s.wrB fcB Fc.FLOG_INFO.INJ r.inj).wrB fcB Fc.FLOG_INFO.ESC r.esc).wrB fcB Fc.FLOG_INFO.MISM r.mism
  (s.wr fcB Fc.FLOG_SEC.SEC r.sec).wr fcB Fc.FLOG_NS.NS r.ns

/-- Records of one cycle stand in ascending source (R354). -/
def logIns : List LogRec → LogRec → List LogRec
  | [], r => [r]
  | x :: l, r => if x.sec = r.sec ∧ x.ns = r.ns ∧ r.src < x.src then r :: x :: l else x :: logIns l r

/-- Append a record (R365): when the queue is full it is discarded and 0x003 fires, which has no record of its own
(DEDUCED, log 48). -/
def logPut (s : State) (n : Nat) (conseq inj esc mism : Bool) : State :=
  if n = 0x003 then s
  else if 32 ≤ s.fc.log.length then ((s.inc fcB Fc.FLOG_CNT.LOST).wr fcB Fc.FC_STAT.LOGOVF 1).fire 0x003
  else (s.modFc (fun c => { c with log := logIns c.log ⟨n, conseq, inj, esc, mism, s.nowSec % 2 ^ 32, s.nowNs⟩ })).syncFlog

/-! ## PEND and COUNT (R354, R371) -/

def pendOn (s : State) (n : Nat) : Bool := s.on fcB (Fc.FS_STAT.PEND.at n)

/-- PEND in both of its views. -/
def setPendFs (s : State) (n : Nat) (v : Bool) : State :=
  let f := Fc.FLT_PEND.PEND.at (n / 32)
  (s.wrB fcB (Fc.FS_STAT.PEND.at n) v).wr fcB f (putBit (s.rd fcB f) (n % 32) v)

/-! ## Reactions (R353, R354) -/

/-- The cycle of reactions is now: lines and cores of an earlier cycle are forgotten (DEDUCED, log 43). -/
def reactNow (s : State) : State :=
  if s.fc.lastAt = s.clk.el then s else s.modFc (fun c => { c with lastAt := s.clk.el, lines := [], cores := [] })

/-- IRQ: event 0xB0 + LINE on every K-die present, once per cycle and line. -/
def irqReact (s : State) (n : Nat) : State :=
  let line := s.rd fcB (fsCfg Fc.FS_CFG.LINE n)
  if s.fc.lines.contains line then s else (s.modFc (fun c => { c with lines := line :: c.lines })).evt (0xB0 + line)

/-- NMI to one core: once per cycle, naming the lowest source. -/
def nmiTo (s : State) (n m : Nat) : State :=
  if s.fc.cores.contains m then
    s.modFc (fun c => { c with nmis := c.nmis.map (fun e => if e.1 = m ∧ n < e.2 then (m, n) else e) })
  else s.modFc (fun c => { c with cores := m :: c.cores, nmis := c.nmis ++ [(m, n)] })

/-- NMI to every core of the source's group: cores of present K-dies, not held in reset; an odd core of a paired pair names
the pair. -/
def nmiReact (s : State) (n : Nat) : State :=
  let mask := s.rd fcB (Fc.NMIG.MASK.at (s.rd fcB (fsCfg Fc.FS_CFG.NMIG n)))
  let all := ((List.range 32).filter (fun m => mask.testBit m && s.dieUp (m / 16))).map (fun m => s.lead m)
  (all.eraseDups.filter (fun m => !s.inRst m)).foldl (fun (s : State) m => s.nmiTo n m) s

/-- A block reset begins, and with it a consequential window (R359, R360) (DEDUCED, log 43). -/
def blockStart (s : State) (b : Nat) : State :=
  (s.blockReset b).modFc (fun c => { c with
    resetting := if c.resetting.contains b then c.resetting else c.resetting ++ [b]
    conseq := if c.conseq.contains b then c.conseq else c.conseq ++ [b] })

/-- The safe state (R357, R358): SPR, ALIVE, FLATCH with FFIRST, the Almanac's full flush, a metering checkpoint, and the pair
logic (DEDUCED, log 43). -/
def safeState (s : State) (n : Nat) : State :=
  if s.flatch then s
  else
    let s := ((s.wr fcB Fc.FC_STAT.FLATCH 1).wr fcB Fc.FC_STAT.SPRREQ 1).wr fcB Fc.FC_FFIRST.SRC n
    let s := ((s.wr fcB Fc.FC_FFIRST.VALID 1).wr fcB Fc.FC_FSEC.SEC s.nowSec).wr fcB Fc.FC_FNS.NS s.nowNs
    let s := s.mtrCapture.pairFlatch
    let s := if s.sprOn then s else s.sprRequest 1
    let s := s.aliveStop 1
    if s.alm.stopped then s else s.almFlush false

/-- What a firing does beside its record (R353, R357): `esc` escalates to chip reset (R361). -/
def react (s : State) (n : Nat) (cls : SrcClass) (esc : Bool) : State :=
  let s := s.reactNow
  let s := if s.fsOn n Fc.FS_CFG.IRQ && n != 0 then s.irqReact n else s
  let s := if s.fsOn n Fc.FS_CFG.NMI && n != 0 then s.nmiReact n else s
  let s := if cls = .f then s.safeState n else s
  if esc then s.chipReset 2 (some (n, true))
  else if cls = .f then s
  else if s.fsOn n Fc.FS_CFG.CRST then s.chipReset 2 (some (n, false))
  else
    let s := if s.fsOn n Fc.FS_CFG.BRST && srcBlk n != 0 then s.blockStart (srcBlk n) else s
    if s.fsOn n Fc.FS_CFG.ASTOP then s.aliveStop 2 else s

/-! ## Firings (R354, R358, R360, R361, R367, R368) -/

/-- The firing is consequential: F-class and safety sources never are (R360). -/
def consequential (s : State) (n : Nat) (cls : SrcClass) : Bool :=
  cls != .f && !(decide (0x180 ≤ n) && decide (n < 0x1A0)) && s.fc.conseq.any (fun b => covers b n)

/-- The firing is observed by the trace entries that name it (R314). -/
def observeFiring (s : State) (n : Nat) : State := (s.acqOwe 0 7 n).acqOwe 1 7 n

/-- An injection has been checked: DONE with MATCH or MISMATCH (R367, R368). -/
def injChecked (s : State) (tag : InjTag) : State :=
  match tag with
  | .real => s
  | .injected => (((s.modFc (fun c => { c with inj := none })).wr fcB Fc.INJ_STAT.BUSY 0).wr fcB Fc.INJ_STAT.DONE 1).wr fcB
      Fc.INJ_STAT.MATCH 1
  | .mismatch => ((((s.modFc (fun c => { c with inj := none })).wr fcB Fc.INJ_STAT.BUSY 0).wr fcB Fc.INJ_STAT.DONE 1).wr fcB
      Fc.INJ_STAT.MISMATCH 1).wr fcB Fc.FC_STAT.INJ_MISMATCH 1 |>.fire 0x004

/-- Source `n` fires: its detection reaches the collector (DEDUCED, log 43). -/
def firing (s : State) (n : Nat) (tag : InjTag) (cls : SrcClass) : State :=
  let s := s.modFc (fun c => { c with detect := c.detect.erase n })
  let s := (s.injChecked tag).inc fcB (Fc.FS_STAT.COUNT.at n)
  let inj := tag == .injected
  let mism := tag == .mismatch
  let s := if inj then s.wr fcB (Fc.FS_STAT.INJ.at n) 1 else s
  let s := s.observeFiring n
  let s := if n = 0x18B ∨ n = 0x18C then s.sprRequest 10 else s
  let limited := inj && !s.on fcB Fc.INJ_CTL.REACT
  let rep := s.pendOn n
  if s.consequential n cls then
    (s.wr fcB (Fc.FS_STAT.CONSEQ.at n) 1).logPut n true inj false mism
  else
    let esc := srcBlk n != 0 && s.fc.escal.contains (srcBlk n) && !limited
    if rep && !esc then s
    else
      let s := (s.setPendFs n true).logPut n false inj esc mism
      let s := if esc then s.wr fcB (Fc.FS_STAT.ESC.at n) 1 else s
      if cls = .f ∧ s.flatch then s
      else if limited then (if s.fsOn n Fc.FS_CFG.IRQ then s.reactNow.irqReact n else s)
      else s.react n cls esc

/-- FAULT_FIRING: a source that cannot fire on the part has no effect (R351) (DEDUCED, log 43). -/
def faultFiring (s : State) (n : Nat) (tag : InjTag) : State :=
  match srcInfo n with
  | some (cls, _) => if s.canFire n then s.firing n tag cls else s
  | none => s

/-- BLOCK_RESET_DONE: the block has its reset values, and its escalation window opens (R359, R361) (DEDUCED, log 43). -/
def blockDone (s : State) (b : Nat) : State :=
  if !s.fc.resetting.contains b then s
  else (s.blockReset b).modFc (fun c => { c with
    resetting := c.resetting.filter (fun x => x != b)
    escal := if c.escal.contains b then c.escal else c.escal ++ [b] })

/-! ## ALIVE (R355, R358) -/

/-- A source whose FS_CFG selects ASTOP has PEND set. -/
def astopPend (s : State) : Bool := (List.range 512).any (fun n => s.pendOn n && s.fsOn n Fc.FS_CFG.ASTOP)

/-- ALIVE_EN = 1: refused while FLATCH is set or a source that selects ASTOP is pending; ALIVE begins high. -/
def aliveStart (s : State) : State :=
  if s.on fcB Fc.FC_STAT.ALIVE_RUN || s.flatch || s.astopPend then s
  else ((s.wr fcB Fc.FC_CTL.ALIVE_EN 1).wr fcB Fc.FC_STAT.ALIVE_RUN 1).modFc (fun c => { c with alive := true })

/-! ## Watchdog, injection, parity (R363, R364, R366) -/

/-- A write of WD_KICK. -/
def wdKick (s : State) (v : Nat) : State :=
  if v % 256 = 0xA5 ∧ s.fc.wd5a then s.modFc (fun c => { c with wd5a := false, wdRun := s.on fcB Fc.FC_CTL.WDEN })
  else s.modFc (fun c => { c with wd5a := v % 256 == 0x5A })

/-- A write of INJ_CTL with ARM (DEDUCED, log 24 and 43). -/
def injArm (s : State) (v : Nat) : State :=
  let src := bits v 8 0
  let kind := bits v 10 9
  let s := ((s.wr fcB Fc.INJ_CTL.SRC src).wr fcB Fc.INJ_CTL.KIND kind).wr fcB Fc.INJ_CTL.REACT (bits v 11 11)
  if bits v 12 12 = 0 then s
  else
    let ok := match srcInfo src with | some (_, some k) => k == kind && s.srcUp src | _ => false
    if ok && s.fc.inj.isNone then (s.modFc (fun c => { c with inj := some (src, kind) })).wr fcB Fc.INJ_STAT.BUSY 1
    else s.wr fcB Fc.INJ_STAT.REJ 1

/-- A parity error of a collector word (R363): the safe state without consulting FS_CFG. -/
def collectorParity (s : State) : State :=
  let s := (s.inc fcB (Fc.FS_STAT.COUNT.at 0)).observeFiring 0
  if s.pendOn 0 then s else ((s.setPendFs 0 true).logPut 0 false false false false).safeState 0

/-- A parity error of a safety word (R373, R388): the unit's own SPR request, and source 0x18C. -/
def safetyParity (s : State) : State := (s.sprRequest 10).fire 0x18C

end State

/-! ## The commands -/

/-- FAULT_FIRING (R354). -/
def execFaultFiring (src : Nat) (tag : InjTag) (s : State) : Ans := .next (s.faultFiring src tag)
/-- BLOCK_RESET_DONE (R359). -/
def execBlockResetDone (blk : Nat) (s : State) : Ans := .next (s.blockDone blk)
/-- CONSEQ_WINDOW_END (R360). -/
def execConseqWindowEnd (blk : Nat) (s : State) : Ans :=
  .next (s.modFc (fun c => { c with conseq := c.conseq.filter (fun x => x != blk) }))
/-- ESCALATION_WINDOW_END (R361). -/
def execEscalationWindowEnd (blk : Nat) (s : State) : Ans :=
  .next (s.modFc (fun c => { c with escal := c.escal.filter (fun x => x != blk) }))
/-- FS_PEND_CLEAR (R354). -/
def execFsPendClear (w : Wr) (src : Nat) (s : State) : Ans :=
  .next ((if src < 512 then s.setPendFs src false else s).retire w (fcB + 0x1800 + 4 * src))
/-- ALIVE_EN (R355). -/
def execAliveEn (w : Wr) (s : State) : Ans := .next (s.aliveStart.retire w fcB)
/-- ALIVE_STOP (R355). -/
def execAliveStop (w : Wr) (s : State) : Ans := .next ((s.aliveStop 3).retire w fcB)
/-- ALIVE_HALF_PERIOD (R355). -/
def execAliveHalfPeriod (s : State) : Ans :=
  .next (if s.on fcB Fc.FC_STAT.ALIVE_RUN then s.modFc (fun c => { c with alive := !c.alive }) else s)
/-- ALIVE_READBACK_FAIL (R362). -/
def execAliveReadbackFail (s : State) : Ans := .next (s.fire 0x002)
/-- FC_LOCK (R353). -/
def execFcLock (w : Wr) (s : State) : Ans := .next (((s.wr fcB Fc.FC_CTL.LOCK 1).wr fcB Fc.FC_STAT.LOCKED 1).retire w fcB)
/-- WDEN (R364): write-once. -/
def execWden (w : Wr) (s : State) : Ans :=
  .next ((if s.on fcB Fc.FC_CTL.WDEN then s
    else (s.wr fcB Fc.FC_CTL.WDEN 1).modFc (fun c => { c with wdRun := true })).retire w fcB)
/-- WD_KICK (R364). -/
def execWdKick (w : Wr) (v : Word) (s : State) : Ans := .next ((s.wdKick v.toNat).retire w (fcB + 0x1C))
/-- WATCHDOG_EXPIRY (R364): the watchdog then waits for the next good kick. -/
def execWatchdogExpiry (s : State) : Ans :=
  .next (if s.fc.wdRun then (s.modFc (fun c => { c with wdRun := false })).fire 0x006 else s)
/-- FLOG_POP (R365). -/
def execFlogPop (w : Wr) (s : State) : Ans :=
  .next (((s.modFc (fun c => { c with log := c.log.tail })).syncFlog).retire w (fcB + 0x3C))
/-- FS_CLR (R371). -/
def execFsClr (w : Wr) (s : State) : Ans :=
  .next (((List.range 512).foldl (fun (s : State) n =>
    if s.rd fcB (Fc.FS_STAT.COUNT.at n) = 0 then s else s.wr fcB (Fc.FS_STAT.COUNT.at n) 0) s).retire w (fcB + 0x44))
/-- INJECTION_ARM (R366). -/
def execInjectionArm (w : Wr) (v : Word) (s : State) : Ans := .next ((s.injArm v.toNat).retire w (fcB + 0x50))
/-- INJECTION_TIMEOUT (R366): no check came within 10 ms. -/
def execInjectionTimeout (s : State) : Ans :=
  .next (if s.fc.inj.isSome then
    ((s.modFc (fun c => { c with inj := none })).wr fcB Fc.INJ_STAT.BUSY 0).wr fcB Fc.INJ_STAT.TIMEOUT 1 else s)
/-- PARITY_SCRUB (R363). -/
def execParityScrub (safety err : Bool) (s : State) : Ans :=
  .next (if !err then s else if safety then s.safetyParity else s.collectorParity)

end Sys2Proof.Machine
end

