-- ==== Sys2Proof/Machine/SafetyUnit.lean ====
section
/-!
DEFINITION. The safety unit (R373 to R393): release of SPR, the SRS monitor, hardwired stops, safety frames and the network
state, and its commands.
-/
namespace Sys2Proof.Machine

namespace State

/-- The unit is armed (R392); a register write it refused (R393). -/
def armed (s : State) : Bool := s.on safB Saf.SAFE_STAT.ARMED
def safNoPerm (s : State) : State := (s.wr safB Saf.SAFE_STAT.NOPERM 1).fire 0x18F

/-! ## Release (R375) -/

/-- The conditions that refuse a release, as REL_CAUSE bits (DEDUCED, log 44). -/
def relCause (s : State) (same : Bool) : Nat :=
  let b0 := !s.armed
  let b1 := s.flatch
  let b2 := s.rd safB Saf.SAFE_STAT.STIN != 3 || s.on safB Saf.SAFE_STAT.DISC
  let b3 := s.saf.stopreq || (s.on safB Saf.SAFE_CTL.SFEN && s.rd safB Saf.SAFE_STAT.NET != 0)
  let b4 := s.on safB Saf.SAFE_STAT.SRS
  let min_ := max 1 (s.rd safB Saf.SAFE_CTL.BRKMIN) * 10000000
  let b5 := s.saf.brkDue || (match s.saf.brkAt with | some t => decide (s.clk.el < t + min_) | none => false)
  let b7 := [0x189, 0x18A, 0x18B, 0x18C].any s.pendOn
  b0.toNat + 2 * b1.toNat + 4 * b2.toNat + 8 * b3.toNat + 16 * b4.toNat + 32 * b5.toNat + 64 * same.toNat + 128 * b7.toNat

/-- SPR_REL with permission: refused, or BLK leaves the HDRs, STOP_OUT returns high and BRK_TRIP low. -/
def sprRelease (s : State) (same : Bool) : State :=
  let c := s.relCause same
  if c ≠ 0 then ((s.wr safB Saf.SAFE_STAT.REL_REJ 1).wr safB Saf.REL_CAUSE.CAUSE c).fire 0x18E
  else if !s.sprOn then s
  else
    let s := ((s.wr safB Saf.SAFE_STAT.SPR 0).wr safB Saf.SAFE_STAT.STOUT 3).wr safB Saf.SAFE_STAT.BRK 0
    (s.modSaf (fun x => { x with stopDue := false, brkDue := false, brkAt := none })).syncPair

/-! ## Safe Ramp Stop (R377, R378) -/

/-- nramp (R377): TRAMP outside 2 to 2,000 acts as the nearer limit. -/
def nramp (s : State) : Nat := min 2000 (max 2 (s.rd safB Saf.SRS_CFG.TRAMP)) * 800

/-- lim(k) of entry `i` (DEDUCED, log 44). -/
def srsLim (s : State) (i k : Nat) : Int :=
  let lo := toSigned (s.rd safB (Saf.MON_LVL.FLOOR.at i)) 16
  let hi := max lo (toSigned (s.rd safB (Saf.MON_LVL.INIT.at i)) 16)
  lo + ((hi - lo) * (s.nramp - k : Nat)).tdiv s.nramp

/-- x(k): slot bits 31:16. -/
def monVal (s : State) (i : Nat) : Int :=
  toSigned (s.rd (lawB (s.rd safB (Saf.MON_CFG.KDIE.at i))) (Larr.SIG.VAL.at (s.rd safB (Saf.MON_CFG.SLOT.at i))) / 65536) 16

/-- The input of entry `i` is stale at this fill (R378). -/
def monStale (s : State) (i : Nat) : Bool :=
  let k := s.rd safB (Saf.MON_CFG.KDIE.at i)
  let slot := s.rd safB (Saf.MON_CFG.SLOT.at i)
  let b := lawB k
  s.lawFrozen k || !s.dieUp k || (s.rd b (Law.IN_STALE.STALE.at (slot / 32))).testBit (slot % 32) ||
  (match s.rd b (Lmap.MAP.SRC.at slot) with
   | 1 =>
     let a := s.rd b (Lmap.MAP.UNIT.at slot)
     let f := Ares.RES.SUBN.at (s.rd b (Lmap.MAP.IDX.at slot))
     !s.dieUp (6 + a) || s.rd (adB a) f != s.clk.n % 2 ^ f.wid
   | 2 => false
   | _ => true)

/-- Count or reset a run of consecutive fills. -/
def runOf (l : List (Nat × Nat)) (i : Nat) (b : Bool) : List (Nat × Nat) := Tab.put l i (if b then Tab.get l i 0 + 1 else 0)

/-- The monitor entries of K-die `k` are judged at the fill of subframe n (R377, R378). -/
def srsTap (s : State) (k : Nat) : State :=
  let ids := (List.range 16).filter (fun i => s.on safB (Saf.MON_CFG.EN.at i) && s.rd safB (Saf.MON_CFG.KDIE.at i) == k)
  if s.on safB Saf.SAFE_STAT.SRS then
    let s := if s.saf.fill0.isNone && decide (s.saf.srsAt + 100 ≤ s.clk.el) then s.modSaf (fun x => { x with fill0 := some (s.clk.n : Int) }) else s
    match s.saf.fill0 with
    | none => s
    | some n0 =>
      let kk := ((s.clk.n : Int) - n0).toNat
      let vc := max 1 (s.rd safB Saf.SRS_CFG.VCNT)
      let lim := max 1 (s.rd safB Saf.SRS_CFG.SRSTO)
      let s := s.wr safB Saf.SRS_K.K kk
      let s := ids.foldl (fun (s : State) i =>
        let v := decide (s.srsLim i kk < (s.monVal i).natAbs)
        let st := s.monStale i
        s.modSaf (fun x =>
          let viol := runOf x.viol i v
          let stale := runOf x.stale i st
          { x with viol := viol, stale := stale,
                   violDue := if x.violDue.isNone && decide (vc ≤ Tab.get viol i 0) then some (i, kk) else x.violDue,
                   timeDue := x.timeDue || decide (lim ≤ Tab.get stale i 0) })) s
      s.modSaf (fun x => { x with rampDue := x.rampDue || decide (s.nramp ≤ kk) })
  else if s.armed then
    ids.foldl (fun (s : State) i =>
      let st := s.monStale i
      let was := s.saf.told.contains i
      if st && !was then (s.modSaf (fun x => { x with told := i :: x.told })).fire 0x18D
      else if !st && was then s.modSaf (fun x => { x with told := x.told.filter (fun j => j != i) }) else s) s
  else s

/-! ## Hardwired stops (R385 to R387) -/

/-- A STOP_IN channel has been low for STFILT. -/
def stopLow (s : State) (b : Bool) : State :=
  let v := clrBit (s.rd safB Saf.SAFE_STAT.STIN) b.toNat
  let s := s.wr safB Saf.SAFE_STAT.STIN v
  let s := if v = 0 ∧ s.on safB Saf.SAFE_STAT.DISC then s.modSaf (fun x => { x with bothLow := true }) else s
  (s.sprRequest 2).fire 0x187

/-- A STOP_IN channel has been high for STFILT: DISC clears after both have been low together and then high together. -/
def stopHigh (s : State) (b : Bool) : State :=
  let v := setBit (s.rd safB Saf.SAFE_STAT.STIN) b.toNat
  let s := s.wr safB Saf.SAFE_STAT.STIN v
  if v = 3 ∧ s.saf.bothLow then (s.wr safB Saf.SAFE_STAT.DISC 0).modSaf (fun x => { x with bothLow := false }) else s

/-- STOPDLY has passed since the request: STOP_OUT_A and STOP_OUT_B go low. -/
def stopDrop (s : State) : State :=
  if s.saf.stopDue then (s.wr safB Saf.SAFE_STAT.STOUT 0).modSaf (fun x => { x with stopDue := false }) else s

/-- BRKDLY has passed since the request: BRK_TRIP rises. -/
def brkRise (s : State) : State :=
  if s.saf.brkDue then
    (s.wr safB Saf.SAFE_STAT.BRK 1).modSaf (fun x => { x with brkDue := false, brkAt := some s.clk.el }) else s

/-! ## The network state (R383) -/

/-- Safety frames are used: SFEN = 1 and the unit armed. -/
def framesOn (s : State) : Bool := s.armed && s.on safB Saf.SAFE_CTL.SFEN
def netState (s : State) : Nat := s.rd safB Saf.SAFE_STAT.NET

/-- The DEG timer stops and shows what it reached. -/
def degStop (s : State) : State := (s.wr safB Saf.DEG_T.SEC s.degSec).modSaf (fun x => { x with degAt := none })

/-- Degraded mode is entered: the DEG timer starts from zero. -/
def goDegraded (s : State) : State :=
  ((s.wr safB Saf.SAFE_STAT.NET 1).modSaf (fun x => { x with degAt := some s.clk.pt, degTold := false, recov := 0 })).fire 0x184

/-- A copy is missing on one LAN, or one LAN is silent (R382, R383). -/
def netMiss (s : State) : State :=
  let s := s.modSaf (fun x => { x with recov := 0 })
  if s.netState = 0 then s.goDegraded else s

/-- `n` copies are counted as missing. -/
def missing (s : State) (n : Nat) : State := if n = 0 then s else (s.incBy safB Saf.SF_CNTM.MISS n).netMiss

/-- Both LANs are silent. -/
def netLost (s : State) : State :=
  if s.netState = 2 then s
  else
    let s := (s.degStop.wr safB Saf.SAFE_STAT.NET 2).fire 0x185
    if s.on safB Saf.SAFE_CTL.NETACT then s.sprRequest 8 else s.srsRequest 4

/-- A SEQ valid on both LANs and matching (R383). -/
def netMatch (s : State) : State :=
  let n := s.saf.recov + 1
  let s := s.modSaf (fun x => { x with recov := n })
  if s.netState = 1 ∧ max 1 (s.rd safB Saf.DEG_CFG.RECOV_N) ≤ n then s.degStop.wr safB Saf.SAFE_STAT.NET 0 else s

/-- The copies of a SEQ differ (R382); the spec states no SRSCAUSE for this request of SRS (DEDUCED, log 44). -/
def netMismatch (s : State) : State :=
  let s := ((s.modSaf (fun x => { x with recov := 0 })).inc safB Saf.SF_CNTM.MISMATCH).fire 0x183
  if s.on safB Saf.SAFE_CTL.MISACT then s.sprRequest 7
  else
    let (w, s) := s.freeWord
    s.srsRequest (w.toNat % 8)

/-! ## Safety frames (R379 to R382, R384) -/

/-- SCRC (R379): CRC-32C of bytes 0 to 43 with CONN as initial value. -/
def scrc (l : List Byte) : Nat := (l.take 44).foldl (fun c b => crcNat 32 0x1EDC6F41 b.toNat 8 c) (beAt l 4 4)

/-- The checks of R380 on the 48 bytes of a copy but for SEQ. -/
def copyOk (s : State) (l : List Byte) : Bool :=
  l.length == 48 && beAt l 44 4 == scrc l && beAt l 0 2 == 0x0101 && beAt l 2 2 == 0 && beAt l 12 2 / 4 == 0 &&
  beAt l 14 2 == 0 && beAt l 40 4 == 0 && beAt l 4 4 == s.rd safB Saf.SF_CONN.CONN

/-- SEQ lies 1 to 16 above the last valid one of its LAN, or is the first after ARM. -/
def seqOk (s : State) (lan seq : Nat) : Bool :=
  match s.saf.seqs.find? (fun e => e.1 == lan) with
  | none => true
  | some e => let d := (seq + 2 ^ 32 - e.2) % 2 ^ 32; decide (1 ≤ d) && decide (d ≤ 16)

/-- The SEQs a LAN has skipped before `seq`. -/
def skipped (s : State) (lan seq : Nat) : List Nat :=
  match s.saf.seqs.find? (fun e => e.1 == lan) with
  | none => []
  | some e => (List.range ((seq + 2 ^ 32 - e.2) % 2 ^ 32 - 1)).map (fun i => (e.2 + 1 + i) % 2 ^ 32)

/-- The other LAN is already beyond `seq`. -/
def otherBeyond (s : State) (lan seq : Nat) : Bool :=
  match s.saf.seqs.find? (fun e => e.1 == 1 - lan) with
  | none => false
  | some e => let d := (e.2 + 2 ^ 32 - seq) % 2 ^ 32; decide (1 ≤ d) && decide (d < 2 ^ 31)

/-- A skipped SEQ counts as missing once (R382): a copy of the other LAN that waits for it is done with. -/
def skipOne (s : State) (lan seq : Nat) : State :=
  match s.saf.copies.find? (fun c => c.seq == seq && c.lan != lan) with
  | some c =>
    if c.done then s
    else (s.modSaf (fun x => { x with copies := x.copies.map (fun y => if y = c then { y with done := true } else y) })).missing 1
  | none => s.missing 1

/-- A valid first copy acts (R381) (DEDUCED, log 44). -/
def firstCopy (s : State) (lan seq : Nat) (l : List Byte) : State :=
  let cmd := beAt l 12 2
  let s := (List.range 6).foldl (fun (s : State) i => s.wr safB (Saf.SF_RXDATA.DATA.at i) (beAt l (16 + 4 * i) 4)) s
  let s := s.wr safB Saf.SF_SEQ.SEQ seq
  let s := s.modSaf (fun x => { x with
    stopreq := cmd.testBit 0
    copies := (x.copies ++ [SafeCopy.mk seq lan l s.clk.el (s.otherBeyond lan seq)]).drop (x.copies.length - 31) })
  let s := if cmd.testBit 0 then s.sprRequest 3 else s
  if cmd.testBit 1 then s.srsRequest 2 else s

/-- A copy of the SEQ has already come on the other LAN (R382) (DEDUCED, log 44). -/
def secondCopy (s : State) (c : SafeCopy) (l : List Byte) : State :=
  let win := max 1 (s.rd safB Saf.SF_TIME.PAIRWIN) * 100000
  let done (s : State) : State :=
    s.modSaf (fun x => { x with copies := x.copies.map (fun y => if y = c then { y with done := true } else y) })
  if c.done then s
  else if c.at_ + win < s.clk.el then (done s).missing 1
  else if c.bytes = l then (done s).netMatch
  else (done s).netMismatch

/-- SAFETY_FRAME_RECEIVED on LAN `lan` (0 ETH0, 1 ETH1); `bytes` is the frame. -/
def safetyFrame (s : State) (lan : Nat) (bytes : List Byte) : State :=
  if !s.framesOn || 2 ≤ lan || etherType bytes != 0x88B5 then s
  else
    let l := (bytes.drop (typeAt bytes + 2)).take 48
    let cnt (ok bad : Fld) (b : Bool) : Fld := if b then ok else bad
    let bump (s : State) (b : Bool) : State :=
      s.inc safB (if lan = 0 then cnt Saf.SF_CNTA.OK Saf.SF_CNTA.BAD b else cnt Saf.SF_CNTB.OK Saf.SF_CNTB.BAD b)
    let seq := beAt l 8 4
    if beAt l 1 1 = 2 then s
    else if !(s.copyOk l && s.seqOk lan seq) then (bump s false).fire 0x190
    else
      let s := bump s true
      let s := if s.netState = 2 then s.goDegraded else s
      let s := (s.skipped lan seq).foldl (fun (s : State) q => s.skipOne lan q) s
      let s := s.modSaf (fun x => { x with seqs := Tab.put x.seqs lan seq })
      match s.saf.copies.find? (fun c => c.seq == seq && c.lan != lan) with
      | some c => s.secondCopy c l
      | none => s.firstCopy lan seq l

/-- SAFETY_COPY_MISSING: the oldest first copy that waits for LAN `lan` has waited PAIRWIN. -/
def copyMissing (s : State) (lan : Nat) : State :=
  if !s.framesOn then s
  else match s.saf.copies.find? (fun c => c.lan != lan && !c.done) with
    | some c =>
      (s.modSaf (fun x => { x with copies := x.copies.map (fun y => if y = c then { y with done := true } else y) })).missing 1
    | none => s

/-- SAFETY_NET_WATCHDOG: the LANs without a valid copy for SF_WD. -/
def netWatchdog (s : State) (a b : Bool) : State :=
  if !s.framesOn then s else if a && b then s.netLost else if a || b then s.netMiss else s

/-- DEG_LIMIT_REACHED (DESIGN CHOICE, log 7). -/
def degLimit (s : State) : State :=
  if s.framesOn && s.netState == 1 && !s.saf.degTold then
    ((s.modSaf (fun x => { x with degTold := true })).fire 0x186).srsRequest 3
  else s

/-- The 48 bytes of a status frame (R379, R384). -/
def statusBytes (s : State) : List Byte :=
  let cmd := s.sprOn.toNat + 2 * (s.on safB Saf.SAFE_STAT.SRS).toNat + 4 * (s.netState == 1).toNat + 8 * s.flatch.toNat
  let app := (List.range 6).flatMap (fun i => beBytes (s.rd safB (Saf.SF_TXDATA.DATA.at i)) 4)
  let l := beBytes 0x01020000 4 ++ beBytes (s.rd safB Saf.SF_TCONN.CONN) 4 ++ beBytes s.saf.txSeq 4 ++ beBytes cmd 2 ++
    beBytes 0 2 ++ app ++ beBytes 0 4
  l ++ beBytes (scrc l) 4

/-- SAFETY_STATUS_TX: the frame goes out on ETH0 and ETH1; a port whose link is down sends nothing (DEDUCED, log 44). -/
def statusTx (s : State) : State :=
  if !s.framesOn then s
  else
    let pay := s.statusBytes
    let da := s.rd safB Saf.SF_DA_HI.ADDR * 2 ^ 32 + s.rd safB Saf.SF_DA_LO.ADDR
    let s := ([0, 1].filter (fun e => s.on (portB e) Port.PORT_STAT.LINK)).foldl (fun (s : State) e =>
      let sa := s.rd (portB e) Port.MAC_HI.ADDR * 2 ^ 32 + s.rd (portB e) Port.MAC_LO.ADDR
      s.modEth (fun x => { x with sent := x.sent ++ [(e, beBytes da 6 ++ beBytes sa 6 ++ beBytes 0x88B5 2 ++ pay)] })) s
    s.modSaf (fun x => { x with txSeq := (x.txSeq + 1) % 2 ^ 32 })

/-- SAFETY_ARM (R383, R392): the bit is write-once; refused with SFEN = 1 and no CONN. -/
def safArm (s : State) : State :=
  if s.on safB Saf.SAFE_CTL.ARM then s
  else if s.on safB Saf.SAFE_CTL.SFEN && s.rd safB Saf.SF_CONN.CONN == 0 then (s.wr safB Saf.SAFE_STAT.CFG_REJ 1).fire 0x18F
  else
    let s := (s.wr safB Saf.SAFE_CTL.ARM 1).wr safB Saf.SAFE_STAT.ARMED 1
    (s.wr safB Saf.SAFE_STAT.NET (if s.on safB Saf.SAFE_CTL.SFEN then 2 else 0)).syncPair

end State

/-! ## The commands -/

/-- SPR_REQ (R209, R373). -/
def execSprReq (w : Wr) (s : State) : Ans := .next ((if privileged w then s.sprRequest 9 else s.safNoPerm).retire w safB)
/-- SPR_REL (R375). -/
def execSprRel (w : Wr) (sameCycle : Bool) (s : State) : Ans :=
  .next ((if privileged w then s.sprRelease sameCycle else s.safNoPerm).retire w safB)
/-- SRS_REQ (R376). -/
def execSrsReq (w : Wr) (s : State) : Ans := .next ((if privileged w then s.srsRequest 1 else s.safNoPerm).retire w safB)
/-- SAFETY_ARM (R392). -/
def execSafetyArm (w : Wr) (s : State) : Ans := .next (s.safArm.retire w safB)
/-- SRS_VIOLATION (R377). -/
def execSrsViolation (s : State) : Ans :=
  .next (match s.on safB Saf.SAFE_STAT.SRS, s.saf.violDue with
    | true, some (i, k) =>
      (((s.wr safB Saf.SRS_VIOL.ENTRY i).wr safB Saf.SRS_VIOL.FILL k).fire 0x182).sprRequest 4
    | _, _ => s)
/-- SRS_RAMP_END (R377): fill nramp is reached without a violation. -/
def execSrsRampEnd (s : State) : Ans :=
  .next (if s.on safB Saf.SAFE_STAT.SRS && s.saf.rampDue && s.saf.violDue.isNone then s.sprRequest 5 else s)
/-- SRS_INPUT_TIMEOUT (R378). -/
def execSrsInputTimeout (s : State) : Ans :=
  .next (if s.on safB Saf.SAFE_STAT.SRS && s.saf.timeDue then (s.sprRequest 6).fire 0x18D else s)
/-- STOP_IN_LOW (R385). -/
def execStopInLow (b : Bool) (s : State) : Ans := .next (s.stopLow b)
/-- STOP_IN_DISCREPANCY (R385). -/
def execStopInDiscrepancy (s : State) : Ans :=
  .next (if s.on safB Saf.SAFE_STAT.DISC then s
    else ((s.wr safB Saf.SAFE_STAT.DISC 1).modSaf (fun x => { x with bothLow := false })).fire 0x188)
/-- STOP_IN_RESTORED (R385). -/
def execStopInRestored (b : Bool) (s : State) : Ans := .next (s.stopHigh b)
/-- STOP_OUT_DROP (R386). -/
def execStopOutDrop (s : State) : Ans := .next s.stopDrop
/-- BRK_TRIP_RISE (R387). -/
def execBrkTripRise (s : State) : Ans := .next s.brkRise
/-- SAFETY_READBACK_FAIL (R386, R387). -/
def execSafetyReadbackFail (brk : Bool) (s : State) : Ans := .next (s.fire (if brk then 0x18A else 0x189))
/-- SAFETY_FRAME_RECEIVED (R380). -/
def execSafetyFrameReceived (lan : Nat) (bytes : List Byte) (s : State) : Ans := .next (s.safetyFrame lan bytes)
/-- SAFETY_COPY_MISSING (R382). -/
def execSafetyCopyMissing (lan : Nat) (s : State) : Ans := .next (s.copyMissing lan)
/-- SAFETY_NET_WATCHDOG (R383). -/
def execSafetyNetWatchdog (lanA lanB : Bool) (s : State) : Ans := .next (s.netWatchdog lanA lanB)
/-- DEG_LIMIT_REACHED (R383). -/
def execDegLimitReached (s : State) : Ans := .next s.degLimit
/-- SAFETY_STATUS_TX (R384). -/
def execSafetyStatusTx (s : State) : Ans := .next s.statusTx

end Sys2Proof.Machine
end

