-- ==== Sys2Proof/Machine/Power.lean ====
section
/-!
DEFINITION. Power, clocks, reset and self-test (R452 to R475): rails and clocks, the chip resets, dies on and off, BIST, the
xSPI controllers, power failure and temperatures; the boot ROM with the image checks (R230, R443, R444); attestation and the
irreversible security commands (R445, R447).
-/
namespace Sys2Proof.Machine

namespace State

def modPwr (s : State) (f : PwrSt → PwrSt) : State := { s with pwr := f s.pwr }

/-- A refusal of the clock and power block (R475). -/
def pwrRej (s : State) (f : Fld) : State := (s.wr pwrB f 1).fire 0x1CE

/-- Set or clear bit `d` of a field of the block. -/
def dieBit (s : State) (f : Fld) (d : Nat) (v : Bool) : State := s.wr pwrB f (putBit (s.rd pwrB f) d v)
/-- A field's bit `d`. -/
def dieOf (s : State) (f : Fld) (d : Nat) : Bool := (s.rd pwrB f).testBit d

/-! ## Links (R20, R235) -/

/-- The two dies of link `i`. -/
def linkEnds (i : Nat) : Nat × Nat := if i = 0 then (0, 1) else if i < 5 then (0, i + 1) else if i = 5 then (0, 6) else (1, 7)
/-- Link `i` is trained and not failed: both of its dies are up (DEDUCED, log 38). -/
def linkUp (s : State) (i : Nat) : Bool := s.dieUp (linkEnds i).1 && s.dieUp (linkEnds i).2 && !s.pwr.links.contains i
/-- LINKUP follows. -/
def syncLinks (s : State) : State :=
  s.wr capsB Fab.FAB_STAT.LINKUP ((List.range 7).foldl (fun v i => putBit v i (s.linkUp i)) 0)

/-! ## Dies on and off (R456, R457) -/

/-- Die `d` is quiescent; K-die 0 never is. -/
def quiescent (s : State) (d : Nat) : Bool :=
  if d = 0 then false
  else if d = 1 then
    (List.range 16).all (fun i => s.inRst (16 + i)) && (List.range 6).all (fun a => s.amode 1 a == 0) &&
    (List.range 6).all (fun c => !s.chRuns 1 c) && (List.range 16).all (fun c => s.dState 1 c == 0 || s.dState 1 c == 6) &&
    (s.rd (acqB 1) Acq.ACQ_STAT.STATE == 0 || s.rd (acqB 1) Acq.ACQ_STAT.STATE == 3)
  else if d < 6 then (List.range 16).all (fun i => s.rd (laneB (16 * (d - 2) + i)) Lane.LANE_STAT.LSTATE == 0)
  else (List.range 24).all (fun n => !s.on (seqB (d - 6) n) Seq.SEQ_STAT.RUN) &&
    !(s.mtrRuns && s.rd mtrB Mtr.MTR_SRC.MAID == d - 6)

/-- The registers and RAMs of die `d` are at their reset values (R456) (DEDUCED, log 38). -/
def dieReset (s : State) (d : Nat) : State :=
  if d = 1 then
    let s := ((List.range 13).foldl (fun (s : State) i => s.blockReset (14 + i)) s).setModul 1 Modul.reset
    { s with mem := s.mem.filter (fun c => !((decide (0x08200000 ≤ c.1) && decide (c.1 < 0x08400000)) ||
        (decide (0x10400000 ≤ c.1) && decide (c.1 < 0x10800000)))) }
  else if d < 6 then s.resetLdie (d - 2)
  else s.resetAdie (d - 6)

/-- Die `d` stops: no longer ready, and without its temperature. -/
def dieStop (s : State) (d : Nat) : State :=
  let s := (s.dieBit Pwr.DIE_STAT.RDY d false).dieReset d
  let s := (s.wr pwrB (Pwr.DIE_TEMP.T.at d) 0).wr pwrB (Pwr.DIE_TEMP.VALID.at d) 0
  s.modPwr (fun p => { p with warm := p.warm.filter (fun x => x != d), hot := p.hot.filter (fun x => x != d) })

/-- DIE_CTL bit `d` is set (R456): a present die that is off begins to turn on. -/
def dieTurnOn (s : State) (d : Nat) : State :=
  if d = 0 || 8 ≤ d || !s.hasDie d || s.dieOf Pwr.DIE_CTL.ON d then s
  else (s.dieBit Pwr.DIE_CTL.ON d true).dieBit Pwr.DIE_STAT.BUSY d true

/-- DIE_CTL bit `d` is cleared (R456): refused unless the die is quiescent (DEDUCED, log 38). -/
def dieTurnOff (s : State) (d : Nat) : State :=
  if d = 0 || 8 ≤ d || !s.hasDie d || !s.dieOf Pwr.DIE_CTL.ON d then s
  else if !s.quiescent d || s.dieOf Pwr.DIE_STAT.BUSY d then s.pwrRej Pwr.PWR_STAT.PWR_REJ
  else (((s.dieStop d).dieBit Pwr.DIE_CTL.ON d false).dieBit Pwr.DIE_STAT.LOCK d false).syncLinks

/-- Die `d` has turned on, or has been initialised after a test it passed. -/
def dieIsReady (s : State) (d : Nat) : State :=
  let testing := s.on bistB Bist.BIST_STAT.BUSY && s.rd bistB Bist.BIST_STAT.DIE == d
  if s.pwr.held || d = 0 || !s.hasDie d || !s.dieOf Pwr.DIE_STAT.BUSY d || !s.dieOf Pwr.DIE_CTL.ON d || testing then s
  else
    let s := ((s.dieReset d).dieBit Pwr.DIE_STAT.RDY d true).dieBit Pwr.DIE_STAT.LOCK d true
    (s.dieBit Pwr.DIE_STAT.BUSY d false).syncLinks

/-! ## Self-test (R469, R470) -/

/-- START (R469) (DEDUCED, log 38). -/
def bistStart (s : State) : State :=
  let d := s.rd bistB Bist.BIST_CTL.DIE
  let ty := s.rd bistB Bist.BIST_CTL.TYPE
  let ok := !s.on bistB Bist.BIST_STAT.BUSY && d != 0 && s.hasDie d && s.dieOf Pwr.DIE_CTL.ON d && s.dieUp d && s.quiescent d &&
    (ty == 0 || d == 1)
  if !ok then (s.wr bistB Bist.BIST_STAT.REJ 1).fire 0x1CE
  else
    let s := ((s.wr bistB Bist.BIST_STAT.BUSY 1).wr bistB Bist.BIST_STAT.PASS 0).wr bistB Bist.BIST_STAT.FAIL 0
    let s := (s.wr bistB Bist.BIST_STAT.DIE d).wr bistB Bist.BIST_STAT.TYPE ty
    ((s.dieStop d).dieBit Pwr.DIE_STAT.BUSY d true).syncLinks

/-- The test ends: a passed die is initialised as in R456, a failed one is off (DEDUCED, log 38). -/
def bistDone (s : State) (misr golden : BitVec 64) (us : Nat) : State :=
  if !s.on bistB Bist.BIST_STAT.BUSY then s
  else
    let d := s.rd bistB Bist.BIST_STAT.DIE
    let s := (s.wr bistB Bist.BIST_SIG.SIG (misr.toNat % 2 ^ 32)).wr bistB (Bist.BIST_SIG.SIG.at 1) (misr.toNat / 2 ^ 32)
    let s := (s.wr bistB Bist.BIST_TIME.US us).wr bistB Bist.BIST_STAT.BUSY 0
    if misr = golden then s.wr bistB Bist.BIST_STAT.PASS 1
    else
      let s := (s.wr bistB Bist.BIST_STAT.FAIL 1).dieBit Pwr.DIE_CTL.ON d false
      ((s.dieBit Pwr.DIE_STAT.BUSY d false).dieBit Pwr.DIE_STAT.LOCK d false).syncLinks.fire 0x1CA

/-- The boot BIST (R470), before the ROM starts (DEDUCED, log 39). -/
def bootBist (s : State) (failed : List Nat) : State :=
  if s.pwr.held || !s.rom || s.sec.ran || !s.on pwrB Pwr.AO_CTL.BOOTBIST then s
  else
    let dies := (List.range 8).filter s.hasDie
    let mask (p : Nat → Bool) : Nat := (dies.filter p).foldl setBit 0
    let s := (s.wr bistB Bist.BIST_BOOTRES.PASS (mask (fun d => !failed.contains d))).wr bistB Bist.BIST_BOOTRES.FAIL
      (mask failed.contains)
    let s := (s.wr bistB Bist.BIST_BOOTRES.RAN 1).wr pwrB Pwr.AO_CTL.BOOTBIST 0
    let s := s.modPwr (fun p => { p with bad := dies.filter (fun d => d != 0 && failed.contains d) })
    if failed.contains 0 then (s.safeState 0x1CB).fire 0x1CB else s

/-! ## Clocks (R454, R455) -/

/-- A core or grid PLL of a K-die, or an A-die PLL, unlocks; which K-die it is is open where two are up
(DEDUCED, log 38). -/
def pllUnlock (s : State) (adie : Option Nat) : State :=
  match adie with
  | some a => if s.adUp a then (s.dieBit Pwr.DIE_STAT.LOCK (6 + a) false).fire 0x1C2 else s
  | none =>
    if s.pwr.held then s
    else
      let (b, s) := if s.dieUp 1 then s.freeBit else (false, s)
      (s.dieBit Pwr.DIE_STAT.LOCK b.toNat false).fire 0x1C1

/-! ## Always-on domain (R454, R458) -/

/-- The registers of the always-on domain. -/
def aoRegs : List (Nat × Fld) :=
  [Fc.FC_STAT.FLATCH, Fc.FC_STAT.ALIVE_CAUSE, Fc.FC_RSTCAUSE.SRC, Fc.FC_RSTCAUSE.VALID, Fc.FC_RSTCAUSE.ESC, Fc.FC_FFIRST.SRC,
    Fc.FC_FFIRST.VALID, Fc.FC_FSEC.SEC, Fc.FC_FNS.NS].map (fun f => (fcB, f)) ++
  [(secB, Secu.BOOTCNT.N), (pwrB, Pwr.PWR_STAT.RSTCAUSE), (pwrB, Pwr.AO_CTL.BOOTBIST)]

/-- The always-on domain has lost or not yet taken its contents; the package is held in reset, and RAM of every kind is lost. -/
def aoClear (s : State) (off : Bool) : State :=
  let s := aoRegs.foldl (fun (s : State) e => s.wr e.1 e.2 0) s
  let s := { s.resetImage true true with mem := [] }
  s.modPwr (fun p => { p with aoOff := off, aoNs := 0, xtal := true })

/-! ## Power failure (R462, R464) -/

/-- A firmware transfer waiting for the MRAM port is refused; whether one at hand had started is open (R463). -/
def xsAbort (s : State) : State :=
  match s.pwr.xs.find? (fun e => e.1 == 1) with
  | none => s
  | some _ =>
    let (started, s) := s.freeBit
    if started then s
    else
      let s := s.modPwr (fun p => { p with xs := p.xs.filter (fun e => e.1 != 1) })
      let s := (s.wr pwrB (Pwr.XS_STAT.BUSY.at 1) 0).wr pwrB (Pwr.XS_STAT.OWNER.at 1) 0
      s.wr pwrB (Pwr.XS_STAT.PFABORT.at 1) 1

def powerFail (s : State) : State :=
  if s.pwr.held || s.on pwrB Pwr.PWR_STAT.PFACT then s
  else
    let first := !s.on pwrB Pwr.PWR_STAT.PFSEEN
    let s := ((s.wr pwrB Pwr.PWR_STAT.PFACT 1).wr pwrB Pwr.PWR_STAT.PFSEEN 1).fire 0x1C8
    if !first then s
    else
      let s := s.almFlush true
      (if s.mtrRuns then s.mtrPowerFail else s).xsAbort

/-! ## xSPI controllers (R466, R467) -/

/-- Two byte ranges meet. -/
def meets (a n b m : Nat) : Bool := decide (a < b + m) && decide (b < a + n) && decide (0 < n)

/-- Why a command of controller `u` is refused (R466, R467). -/
def xsBad (s : State) (u op addr len : Nat) : Bool :=
  let lenBad := len == 0 || decide (2048 < len)
  let slot := s.rd secB Secu.SEC_STAT.BOOTSLOT
  let inSlot (n : Nat) : Bool := (slot == 1 && meets addr n 0 0x1000000) || (slot == 2 && meets addr n 0x1000000 0x1000000)
  s.on pwrB (Pwr.XS_STAT.BUSY.at u) ||
  (match op with
   | 0 => lenBad
   | 1 => lenBad || (if u = 0 then decide (256 < len) || addr / 256 != (addr + len - 1) / 256 || inSlot len
       else ((s.on almB Alm.ALM_CTL.EN || s.on almB Alm.ALM_STAT.RSTBUSY) && meets addr len s.almBase 0x1A0000) ||
         (s.mtrRuns && meets addr len s.mtrBase (0x4000 + s.ringN * 0x1000)))
   | 2 => u != 0 || addr % 0x10000 != 0 || inSlot 0x10000
   | _ => false)

/-- GO (R209, R466, R467): the command is refused with REJ, or begins (DEDUCED, log 38). -/
def xsGo (s : State) (w : Wr) (u op : Nat) : State :=
  let addr := s.rd pwrB (Pwr.XS_ADDR.ADDR.at u)
  let len := s.rd pwrB (Pwr.XS_LEN.LEN.at u)
  let pf := u == 1 && s.on pwrB Pwr.PWR_STAT.PFSEEN
  if !privileged w then s.noPerm
  else if 2 ≤ u then s
  else if pf || s.xsBad u op addr len then
    let s := if pf then s.wr pwrB (Pwr.XS_STAT.PFABORT.at u) 1 else s
    s.pwrRej (Pwr.XS_STAT.REJ.at u)
  else
    let s := (s.wr pwrB (Pwr.XS_STAT.BUSY.at u) 1).wr pwrB (Pwr.XS_STAT.OWNER.at u) 1
    s.modPwr (fun p => { p with xs := p.xs ++ [(u, ⟨op, addr, len⟩)] })

/-- The bytes of a controller's buffer. -/
def xsBuf (s : State) (u n : Nat) : List Byte :=
  ((List.range ((n + 3) / 4)).flatMap (fun i => leBytes (s.rd pwrB (Pwr.XS_BUF.DATA.at (512 * u + i))) 4)).take n
/-- Bytes into a controller's buffer; the rest of the last word stays. -/
def xsBufPut (s : State) (u : Nat) (l : List Byte) : State :=
  let all := l ++ (s.xsBuf u 2048).drop l.length
  (List.range ((l.length + 3) / 4)).foldl (fun (s : State) i =>
    s.wr pwrB (Pwr.XS_BUF.DATA.at (512 * u + i)) (ofLe ((all.drop (4 * i)).take 4))) s
/-- `n` bytes the spec leaves open (DEDUCED, log 38). -/
def freeBytes (s : State) (n : Nat) : List Byte × State :=
  (((List.range ((n + 3) / 4)).flatMap (fun i => leBytes (Config.freeValue (s.fresh + i)).toNat 4)).take n,
    { s with fresh := s.fresh + (n + 3) / 4 })
/-- The device behind controller `u`, and writing to it. -/
def xsDev (s : State) (u : Nat) : List Host.Cell := if u = 0 then s.nor else s.mram
def xsDevPut (s : State) (u a : Nat) (l : List Byte) : State :=
  if u = 0 then { s with nor := Mem.writeBytes s.nor a l } else { s with mram := Mem.writeBytes s.mram a l }

/-- A transfer has ended. What an erased sector reads as, the status register of the device, and what an error leaves behind
are open (DEDUCED, log 38). -/
def xsDone (s : State) (u : Nat) (err : Bool) : State :=
  match s.pwr.xs.find? (fun e => e.1 == u) with
  | none => s
  | some (_, j) =>
    let s := s.modPwr (fun p => { p with xs := p.xs.filter (fun e => e.1 != u) })
    let s := (s.wr pwrB (Pwr.XS_STAT.BUSY.at u) 0).wr pwrB (Pwr.XS_STAT.OWNER.at u) 0
    let n := if j.op = 2 then 0x10000 else if j.op = 3 then 4 else j.len
    let (fr, s) := if err || j.op ≥ 2 then s.freeBytes n else ([], s)
    let data := if err || j.op ≥ 2 then fr else if j.op = 0 then Mem.bytes (s.xsDev u) j.addr n else s.xsBuf u n
    let s := if j.op = 0 || j.op = 3 then s.xsBufPut u data else s.xsDevPut u j.addr data
    if err then (s.wr pwrB (Pwr.XS_STAT.ERR.at u) 1).fire (if u = 1 then 0x1CC else 0x1CD)
    else s.wr pwrB (Pwr.XS_STAT.DONE.at u) 1

/-! ## Temperatures (R471) -/

/-- One limit of one die: an episode begins above it and ends at 5 °C below it (DEDUCED, log 39). -/
def tempJudge (s : State) (d : Nat) (t : Int) (lim src : Nat) (told : List Nat) : List Nat × State :=
  if decide ((4 * lim : Int) < t) && !told.contains d then (d :: told, s.fire src)
  else if decide (t ≤ 4 * ((lim : Int) - 5)) then (told.filter (fun x => x != d), s)
  else (told, s)

/-- Die `d` reports `t`, in 1/4 °C. -/
def dieTemp (s : State) (d : Nat) (t : Int) : State :=
  if !s.dieUp d then s
  else
    let s := (s.wr pwrB (Pwr.DIE_TEMP.T.at d) (ofSigned t 16)).wr pwrB (Pwr.DIE_TEMP.VALID.at d) 1
    let (w, s) := s.tempJudge d t (s.rd pwrB Pwr.TEMP_CTL.TWARN) 0x1C6 s.pwr.warm
    let (h, s) := s.tempJudge d t (s.rd pwrB Pwr.TEMP_CTL.TCRIT) 0x1C7 s.pwr.hot
    s.modPwr (fun p => { p with warm := w, hot := h })

/-! ## The image (R443, R444) -/

/-- Where an image lies: NOR slot A or B, or the recovery image in shared SRAM. -/
def imgMem (s : State) (slot : Nat) : List Host.Cell := if slot = 3 then s.mem else s.nor
def imgBase (slot : Nat) : Nat := if slot = 1 then 0 else if slot = 2 then 0x1000000 else 0x10000000
/-- A word and a byte of the image. -/
def imgW (s : State) (slot off : Nat) : Nat := Mem.readN (s.imgMem slot) (imgBase slot + off) 4
def imgB (s : State) (slot off : Nat) : Nat := (Mem.read (s.imgMem slot) (imgBase slot + off)).toNat
def imgBytes (s : State) (slot off n : Nat) : List Byte := Mem.bytes (s.imgMem slot) (imgBase slot + off) n

/-- A range lies within shared SRAM or the global TCM aliases of the part. -/
def imgDest (s : State) (a n : Nat) : Bool :=
  let within (lo hi : Nat) : Bool := decide (lo ≤ a) && decide (a + n ≤ hi)
  within 0x08000000 (if s.hasK 1 then 0x08400000 else 0x08200000) || within 0x10000000 (if s.hasK 1 then 0x10800000 else 0x10400000)

/-- The header is well formed (R444). -/
def imgHeader (s : State) (slot : Nat) : Bool :=
  let nseg := s.imgB slot 0x18
  let ncore := s.imgB slot 0x19
  let nwin := s.imgB slot 0x1A
  s.imgW slot 0 == 0x4D495644 && s.imgW slot 4 == 1 && decide (s.imgW slot 8 < 64) &&
  decide (1 ≤ nseg) && decide (nseg ≤ 16) && decide (ncore ≤ 32) && decide (nwin ≤ 128) &&
  (s.imgBytes slot (0x20 + 16 * nseg) (16 * (16 - nseg))).all (fun b => b == 0) &&
  (s.imgBytes slot (0x120 + 8 * ncore) (8 * (32 - ncore))).all (fun b => b == 0) &&
  (s.imgBytes slot (0x220 + 16 * nwin) (16 * (128 - nwin))).all (fun b => b == 0) &&
  (List.range nseg).all (fun i => s.imgDest (s.imgW slot (0x20 + 16 * i)) (s.imgW slot (0x24 + 16 * i)))

/-- The segments in table order: destination and bytes; FILL = 1 gives zeros, which the image does not hold. -/
def imgSegs (s : State) (slot : Nat) : List (Nat × Bool × List Byte) :=
  (List.range (s.imgB slot 0x18)).map (fun i =>
    let e := 0x20 + 16 * i
    let n := s.imgW slot (e + 4)
    if s.imgW slot (e + 12) = 1 then (s.imgW slot e, true, List.replicate n 0)
    else (s.imgW slot e, false, s.imgBytes slot (s.imgW slot (e + 8)) n))

/-- The signed message (R443) (DEDUCED, log 39). -/
def imgMsg (s : State) (slot : Nat) : List Byte :=
  s.imgBytes slot 0 0x11C0 ++ (s.imgSegs slot).flatMap (fun g => if g.2.1 then [] else g.2.2)

/-- The key slot of the image's public key, if it is programmed and not revoked (DEDUCED, log 39). -/
def imgKey (s : State) (slot : Nat) : Option Nat :=
  let d := Config.shake256 (s.imgBytes slot 0xA20 1952)
  (List.range 4).find? (fun i => (s.rd secB Secu.SEC_OTP.PROG).testBit i && !(s.rd secB Secu.SEC_OTP.REVOKED).testBit i &&
    Config.keyDigest i == d)

/-- Step 3 of R443: the key slot of an accepted image, or BOOTERR (DEDUCED, log 39). -/
def imgCheck (s : State) (slot : Nat) : Except Nat Nat :=
  if !s.imgHeader slot then .error 2
  else match s.imgKey slot with
    | none => .error 3
    | some k =>
      if s.imgW slot 8 < s.rd secB Secu.SEC_SVN.FLOOR then .error 4
      else if Config.mldsaOk (s.imgBytes slot 0xA20 1952) sigB (s.imgMsg slot) (s.imgBytes slot 0x11C0 3309) then .ok k
      else .error 5

/-- A window entry (R25). -/
def winSet (s : State) (m w base limit attr : Nat) : State :=
  let b := winB m w
  let bit (i : Nat) : Bool := attr.testBit i
  let s := (s.wr b Win.WBASE.BASE (base / 4096)).wr b Win.WLIMIT.LIMIT (limit / 4096)
  let s := ((s.wrB b Win.WATTR.EN (bit 0)).wrB b Win.WATTR.RD (bit 1)).wrB b Win.WATTR.WR (bit 2)
  ((s.wrB b Win.WATTR.EX (bit 3)).wrB b Win.WATTR.ORDERED (bit 4)).wrB b Win.WATTR.TASK (bit 5)

/-- Windows, boot addresses and modes of the image, and the default window of cores it does not name (R230). -/
def imgWindows (s : State) (slot : Nat) : State :=
  let ws := (List.range (s.imgB slot 0x1A)).map (fun i => 0x220 + 16 * i)
  let bare := (List.range 32).filter (fun m => s.hasK (m / 16) && !ws.any (fun e => s.imgB slot e == m))
  let t := bare.foldl (fun (t : State) m => t.winSet m 0 0 0x1FFFF 0xF) s
  ws.foldl (fun (t : State) e =>
    if s.imgB slot e < 0x80 ∧ s.imgB slot (e + 1) < 16 then
      t.winSet (s.imgB slot e) (s.imgB slot (e + 1)) (s.imgW slot (e + 4)) (s.imgW slot (e + 8)) (s.imgW slot (e + 12))
    else t) t

def imgCores (s : State) (slot : Nat) : List (Nat × Nat × Nat) :=
  (List.range (s.imgB slot 0x19)).map (fun i =>
    (s.imgB slot (0x120 + 8 * i), s.imgB slot (0x121 + 8 * i), s.imgW slot (0x124 + 8 * i)))

/-- Load an accepted image and release its cores; pair 0 is handed over in any case (R230, R443) (DEDUCED, log 9 and 39). -/
def imgBoot (s : State) (slot key : Nat) : State :=
  let msg := s.imgMsg slot
  let cores := (s.imgCores slot).filter (fun c => decide (c.1 < 32) && s.hasK (c.1 / 16))
  let segs := s.imgSegs slot
  let h := (Config.shake256 msg).toNat
  let ver := s.imgW slot 0x10 + 2 ^ 32 * s.imgW slot 0x14
  let svn := s.imgW slot 8
  let s := (s.resetOne 0).resetOne 1
  let s := s.imgWindows slot
  let s := cores.foldl (fun (s : State) c => s.wr (coreB c.1) Cc.CORE_BOOT.BOOTPC (c.2.2 / 4)) s
  let s := cores.foldl (fun (s : State) c =>
    if c.1 % 2 = 0 then s.wrB (coreB c.1) Cc.CORE_CTL.PAIRED (c.2.1 != 0) else s) s
  let s := segs.foldl (fun (s : State) g =>
    let m := Mem.writeBytes s.mem g.1 g.2.2
    let n := (g.1 - 0x08000000) / 0x20000
    let twin := decide (g.1 < 0x10000000) && n % 2 == 0 && s.on (coreB n) Cc.CORE_CTL.PAIRED
    { s with mem := if twin then Mem.writeBytes m (g.1 + 0x20000) g.2.2 else m }) s
  let s := { s with rom := false }
  let s := ((s.wr secB Secu.SEC_STAT.BOOTSLOT slot).wr secB Secu.SEC_STAT.KEYSLOT key).wr secB Secu.SEC_STAT.BOOTERR 0
  let s := (List.range 8).foldl (fun (s : State) i => s.wr secB (Secu.IMGHASH.DATA.at i) (h / 2 ^ (32 * i) % 2 ^ 32)) s
  let s := ((s.wr secB Secu.SEC_SVN.IMGSVN svn).incW secB Secu.BOOTCNT.N).modSec (fun x => { x with imgver := ver })
  (cores.foldl (fun (s : State) c => s.coreRelease c.1) s).coreRelease 0

/-- Step 5 of R443: the ROM keeps pair 0 and opens windows for MID 0x70 (DEDUCED, log 9). -/
def romStays (s : State) (err : Nat) : State :=
  let s := s.wr secB Secu.SEC_STAT.BOOTERR err
  let s := (s.winSet 0x70 0 secB (secB + 0x5FFF) 3).winSet 0x70 1 fcB (fcB + 0xFFFF) 3
  if err = 1 then s else s.winSet 0x70 2 0x10000000 0x100FFFFF 7

/-- The boot ROM (R443, R455, R460) (DEDUCED, log 9). -/
def bootRom (s : State) : State :=
  if s.pwr.held || !s.rom || s.sec.ran || s.on pwrB Pwr.PWR_STAT.PFACT || s.on pwrB Pwr.AO_CTL.BOOTBIST then s
  else
    let mask := ((List.range 8).filter (fun d => s.hasDie d && !s.pwr.bad.contains d)).foldl setBit 0
    let s := ((s.wr pwrB Pwr.DIE_CTL.ON mask).wr pwrB Pwr.DIE_STAT.RDY mask).wr pwrB Pwr.DIE_STAT.LOCK mask
    let s := ((s.wr pwrB Pwr.DIE_STAT.REFOK 1).wrB pwrB Pwr.DIE_STAT.XTALOK s.pwr.xtal).syncLinks
    let s := s.modSec (fun x => { x with ran := true })
    if s.flatch then s.romStays 1
    else match s.imgCheck 1, s.imgCheck 2 with
      | .ok k, _ => s.imgBoot 1 k
      | _, .ok k => s.imgBoot 2 k
      | .error a, .error b =>
        if a = b then s.romStays a
        else
          let (x, s) := s.freeBit
          s.romStays (if x then a else b)

/-- RECOVER (R443) (DEDUCED, log 39). -/
def romRecover (s : State) : State :=
  if !s.rom || !s.sec.ran || s.pwr.held || s.flatch then s
  else match s.imgCheck 3 with
    | .ok k => s.imgBoot 3 k
    | .error e => s.romStays e

/-! ## Security commands (R445, R447) -/

/-- The attestation body (R447). -/
def attestBody (s : State) : List Byte :=
  let w (v : Nat) : List Byte := leBytes v 4
  let caps := (List.range 4).flatMap (fun i => w (s.regWord (capsB + 4 * i)).toNat)
  let nonce := (List.range 8).flatMap (fun i => w (s.rd secB (Secu.NONCE.DATA.at i)))
  let hash := (List.range 8).flatMap (fun i => w (s.rd secB (Secu.IMGHASH.DATA.at i)))
  padTo 512 (leBytes 0x1001 8 ++ leBytes Config.devId.toNat 8 ++ nonce ++ caps ++ w (s.rd secB Secu.SEC_STAT.BOOTSLOT) ++
    w (s.rd secB Secu.SEC_STAT.KEYSLOT) ++ w (s.rd secB Secu.SEC_SVN.FLOOR) ++ w 0 ++ hash ++ leBytes s.sec.imgver 8 ++
    leBytes (if s.part.m then mkd.toNat else 0) 32 ++ w (s.rd secB Secu.BOOTCNT.N) ++ w (s.rd fcB Fc.FC_STAT.FLATCH) ++
    w (s.rd fcB Fc.FC_RSTCAUSE.SRC + s.rd fcB Fc.FC_RSTCAUSE.VALID * 2 ^ Fc.FC_RSTCAUSE.VALID.lsb +
      s.rd fcB Fc.FC_RSTCAUSE.ESC * 2 ^ Fc.FC_RSTCAUSE.ESC.lsb) ++
    leBytes s.nowSec 8 ++ w s.nowNs ++ leBytes (if s.part.m then s.mtr.recno else 0) 8)

/-- ATTEST: refused when four bodies wait (R436). -/
def attest (s : State) : State :=
  if 4 ≤ s.sec.queue.length then s.wr secB Secu.ATT_STAT.REJ 1
  else (s.wr secB Secu.ATT_STAT.BUSY 1).sigQueue ⟨0x10, s.attestBody⟩

/-- A refused security command (R445). -/
def secRej (s : State) : State := (s.wr secB Secu.SEC_STAT.REJ 1).fire 0x1BC

def svnRaise (s : State) (w : Wr) (key : Byte) : State :=
  let v := s.rd secB Secu.SEC_ARG.ARG
  if !privileged w then s.noPerm
  else if key ≠ 0x6B ∨ v ≤ s.rd secB Secu.SEC_SVN.FLOOR then s.secRej
  else s.wr secB Secu.SEC_SVN.FLOOR v

def revoke (s : State) (w : Wr) (key : Byte) : State :=
  let n := s.rd secB Secu.SEC_ARG.ARG % 4
  let rev := setBit (s.rd secB Secu.SEC_OTP.REVOKED) n
  let left := (List.range 4).any (fun i => (s.rd secB Secu.SEC_OTP.PROG).testBit i && !rev.testBit i)
  let used := s.on secB Secu.SEC_STAT.BOOTSLOT && s.rd secB Secu.SEC_STAT.KEYSLOT == n
  if !privileged w then s.noPerm
  else if key ≠ 0x6B ∨ !left ∨ used then s.secRej
  else s.wr secB Secu.SEC_OTP.REVOKED rev

/-- CHIP_RST (R459, R464). -/
def chipRst (s : State) (w : Wr) (key : Byte) : State :=
  if !privileged w then s.noPerm
  else if key ≠ 0xC3 then s
  else if s.on pwrB Pwr.PWR_STAT.PFACT && !s.on pwrB Pwr.PWR_STAT.PFDONE then s.pwrRej Pwr.PWR_STAT.PWR_REJ
  else s.chipReset 3 none

end State

/-! ## The commands -/

/-- ATTEST (R447). -/
def execAttest (w : Wr) (s : State) : Ans := .next (s.attest.retire w (secB + 8))
/-- SVN_RAISE (R445). -/
def execSvnRaise (w : Wr) (key : Byte) (s : State) : Ans := .next ((s.svnRaise w key).retire w (secB + 8))
/-- REVOKE (R445). -/
def execRevoke (w : Wr) (key : Byte) (s : State) : Ans := .next ((s.revoke w key).retire w (secB + 8))
/-- RECOVER (R443). -/
def execRecover (w : Wr) (s : State) : Ans := .next (s.romRecover.retire w (secB + 0x100))
/-- BOOT_ROM_RUN (R443). -/
def execBootRomRun (s : State) : Ans := .next s.bootRom
/-- PORST_ASSERT (R459). -/
def execPorstAssert (s : State) : Ans := .next (if s.pwr.aoOff then s else s.chipReset 1 none)
/-- PORST_RELEASE (R458, R460): the straps are sampled. -/
def execPorstRelease (pref : Bool) (s : State) : Ans :=
  .next (if s.pwr.held && s.pwr.porst && !s.pwr.aoOff then (s.wrB pairB Pair.PAIR_STAT.PREF pref).resetEnd else s)
/-- CHIP_RST (R459). -/
def execChipRst (w : Wr) (key : Byte) (s : State) : Ans := .next ((s.chipRst w key).retire w (pwrB + 0xC))
/-- INTERNAL_RESET_END (R459). -/
def execInternalResetEnd (s : State) : Ans := .next (if s.pwr.held && !s.pwr.porst then s.resetEnd else s)
/-- BOOT_BIST (R470). -/
def execBootBist (failed : List Nat) (s : State) : Ans := .next (s.bootBist failed)
/-- AO_POWER_ON (R454, R458). -/
def execAoPowerOn (s : State) : Ans := .next (s.aoClear false)
/-- AO_POWER_LOSS (R454). -/
def execAoPowerLoss (s : State) : Ans := .next (s.aoClear true)
/-- RAIL_FAULT (R453): masked from the recognition of PWRFAIL_N until chip reset. -/
def execRailFault (s : State) : Ans := .next (s.fireIf (!s.on pwrB Pwr.PWR_STAT.PFSEEN) 0x1C4)
/-- REFCLK_LOSS (R455). -/
def execRefclkLoss (s : State) : Ans := .next (if s.pwr.held then s else (s.wr pwrB Pwr.DIE_STAT.REFOK 0).fire 0x1C0)
/-- PLL_UNLOCK (R455). -/
def execPllUnlock (adie : Option Nat) (s : State) : Ans := .next (s.pllUnlock adie)
/-- ADIE_PLL_RELOCK (R455). -/
def execAdiePllRelock (a : Nat) (s : State) : Ans :=
  .next (if s.adUp a then s.dieBit Pwr.DIE_STAT.LOCK (6 + a) true else s)
/-- XTAL_STOP (R454). -/
def execXtalStop (s : State) : Ans :=
  .next (((s.modPwr (fun p => { p with xtal := false })).wr pwrB Pwr.DIE_STAT.XTALOK 0).fire 0x1C3)
/-- PWRFAIL_RECOGNISED (R462). -/
def execPwrfailRecognised (s : State) : Ans := .next s.powerFail
/-- PWRFAIL_RISE (R464). -/
def execPwrfailRise (s : State) : Ans :=
  .next (if s.on pwrB Pwr.PWR_STAT.PFACT then (s.wr pwrB Pwr.PWR_STAT.PFACT 0).fire 0x1C9 else s)
/-- DIE_ON (R209, R456). -/
def execDieOn (w : Wr) (d : Nat) (s : State) : Ans :=
  .next ((if privileged w then s.dieTurnOn d else s.noPerm).retire w (pwrB + 4))
/-- DIE_OFF (R209, R456). -/
def execDieOff (w : Wr) (d : Nat) (s : State) : Ans :=
  .next ((if privileged w then s.dieTurnOff d else s.noPerm).retire w (pwrB + 4))
/-- DIE_READY (R456). -/
def execDieReady (d : Nat) (s : State) : Ans := .next (s.dieIsReady d)
/-- DIE_BIST_START (R469). -/
def execDieBistStart (w : Wr) (s : State) : Ans := .next (s.bistStart.retire w bistB)
/-- DIE_BIST_DONE (R469). -/
def execDieBistDone (misr golden : BitVec 64) (us : Nat) (s : State) : Ans := .next (s.bistDone misr golden us)
/-- XS_READ (R466). -/
def execXsRead (w : Wr) (u : Nat) (s : State) : Ans := .next ((s.xsGo w u 0).retire w (pwrB + 0x40C + 0x40 * u))
/-- XS_WRITE (R466). -/
def execXsWrite (w : Wr) (u : Nat) (s : State) : Ans := .next ((s.xsGo w u 1).retire w (pwrB + 0x40C + 0x40 * u))
/-- XS_ERASE (R466). -/
def execXsErase (w : Wr) (u : Nat) (s : State) : Ans := .next ((s.xsGo w u 2).retire w (pwrB + 0x40C + 0x40 * u))
/-- XS_STATUS (R466). -/
def execXsStatus (w : Wr) (u : Nat) (s : State) : Ans := .next ((s.xsGo w u 3).retire w (pwrB + 0x40C + 0x40 * u))
/-- XS_TRANSFER_DONE (R466). -/
def execXsTransferDone (u : Nat) (err : Bool) (s : State) : Ans := .next (s.xsDone u err)
/-- DIE_TEMP_UPDATE (R471): the temperatures of dies 0, 1, …, in 1/4 °C. -/
def execDieTempUpdate (temps : List Int) (s : State) : Ans :=
  .next ((temps.zipIdx.take 8).foldl (fun (s : State) e => s.dieTemp e.2 e.1) s)
/-- PERST_N_ASSERT (R486). -/
def execPerstNAssert (s : State) : Ans := .next (s.modPwr (fun p => { p with perst := true }))
/-- PERST_N_RELEASE (R486). -/
def execPerstNRelease (s : State) : Ans := .next (s.modPwr (fun p => { p with perst := false }))

end Sys2Proof.Machine
end

