-- ==== Sys2Proof/Machine/Timer.lean ====
section
/-!
DEFINITION. The control cycle (R44 to R58): the subframe grid, the start and the stop of the cycle timer, its events and
registers; and what hangs on the grid and on package time in several units at once: the pass of the modulator (R152, R169,
R173), the input fill and the slow pass of the law engine (R186, R183), calibration (R290) and the time steps (R329).
-/
namespace Sys2Proof.Machine

namespace State

/-! ## The cycle timer (R52, R56, R58) -/

/-- UPSLOTS for NSUB (R52). -/
def upslotsOf (nsub : Nat) : Nat := min 96 ((nsub * 1250 - 600) / 52)

/-- The cycle number takes a value (R57): its low word is CYC_NUM_LO. -/
def setCycNum (s : State) (c : Nat) : State :=
  let c := c % 2 ^ 48
  { s.wr pwrB Cyc.CYC_NUM_LO.NUM_LO (c % 2 ^ 32) with clk := { s.clk with cycHi := c / 2 ^ 32 } }

/-- HELD_WR of the timer (R12, R496), and CFG_REJ, which logs no fault (R58) (DEDUCED, log 21). -/
def cycHeld (s : State) : State := (s.wr pwrB Cyc.CYC_STAT.HELD_WR 1).fire 0x1CE
def cycRej (s : State) : State := s.wr pwrB Cyc.CYC_STAT.CFG_REJ 1

/-- NSUB fits (R52, R58): within range, and no lane has more enabled cells than report slots. -/
def nsubOk (s : State) (v : Nat) : Bool :=
  decide (4 ≤ v) && decide (v ≤ 32) &&
  s.laneList.all (fun n => decide (s.rd (laneB n) Lane.LANE_STAT.NENABLED ≤ upslotsOf v))

/-- The class H fields of a write to CYC_CTL. -/
def cycFields (s : State) (v : Nat) : State :=
  let n := bits v 13 8
  let a := bits v 23 16
  if s.running then
    if n ≠ s.nsub ∨ a ≠ s.rd pwrB Cyc.CYC_CTL.ALIGN then s.cycHeld else s
  else
    let s := if s.nsubOk n then (s.wr pwrB Cyc.CYC_CTL.NSUB n).wr pwrB Cyc.CYC_STAT.UPSLOTS (upslotsOf n) else s.cycRej
    if 40 ≤ a ∧ a ≤ 148 then s.wr pwrB Cyc.CYC_CTL.ALIGN a else s.cycRej

/-- A write to CYC_CTL. -/
def cycCtl (s : State) (v : Nat) : State := (s.cycFields v).wr pwrB Cyc.CYC_CTL.EN (v % 2)

/-- Writes to CYC_NUM (R58) (DEDUCED, log 21). -/
def cycNumLo (s : State) (v : Nat) : State :=
  if s.running then (if v = s.rd pwrB Cyc.CYC_NUM_LO.NUM_LO then s else s.cycHeld) else s.wr pwrB Cyc.CYC_NUM_LO.NUM_LO v
def cycNumHi (s : State) (v : Nat) : State :=
  let v := v % 65536
  if s.running then (if v = s.clk.cycHi then s else s.cycHeld)
  else { s.wr pwrB Cyc.CYC_NUM_HI.NUM_HI v with clk := { s.clk with cycHi := v } }

/-! ## The grid (R44, R54 to R57) -/

/-- The cycle events of a boundary with index `i`, in ascending number (R54, R55). -/
def cycEvents (s : State) (i : Nat) : State :=
  let s := if i = 0 then s.evt 0x00 else s
  let s := s.evt 0x01
  let s := if i % 2 = 0 then s.evt 0x02 else s
  let s := if i = s.nsub / 2 then s.evt 0x03 else s
  if i % 4 = 0 then s.evt 0x05 else s

/-- The K-dies that are up. -/
def upK (s : State) : List Nat := s.kdies.filter s.dieUp

/-- A Meridian (R51, R57, R191): `first` after a start. -/
def meridian (s : State) (first : Bool) : State :=
  let s := { s with clk := { s.clk with b0 := some (s.clk.bn, s.cycNum), prev := s.clk.b0,
                                         upOwed := min 2 (s.clk.upOwed + 1) } }
  s.upK.foldl (fun (s : State) k => s.lawMeridian k first) s

/-- The boundary of subframe `n` (R56, R57): the fills of an SRS count on where the number jumps (R377). -/
def setSubframe (s : State) (n : Nat) : State :=
  { s with clk := { s.clk with n := n }
           saf := { s.saf with fill0 := s.saf.fill0.map (fun f => f + ((n : Int) - (s.clk.n + 1))) } }

/-- The timer starts at this boundary (R56, R92) (DEDUCED, log 21). -/
def timerStart (s : State) : State :=
  let s := match s.clk.b0 with
    | some (_, l) => s.laneList.foldl (fun (s : State) ln => s.restartLane ln l) s
    | none => s
  let s := (s.wr pwrB Cyc.CYC_STAT.RUN 1).wr pwrB Cyc.CYC_STAT.SUBIDX 0
  ((s.setSubframe (s.cycNum * s.nsub)).timerDdn).meridian true

/-- The timer stops at this boundary, the end of its last cycle (R56, R156, R183) (DEDUCED, log 21). -/
def timerStop (s : State) : State :=
  let s := ((s.wr pwrB Cyc.CYC_STAT.RUN 0).wr pwrB Cyc.CYC_STAT.SUBIDX 0).setCycNum (s.cycNum + 1)
  let s := { s with clk := { s.clk with n := s.clk.n + 1 } }
  s.upK.foldl (fun (s : State) k => (s.armsOff k).lawStop k) s

/-- The next subframe of a running timer (R45, R57) (DEDUCED, log 21). -/
def timerNext (s : State) : State :=
  if s.subIdx + 1 < s.nsub then
    { s.wr pwrB Cyc.CYC_STAT.SUBIDX (s.subIdx + 1) with clk := { s.clk with n := s.clk.n + 1 } }
  else
    let s := (s.wr pwrB Cyc.CYC_STAT.SUBIDX 0).setCycNum (s.cycNum + 1)
    (s.setSubframe (s.cycNum * s.nsub)).meridian false

/-- The timer's part of a boundary. -/
def timerBoundary (s : State) : State :=
  let en := s.on pwrB Cyc.CYC_CTL.EN
  if s.running then
    if !en && decide (s.nsub ≤ s.subIdx + 1) then s.timerStop else s.timerNext
  else if en then s.timerStart
  else { s with clk := { s.clk with n := s.clk.n + 1 } }

/-- The modulators begin a new subframe: no pass yet, and one frame less to follow a block reset (R359). -/
def modBoundary (s : State) (k : Nat) : State :=
  let m := s.modul k
  let left := m.rstFrames - 1
  s.setModul k { m with phase := 0, rstFrames := left, rstCells := if left = 0 then [] else m.rstCells }

/-- A grid boundary (R44, R54, R284). -/
def boundary (s : State) : State :=
  let bn := s.clk.bn + 1250 * 65536
  let s := s.reach bn
  let s := { s with clk := { s.clk with bn := bn } }
  let s := s.upK.foldl modBoundary s
  let s := s.timerBoundary
  let s := ((List.range 2).filter s.adUp).foldl seqBoundary s
  let s := s.pairBoundary (s.running && s.subIdx == 0)
  if s.running then s.cycEvents s.subIdx else s

/-- Event 0x04 (R54): all report slots of the oldest cycle that still owes it have been received (DEDUCED, log 21). -/
def slotsDone (s : State) : State :=
  match s.clk.b0 with
  | none => s
  | some (t, _) =>
    if s.clk.upOwed = 0 then s
    else
      let first := match s.clk.prev with | some (p, _) => if s.clk.upOwed = 2 then p else t | none => t
      let s := s.reach (first + (2700 + 52 * s.upSlots) * 65536)
      ({ s with clk := { s.clk with upOwed := s.clk.upOwed - 1 } }).evt 0x04

/-! ## Passes -/

/-- Do `f` on modulator `k` if its die is up. -/
def onMod (s : State) (k : Nat) (f : State → State) : State := if decide (k < 2) && s.dieUp k then f s else s

/-- The checker verdict, and the pass record of a package that leads a pair (R173, R401). -/
def checked (s : State) (k : Nat) : State :=
  if (s.modul k).phase ≠ 2 then s
  else
    let before := (s.modul k).mapped.map (fun c => (c, s.rd (ctB k c) Ct.CMAP.CST))
    (s.checkPass k).sendPass k before

/-- PFCNT has reached PF_LIM (R166). -/
def exclusionDue (s : State) (k c : Nat) : Bool :=
  s.mappedOn k c && decide (max 1 (s.rd (armB k (s.armOf k c)) Arm.ARM_PLAUS.PF_LIM) ≤ s.rd (ctB k c) Ct.CEST.PFCNT)

/-- The slow pass ends; the epoch of the cycle is captured once both K-dies are through (R403). -/
def slowDone (s : State) (k : Nat) : State :=
  let s := s.slowEnd k
  let sent := match s.pair.sentEpoch with | some e => e.cyc.toNat == s.cycNum | none => false
  if s.running && !sent && s.upK.all (fun j => (s.law j).pass != 2) then s.sendEpoch else s

/-- A calibration dwell ends; the metering unit counts those of its own converters (R290, R430). -/
def dwellEnd (s : State) (a : Nat) (ofs gain : Int) : State :=
  let n := s.rd (adB a) Ad.AD_STAT.CALSEL
  let t := s.calDwell a ofs gain
  if n = 0x1F then t else t.mtrHandback a n

/-- A step of package time, and the metering record of it (R329, R440). -/
def timeStepped (s : State) (set adj : Bool) : State :=
  let t := s.timeCmd set adj
  if s.running then t else t.mtrTimeStep s

end State

/-! ## The commands -/

/-- SUBFRAME_BOUNDARY (R44). -/
def execSubframeBoundary (s : State) : Ans := .next s.boundary
/-- UPSTREAM_SLOTS_DONE (R54). -/
def execUpstreamSlotsDone (s : State) : Ans := .next s.slotsDone
/-- CYCLE_TIMER_EN (R56): a write of CYC_CTL with EN = 1. -/
def execCycleTimerEn (w : Wr) (v : Word) (s : State) : Ans :=
  .next (((s.cycFields v.toNat).wr pwrB Cyc.CYC_CTL.EN 1).retire w (pwrB + 0x200))
/-- CYCLE_TIMER_START (R56): the first grid boundary after EN = 1. -/
def execCycleTimerStart (s : State) : Ans :=
  .next (if s.on pwrB Cyc.CYC_CTL.EN && !s.running then s.boundary else s)
/-- CYCLE_TIMER_DIS (R56). -/
def execCycleTimerDis (w : Wr) (s : State) : Ans := .next ((s.wr pwrB Cyc.CYC_CTL.EN 0).retire w (pwrB + 0x200))
/-- CYCLE_TIMER_STOP (R56): the boundary that ends the cycle in which EN was cleared. -/
def execCycleTimerStop (s : State) : Ans :=
  .next (if s.running && !s.on pwrB Cyc.CYC_CTL.EN && decide (s.nsub ≤ s.subIdx + 1) then s.boundary else s)
/-- CYC_NUM_LO_READ (R58): bits 47:32 are latched. -/
def execCycNumLoRead (m : Nat) (s : State) : Ans :=
  .next ((s.wr pwrB Cyc.CYC_NUM_HI.NUM_HI s.clk.cycHi).answer m (pwrB + 0x204)
    (BitVec.ofNat 32 (s.rd pwrB Cyc.CYC_NUM_LO.NUM_LO)))
/-- MOD_BUILD_CUTOFF (R152). -/
def execModBuildCutoff (k : Nat) (s : State) : Ans := .next (s.onMod k (fun s => (s.reachOfs 300).modCutoff k))
/-- RANK_COMPLETE (R169). -/
def execRankComplete (k : Nat) (glitch : List (Nat × Word)) (s : State) : Ans := .next (s.onMod k (fun s => s.rankDone k glitch))
/-- CHECKER_VERDICT (R173). -/
def execCheckerVerdict (k : Nat) (s : State) : Ans := .next (s.onMod k (fun s => s.checked k))
/-- REFSTALE (R159). -/
def execRefstale (k a : Nat) (s : State) : Ans :=
  .next (s.onMod k (fun s => if decide (a < 6) && s.staleDue k a then s.goStale k a else s))
/-- PLAUSIBILITY_EXCLUSION (R166). -/
def execPlausibilityExclusion (k c : Nat) (s : State) : Ans :=
  .next (s.onMod k (fun s => if s.exclusionDue k c then s.exclude k (s.armOf k c) c else s))
/-- TREND_PERIOD_END (R168). -/
def execTrendPeriodEnd (k : Nat) (s : State) : Ans := .next (s.onMod k (fun s => s.trendEnd k))
/-- ARM_CNTCLR (R175). -/
def execArmCntclr (w : Wr) (k a : Nat) (s : State) : Ans :=
  .next ((s.onMod k (fun s => if a < 6 then s.armCntClr k a else s)).retire w (armB k a + 0x64))
/-- CV_AGE_CLEAR (R174). -/
def execCvAgeClear (w : Wr) (k : Nat) (s : State) : Ans := .next ((s.onMod k (fun s => s.ageClear k)).retire w (modB k + 0x14))
/-- PFX_CLEAR (R166, R176). -/
def execPfxClear (w : Wr) (k c : Nat) (s : State) : Ans :=
  .next ((s.onMod k (fun s => if c < 6144 then s.pfxClear k c else s)).retire w (ctB k c))
/-- MOD_RAM_ERROR (R156, R179). -/
def execModRamError (k c : Nat) (ue : Bool) (s : State) : Ans :=
  .next (s.onMod k (fun s => if c < 6144 then s.modRam k c ue else s))
/-- LAW_INPUT_FILL (R186, R377). -/
def execLawInputFill (k : Nat) (s : State) : Ans := .next (if k < 2 then (s.lawFill k).srsTap k else s)
/-- SLOW_PASS_END (R183). -/
def execSlowPassEnd (k : Nat) (s : State) : Ans := .next (s.onK k (fun s => s.slowDone k))
/-- CAL_DWELL_END (R290, R291). -/
def execCalDwellEnd (a : Nat) (ofs gain : Int) (s : State) : Ans := .next (s.onAd a (fun s => s.dwellEnd a ofs gain))
/-- TIME_SET (R329). -/
def execTimeSet (w : Wr) (adj : Bool) (s : State) : Ans := .next ((s.timeStepped true adj).retire w (ethB + 0x20))
/-- TIME_ADJ (R329). -/
def execTimeAdj (w : Wr) (s : State) : Ans := .next ((s.timeStepped false true).retire w (ethB + 0x20))

end Sys2Proof.Machine
end

