-- ==== Sys2Proof/Machine/Fabric.lean ====
section
/-!
DEFINITION. The Borrek fabric (R20 to R43): capability words (R4, R5), replayed flits and failed links, time-outs, the window
table's errors, and cycle writes with their commits (R34, R35).
-/
namespace Sys2Proof.Machine

namespace State

/-! ## Capabilities and absent units (R4, R5) -/

/-- The CAPS word of a selector (R4). -/
def capsWord (s : State) (sel : Nat) : Word := if sel ≤ 5 then s.regWord (capsB + 4 * sel) else 0

/-- ABSENT_CTL.CLR (R5). -/
def absentClr (s : State) : State :=
  ((((s.wr capsB Caps.ABSENT_ADDR.ADDR 0).wr capsB Caps.ABSENT_INFO.MID 0).wr capsB Caps.ABSENT_INFO.WR 0).wr capsB
    Caps.ABSENT_INFO.INSN 0).wr capsB Caps.ABSENT_INFO.COUNT 0

/-! ## Links (R29) -/

/-- Link `i` of R20 is on the part. -/
def hasLink (s : State) (i : Nat) : Bool := decide (i < 7) && s.hasDie (linkEnds i).1 && s.hasDie (linkEnds i).2

/-- A flit of link `i` fails its CRC. Two failures at one instant are of one flit; whether a later one is of the same flit is
not known to the model (DEDUCED, log 19 and 48). -/
def flitFail (s : State) (i : Nat) : State :=
  if !s.linkUp i || !s.hasLink i then s
  else
    let r : Nat × State := match (s.fab.flit.find? (fun e => e.1 == i)).map (fun e => e.2) with
      | none => (0, s)
      | some (n, at_) => if at_ = s.clk.el then (n, s) else (let b := s.freeBit; (if b.1 then n else 0, b.2))
    let s := r.2
    if r.1 < 4 then
      let s := { s with fab := { s.fab with flit := Tab.put s.fab.flit i (r.1 + 1, s.clk.el) } }
      (s.inc capsB Fab.FAB_REPLAY.COUNT).fire 0x010
    else
      let s := { s with fab := { s.fab with flit := Tab.drop s.fab.flit (fun j => j == i) } }
      ((s.modPwr (fun p => { p with links := p.links ++ [i] })).syncLinks).fire 0x012

/-! ## Time-outs (R41, R42) -/

/-- A time-out is counted and fires; the first one since ERRCLR is recorded. -/
def tmoRecord (s : State) (mid addr : Nat) (wr : Bool) : State :=
  let s := if s.on capsB Fab.FAB_ERR_INFO.VALID then s
    else (((s.wr capsB Fab.FAB_ERR_ADDR.ADDR addr).wr capsB Fab.FAB_ERR_INFO.MID mid).wrB capsB Fab.FAB_ERR_INFO.WR wr).wr
      capsB Fab.FAB_ERR_INFO.VALID 1
  (s.inc capsB Fab.FAB_STAT.TMO_CNT).fire 0x011

/-- A datum that was on its way to a master is lost (DEDUCED, log 19). -/
def dropRead (s : State) (mid addr : Nat) : State :=
  { s with fab := { s.fab with reads := s.fab.reads.eraseP (fun e => e.1 == mid && e.2.1 == addr) } }

/-- The transaction of master `m` at an address has been outstanding for longer than TMO (R41): a write has no effect, a read
returns zero. A transaction that is not outstanding cannot time out (DEDUCED, log 19). -/
def timeout (s : State) (m addr : Nat) (wr : Bool) : State :=
  let c := if m = 0x7F then 0 else m
  let mid := if m < 32 then s.accMid m else m
  if wr then
    if s.fab.flight.any (fun f => f.mid == mid && f.addr == addr) then
      let s := { s with fab := { s.fab with flight := s.fab.flight.eraseP (fun f => f.mid == mid && f.addr == addr) } }
      let s := if 0x20 ≤ m ∧ m < 0x40 then s.dTimeout m else s
      s.tmoRecord mid addr true
    else s
  else if c < 32 then
    match (s.core c).loads.findIdx? (fun l => l.addr == addr) with
    | some i => match (s.core c).loads[i]? with
      | some l => ((s.finishLoad c i l 0).dropRead mid addr).tmoRecord mid addr false
      | none => s
    | none => s
  else if 0x20 ≤ m ∧ m < 0x40 then
    let k := (m - 0x20) / 16
    let ch := m % 16
    if s.dieUp k && (s.dState k ch == 1 || s.dState k ch == 3) then
      (((s.dZeroRead k ch addr).dTimeout m).dropRead mid addr).tmoRecord mid addr false
    else s
  else if m < 0x71 then (s.dropRead mid addr).tmoRecord mid addr false
  else s

/-- FAB_ERR_INFO.ERRCLR (R42). -/
def fabErrclr (s : State) : State :=
  ((s.wr capsB Fab.FAB_ERR_INFO.VALID 0).wr capsB Fab.FAB_ERR_ADDR.ADDR 0).wr capsB Fab.FAB_ERR_INFO.MID 0

/-! ## Cycle writes (R34, R35) -/

/-- A write to a modulator or cell-context range lands and is staged (R34): a core's until a commit or STAGE_HOLD, another
master's until the first cut-off. A full buffer of a core holds it back (DEDUCED, log 19). -/
def stage (s : State) (w : Wr) (addr : Nat) (v : Word) : State :=
  match cycTarget addr with
  | none => s
  | some t =>
    let core := decide (w.mid < 32)
    if core && decide (32 ≤ (s.fab.staged.filter (fun x => x.mid == w.mid && x.tgt == t)).length) then s
    else
      let known := s.fab.flight.any (fun f => f.mid == w.mid && f.addr == addr)
      let s := s.retire w addr
      let s := { s with fab := { s.fab with staged := s.fab.staged ++ [⟨t, w.mid, w.sup, addr, v, 0, core, none, none⟩] } }
      if core then
        s.modCore w.mid (fun c => { if known then c else countCyc c w.mid addr with cycResp := s.clk.pt })
      else s

/-- A commit(n) of core `m` reaches target `t` (R35): the writes its FNC.CYC covered are to be released at the cut-off of
subframe `n` (DEDUCED, log 19 and 20). -/
def commitAt (s : State) (m n : Nat) (t : Target) : State :=
  let mine (x : Staged) : Bool := x.core && x.mid == m && x.tgt == t
  let own := (s.core m).cycLast == some n
  let mark (x : Staged) : Staged :=
    if !mine x then x
    else if x.cov = some n then { x with commit := some n }
    else if !own && x.cov.isNone then { x with cov := some n, commit := some n }
    else x
  { s with fab := { s.fab with staged := s.fab.staged.map mark } }

end State

/-! ## The commands -/

/-- CAPQ gd, sel (R4): the CAPS word that `sel` selects, zero for `sel` above 5. -/
def execCapq (m : Nat) (o : OpS) (s : State) : Ans :=
  .next (
    let c := s.core m
    if !s.canRun m then s
    else if !(o.r2 == 0) then s.illegal m
    else if c.awaits o.r1.toNat then s.setCore m (c.wait .operand)
    else s.goOn m (c.wg o.r1.toNat (s.capsWord o.imm.toNat)).done)

/-- ABSENT_CLR (R5). -/
def execAbsentClr (w : Wr) (s : State) : Ans := .next (s.absentClr.retire w (capsB + 0x18))
/-- FLIT_CRC_FAIL (R29). -/
def execFlitCrcFail (link : Nat) (s : State) : Ans := .next (s.flitFail link)
/-- FABRIC_TIMEOUT (R41). -/
def execFabricTimeout (m : Nat) (wr : Bool) (addr : Nat) (s : State) : Ans := .next (s.timeout m addr wr)
/-- FAB_ERRCLR (R42). -/
def execFabErrclr (w : Wr) (s : State) : Ans := .next (s.fabErrclr.retire w (capsB + 0x10C))
/-- WINDOW_TABLE_ECC_ERROR (R43). -/
def execWindowTableEccError (ue : Bool) (s : State) : Ans := .next (s.fire (if ue then 0x014 else 0x013))
/-- CYCLE_WRITE_LAND (R34). -/
def execCycleWriteLand (m addr : Nat) (v : Word) (s : State) : Ans :=
  .next (if s.locate none addr = .reg then s.stage ⟨m, true⟩ addr v else s)
/-- CYC_COMMIT (R35). -/
def execCycCommit (m n : Nat) (t : Target) (s : State) : Ans := .next (if m < 32 then s.commitAt m n t else s)

end Sys2Proof.Machine
end

