-- ==== Sys2Proof/Machine/BusGen.lean ====
section
/-!
DEFINITION. One write of a register word as R12 to R16 and R496 treat it: each field by its access code and its change
class. What a block does beyond that is in the Bus files.
-/
namespace Sys2Proof.Machine

/-- How a block takes a write of one of its words: which class H fields cannot change now, which new values of RW fields it
refuses, which fields it deals with itself, and what a held or a refused write sets. -/
structure Guard where
  runs : Fld → Bool
  bad : Fld → Nat → Bool
  own : Fld → Bool
  held : State → State
  rej : State → State

/-- A block without H fields and without refusals. -/
def Guard.free : Guard := ⟨fun _ => false, fun _ _ => false, fun _ => false, id, id⟩

/-- The part of a word that a field takes. -/
def Fld.of (f : Fld) (v : Nat) : Nat := v / 2 ^ f.lsb % 2 ^ f.wid

/-- `f` is copy `i` of `g`, whatever the copy. -/
def Fld.is (f g : Fld) : Bool := f.lsb == g.lsb && f.wid == g.wid && f.stp == g.stp && decide (g.off ≤ f.off) &&
  (f.off - g.off) % g.stp == 0 && decide ((f.off - g.off) / g.stp < g.cnt)

namespace State

/-- What a write does to one field of the word (DESIGN CHOICE, log 10). -/
def putField (s : State) (v : Nat) (g : Guard) (b : Nat) (f : Fld) : State :=
  let x := f.of v
  if g.own f then s
  else match f.acc with
    | .rw => if (f.cls = .held ∧ g.runs f) ∨ g.bad f x then s else s.wr b f x
    | .w1c => s.wr b f (s.rd b f - (s.rd b f &&& x))
    | .w1s => s.wr b f (s.rd b f ||| x)
    | _ => s

/-- The write would change a class H field that cannot change now (R496) (DESIGN CHOICE, log 10). -/
def heldBy (s : State) (v : Nat) (g : Guard) (e : Nat × Fld) : Bool :=
  e.2.acc == .rw && e.2.cls == .held && !g.own e.2 && g.runs e.2 && s.rd e.1 e.2 != e.2.of v

/-- The write gives a field a value that its block refuses; an H field that is held or keeps its value is not checked
(R496) (DESIGN CHOICE, log 10). -/
def refusedBy (s : State) (v : Nat) (g : Guard) (e : Nat × Fld) : Bool :=
  e.2.acc == .rw && !g.own e.2 && !(e.2.cls == .held && (g.runs e.2 || s.rd e.1 e.2 == e.2.of v)) && g.bad e.2 (e.2.of v)

/-- A write of a register word (R12, R14 to R16, R496) (DESIGN CHOICE, log 10). -/
def putWord (s : State) (a v : Nat) (g : Guard) : State :=
  let fs := regFields a
  let t := fs.foldl (fun (t : State) e => t.putField v g e.1 e.2) s
  let t := if fs.any (s.heldBy v g) then g.held t else t
  if fs.any (s.refusedBy v g) then g.rej t else t

/-- A written word newly enables a set bit of an event register (R106) (DEDUCED, log 12). -/
def newlyOn (s : State) (b : Nat) (ev en : Fld) (v : Nat) : Bool :=
  let e := en.of v
  (s.rd b ev &&& (e - (e &&& s.rd b en))) != 0

/-- Do what a row does to the register, with the writes in flight left alone (DEDUCED, log 12). -/
def quiet (s : State) (f : State → Ans) : State :=
  match f { s with fab := { s.fab with flight := [] } } with
  | .next t => { t with fab := { t.fab with flight := s.fab.flight ++ t.fab.flight } }
  | _ => s

end State

end Sys2Proof.Machine
end

