-- ==== Sys2Proof/Machine/LaneCmd.lean ====
section
/-!
DEFINITION. The commands of the cell lanes and their contexts (R66 to R107).
-/
namespace Sys2Proof.Machine

namespace State

/-- What the taps see at B_n + 620 ns: the cells of this lane (R314 class 1), and once per subframe the arms (class 5, R416
class 5) (DEDUCED, log 29). -/
def laneTaps (s : State) (ln : Nat) : State :=
  s.kdies.foldl (fun (s : State) k =>
    let s := if s.acqRuns k then
        (List.range 96).foldl (fun (s : State) sl =>
          let c := ln * 96 + sl
          s.acqObs k 1 8192 c (if s.mappedOn k c then s.rd (ctB k c) Ct.CMAP.CST else 3)) s
      else s
    if (s.acqs k).obsN = some s.clk.n then s
    else
      (List.range 6).foldl (fun (s : State) a =>
        let b := armB k a
        let na := s.rd b Arm.ARM_NACT.NACT
        let s := s.almObs 5 (6 * k + a) (toSigned na 32) 0
        let s := s.acqObs k 5 32 (4 * a) (s.rd b Arm.ARM_INS.NINS + 2048 * s.rd b Arm.ARM_INS.NEG + 4096 * s.rd b Arm.ARM_INS.PWMV)
        let s := s.acqObs k 5 32 (4 * a + 1) (s.rd b Arm.ARM_INS.DUTY)
        (s.acqObs k 5 32 (4 * a + 2) (na / 1024)).acqObs k 5 32 (4 * a + 3) (s.rd b Arm.ARM_VSUM.VSUM / 1024))
        (s.setAcq k { s.acqs k with obsN := some s.clk.n })) s

/-- LANE_BUILD_CUTOFF (R34, R48, R50, R71 to R76): staged writes to the lane's contexts are released, and a lane in RUN
builds the frame of subframe n. -/
def laneBuild (s : State) (ln : Nat) : State :=
  if !s.laneUp ln then s
  else
    let s := s.reachOfs 620
    let st := s.takeStaged (fun x => (match x.tgt with | .ctx _ => ctxOfAddr x.addr / 96 == ln | .mod _ => false)) s.clk.n
    let s := st.1.foldl (fun (s : State) x => s.ctxWrite (ctxOfAddr x.addr) (x.addr % 0x100) x.val.toNat) st.2
    let s := if s.running then s.kdies.foldl (fun (s : State) k => s.missPass k) s else s
    let s := s.laneTaps ln
    if s.lstate ln = 3 ∧ s.running ∧ !s.shadowing then s.buildFrame ln else s.clearCmdw ln

/-- OFS of the frame that starts at B_n + 660 ns, in UI/16 (R65, R66). -/
def frameOfs (s : State) : Nat :=
  let t := (s.clk.bn / 65536 + 660) % 1000000000
  (1056 - t * 165 % 1056) % 1056

/-- The HDR of a frame (R70, R79). -/
def hdrBlock (s : State) (ln : Nat) (blk rptp : Bool) : Block :=
  let n := s.clk.n
  let b (v : Bool) (i : Nat) : Nat := v.toNat * 2 ^ i
  Block.make 0x01 0 (n % 65536) (fun w => match w with
    | 0 => s.subIdx % 64 * 2 ^ 26 + b (s.running && s.subIdx == 0) 25 + b blk 24 + b ((s.lane ln).occall != 0) 23 + b rptp 22 +
        b (s.on pairB Pair.PAIR_STAT.PREF && s.pstate != 0) 21 + ln % 64 * 2 ^ 15 + s.nsub % 64 * 2 ^ 9
    | 1 => s.frameOfs
    | 2 => n % 2 ^ 32
    | 3 => s.rd pwrB Cyc.CYC_CTL.ALIGN + b s.running 8
    | _ => 0)

/-- FRAME_START (R66, R70, R79, R80): the frame goes on the line; BLK follows SPR that reached the die 40 ns before. -/
def frameStart (s : State) (ln : Nat) : State :=
  if !s.laneUp ln || s.lstate ln != 3 then s
  else
    let ofs := s.frameOfs
    let start := s.clk.bn + 660 * 65536 + (ofs * 65536 + 164) / 165
    let s := (s.takeS (laneB ln) Lane.LANE_CTL.RPT_EN).reach start
    let x := s.lane ln
    let body := if s.running && x.builtN == some s.clk.n then x.built else []
    let blk := s.on safB Saf.SAFE_STAT.SPR && decide (s.saf.sprAt + 40 ≤ s.clk.el - (s.clk.pt - start) / 65536)
    let hdr := s.hdrBlock ln blk (body.any (fun b => b.btype == 0x12))
    s.setLane ln { x with line := hdr :: body, occall := x.occall - 1 }

/-- LANE_REPORT_RX (R82 to R87, R90, R96, R98, R102, R369): a report slot `u` or a re-grant slot `m` of the upstream frame. -/
def laneReport (s : State) (ln : Nat) (slot : RxSlot) (rx : Option BurstRx) : State :=
  if !s.laneUp ln || !(s.lstate ln == 3 || s.lstate ln == 4) then s
  else match s.upFrame with
  | none => s
  | some (cyc, b0) =>
    let at_ := b0 + (match slot with | .report u => 2600 + 52 * (u + 1) | .regrant m => 2000 + 52 * (m + 1)) * 65536
    let s := (s.reach at_).modLane ln (fun x => { x with burstNow := x.burstNow || rx.isSome })
    let owner : Option (Nat × Option Nat) := match slot with
      | .report u => (s.reportOwner ln cyc u).map (fun sl => (sl, none))
      | .regrant m => (match s.mapFor ln cyc with
          | some g => (g.rgs[m]?).map (fun e => (e.1, some e.2))
          | none => none)
    match owner, rx with
    | none, none => s
    | none, some b => s.babble ln (if burstGood b.bits then some (rfield b.bits 127 121) else none)
    | some (sl, want), none => (s.scanBurst ln sl).rxFail (ln * 96 + sl) (want.getD cyc) want.isNone
    | some (sl, want), some b =>
      let c := ln * 96 + sl
      let s := s.scanBurst ln sl
      let crc := burstGood b.bits
      let who := rfield b.bits 127 121
      if crc && who == sl && (match want with | some y => rfield b.bits 120 113 == y | none => true) then
        s.rxGood c cyc at_ b want.isNone
      else
        let s := s.rxFail c (want.getD cyc) want.isNone
        if crc && who != sl then s.babble ln (some who) else s

/-- The context named by the ranging entry of the upstream frame's map, and its ranging (R89). -/
def rangingNow (s : State) (ln : Nat) : Option (Nat × Ranging) :=
  match s.upFrame with
  | none => none
  | some (cyc, _) =>
    match s.mapFor ln cyc with
    | some g => (match g.rng with
        | some (sl, _) => (match (s.ctx (ln * 96 + sl)).rng with
            | some r => if r.placed then some (sl, r) else none
            | none => none)
        | none => none)
    | none => none

/-- LANE_RANGING_RX (R89): `err` is the arrival of the slot start against B_0 + 2,280 ns in UI/16. -/
def laneRanging (s : State) (ln : Nat) (rx : BurstRx) : State :=
  if !s.laneUp ln || s.lstate ln != 3 then s
  else match s.rangingNow ln with
  | none => s
  | some (sl, r) =>
    let c := ln * 96 + sl
    let s := s.modLane ln (fun x => { x with burstNow := true })
    if !burstGood rx.bits || decide (42900 < rx.err.natAbs) then s
    else
      let ser := rfield rx.bits 111 64
      if ser ≠ (s.serialOf c).toNat then (s.occultId c (BitVec.ofNat 48 ser)).rangeFail c 2
      else
        let s := (s.wr (ctxB c) Ctx.CELL_RTD.RTD (max 0 ((165 * r.guess : Nat) + rx.err)).toNat).setDdn c
        if s.ddnTooLong c then (s.rangeFail c 3).laneFault ln 2
        else s.modCtx c (fun x => { x with rng := some { r with placed := false, await := true, sent := false } })

/-- RANGING_NO_BURST (R89): the next guess, or cause NOBURST. -/
def rangingDark (s : State) (ln : Nat) : State :=
  if !s.laneUp ln || s.lstate ln != 3 then s
  else match s.rangingNow ln with
  | none => s
  | some (sl, r) =>
    let c := ln * 96 + sl
    match r.guesses with
    | g :: rest => s.modCtx c (fun x => { x with rng := some { r with placed := false, guess := g, guesses := rest, waited := 0 } })
    | [] => s.rangeFail c 1

/-- ACKWAIT_EXPIRY (R72, R85): the command is re-sent, or after two re-sends fails. -/
def ackwait (s : State) (ln sl : Nat) : State :=
  let c := ln * 96 + sl
  match (s.ctx c).out with
  | none => s
  | some o =>
    let wait := max 3 (s.rd (laneB ln) Lane.LANE_CTL.ACKWAIT)
    if o.due || !(s.cstate c == 3 || s.cstate c == 4) || decide ((s.cycNum + 2 ^ 48 - o.cyc) % 2 ^ 48 < wait + o.held) then s
    else if o.resends < 2 then s.modCtx c (fun x => { x with out := some { o with due := true } })
    else
      let s := (s.modCtx c (fun x => { x with out := none })).syncAcmd c
      (((s.wr (ctxB c) Ctx.ACMD_STAT.FAIL 1).laneEvt ln 2).fire (ldieSrc ln + 21)).degrade c

/-- OUT_OF_GRANT_LIGHT (R96): `who` is a burst that was decoded. -/
def outOfGrant (s : State) (ln : Nat) (who : Option (BitVec 128)) : State :=
  if !s.laneUp ln || !(s.lstate ln == 3 || s.lstate ln == 4) then s
  else s.babble ln (match who with | some r => if burstGood r then some (rfield r 127 121) else none | none => none)

/-- BABBLE_UNIDENTIFIED (R97). -/
def babbleAll (s : State) (ln : Nat) : State :=
  let x := s.lane ln
  let run := x.lightRun + (if x.lightNow then 1 else 0)
  if !s.laneUp ln || s.lstate ln != 3 || decide (run < max 1 (s.rd (laneB ln) Lane.LANE_CTL.BAB_TH)) then s
  else
    let s := (s.laneEvt ln 6).fire (ldieSrc ln + 18)
    if s.on (laneB ln) Lane.LANE_CTL.BAB_ALL then
      let s := s.modLane ln (fun x =>
        { x with occall := 2 * s.nsub, occPersist := (match x.occPersist with | some n => some n | none => some 0) })
      (List.range 96).foldl (fun (s : State) sl => s.occultCtx (ln * 96 + sl) false) s
    else s

/-- BABBLE_PERSIST (R97): light in four cycles after OCCALL (DESIGN CHOICE, log 7). -/
def babblePersist (s : State) (ln : Nat) : State :=
  let x := s.lane ln
  match x.occPersist with
  | some n =>
    if 4 ≤ n + (if x.lightNow then 1 else 0) then
      ((s.setLane ln { x with occPersist := none }).wr (laneB ln) Lane.LANE_STAT.BABPERS 1).laneFault ln 4
    else s
  | none => s

/-- SEE_ERR_PERSIST (R98): the mean stayed below SEE_ERR for 16 bursts (DESIGN CHOICE, log 7). -/
def seeErr (s : State) (ln sl : Nat) : State :=
  let c := ln * 96 + sl
  let x := s.ctx c
  if 16 ≤ x.seeBad ∧ !x.seeDone then (s.setCtx c { x with seeDone := true }).fire (ldieSrc ln + 25) else s

/-- RXLOS (R104): no burst light for four cycles with a cell ACTIVE (DESIGN CHOICE, log 7). -/
def rxlos (s : State) (ln : Nat) : State :=
  let x := s.lane ln
  if s.laneUp ln && decide (4 ≤ x.darkCyc) && !x.burstNow && (List.range 96).any (fun sl => s.cstate (ln * 96 + sl) == 3) then
    s.laneFault ln 3
  else s

/-! ## Lane control (R100) -/

/-- EN = 1. -/
def laneEnable (s : State) (ln : Nat) : State :=
  let s := s.wr (laneB ln) Lane.LANE_CTL.EN 1
  if s.lstate ln = 2 then s.setLstate ln (s.runState ln) else s

/-- EN = 0 (R93, R100). -/
def laneDisable (s : State) (ln : Nat) : State :=
  let s := s.wr (laneB ln) Lane.LANE_CTL.EN 0
  if s.lstate ln = 3 ∨ s.lstate ln = 4 then
    let s := (List.range 96).foldl (fun (s : State) sl =>
      let c := ln * 96 + sl
      if s.cstate c = 0 then s
      else ((((s.flushCtx c).leaveCtx c).setCstate c 1).wr (ctxB c) Ctx.CELL_STAT.GRANT_U 255)) s
    let s := s.modLane ln (fun x => { x with maps := [], occ := [], occall := 0, occPersist := none, lightNow := false,
                                             lightRun := 0, regrant := [], built := [], builtN := none, line := [],
                                             darkCyc := 0, burstNow := false })
    s.setLstate ln 2
  else s

/-- DARK = 1. -/
def laneDark (s : State) (ln : Nat) : State :=
  let b := laneB ln
  if !s.allEmpty ln then s.wr b Lane.LANE_STAT.DARK_REJ 1
  else match s.lstate ln with
    | 0 => s
    | 2 => (s.wr b Lane.LANE_CTL.DARK 1).setLstate ln 0
    | _ => (s.wr b Lane.LANE_CTL.DARK 1).modLane ln (fun x => { x with darkHeld := true })

/-- DARK = 0. -/
def laneWake (s : State) (ln : Nat) : State :=
  let s := (s.wr (laneB ln) Lane.LANE_CTL.DARK 0).modLane ln (fun x => { x with darkHeld := false })
  if s.lstate ln = 0 then s.setLstate ln 1 else s

/-- A WAKING lane locks. -/
def laneLocked (s : State) (ln : Nat) : State :=
  if s.lstate ln = 1 then
    let s := s.laneEvt ln 11
    if s.on (laneB ln) Lane.LANE_CTL.EN then s.setLstate ln (s.runState ln) else s.setLstate ln 2
  else s

/-- L-die PLL unlock (R100, R107): every lane that is not DARK goes to OFF. -/
def ldieUnlock (s : State) (l : Nat) : State :=
  if l < 4 ∧ s.hasL l then
    ((List.range 16).foldl (fun (s : State) j =>
      let ln := 16 * l + j
      if s.lstate ln = 0 then s else (s.setLstate ln 2).laneFault ln 1) s).fire (ldieSrc (16 * l) + 23)
  else s

/-- A write to EN (bit 0) and DARK (bit 1) of LANE_CTL; EN is looked at first (R100). -/
def laneCtl (s : State) (ln v : Nat) : State :=
  let b := laneB ln
  let en := v.testBit 0
  let dk := v.testBit 1
  let s := if en then s.laneEnable ln
    else if s.on b Lane.LANE_CTL.EN then s.laneDisable ln else s
  if dk then (if s.on b Lane.LANE_CTL.DARK then s else s.laneDark ln)
  else if s.on b Lane.LANE_CTL.DARK then s.laneWake ln else s

/-- A push onto the broadcast queue (R73, R104). -/
def bcastPush (s : State) (ln : Nat) (v : Word) : State :=
  let x := s.lane ln
  if 8 ≤ x.bcast.length then s.wr (laneB ln) Lane.BCAST_STAT.BC_OVF 1
  else (s.setLane ln { x with bcast := x.bcast ++ [v] }).wr (laneB ln) Lane.BCAST_STAT.DEPTH (x.bcast.length + 1)

/-- CNT_CLR (R104). -/
def laneCntClr (s : State) (ln : Nat) : State :=
  [Lane.CNT_RXOK.COUNT, Lane.CNT_RXFAIL.COUNT, Lane.CNT_REGRANT.COUNT, Lane.CNT_RGDROP.COUNT, Lane.CNT_BABBLE.COUNT,
    Lane.CNT_ACMDRS.COUNT].foldl (fun (s : State) f => s.wr (laneB ln) f 0) s

/-- WAKE_CTL.START (R101, R104). -/
def wakeStart (s : State) (ln : Nat) : State :=
  if s.lstate ln = 3 then s.wr (laneB ln) Lane.WAKE_CTL.BUSY 1 else s

/-- RS_CTL.START (R99). -/
def rsStart (s : State) (ln : Nat) : State :=
  let b := laneB ln
  let x := s.lane ln
  let sl := s.rd b Lane.RS_CTL.SLOT
  let st := s.cstate (ln * 96 + sl)
  if x.scan.isSome then s
  else
    let s := (s.setLane ln { x with scan := some ⟨sl, max 1 (s.rd b Lane.RS_CTL.BURSTS), 0, 0⟩ }).wr b Lane.RS_STAT.BUSY 1
    let s := s.wr b Lane.RS_STAT.POINT 0
    if (st = 3 ∨ st = 4) ∧ sl < 96 then s else s.endScan ln

/-- The longest run of points without disagreements. -/
def longestRun (l : List Nat) : Nat :=
  (l.foldl (fun (p : Nat × Nat) v => if v = 0 then (p.1 + 1, max p.2 (p.1 + 1)) else (0, p.2)) (0, 0)).2

/-- RS_SCAN_DONE (R99, R104): the disagreements of the 512 points, point 16 · phase + threshold. -/
def rsDone (s : State) (ln : Nat) (counts : List Nat) : State :=
  let b := laneB ln
  match (s.lane ln).scan with
  | none => s
  | some _ =>
    let at_ (p : Nat) : Nat := min 0xFFFF (counts.getD p 0)
    let s := (List.range 256).foldl (fun (s : State) w =>
      s.wr b (Lane.RS_MAP.COUNT.at w) (at_ (2 * w) + 65536 * at_ (2 * w + 1))) s
    let ew := longestRun ((List.range 32).map (fun ph => at_ (16 * ph + 8)))
    let eh := longestRun ((List.range 16).map (fun th => at_ (16 * 16 + th)))
    let s := ((s.modLane ln (fun x => { x with scan := none })).wr b Lane.RS_STAT.BUSY 0).wr b Lane.RS_STAT.DONE 1
    (((s.wr b Lane.RS_STAT.EYE_W ew).wr b Lane.RS_STAT.EYE_H eh).wr b Lane.RS_STAT.POINT 511).laneEvt ln 9

/-- A context RAM error (R107). -/
def ctxRam (s : State) (ln sl : Nat) (ue : Bool) : State :=
  let c := ln * 96 + sl
  if !s.laneUp ln then s
  else if !ue then s.fire (ldieSrc ln + 16)
  else
    let s := (s.leaveCtx c).setCstate c 5
    (s.modCtx c (fun x => { x with nopOnce := true })).fire (ldieSrc ln + 17)

/-- The duplicated framer disagrees (R107). -/
def framerBad (s : State) (l : Nat) : State :=
  if l < 4 ∧ s.hasL l then
    let s := { s with txHold := if s.txHold.contains l then s.txHold else s.txHold ++ [l] }
    ((List.range 16).foldl (fun (s : State) j => s.syncTx (16 * l + j)) s).fire (ldieSrc (16 * l) + 24)
  else s

/-- A command to a context that is there (R59, R108). -/
def onCtx (s : State) (ln sl : Nat) (f : Nat → State) : State := if s.laneUp ln && decide (sl < 96) then f (ln * 96 + sl) else s

/-- A register write to a lane that is there (R15, R108). -/
def onLane (s : State) (ln : Nat) (f : State → State) : State := if s.laneUp ln then f s else s

end State

/-! ## The commands -/

/-- LANE_BUILD_CUTOFF. -/
def execLaneBuildCutoff (ln : Nat) (s : State) : Ans := .next (s.laneBuild ln)
/-- FRAME_START. -/
def execFrameStart (ln : Nat) (s : State) : Ans := .next (s.frameStart ln)
/-- LANE_REPORT_RX. -/
def execLaneReportRx (ln : Nat) (slot : RxSlot) (rx : Option BurstRx) (s : State) : Ans := .next (s.laneReport ln slot rx)
/-- LANE_RANGING_RX. -/
def execLaneRangingRx (ln : Nat) (rx : BurstRx) (s : State) : Ans := .next (s.laneRanging ln rx)
/-- RANGING_NO_BURST. -/
def execRangingNoBurst (ln : Nat) (s : State) : Ans := .next (s.rangingDark ln)
/-- ACKWAIT_EXPIRY. -/
def execAckwaitExpiry (ln sl : Nat) (s : State) : Ans := .next (s.onCtx ln sl (fun _ => s.ackwait ln sl))
/-- OUT_OF_GRANT_LIGHT. -/
def execOutOfGrantLight (ln : Nat) (who : Option (BitVec 128)) (s : State) : Ans := .next (s.outOfGrant ln who)
/-- BABBLE_UNIDENTIFIED. -/
def execBabbleUnidentified (ln : Nat) (s : State) : Ans := .next (s.babbleAll ln)
/-- BABBLE_PERSIST. -/
def execBabblePersist (ln : Nat) (s : State) : Ans := .next (s.babblePersist ln)
/-- SEE_ERR_PERSIST. -/
def execSeeErrPersist (ln sl : Nat) (s : State) : Ans := .next (s.onCtx ln sl (fun _ => s.seeErr ln sl))
/-- RXLOS. -/
def execRxlos (ln : Nat) (s : State) : Ans := .next (s.rxlos ln)
/-- CELL_CMD_ASSIGN. -/
def execCellCmdAssign (ln sl : Nat) (s : State) : Ans := .next (s.onCtx ln sl s.cmdAssign)
/-- CELL_CMD_ENABLE. -/
def execCellCmdEnable (ln sl : Nat) (s : State) : Ans := .next (s.onCtx ln sl s.cmdEnable)
/-- CELL_CMD_OCCULT. -/
def execCellCmdOccult (ln sl : Nat) (s : State) : Ans := .next (s.onCtx ln sl s.cmdOccult)
/-- CELL_CMD_RELEASE. -/
def execCellCmdRelease (ln sl : Nat) (s : State) : Ans := .next (s.onCtx ln sl s.cmdRelease)
/-- CELL_CMD_CNTCLR. -/
def execCellCmdCntclr (ln sl : Nat) (s : State) : Ans := .next (s.onCtx ln sl s.cmdCntclr)
/-- ACMD_PUSH. -/
def execAcmdPush (ln sl : Nat) (v : Word) (s : State) : Ans := .next (s.onCtx ln sl (fun c => s.acmdPush c v))
/-- BCAST_PUSH. -/
def execBcastPush (w : Wr) (ln : Nat) (v : Word) (s : State) : Ans :=
  .next ((s.onLane ln (fun s => s.bcastPush ln v)).retire w (laneB ln + 0x024))
/-- LANE_CNT_CLR. -/
def execLaneCntClr (w : Wr) (ln : Nat) (s : State) : Ans :=
  .next ((s.onLane ln (fun s => s.laneCntClr ln)).retire w (laneB ln + 0x058))
/-- LANE_EN_SET. -/
def execLaneEnSet (w : Wr) (ln : Nat) (s : State) : Ans :=
  .next ((s.onLane ln (fun s => s.laneEnable ln)).retire w (laneB ln))
/-- LANE_EN_CLEAR. -/
def execLaneEnClear (w : Wr) (ln : Nat) (s : State) : Ans :=
  .next ((s.onLane ln (fun s => s.laneDisable ln)).retire w (laneB ln))
/-- LANE_DARK_REQUEST. -/
def execLaneDarkRequest (w : Wr) (ln : Nat) (s : State) : Ans :=
  .next ((s.onLane ln (fun s => s.laneDark ln)).retire w (laneB ln))
/-- LANE_WAKE_UP. -/
def execLaneWakeUp (w : Wr) (ln : Nat) (s : State) : Ans :=
  .next ((s.onLane ln (fun s => s.laneWake ln)).retire w (laneB ln))
/-- LANE_LOCKED. -/
def execLaneLocked (ln : Nat) (s : State) : Ans := .next (s.onLane ln (fun s => s.laneLocked ln))
/-- LDIE_PLL_UNLOCK. -/
def execLdiePllUnlock (l : Nat) (s : State) : Ans := .next (s.ldieUnlock l)
/-- LANE_TXFLT (R103). -/
def execLaneTxflt (ln : Nat) (s : State) : Ans :=
  .next (s.onLane ln (fun s => (s.wr (laneB ln) Lane.LANE_STAT.TXFLT 1).laneFault ln 0))
/-- WAKE_START. -/
def execWakeStart (w : Wr) (ln : Nat) (s : State) : Ans :=
  .next ((s.onLane ln (fun s => s.wakeStart ln)).retire w (laneB ln + 0x02C))
/-- WAKE_TONE_END (R101). -/
def execWakeToneEnd (ln : Nat) (s : State) : Ans := .next (s.onLane ln (fun s => s.wr (laneB ln) Lane.WAKE_CTL.BUSY 0))
/-- RS_START. -/
def execRsStart (w : Wr) (ln : Nat) (s : State) : Ans :=
  .next ((s.onLane ln (fun s => s.rsStart ln)).retire w (laneB ln + 0x030))
/-- RS_ABORT. -/
def execRsAbort (w : Wr) (ln : Nat) (s : State) : Ans :=
  .next ((s.onLane ln (fun s => s.endScan ln)).retire w (laneB ln + 0x030))
/-- RS_SCAN_DONE. -/
def execRsScanDone (ln : Nat) (counts : List Nat) (s : State) : Ans := .next (s.onLane ln (fun s => s.rsDone ln counts))
/-- CONTEXT_RAM_ERROR. -/
def execContextRamError (ln sl : Nat) (ue : Bool) (s : State) : Ans := .next (s.onCtx ln sl (fun _ => s.ctxRam ln sl ue))
/-- FRAMER_MISMATCH. -/
def execFramerMismatch (l : Nat) (s : State) : Ans := .next (s.framerBad l)

end Sys2Proof.Machine
end

