-- ==== Sys2Proof/Machine/BusA.lean ====
section
/-!
DEFINITION. Register writes to lanes (R104), the law engine (R199 to R203), core control (R232), the freeze registers
(R233), the scheduler (R274) and the mailboxes (R275).
-/
namespace Sys2Proof.Machine

namespace State

/-! ## Lanes (R104) -/

/-- A write to a register of global lane `ln` at offset `off` (DESIGN CHOICE, log 11). -/
def busLane (s : State) (ln off v : Nat) : State :=
  let b := laneB ln
  let g : Guard :=
    { Guard.free with
      runs := fun _ => s.lstate ln == 3 || s.lstate ln == 4
      own := fun f => f == Lane.LANE_CTL.EN || f == Lane.LANE_CTL.DARK
      held := fun t => (t.wr b Lane.LANE_STAT.HELD_WR 1).fire (ldieSrc ln + 22) }
  let t := s.putWord (b + off) v g
  match off with
  | 0x00 => t.laneCtl ln v
  | 0x0C => if s.newlyOn b Lane.LANE_EVT.EVT Lane.LANE_EVTEN.EN v then t.evt (0x40 + ln) else t
  | 0x24 => t.bcastPush ln (BitVec.ofNat 32 v)
  | 0x2C => if v.testBit 0 then t.wakeStart ln else t
  | 0x30 =>
    let t := if v.testBit 16 then t.rsStart ln else t
    if v.testBit 17 then t.endScan ln else t
  | 0x58 => if v.testBit 0 then t.laneCntClr ln else t
  | _ => t

/-! ## Law engine (R199 to R203) -/

/-- HELD_WR and CFG_REJ of the engine (R205). -/
def lawFlag (s : State) (k : Nat) (f : Fld) : State := (s.wr (lawB k) f 1).fireK k 0x065

/-- An input map entry that the engine refuses (R202): source 3, an absent A-die, or a result index above 47. -/
def mapBad (s : State) (v : Nat) : Bool :=
  let src := v % 4
  src == 3 || (src == 1 && (!s.hasA (bits v 2 2) || decide (47 < bits v 10 4)))

/-- The running channel with a stateful section, not held, that owns a word of STATE (R203). -/
def stateOwner (s : State) (k j : Nat) : Option Nat :=
  (s.chList k).find? (fun c => (s.secList k c).any (fun i =>
    let n := (secShape (s.secType k c i)).2.1
    !s.secHeld k c i && decide (s.secCb k c i ≤ j) && decide (j < s.secCb k c i + n)))

/-- A write to COEF, SHIFT, HOLD or a slot waits for the end of a pass (R193). -/
def lawDefers (off : Nat) : Bool :=
  (decide (0x800 ≤ off) && decide (off < 0x8C0)) || (decide (0x1000 ≤ off) && decide (off < 0x2000)) ||
  (decide (0x5000 ≤ off) && decide (off < 0xA000))

/-- A signal slot can be written (R203): slots 0 to 127 while their map entry has source 0, slots 128 to 255
(DEDUCED, log 12). -/
def slotOpen (s : State) (k off : Nat) : Bool :=
  let i := (off - 0x1000) / 4
  !(decide (0x1000 ≤ off) && decide (off < 0x2000)) ||
    (decide (i < 256) && (decide (128 ≤ i) || s.rd (lawB k) (Lmap.MAP.SRC.at i) == 0))

/-- A write to the registers of channel `c`. -/
def busLch (s : State) (k c off v : Nat) : State :=
  let b := lchB k c
  let g : Guard := { Guard.free with runs := fun _ => s.chRuns k c, held := fun t => t.chHeld k c }
  let t := s.putWord (b + off) v g
  match off with
  | 0x00 => t.modLaw k (fun x => { x with runW := if x.runW.contains c then x.runW else x.runW ++ [c] })
  | 0x08 =>
    let t := if v.testBit 0 then t.chClrst k c else t
    if v.testBit 1 then t.chClrplaus k c else t
  | 0x18 => if s.newlyOn b Lch.CH_EVT.EVT Lch.CH_EVTEN.EN v then t.evtK k (0x20 + c) else t
  | _ => t

/-- A write at offset `off` of the law engine of K-die `k` that does not wait for the end of a pass. -/
def busLaw (s : State) (k off v : Nat) : State :=
  let b := lawB k
  if lawDefers off then (if s.slotOpen k off then (s.lawAll k).lawApply k off v else s)
  else if 0x100 ≤ off ∧ off < 0x280 then s.busLch k ((off - 0x100) / 0x40) (off % 0x40) v
  else if 0x2000 ≤ off ∧ off < 0x5000 then
    let c := (off - 0x2000) / 0x800
    s.putWord (b + off) v { Guard.free with runs := fun _ => s.chRuns k c, held := fun t => t.chHeld k c }
  else if 0xA000 ≤ off ∧ off < 0xE000 then
    let j := (off - 0xA000) / 4
    match s.stateOwner k j with
    | some c => if s.rd b (Larr.STATE.X.at j) = v then s else s.chHeld k c
    | none => s.wr b (Larr.STATE.X.at j) v
  else
    let isMap := decide (0x400 ≤ off) && decide (off < 0x600)
    let g : Guard :=
      { Guard.free with
        runs := fun _ => s.rd b Law.LAW_STAT.RUNMASK != 0
        bad := fun _ _ => isMap && s.mapBad v
        held := fun t => t.lawFlag k Law.LAW_STAT.HELD_WR
        rej := fun t => t.lawFlag k Law.LAW_STAT.CFG_REJ }
    let t := s.putWord (b + off) v g
    if off = 0xC ∧ s.newlyOn b Law.LAW_EVT.EVT Law.LAW_EVTEN.EN v then t.evtK k 0x26 else t

/-! ## Core control (R232) -/

/-- A write to the control registers of core `m` (R209, R225, R230); those of an absent K-die 1 ignore it
(DESIGN CHOICE, log 11). -/
def busCore (s : State) (w : Wr) (m off v : Nat) : State :=
  let b := coreB m
  let ev := coreB (m / 2 * 2)
  let heldAt (b : Nat) (t : State) : State := t.wr b Cc.CORE_STAT.HELD_WR 1
  if !s.hasK (m / 16) then s
  else match off with
    | 0x0 =>
      if !privileged w then s.noPerm
      else
        let runs := !s.inRst (m / 2 * 2) || !s.inRst (m / 2 * 2 + 1)
        let t := if m % 2 = 0 then s.heldSet b Cc.CORE_CTL.PAIRED runs (bits v 1 1) (heldAt ev) else s
        if v.testBit 0 then (if t.inRst m then t else t.coreReset m) else t.coreRelease m
    | 0x4 =>
      if !privileged w then s.noPerm
      else if m % 2 = 1 ∧ s.paired m then s
      else s.heldSet b Cc.CORE_BOOT.BOOTPC (!s.inRst m) (v / 4) (heldAt b)
    | _ => s.putWord (b + off) v Guard.free

/-! ## Freezes (R224, R233) -/

/-- A write to the freeze registers. -/
def busFz (s : State) (w : Wr) (off v : Nat) : State :=
  match off with
  | 0x10 =>
    let act : State → Nat → FzRec → Option State :=
      match bits v 9 8 with
      | 1 => State.actRetry
      | 2 => State.actTrap
      | 3 => State.actReset
      | _ => fun _ _ _ => none
    s.release w (v % 256) act
  | 0x2C => if v.testBit 0 then ({ s with fz := s.fz.tail }).syncFz else s
  | _ => s.putWord (fzB + off) v Guard.free

/-! ## Scheduler (R274) -/

/-- A write to a slot's TASK_CFG or TASK_ARG; word 0 is TASK_CFG. -/
def busSlot (s : State) (k i word v : Nat) : State :=
  let b := schB k
  let was := s.on b (Sch.TASK_CFG.EN.at i)
  let g : Guard :=
    { Guard.free with
      runs := fun _ => was
      own := fun f => f == Sch.TASK_CFG.EN.at i
      held := fun t => (t.wr b Sch.SCH_STAT.HELD_WR 1).fireK k 0x076 }
  let t := s.putWord (b + 0x1000 + 8 * i + 4 * word) v g
  if word ≠ 0 then t
  else if v.testBit 0 then
    (if was then t else t.wr b (Sch.TASK_CFG.EN.at i) 1).wr b (Sch.TASK_STAT.OVR.at i) 0
  else t.disableSlot k i

/-- A write to the scheduler of K-die `k`. -/
def busSch (s : State) (k off v : Nat) : State :=
  if 0x1000 ≤ off ∧ off < 0x1800 then s.busSlot k ((off - 0x1000) / 8) (off / 4 % 2) v
  else if off = 4 then s.evtK k (0xC0 + v % 64)
  else s.putWord (schB k + off) v Guard.free

/-! ## Mailboxes (R265 to R275) -/

/-- A write to the mailbox block of K-die `k`. -/
def busMbx (s : State) (w : Wr) (k off v : Nat) : State :=
  let b := mbxB k
  let word : Word := BitVec.ofNat 32 v
  if 0x100 ≤ off ∧ off < 0x500 then
    let ch := 64 * k + (off - 0x100) / 16
    match off % 16 with
    | 0x0 => s.quiet (execChBindWrite w ch word)
    | 0x8 => s.quiet (execChPutWrite w ch word)
    | _ => s.putWord (b + off) v Guard.free
  else if 0x800 ≤ off ∧ off < 0x900 then
    let m := 16 * k + (off - 0x800) / 16
    match off % 16 with
    | 0x0 => s.quiet (execDbPendWrite w m word)
    | 0x4 => s.quiet (execDbMaskWrite w m word)
    | 0x8 => s.quiet (execDbClr w m word)
    | _ => if s.paired m && m % 2 == 1 then s else s.putWord (b + off) v Guard.free
  else s.putWord (b + off) v Guard.free

end State

end Sys2Proof.Machine
end

