-- ==== Sys2Proof/Machine/BusB.lean ====
section
/-!
DEFINITION. Register writes to the A-dies (R292 to R295), the DMA engines (R307, R308), the acquisition engines (R322, R323)
and the Ethernet and time block (R346 to R349).
-/
namespace Sys2Proof.Machine

namespace State

/-! ## A-dies (R292 to R294) -/

/-- HELD_WR and CFG_REJ of A-die `a` (R297). -/
def adFlag (s : State) (a : Nat) (f : Fld) : State := (s.wr (adB a) f 1).fireAd a 6

/-- A write to EN of sequencer `n` waits for its boundary (R13, R293); one that would change EN of a converter of the metering
unit is refused (R430). -/
def seqEnWrite (s : State) (a n : Nat) (v : Bool) : State :=
  if s.mtrOwns a n then (if s.on (seqB a n) Seq.SEQ_CTL.EN = v then s else s.adFlag a Ad.AD_STAT.CFG_REJ)
  else (s.wrB (seqB a n) Seq.SEQ_CTL.EN v).modAd a (fun x => { x with enAt := x.enAt ++ [(n, v, s.clk.pt)] })

/-- A write at offset `off` of A-die `a`. -/
def busAdie (s : State) (w : Wr) (a off v : Nat) : State :=
  let b := adB a
  let held (t : State) : State := t.adFlag a Ad.AD_STAT.HELD_WR
  if 0x100 ≤ off ∧ off < 0x280 then
    let n := (off - 0x100) / 16
    if off % 16 = 8 then s.urgWrite a n (BitVec.ofNat 32 v)
    else
      let t := s.putWord (b + off) v
        { Guard.free with
          runs := fun _ => s.on (seqB a n) Seq.SEQ_STAT.RUN
          own := fun f => f == Seq.SEQ_CTL.EN
          held := held }
      if off % 16 = 0 then t.seqEnWrite a n (v.testBit 0) else t
  else if 0x400 ≤ off ∧ off < 0x1000 then
    let n := (off - 0x400) / 0x80
    s.putWord (b + off) v
      { Guard.free with
        runs := fun _ => s.on (seqB a n) Seq.SEQ_STAT.RUN
        bad := fun _ _ => v % 8 == 7 || decide (47 < bits v 13 8)
        held := held
        rej := fun t => t.adFlag a Ad.AD_STAT.CFG_REJ }
  else if off = 0x30 then (if v.testBit 0 then s.quiet (execAdCntclr w a) else s)
  else
    let t := s.putWord (b + off) v
      { Guard.free with
        runs := fun _ => (List.range 24).any (fun n => s.on (seqB a n) Seq.SEQ_STAT.RUN)
        held := held }
    if off = 0xC ∧ s.newlyOn b Ad.AD_EVT.EVT Ad.AD_EVTEN.EN v then t.evt (0x81 + 8 * a) else t

/-! ## DMA (R307, R308) -/

/-- A write to the registers of channel `c` (R303): in CH_CTL, ABORT over PAUSE, START before APPEND
(DESIGN CHOICE, log 11). -/
def busDch (s : State) (k c off v : Nat) : State :=
  let b := dchB k c
  let t := s.putWord (b + off) v
    { Guard.free with
      runs := fun _ => s.dRuns k c
      own := fun f => f == Dch.CH_CTL.PAUSE
      held := fun t => (t.wr (dmaB k) Dma.DMA_STAT.HELD_WR 1).fireK k 0x07D }
  match off with
  | 0x00 =>
    let was := s.on b Dch.CH_CTL.PAUSE
    let t := t.wr b Dch.CH_CTL.PAUSE (bits v 1 1)
    let t := if v.testBit 2 then t.dAbort k c else t
    let t := if v.testBit 0 then t.dStart k c else t
    let t := if v.testBit 3 then t.dAppend k c else t
    if v.testBit 1 then (if was then t else t.dPause k c) else (if was then t.dResume k c else t)
  | 0x24 => if s.newlyOn b Dch.CH_EVT.EVT Dch.CH_EVTEN.EN v then t.evtK k (0x10 + c) else t
  | _ => t

/-- A write to the DMA engine of K-die `k`. -/
def busDma (s : State) (k off v : Nat) : State :=
  if 0x100 ≤ off ∧ off < 0x500 then s.busDch k ((off - 0x100) / 0x40) (off % 0x40) v
  else s.putWord (dmaB k + off) v Guard.free

/-! ## Acquisition (R314, R322, R323) -/

/-- A TRACE_SEL value is refused (R314). -/
def traceBad (s : State) (v : Nat) : Bool :=
  let i := bits v 28 16
  match v % 8 with
  | 1 | 2 => decide (6144 ≤ i) || !s.hasL (i / 96 / 16)
  | 4 => !s.hasA (bits i 6 6)
  | 5 => decide (5 < bits i 4 2)
  | _ => false

/-- A write to the acquisition engine of K-die `k` (DESIGN CHOICE, log 11). -/
def busAcq (s : State) (k off v : Nat) : State :=
  let b := acqB k
  let flag (f : Fld) (t : State) : State := (t.wr b f 1).fire (0x023 + 4 * k)
  let t := s.putWord (b + off) v
    { runs := fun _ => s.acqRuns k
      bad := fun f _ => (f.is Acq.TRACE_SEL.CLASS || f.is Acq.TRACE_SEL.INDEX) && s.traceBad v ||
        (f.is Acq.COND_CTL.SIG || f.is Acq.COND_CTL.OP) && decide (6 ≤ bits v 10 8)
      own := fun _ => false
      held := flag Acq.ACQ_STAT.HELD_WR
      rej := flag Acq.ACQ_STAT.CFG_REJ }
  match off with
  | 0x0 =>
    let t := if v.testBit 0 then t.acqArm k else t
    let t := if v.testBit 1 then t.acqStop k else t
    if v.testBit 2 then t.acqAssert k 9 t.tick else t
  | 0xC => if s.newlyOn b Acq.ACQ_EVT.EVT Acq.ACQ_EVTEN.EN v then t.evtK k (0xA0 + 8 * k) else t
  | _ => t

/-! ## Ethernet and time (R346 to R349) -/

/-- HELD_WR and CFG_REJ of the time block (R350). -/
def timeFlag (s : State) (f : Fld) : State := (s.wr ethB f 1).fire 0x166

/-- A write to the registers of port `e` (R347). -/
def busPort (s : State) (w : Wr) (e off v : Nat) : State :=
  let b := portB e
  let t := s.putWord (b + off) v
    { Guard.free with
      runs := fun _ => s.on b Port.PORT_CTL.EN
      own := fun f => f == Port.PORT_CTL.EN
      held := fun t => (t.wr b Port.PORT_STAT.HELD_WR 1).fire 0x166 }
  match off with
  | 0x00 => if v.testBit 0 then t.quiet (execPortEnable w e) else t.wr b Port.PORT_CTL.EN 0
  | 0x0C => if s.newlyOn b Port.PORT_EVT.EVT Port.PORT_EVTEN.EN v then t.evtK 0 (0x90 + e) else t
  | 0x28 => if v.testBit 0 then t.quiet (execTxKick w e) else t
  | 0x54 => if v.testBit 0 then t.quiet (execPortCntClr w e) else t
  | _ => t

/-- A write to VN_CTL (R340): PSRC and SSRC are held while the servo is enabled; EN = 0 is obeyed before REARM
(DESIGN CHOICE, log 11). -/
def busVnCtl (s : State) (w : Wr) (v : Nat) : State :=
  let t := s.putWord (ethB + 0x100) v
    { Guard.free with
      runs := fun _ => s.on ethB Eth.VN_CTL.EN
      bad := fun f x => (f == Eth.VN_CTL.PSRC && decide (2 ≤ x)) || (f == Eth.VN_CTL.SSRC && decide (3 ≤ x))
      held := fun t => t.timeFlag Eth.TIME_STAT.HELD_WR
      rej := fun t => t.timeFlag Eth.TIME_STAT.CFG_REJ }
  let t := if v.testBit 0 then t else t.quiet (execVnDisable w)
  if v.testBit 5 then t.quiet (execVnRearm w) else t

/-- A write to the Ethernet and time block. -/
def busEth (s : State) (w : Wr) (off v : Nat) : State :=
  let word : Word := BitVec.ofNat 32 v
  if 0x1000 ≤ off ∧ off < 0x1400 then s.busPort w ((off - 0x1000) / 0x100) (off % 0x100) v
  else if 0x2000 ≤ off ∧ off < 0x2200 then
    let b := svB ((off - 0x2000) / 0x20)
    s.putWord (ethB + off) v
      { Guard.free with
        runs := fun _ => s.on b Sv.SV_CTL.EN
        held := fun t => (t.wr b Sv.SV_STAT.HELD_WR 1).fire 0x166 }
  else match off with
    | 0x018 => s.putWord (ethB + off) v
        { Guard.free with
          bad := fun _ x => decide (999999999 < x)
          rej := fun t => t.timeFlag Eth.TIME_STAT.CFG_REJ }
    | 0x020 => if v.testBit 0 then s.timeStepped true (v.testBit 1) else if v.testBit 1 then s.timeStepped false true else s
    | 0x100 => s.busVnCtl w v
    | 0x110 => s.quiet (execVnPrimarySample w word)
    | 0x118 => s.quiet (execVnSecondarySample w word)
    | 0x12C =>
      let t := s.putWord (ethB + off) v Guard.free
      if s.newlyOn ethB Eth.VN_EVT.EVT Eth.VN_EVTEN.EN v then t.evtK 0 0x94 else t
    | _ => s.putWord (ethB + off) v
        { Guard.free with
          runs := fun _ => s.on (portB 0) Port.PORT_CTL.EN || s.on (portB 1) Port.PORT_CTL.EN
          held := fun t => t.timeFlag Eth.TIME_STAT.HELD_WR }

end State

end Sys2Proof.Machine
end

