-- ==== Sys2Proof/Machine/BusC.lean ====
section
/-!
DEFINITION. Register writes to the fault collector (R370, R371), the safety unit (R392), the pair logic (R413), the Almanac
(R428), the metering and security units (R448, R449), clocks and power (R473), the self-test (R474), the cycle timer (R58) and
the fabric (R5, R43).
-/
namespace Sys2Proof.Machine

namespace State

/-! ## Fault collector (R353, R370, R371) -/

/-- A write of FS_CFG of source `n`: reactions that its class or its missing reset block rules out stay 0 (R371). -/
def busFsCfg (s : State) (n v : Nat) : State :=
  let isF := match srcInfo n with | some (.f, _) => true | _ => false
  let fs := [Fc.FS_CFG.IRQ, Fc.FS_CFG.LINE, Fc.FS_CFG.NMI, Fc.FS_CFG.NMIG] ++
    (if isF || srcBlk n == 0 then [] else [Fc.FS_CFG.BRST]) ++ (if isF then [] else [Fc.FS_CFG.CRST, Fc.FS_CFG.ASTOP])
  if s.on fcB Fc.FC_STAT.LOCKED || !s.srcOnPart n then s
  else fs.foldl (fun (t : State) f => t.wr fcB (fsCfg f n) (f.of v)) s

/-- A write to the fault collector (DESIGN CHOICE, log 11). -/
def busFc (s : State) (w : Wr) (off v : Nat) : State :=
  let lock := s.on fcB Fc.FC_STAT.LOCKED
  if 0x1000 ≤ off ∧ off < 0x1800 then s.busFsCfg ((off - 0x1000) / 4) v
  else if 0x1800 ≤ off ∧ off < 0x2000 then
    let n := (off - 0x1800) / 4
    let t := s.putWord (fcB + off) v { Guard.free with own := fun f => f.is Fc.FS_STAT.PEND }
    if v.testBit 0 then t.setPendFs n false else t
  else if 0x100 ≤ off ∧ off < 0x140 then
    (List.range 32).foldl (fun (t : State) i => if v.testBit i then t.setPendFs ((off - 0x100) * 8 + i) false else t) s
  else match off with
    | 0x00 =>
      let t := if lock then s else s.wr fcB Fc.FC_CTL.CONSEQ_W (bits v 15 8)
      let t := if v.testBit 1 then t.aliveStart else t
      let t := if v.testBit 2 then t.aliveStop 3 else t
      let t := if v.testBit 3 then t.quiet (execWden w) else t
      if v.testBit 0 then t.quiet (execFcLock w) else t
    | 0x1C => s.wdKick v
    | 0x3C => if v.testBit 0 then s.quiet (execFlogPop w) else s
    | 0x44 => if v.testBit 0 then s.quiet (execFsClr w) else s
    | 0x50 => s.injArm v
    | _ => if 0x20 ≤ off ∧ off < 0x30 ∧ lock then s else s.putWord (fcB + off) v Guard.free

/-! ## Safety (R392) -/

/-- A write to the safety unit: H fields, then ARM, then the requests and the release (DESIGN CHOICE, log 11). -/
def busSaf (s : State) (w : Wr) (off v : Nat) : State :=
  let flag (f : Fld) (t : State) : State := (t.wr safB f 1).fire 0x18F
  let mon := decide (0x100 ≤ off) && decide (off < 0x180) && off % 8 == 0
  let t := s.putWord (safB + off) v
    { Guard.free with
      runs := fun _ => s.armed
      bad := fun _ _ => mon && v.testBit 1 && !s.hasK 1
      held := flag Saf.SAFE_STAT.HELD_WR
      rej := flag Saf.SAFE_STAT.CFG_REJ }
  if off ≠ 0 then t
  else
    let ask (t : State) (i : Nat) (f : State → State) : State :=
      if v.testBit i then (if privileged w then f t else t.safNoPerm) else t
    let t := if v.testBit 3 then t.safArm else t
    let t := ask t 0 (fun t => t.sprRequest 9)
    let t := ask t 1 (fun t => t.srsRequest 1)
    ask t 2 (fun t => t.sprRelease (v.testBit 0))

/-! ## Pair (R413) -/

/-- A write to the pair logic (DESIGN CHOICE, log 11). -/
def busPair (s : State) (w : Wr) (off v : Nat) : State :=
  let flag (f : Fld) (t : State) : State := (t.wr pairB f 1).fire 0x1AD
  if 0x800 ≤ off ∧ off < 0x900 then
    let ln := (off - 0x800) / 4
    if !s.hasL (ln / 16) then s
    else s.putWord (pairB + off) v
      { Guard.free with
        runs := fun _ => s.lstate ln == 3 || s.lstate ln == 4
        held := flag Pair.PAIR_STAT.HELD_WR }
  else
    let was := s.on pairB Pair.PAIR_CTL.PAIR_EN
    let mir := decide (0x100 ≤ off) && decide (off < 0x500)
    let idx := v % 4096
    let t := s.putWord (pairB + off) v
      { runs := fun _ => was
        bad := fun _ _ => mir && ((v.testBit 12 && (decide (idx < 0x80) || decide (0xFF < idx))) || (v.testBit 13 && !s.hasK 1))
        own := fun f => f == Pair.PAIR_CTL.PAIR_EN
        held := flag Pair.PAIR_STAT.HELD_WR
        rej := flag Pair.PAIR_STAT.CFG_REJ }
    if off ≠ 0 then t
    else
      let t := if v.testBit 0 then (if was then t else t.quiet (execPairEn w))
        else if was then flag Pair.PAIR_STAT.HELD_WR t else t
      let t := if v.testBit 4 then t.cycSync else t
      let t := if v.testBit 2 then t.quiet (execHandover w) else t
      if v.testBit 3 then t.quiet (execDrill w) else t

/-! ## Almanac (R416, R428) -/

/-- A REC_CFG word that names something absent (R416) (DEDUCED, log 12). -/
def recBad (s : State) (v : Nat) : Bool :=
  let i := bits v 26 16
  match bits v 3 1 with
  | 1 | 2 | 5 => decide (11 < i % 16) || !s.hasK (i % 16 / 6)
  | 3 => !s.hasK (i / 1024)
  | 4 => !s.hasA (i / 64 % 2)
  | 6 => !s.hasL (i % 64 / 16)
  | _ => false

/-- Record `r` is switched on or off; its decimation restarts when ON is set (R416). -/
def recSet (s : State) (r : Nat) (v : Bool) : State :=
  let was := s.on almB (Alm.REC_CFG0.ON.at r)
  let t := s.wrB almB (Alm.REC_CFG0.ON.at r) v
  let rest := t.alm.on.filter (fun x => x != r)
  if v && !was then
    (t.setAlmRec r { t.almRec r with skip := 0 }).modAlm
      (fun a => { a with on := rest.filter (fun x => decide (x < r)) ++ [r] ++ rest.filter (fun x => decide (r < x)) })
  else if v then t
  else t.modAlm (fun a => { a with on := rest })

/-- A write to ALM_CTL: EN and FREEZE first, then RESTORE, the clears and FLUSHNOW (DESIGN CHOICE, log 11). -/
def busAlmCtl (s : State) (w : Wr) (v : Nat) : State :=
  let t := (s.wr almB Alm.ALM_CTL.EN (v % 2)).wr almB Alm.ALM_STAT.RUN (v % 2)
  let t := t.wr almB Alm.ALM_CTL.AUTOINC (bits v 2 2)
  let t := if v.testBit 1 == s.on almB Alm.ALM_CTL.FREEZE then t
    else if v.testBit 1 then t.quiet (execAlmanacFreeze w) else t.quiet (execAlmanacUnfreeze w)
  let t := if v.testBit 3 then t.quiet (execRestore w) else t
  let t := if v.testBit 4 then t.quiet (execClrrec w) else t
  let t := if v.testBit 5 then t.quiet (execClrall w) else t
  if v.testBit 6 then t.quiet (execFlushnow w) else t

/-- A write to the Almanac. -/
def busAlm (s : State) (w : Wr) (off v : Nat) : State :=
  let flag (f : Fld) (t : State) : State := (t.wr almB f 1).fire 0x02D
  let en := s.on almB Alm.ALM_CTL.EN
  if 0x4000 ≤ off ∧ off < 0x8000 then
    let r := (off - 0x4000) / 8
    let runs := en && s.on almB (Alm.REC_CFG0.ON.at r)
    let bad := off % 8 == 0 && s.recBad v
    let t := s.putWord (almB + off) v
      { runs := fun _ => runs
        bad := fun _ _ => bad
        own := fun f => f.is Alm.REC_CFG0.ON
        held := flag Alm.ALM_STAT.HELD_WR
        rej := flag Alm.ALM_STAT.CFG_REJ }
    if off % 8 = 0 ∧ (runs ∨ !bad) then t.recSet r (v.testBit 0) else t
  else match off with
    | 0x00 => s.busAlmCtl w v
    | 0x20 => if v.testBit 0 then s.quiet (execAlmCntclr w) else s
    | _ => s.putWord (almB + off) v { Guard.free with runs := fun _ => en, held := flag Alm.ALM_STAT.HELD_WR }

/-! ## Metering and security (R448, R449) -/

/-- MTR_SRC names a pair that the unit refuses: an absent one, or one whose sequencers run (DEDUCED, log 12). -/
def mtrSrcBad (s : State) (v : Nat) : Bool :=
  let a := v % 2
  let p := bits v 4 1
  !s.hasA a || decide (11 < p) || s.on (seqB a (2 * p)) Seq.SEQ_STAT.RUN || s.on (seqB a (2 * p + 1)) Seq.SEQ_STAT.RUN

/-- A write to the metering unit (DESIGN CHOICE, log 11) (DEDUCED, log 12). -/
def busMtr (s : State) (off v : Nat) : State :=
  let t := s.putWord (mtrB + off) v
    { runs := fun _ => s.mtrRuns
      bad := fun f x => (f == Mtr.MTR_CTL.LENMIN && (x == 0 || 60 % x != 0)) ||
        ((f == Mtr.MTR_SRC.MAID || f == Mtr.MTR_SRC.MPAIR) && s.mtrSrcBad v)
      own := fun f => f == Mtr.MTR_CTL.EN
      held := fun t => (t.wr mtrB Mtr.MTR_STAT.HELD_WR 1).fire 0x1B7
      rej := fun t => t.mtrRej }
  if off ≠ 0 then t else if v.testBit 0 then t.mtrEnable (v.testBit 1) else t.mtrDisable

/-- A write to the security unit (R445, R447) (DESIGN CHOICE, log 11). -/
def busSec (s : State) (w : Wr) (off v : Nat) : State :=
  let key : Byte := BitVec.ofNat 8 (v / 256)
  match off with
  | 0x008 =>
    let t := if v.testBit 0 then s.attest else s
    let t := if v.testBit 1 then t.svnRaise w key else t
    if v.testBit 2 then t.revoke w key else t
  | 0x100 => if v.testBit 0 then s.romRecover else s
  | _ => s.putWord (secB + off) v Guard.free

/-! ## Clocks, power, self-test (R473, R474) -/

/-- DIE_CTL (R456): the bits that change turn their dies on or off. -/
def busDieCtl (s : State) (w : Wr) (v : Nat) : State :=
  if !privileged w then s.noPerm
  else (List.range 8).foldl (fun (t : State) d => if v.testBit d then t.dieTurnOn d else t.dieTurnOff d) s

/-- A write to the clock and power block and to the cycle timer in it. -/
def busPwr (s : State) (w : Wr) (off v : Nat) : State :=
  if 0x400 ≤ off ∧ off < 0x480 then
    let u := (off - 0x400) / 0x40
    let t := s.putWord (pwrB + off) v
      { Guard.free with
        runs := fun _ => s.on pwrB (Pwr.XS_STAT.BUSY.at u)
        bad := fun f x => f.is Pwr.XS_CFG.FREQ && x == 3
        held := fun t => t.pwrRej Pwr.PWR_STAT.HELD_WR
        rej := fun t => t.pwrRej Pwr.PWR_STAT.CFG_REJ }
    if off % 0x40 = 0xC ∧ v.testBit 2 then t.xsGo w u (v % 4) else t
  else match off with
    | 0x004 => s.busDieCtl w v
    | 0x00C => if v.testBit 0 then s.chipRst w (BitVec.ofNat 8 (v / 256)) else s
    | 0x200 => s.cycCtl v
    | 0x204 => s.cycNumLo v
    | 0x208 => s.cycNumHi v
    | _ => s.putWord (pwrB + off) v Guard.free

/-- A write to the self-test block (R469, R474): its refusals show in PWR_STAT (DEDUCED, log 12). -/
def busBist (s : State) (off v : Nat) : State :=
  let t := s.putWord (bistB + off) v
    { Guard.free with
      runs := fun _ => s.on bistB Bist.BIST_STAT.BUSY
      bad := fun f x => f == Bist.BIST_CTL.TYPE && x == 3
      held := fun t => t.pwrRej Pwr.PWR_STAT.HELD_WR
      rej := fun t => t.pwrRej Pwr.PWR_STAT.CFG_REJ }
  if off = 0 ∧ v.testBit 0 then t.bistStart else t

/-! ## Fabric (R5, R42) -/

/-- A write to the capability and fabric registers. -/
def busCaps (s : State) (off v : Nat) : State :=
  match off with
  | 0x018 => if v.testBit 0 then s.absentClr else s
  | 0x10C => if v.testBit 31 then s.fabErrclr else s
  | _ => s.putWord (capsB + off) v Guard.free

end State

end Sys2Proof.Machine
end

