-- ==== Sys2Proof/Machine/Bus.lean ====
section
/-!
DEFINITION. Where a register write goes by its address (R17, R22), and requests of the PCIe host (R8, R222).
-/
namespace Sys2Proof.Machine

namespace State

/-- A write to block `j` of K-die `k`; the modulators are cycle-write targets and not written here (R34). -/
def busK (s : State) (w : Wr) (k j off v : Nat) : State :=
  match j with
  | 0 => s.busSch k off v
  | 1 => s.busMbx w k off v
  | 2 => s.busDma k off v
  | 3 => s.busLaw k off v
  | 5 => s.busAcq k off v
  | 6 => s.busEth w off v
  | _ => s

/-- A write of a register word that is not a cycle write takes effect (DESIGN CHOICE, log 10). -/
def busWrite (s : State) (w : Wr) (a v : Nat) : State :=
  if a < 0x20000000 then s
  else if a < 0x20010000 then s.busFc w (a - fcB) v
  else if a < 0x20020000 then s.busSaf w (a - safB) v
  else if a < 0x20030000 then s.busPair w (a - pairB) v
  else if a < 0x20040000 then s.busAlm w (a - almB) v
  else if a < 0x20046000 then s.busSec w (a - secB) v
  else if a < 0x20047000 then (if a < 0x20046200 then s.busCore w ((a - 0x20046000) / 16) (a % 16) v else s)
  else if a < 0x20048000 then s.busFz w (a - fzB) v
  else if a < 0x20050000 then s.putWord a v Guard.free
  else if a < 0x20060000 then s.busMtr (a - mtrB) v
  else if a < 0x20070000 then s.busCaps (a - capsB) v
  else if a < 0x20080000 then s.busPwr w (a - pwrB) v
  else if a < 0x20090000 then s.busBist (a - bistB) v
  else if a < 0x30000000 then s
  else if a < 0x32000000 then s.busK w ((a - 0x30000000) / 0x1000000) (a / 0x10000 % 0x100) (a % 0x10000) v
  else if 0x40000000 ≤ a ∧ a < 0x44000000 then
    s.busLane ((a - 0x40000000) / 0x1000000 * 16 + a % 0x1000000 / 0x1000) (a % 0x1000) v
  else if 0x50000000 ≤ a ∧ a < 0x50200000 then s.busAdie w ((a - 0x50000000) / 0x100000) (a % 0x100000) v
  else s

/-- The law engine whose pass a write waits for (R193): its K-die, and the offset in its block. -/
def lawWaits (s : State) (a : Nat) : Option (Nat × Nat) :=
  (List.range 2).findSome? (fun k =>
    if lawB k ≤ a ∧ a < lawB k + 0x10000 ∧ lawDefers (a - lawB k) ∧ s.slotOpen k (a - lawB k) ∧ (s.law k).pass ≠ 0 then
      some (k, a - lawB k) else none)

/-- A register write lands (R6, R17, R31, R34, R193, R321, R457). -/
def land (s : State) (w : Wr) (a : Nat) (v : Word) : State :=
  match s.locate none a with
  | .reg =>
    if (cycTarget a).isSome then s.stage w a v
    else match s.lawWaits a with
      | some (k, off) => s.modLaw k (fun x => { x with late := x.late ++ [(w, off, v)] })
      | none => (s.retire w a).busWrite w a v.toNat
  | .cap _ => s.quiet (execCaptureMemWrite w a) |>.retire w a
  | .absent => (s.retire w a).absentEvt w.mid a true false
  | .off => (s.retire w a).offEvt w.mid a true
  | _ => s

/-! ## The PCIe host (R8, R222, R486) -/

/-- What the host is told (DEDUCED, log 46). -/
def hostTold (s : State) (abort : Bool) (data : Word) : State :=
  { s with fab := { s.fab with hostAbort := abort, hostData := data } }

/-- A request of the host reaches its port. While the boot ROM waits for a recovery image the host may write RECOVER
(DEDUCED, log 46). -/
def hostRequest (s : State) (wr : Bool) (a : Nat) (v : Word) : State :=
  let recover := wr && a == secB + 0x100 && s.rom && s.sec.ran
  if s.pwr.perst || s.pwr.held then s
  else if s.isFrozen 0x70 then s.hostTold true 0
  else if recover then (s.portWrite 0x70 a 4 v.toNat).hostTold false 0
  else match s.portCheck 0x70 a 4 wr with
    | .freeze c => (s.freeze (masterRec 0x70 a c wr)).hostTold true 0
    | .absent => (s.absentEvt 0x70 a wr false).hostTold false 0
    | .off => (s.offEvt 0x70 a wr).hostTold false 0
    | .go =>
      if wr then (s.portWrite 0x70 a 4 v.toNat).hostTold false 0
      else let (d, s) := s.masterRead 0x70 a 4; s.hostTold false (BitVec.ofNat 32 d)

end State

/-! ## The commands -/

/-- REGISTER_WRITE (R12). -/
def execRegisterWrite (w : Wr) (addr : Nat) (v : Word) (s : State) : Ans := .next (s.land w addr v)
/-- PCIE_HOST_REQUEST (R8). -/
def execPcieHostRequest (wr : Bool) (addr : Nat) (v : Word) (s : State) : Ans := .next (s.hostRequest wr addr v)

end Sys2Proof.Machine
end

