-- ==== Sys2Proof/Machine/Cell.lean ====
section
/-!
DEFINITION. The shared operations of a cell controller (R109 to R149): its outputs and dead time, block sources, power
domains, shadows, trips, command checks, and what it takes from the blocks of its lane.
-/
namespace Sys2Proof.Machine

open Host

/-- What a command of the block answers (the same type as `Out`). -/
abbrev COut := Outcome State Fault Refusal

namespace State

/-- Change cell `c`. -/
def modCell (s : State) (c : Nat) (f : Cell → Cell) : State := s.setCell c (f (s.cell c))

/-- The fast domain of cell `c` is up (R113, R114). -/
def cellUp (s : State) (c : Nat) : Bool := (s.cell c).power == .acquire || (s.cell c).power == .linked
/-- Cell `c` is in LINKED (R114). -/
def cellLinked (s : State) (c : Nat) : Bool := (s.cell c).power == .linked

/-- A cause of FLT_STAT is latched (R147). -/
def cellFlt (s : State) (c i : Nat) : State := s.cwr c Cell.FLT_STAT.CAUSE (setBit (s.crd c Cell.FLT_STAT.CAUSE) i)

/-! ## Outputs (R122 to R126) -/

/-- DT in ticks; below 16 acts as 16 (R124) (DESIGN CHOICE, log 26). -/
def dt (s : State) (c : Nat) : Nat := max 16 (s.crd c Cell.PWM_DT.DT)

/-- Whole ticks of 32 UI in an interval of 2^-16 ns (R91, R124) (DESIGN CHOICE, log 26). -/
def ticksIn (d : Nat) : Nat := d * 165 / 33554432
/-- The instant of tick `a` after `t`, rounded up to 2^-16 ns (DESIGN CHOICE, log 26). -/
def tickAt (t a : Nat) : Nat := t + (a * 33554432 + 164) / 165

/-- The output pattern of a state (R122): bit 0 GA to bit 3 GD. -/
def pattern (s : State) (c st : Nat) : Nat :=
  if s.con c Cell.CFG.BRIDGE then
    (match st with
     | 0 => if s.con c Cell.CFG.BYPV then 5 else 10
     | 1 => 9
     | 2 => 6
     | _ => 0)
  else (match st with
     | 0 => 2
     | 1 => 1
     | _ => 0)

/-- A block source is active (R123). -/
def blocked (s : State) (c : Nat) : Bool :=
  let b := (s.cell c).blk
  b.hdr || b.lol || b.gsup || b.bist || s.con c Cell.CSTAT.BYPF

/-- The state of the safe pattern (R125). -/
def cellSafe (s : State) (c : Nat) : Nat := if s.crd c Cell.CFG.SAFE = 1 then 0 else 3

/-- Active ticks of a carrier period (R126). -/
def activeTicks (k : Carrier) : Nat := (k.duty.natAbs * k.per + 256) / 512

/-- The pattern the outputs are to show at instant `now` (R122, R123, R126). -/
def wantAt (s : State) (c now : Nat) : Nat :=
  let x := s.cell c
  if s.blocked c then 0
  else if s.crd c Cell.TRIPSTAT.TLATCH ≠ 0 then s.pattern c (s.cellSafe c)
  else match x.forced with
    | some lv => lv
    | none =>
      match x.carrier with
      | some k =>
        if ticksIn (now - k.start) < activeTicks k then s.pattern c (if k.duty < 0 then 2 else 1) else s.pattern c 0
      | none => s.pattern c (s.crd c Cell.CSTAT.STATE)

/-- The output state (R122). -/
def outState (s : State) (c : Nat) : Nat :=
  if s.blocked c then 3
  else if s.crd c Cell.TRIPSTAT.TLATCH ≠ 0 then s.cellSafe c
  else match (s.cell c).forced with
    | some lv =>
      if lv = s.pattern c 0 then 0
      else if lv = s.pattern c 1 then 1
      else if s.con c Cell.CFG.BRIDGE && lv == s.pattern c 2 then 2
      else 3
    | none => s.crd c Cell.CSTAT.STATE

/-- The leg partner of output `i`: GA with GB, GC with GD. -/
def partner (i : Nat) : Nat := if i % 2 = 0 then i + 1 else i - 1

/-- The level of output `i` at `now` behind the dead-time guard (R124). -/
def outLevel (x : Cell) (dt now i : Nat) : Bool :=
  x.pat.testBit i && decide (dt ≤ ticksIn (now - x.fell.getD i 0)) && decide (dt ≤ ticksIn (now - x.fell.getD (partner i) 0))

/-- The levels of GA to GD now; low while VGIO, the fast domain, is not functioning (R110). -/
def gates (s : State) (c : Nat) : List Bool :=
  (List.range 4).map (fun i => s.cellUp c && outLevel (s.cell c) (s.dt c) s.clk.ct i)

/-- The outputs are to show pattern `p` from `now`: an output that is high and is not in `p` falls (R124). -/
def showAt (x : Cell) (dt now p : Nat) : Cell :=
  { x with pat := p,
           fell := (List.range 4).map (fun i => if outLevel x dt now i && !p.testBit i then now else x.fell.getD i 0) }

/-- The edge in the middle of a carrier period that has passed takes place (R126). -/
def settle (s : State) (c : Nat) : State :=
  let x := s.cell c
  match x.carrier with
  | some k =>
    let e := tickAt k.start (activeTicks k)
    if e ≤ s.clk.ct && x.pat != s.wantAt c e && x.forced.isNone then s.setCell c (showAt x (s.dt c) e (s.wantAt c e)) else s
  | none => s

/-- The outputs and the status fields follow the sources of R123. -/
def syncOut (s : State) (c : Nat) : State :=
  let x := showAt (s.cell c) (s.dt c) s.clk.ct (s.wantAt c s.clk.ct)
  let s := s.setCell c x
  ((s.cwr c Cell.CSTAT.OSTATE (s.outState c)).cwrB c Cell.CSTAT.PWMRUN x.carrier.isSome).cwrB c Cell.CSTAT.FORCED
    x.forced.isSome

/-- The commanded state becomes block and the carrier stops (R123). -/
def cellBlock (s : State) (c cause : Nat) : State :=
  let s := s.settle c
  let s := s.modCell c (fun x => { x with carrier := none })
  ((s.cwr c Cell.CSTAT.STATE 3).cwr c Cell.CSTAT.BLKCAUSE cause).syncOut c

/-- The Occult latch is set (R139). -/
def setOcc (s : State) (c : Nat) : State := s.cwr c Cell.CSTAT.OCC 1

/-! ## Trips (R131) -/

/-- TACT follows the inputs (R149). -/
def syncTact (s : State) (c : Nat) : State :=
  s.cwrB c Cell.TRIPSTAT.TACT ((s.crd c Cell.TRIPSTAT.TIN &&& s.crd c Cell.TRIPCFG.TRIPEN) != 0)

/-- Enabled inputs that are active and not latched latch, each counting once (R131). -/
def tripScan (s : State) (c : Nat) : State :=
  let hit := (List.range 4).filter (fun i =>
    (s.crd c Cell.TRIPSTAT.TIN).testBit i && (s.crd c Cell.TRIPCFG.TRIPEN).testBit i &&
    !(s.crd c Cell.TRIPSTAT.TLATCH).testBit i)
  let s := s.syncTact c
  if hit.isEmpty then s
  else
    let s := hit.foldl (fun s i =>
      (s.cwr c Cell.TRIPSTAT.TLATCH (setBit (s.crd c Cell.TRIPSTAT.TLATCH) i)).cinc c (Cell.TRIPCNT.COUNT.at i)) s
    s.cellBlock c 0

/-! ## GSUP_OK (R134) -/

/-- GSUP_OK low with GSUP_LOCK = 1 is a block source (R123, R134). -/
def gsupCheck (s : State) (c : Nat) : State :=
  let x := s.cell c
  if s.con c Cell.CFG.GSUP_LOCK && !x.gsup then
    if x.blk.gsup then s
    else ((s.modCell c (fun x => { x with blk := { x.blk with gsup := true } })).cellFlt c 4).cellBlock c 6
  else (s.modCell c (fun x => { x with blk := { x.blk with gsup := false } })).syncOut c

/-! ## Power domains (R112 to R116) -/

/-- Keys of cell `c` whose field is not retained (R112, R149). -/
def volatileKeys (c : Nat) : List Nat :=
  (Cell.fields.filter (fun f => !f.ret)).flatMap (fun f => (List.range f.cnt).map (fun i => (f.at i).key (cellB c)))

/-- Every field that is not retained returns to its reset value; TIN, the pins behind TRIPPOL, follows the polarity (R149). -/
def dropVolatile (s : State) (c : Nat) (keep : List Nat) : State :=
  let p (k : Nat) : Bool := (volatileKeys c).contains k && !keep.contains k
  ({ s with cregs := s.cregs.drop p, cact := s.cact.drop p } : State).cwr c Cell.TRIPSTAT.TIN
    (s.crd c Cell.TRIPSTAT.TIN ^^^ s.crd c Cell.TRIPCFG.TRIPPOL)

/-- The fast domain stops (R113): registers that are not retained, latches, carrier, pending commands and reports are lost. -/
def fastStop (s : State) (c : Nat) (after : CellPower) : State :=
  let x := s.cell c
  (s.dropVolatile c []).setCell c { Cell.reset with power := after, vauxOn := x.vauxOn, gsup := x.gsup }

/-- Regulators are started where VAUX and AWREQ ask for it (R114). -/
def tryStart (s : State) (c : Nat) : State :=
  let x := s.cell c
  if x.power == .newt && x.vauxOn && s.con c Cell.CSTAT.AWREQ then s.setCell c { x with power := .starting } else s

/-- The level-sensitive sources act after a start or an end of test: GSUP_OK, trip inputs, bypass fired. -/
def afterReset (s : State) (c : Nat) : State := ((s.gsupCheck c).tripScan c).syncOut c

/-! ## Shadows of the carrier and FORCE (R128, R129) -/

/-- PAIRPEND: with PAIR = 1 a lone write waits (R128). -/
def cellSyncPair (s : State) (c : Nat) : State :=
  let x := s.cell c
  s.cwrB c Cell.CSTAT.PAIRPEND (s.con c Cell.CFG.PAIR && (x.perW != x.dutyW))

/-- The transfer point of PWM_PER and PWM_DUTY (R128): a period below 2 × DT + 64 discards the transfer with BADCMD. -/
def shadowTransfer (s : State) (c : Nat) : State :=
  let x := s.cell c
  let go := if s.con c Cell.CFG.PAIR then x.perW && x.dutyW else x.perW || x.dutyW
  if !go then s
  else
    let per := if x.perW then s.crd c Cell.PWM_PER.PER else s.crd c Cell.PWM_APER.PER
    let duty := if x.dutyW then s.crd c Cell.PWM_DUTY.DUTY else s.crd c Cell.PWM_ADUTY.DUTY
    let bad := per < 2 * s.dt c + 64
    let s := s.setCell c { x with perW := false, dutyW := false, badcmd := x.badcmd || decide bad }
    (if bad then s else (s.cwr c Cell.PWM_APER.PER per).cwr c Cell.PWM_ADUTY.DUTY duty).cellSyncPair c

/-- The transfer point of FORCE (R129). -/
def forceTransfer (s : State) (c : Nat) : State :=
  let x := s.cell c
  if x.forceW then
    s.setCell c { x with forceW := false,
                         forced := if s.con c Cell.FORCE.FEN then some (s.crd c Cell.FORCE.LEVEL) else none }
  else s

/-- A LEVEL that R129 refuses: both switches of a leg, or GC or GD on a half-bridge. -/
def badLevel (s : State) (c lv : Nat) : Bool :=
  (lv.testBit 0 && lv.testBit 1) || (lv.testBit 2 && lv.testBit 3) ||
  (!s.con c Cell.CFG.BRIDGE && (lv.testBit 2 || lv.testBit 3))

/-- The active period and duty, as a carrier that starts at `now`. -/
def carrierNow (s : State) (c : Nat) : Carrier :=
  ⟨s.crd c Cell.PWM_APER.PER, toSigned (s.crd c Cell.PWM_ADUTY.DUTY) 10, s.clk.ct⟩

/-- SYNCO pulses (R130). -/
def pulse (s : State) (c : Nat) : State := s.modCell c (fun x => { x with synco := some s.clk.ct })

/-- The level of SYNCO now: SYNCW ticks from the last pulse; 0 acts as 1 (R130, R149). -/
def syncoLevel (s : State) (c : Nat) : Bool :=
  match (s.cell c).synco with
  | some t => s.cellUp c && decide (ticksIn (s.clk.ct - t) < max 1 (s.crd c Cell.SYNCO_CTL.SYNCW))
  | none => false

/-- A carrier period starts (R126): the force in waiting takes effect and SYNCO pulses. -/
def startPeriod (s : State) (c : Nat) : State :=
  let s := s.settle c
  let s := s.forceTransfer c
  let k := s.carrierNow c
  ((s.modCell c (fun x => { x with carrier := some k, pwmc := true })).pulse c).syncOut c

/-! ## Command words (R117 to R121) -/

/-- The places in which an opcode is valid (R117). -/
def opValid (op : Nat) (p : Place) : Bool :=
  match op, p with
  | 0, _ | 1, _ => true
  | 2, .bcast => false
  | 2, _ => true
  | 3, .acmd | 4, .acmd | 5, .acmd | 6, .acmd | 7, .acmd | 10, .acmd | 11, .acmd | 13, .acmd | 14, .acmd => true
  | 4, .bcast | 6, .bcast | 10, .bcast | 11, .bcast => true
  | _, _ => false

/-- The command word that executes next (R119). -/
def nextWord (s : State) (c : Nat) : Option CmdEntry :=
  match (s.cell c).waiting with
  | w :: _ => some w.entry
  | [] => none

/-- An ACK = 1 entry has been dealt with: its SEQ is the last accepted one (R85, R112, R120). -/
def ackSeq (s : State) (c : Nat) (e : CmdEntry) : State :=
  match e.ack with
  | some q => (s.cwr c Cell.LASTSEQ.SEQ q.toNat).cwr c Cell.LASTSEQ.SEQV 1
  | none => s

/-- The entry repeats the last accepted SEQ (R85). -/
def duplicate (s : State) (c : Nat) (e : CmdEntry) : Bool :=
  match e.ack with
  | some q => s.con c Cell.LASTSEQ.SEQV && s.crd c Cell.LASTSEQ.SEQ == q.toNat
  | none => false

/-- A refused command has no effect but BADCMD (R120). -/
def refuse (s : State) (c : Nat) : State := s.modCell c (fun x => { x with badcmd := true })

/-- The next waiting word reaches its boundary (R119, R120): a cell outside LINKED drops it, a duplicate is not dealt with
again, BIST and a wrong place refuse it, and `ok` refuses or `f` executes it. -/
def command (s : State) (c : Nat) (e : CmdEntry) (op : Nat) (ok : State → Bool) (f g : State → State) : State :=
  if s.nextWord c = some e && cmdOp e.word == op then
    let s := s.modCell c (fun x => { x with waiting := x.waiting.tail })
    if !s.cellLinked c then s
    else if s.duplicate c e then s
    else
      let s := s.ackSeq c e
      if opValid op e.place && !s.con c Cell.BIST_STAT.BUSY && ok s then f s else (g s).refuse c
  else s

/-- A state may be commanded (R122): not while a block source is active, a trip is latched or BYPF = 1; insertion not while
CFGOK = 0; insert- not on a half-bridge. -/
def mayState (s : State) (c st : Nat) : Bool :=
  st == 3 ||
  (!s.blocked c && s.crd c Cell.TRIPSTAT.TLATCH == 0 &&
   (st == 0 || (s.con c Cell.CFG.CFGOK && (st == 1 || s.con c Cell.CFG.BRIDGE))))

/-! ## Cell registers (R121, R149) -/

/-- The cell runs (R149). -/
def cellRuns (s : State) (c : Nat) : Bool :=
  s.cellUp c && (s.crd c Cell.CSTAT.STATE != 3 || (s.cell c).carrier.isSome || (s.cell c).forced.isSome)

/-- A read of a cell register; an unlisted address reads zero, identity comes from OTP and fuses (R121, R149). -/
def cellReg (s : State) (c a : Nat) : Nat :=
  match a with
  | 0 => (Config.cellSerial c).toNat % 65536
  | 1 => (Config.cellSerial c).toNat / 65536 % 65536
  | 2 => (Config.cellSerial c).toNat / 2 ^ 32
  | 3 => (Config.cellRev c).toNat + 0x1200
  | _ =>
    (Cell.fields.flatMap (fun f => (List.range f.cnt).map (fun i => f.at i))).foldl
      (fun v f => if f.off = a && f.acc != .wo then v + s.crd c f * 2 ^ f.lsb else v) 0

/-- A cause whose condition persists latches again after it is cleared (R147): loss of light, GSUP_OK, PLL, failed BIST. -/
def relatch (s : State) (c : Nat) : State :=
  let x := s.cell c
  let s := if x.blk.lol then s.cellFlt c 2 else s
  let s := if x.blk.gsup then s.cellFlt c 4 else s
  let s := if x.txOff then s.cellFlt c 6 else s
  if s.con c Cell.BIST_STAT.FAIL then s.cellFlt c 11 else s

/-- The counters 0x30 to 0x36 clear (R149). -/
def cellCntClr (s : State) (c : Nat) : State :=
  let s := s.cwr c Cell.FSTART.COUNT 0
  let s := (List.range 4).foldl (fun s i => s.cwr c (Cell.TRIPCNT.COUNT.at i) 0) s
  (s.cwr c Cell.LOLCNT.COUNT 0).cwr c Cell.GUARDCNT.COUNT 0

/-- A write of CLR with BYPF_CLR = 1 and KEY = 0xB5 clears BYPF (R135). -/
def bypfClear (s : State) (c v : Nat) : State :=
  if v.testBit 1 && v / 256 % 256 == 0xB5 then (s.cwr c Cell.CSTAT.BYPF 0).syncOut c else s

/-- One field of a cell register word is written (R12, R14, R149). -/
def cellFldWrite (s : State) (c : Nat) (runs : Bool) (f : Fld) (data : Nat) : State :=
  let v := data / 2 ^ f.lsb % 2 ^ f.wid
  match f.acc with
  | .w1c => s.cwr c f (s.crd c f - (s.crd c f &&& v))
  | .rw =>
    if f.cls = .held && runs then
      if v = s.crd c f then s else (s.cwr c Cell.CSTAT.HELD_WR 1).cellFlt c 10
    else s.cwr c f v
  | _ => s

/-- A write of a cell register word (R121): the FORCE register is checked and discarded with BADCMD (R129). -/
def cellWrite (s : State) (c a data : Nat) : State :=
  if a = 0x10 && (!s.con c Cell.CFG.FORCE_PERM || s.badLevel c (data % 16)) then s.refuse c
  else
    let runs := s.cellRuns c
    let pol := s.crd c Cell.TRIPCFG.TRIPPOL
    let t := (Cell.fields.filter (fun f => f.off = a && f.cnt = 1)).foldl (fun s f => s.cellFldWrite c runs f data) s
    match a with
    | 0x06 => t.relatch c
    | 0x08 => ((t.gsupCheck c).cellSyncPair c).syncOut c
    | 0x09 => (t.cwr c Cell.TRIPSTAT.TIN (t.crd c Cell.TRIPSTAT.TIN ^^^ (pol ^^^ t.crd c Cell.TRIPCFG.TRIPPOL))).tripScan c
    | 0x0B => (t.modCell c (fun x => { x with perW := true })).cellSyncPair c
    | 0x0C => (t.modCell c (fun x => { x with dutyW := true })).cellSyncPair c
    | 0x10 => t.modCell c (fun x => { x with forceW := true })
    | 0x40 => (if data.testBit 0 then t.cellCntClr c else t).bypfClear c data
    | _ => t

/-! ## Blocks of the lane (R69 to R77) -/

/-- A frame block is accepted: good CRC, and the SUBN of the current subframe (R69). -/
def blockOk (s : State) (c : Nat) (b : Block) : Bool :=
  s.cellLinked c && b.good && b.subn.toNat == (s.cell c).sub % 65536

/-- A failed block counts in DCRC, which saturates at 7 (R69, R83). -/
def blockFail (s : State) (c : Nat) : State := s.modCell c (fun x => { x with dcrc := min 7 (x.dcrc + 1) })

/-- A block of type `ty` reaches cell `c`: it fails, is of another type and ignored, or is taken by `f` (R69). -/
def takeBlock (s : State) (c : Nat) (b : Block) (ty : Nat) (bad f : State → State) : State :=
  if !s.cellLinked c then s
  else if !s.blockOk c b then bad (s.blockFail c)
  else if b.btype.toNat = ty then f s
  else s

/-- The rank of a place in the order of R78. -/
def placeRank : Place → Nat
  | .slot => 0
  | .acmd => 1
  | .bcast => 2

/-- Whether `a` executes after `b` (R119, R78). -/
def later (a b : Waiting) : Bool :=
  decide (b.bound < a.bound) ||
  (a.bound == b.bound && (decide (b.frame < a.frame) || (a.frame == b.frame && decide (placeRank b.entry.place < placeRank a.entry.place))))

/-- Keep the words in the order they execute. -/
def insertWord (w : Waiting) : List Waiting → List Waiting
  | [] => [w]
  | x :: r => if later x w then w :: x :: r else x :: insertWord w r

/-- A word reaches the cell `margin` ns before the boundary after its frame: LATE if that leaves less than 20 ns to the
boundary it names, else it waits (R49, R71, R119). -/
def buffer (s : State) (c : Nat) (e : CmdEntry) (margin : Int) : State :=
  let x := s.cell c
  let ap := cmdApply e.word
  if margin + 1250 * (ap : Int) < 20 then s.setCell c { x with late := true }
  else s.setCell c { x with waiting := insertWord ⟨x.sub + 1 + ap, x.sub, e⟩ x.waiting }

/-- The cell's own slot, if it has one (R112). -/
def ownSlot (s : State) (c : Nat) : Option Nat :=
  if s.con c Cell.SLOT_R.SLOTV then some (s.crd c Cell.SLOT_R.SLOT) else none

/-- A CMD block carries the cell's own slot word (R71, R137). -/
def cellSlot (s : State) (c : Nat) (b : Block) (margin : Int) : State :=
  match s.ownSlot c with
  | some sl => if sl / 8 = b.bidx.toNat then s.buffer c ⟨b.word (sl % 8), .slot, none⟩ margin else s
  | none => s

/-- A MAINT block of operation `op` that names this cell's serial number (R76). -/
def maintFor (s : State) (c op : Nat) (b : Block) : Bool :=
  s.blockOk c b && b.btype == 0x05 && b.mop == op && b.serial == (Config.cellSerial c).toNat

/-! ## Transmission (R81, R140) -/

/-- The cell may transmit, apart from what a slot asks (R140, R147). -/
def mayTx (s : State) (c : Nat) : Bool :=
  s.cellLinked c && !s.con c Cell.CSTAT.OCC && s.con c Cell.SLOT_R.SLOTV && !(s.cell c).txOff

/-- TXSD is driven low, permitting the laser (R110, R139). -/
def laserAllowed (s : State) (c : Nat) : Bool := (s.cell c).power != .off && !s.con c Cell.CSTAT.OCC

/-- The map that governs the upstream frame of cycle `n` (R75). -/
def cellMap (s : State) (c n : Nat) : Option (GrantMap × Bool) :=
  (s.cell c).maps.find? (fun m => (m.1.cyc + 1) % 2 ^ 48 == n % 2 ^ 48)

/-- The burst is sent. -/
def send (s : State) (c : Nat) (b : BitVec 128) : State := s.modCell c (fun x => { x with burst := some b })

/-- The report of cycle `n` is sent if its map grants the slot once, it is stored and was not sent yet (R81, R140). -/
def reportOf (s : State) (c n : Nat) : Option (BitVec 128) :=
  match s.cellMap c n, (s.cell c).reports.find? (fun r => r.1 == n % 2 ^ 48) with
  | some (m, false), some r =>
    if (m.slots.filter (fun e => e == s.crd c Cell.SLOT_R.SLOT)).length = 1 then some r.2 else none
  | _, _ => none

/-- Mark the report of cycle `n` as sent. -/
def markSent (s : State) (c n : Nat) : State :=
  s.modCell c (fun x => { x with maps := x.maps.map (fun m => if (m.1.cyc + 1) % 2 ^ 48 == n % 2 ^ 48 then (m.1, true) else m) })

/-! ## Reports and conversions (R142 to R145) -/

/-- Unipolar code of `v` µV for a full scale of 1.2 V (R144, R279, R280) (DESIGN CHOICE, log 26). -/
def uniCode (v : Int) : Nat := (clampI 0 4095 (v * 4096 / 1200000)).toNat
/-- Signed code of `v` µV for ±`fs` µV (DESIGN CHOICE, log 26). -/
def sgnCode (v fs : Int) : Nat := ofSigned (clampI (-2048) 2047 (v * 2048 / fs)) 12

/-- The report the cell freezes (R83, R142); DSEE, a reading of its own receiver, is a free value. -/
def freezeReport (s : State) (c : Nat) : ReportFields :=
  let x := s.cell c
  { slot := s.crd c Cell.SLOT_R.SLOT, cyc := x.meas.cyc % 256, rg := false, vca := s.crd c Cell.VCA.CODE,
    vcb := s.crd c Cell.VCB.CODE, ova := s.con c Cell.VCA.OV, ovb := s.con c Cell.VCB.OV, state := x.meas.state,
    pwmc := x.pwmc, late := x.late, ackseq := s.crd c Cell.LASTSEQ.SEQ, ackv := s.con c Cell.LASTSEQ.SEQV,
    dcrc := x.dcrc, trip := s.crd c Cell.TRIPSTAT.TLATCH, tact := s.con c Cell.TRIPSTAT.TACT, gsup := x.gsup,
    bypa := s.con c Cell.CSTAT.BYPA, bypf := s.con c Cell.CSTAT.BYPF, ppend := s.con c Cell.CSTAT.PAIRPEND,
    flt := (s.crd c Cell.FLT_STAT.CAUSE &&& (0x1FFF - s.crd c Cell.FLT_MASK.MASK)) != 0, badcmd := x.badcmd,
    temp := s.crd c Cell.TEMPC.CODE / 4, dsee := s.freeWord.1.toNat % 16, rdv := x.rdv, raddr := x.raddr,
    rdata := x.rdata, rstep := s.crd c Cell.FSTART.COUNT % 16 }

end State

end Sys2Proof.Machine
end

