-- ==== Sys2Proof/Machine/CellCmd.lean ====
section
/-!
DEFINITION. The meanings of the cell rows: blocks of the lane (R69 to R77), command words (R117 to R135), the transmitter
(R81 to R88, R139 to R142), conversions (R143 to R146), faults (R147), self-test (R148) and power (R110 to R116).
-/
namespace Sys2Proof.Machine

open Host

/-! ## Blocks of the lane -/

/-- HDR (R69, R70): accepted on its CRC; a lost one advances the subframe count and the predicted OFS. -/
def execCellHdrAccept (c : Nat) (b : Block) (s : State) : COut :=
  .next (
    if !s.cellUp c then s
    else
      let x := s.cell c
      if !b.good then
        if s.cellLinked c then
          let i := if x.idx + 1 < x.nsub then x.idx + 1 else 0
          (s.setCell c { x with sub := (x.sub + 1) % 2 ^ 32, ofs := (x.ofs + 726) % 1056, failed := [], idx := i,
                                cyc := if i = 0 then (x.cyc + 1) % 2 ^ 48 else x.cyc,
                                mapNew := if i = 0 then [] else x.mapNew }).blockFail c
        else s.blockFail c
      else if b.btype.toNat ≠ 1 then s
      else
        let d0 := b.wd 0
        let sidx := bits d0 31 26
        let x' := { x with power := .linked, sub := b.wd 2, ofs := bits (b.wd 1) 10 0, idx := sidx, nsub := bits d0 14 9,
                           align := bits (b.wd 3) 7 0, run := (b.wd 3).testBit 8, failed := [],
                           cyc := if d0.testBit 25 then (x.cyc + 1) % 2 ^ 48 else x.cyc,
                           mapNew := if d0.testBit 25 then [] else x.mapNew,
                           blk := { x.blk with hdr := d0.testBit 24, lol := false } }
        let s := s.setCell c x'
        let s := if d0.testBit 23 then s.setOcc c else s
        if d0.testBit 24 then s.cellBlock c 1 else s.syncOut c)

/-- CMD (R71): the cell's own slot word waits for its boundary; a failed block is noted for its repeat (R77). -/
def execCellCmdBlock (c : Nat) (b : Block) (margin : Int) (s : State) : COut :=
  .next (s.takeBlock c b 0x10 (fun s => s.modCell c (fun x => { x with failed := b.bidx.toNat :: x.failed }))
    (fun s => s.cellSlot c b margin))

/-- RPT (R77): used only when the first copy failed, and then only if R49 allows it. -/
def execCellRptBlock (c : Nat) (b : Block) (margin : Int) (s : State) : COut :=
  .next (s.takeBlock c b 0x12 id (fun s =>
    if (s.cell c).failed.contains b.bidx.toNat then
      (s.modCell c (fun x => { x with failed := x.failed.filter (fun i => i != b.bidx.toNat) })).cellSlot c b margin
    else s))

/-- ACMD (R72, R85): the entry for the cell's slot waits for its boundary. -/
def execCellAcmd (c : Nat) (b : Block) (margin : Int) (s : State) : COut :=
  .next (s.takeBlock c b 0x11 id (fun s =>
    match s.ownSlot c with
    | some sl =>
      (match acmdFor b sl with
       | some e => s.buffer c e margin
       | none => s)
    | none => s))

/-- BCAST (R73): each word as if addressed to the cell. -/
def execCellBcast (c : Nat) (b : Block) (margin : Int) (s : State) : COut :=
  .next (s.takeBlock c b 0x03 id (fun s =>
    (List.range 8).foldl (fun s i => s.buffer c ⟨b.word i, .bcast, none⟩ margin) s))

/-- MER (R74): cycle number and package time of B_0. -/
def execCellMer (c : Nat) (b : Block) (s : State) : COut :=
  .next (s.takeBlock c b 0x02 id (fun s => s.modCell c (fun x =>
    { x with cyc := b.wd 0 + b.wd 1 % 65536 * 2 ^ 32, sec := b.wd 2 + b.wd 3 * 2 ^ 32, ns := b.wd 4,
             frac := b.wd 5 % 65536 })))

/-- GRANT (R75): with the fourth block the map is whole; it governs the upstream frame of the next cycle. -/
def execCellGrant (c : Nat) (b : Block) (s : State) : COut :=
  .next (s.takeBlock c b 0x04 id (fun s => s.modCell c (fun x =>
    let got := b :: x.mapNew.filter (fun y => y.bidx != b.bidx && y.subn == b.subn)
    if (List.range 4).all (fun i => got.any (fun y => y.bidx.toNat == i)) then
      { x with mapNew := [], maps := ((parseMap x.cyc got, false) :: x.maps).take 3, txOff := false }
    else { x with mapNew := got })))

/-- MAINT MOP 1 (R76): SLOT is assigned, EQV and the Occult latch clear. -/
def execEnableTx (c : Nat) (b : Block) (s : State) : COut :=
  .next (
    if s.maintFor c 1 b then
      (((s.cwr c Cell.SLOT_R.SLOT b.mslot).cwr c Cell.SLOT_R.SLOTV 1).cwr c Cell.CSTAT.EQV 0).cwr c Cell.CSTAT.OCC 0
    else if s.cellLinked c && !s.blockOk c b then s.blockFail c else s)

/-- OCCULT (R139): by identity in MAINT at once, or as the ACMD entry for the cell's slot at its boundary. -/
def execOccult (c : Nat) (byId : Bool) (b : Block) (s : State) : COut :=
  .next (
    if byId then
      if s.maintFor c 2 b then s.setOcc c
      else if s.cellLinked c && !s.blockOk c b then s.blockFail c else s
    else match s.ownSlot c with
      | some sl =>
        (match acmdFor b sl with
         | some e => s.command c e 7 (fun _ => cmdArg e.word == 0) (fun s => s.setOcc c) id
         | none => s)
      | none => s)

/-- MAINT MOP 3 (R76): the Occult latch is set, EQV clears, the slot is forgotten. -/
def execRelease (c : Nat) (b : Block) (s : State) : COut :=
  .next (
    if s.maintFor c 3 b then ((s.setOcc c).cwr c Cell.CSTAT.EQV 0).cwr c Cell.SLOT_R.SLOTV 0
    else if s.cellLinked c && !s.blockOk c b then s.blockFail c else s)

/-- MAINT MOP 4 (R76): RTD and DDN are loaded together and EQV is set, if SLOT equals the cell's slot too. -/
def execEqset (c : Nat) (b : Block) (s : State) : COut :=
  .next (
    if s.maintFor c 4 b && s.ownSlot c == some b.mslot then
      let r := bits (b.wd 2) 19 0
      let d := bits (b.wd 3) 19 0
      ((((s.cwr c Cell.RTD_L.VAL (r % 65536)).cwr c Cell.RTD_H.VAL (r / 65536)).cwr c Cell.DDN_L.VAL (d % 65536)).cwr c
        Cell.DDN_H.VAL (d / 65536)).cwr c Cell.CSTAT.EQV 1
    else if s.cellLinked c && !s.blockOk c b then s.blockFail c else s)

/-! ## Command words -/

/-- NOP has no effect (R117); a word whose opcode no command word may carry, or a NOP with operand bits, is refused here
(R117, R118). -/
def execNop (c : Nat) (e : CmdEntry) (s : State) : COut :=
  .next (
    let op := cmdOp e.word
    if op = 0 then
      if s.nextWord c = some e then
        let s := s.modCell c (fun x => { x with waiting := x.waiting.tail })
        if !s.cellLinked c || s.duplicate c e then s
        else
          let s := s.ackSeq c e
          if cmdArg e.word = 0 then s else s.refuse c
      else s
    else if op = 8 ∨ op = 9 ∨ op = 12 ∨ op = 15 ∨ (op = 7 ∧ e.place ≠ .acmd) then s.command c e op (fun _ => false) id id
    else s)

/-- SET_STATE (R122): the commanded state, and the carrier stops. -/
def execSetState (c : Nat) (e : CmdEntry) (s : State) : COut :=
  .next (s.command c e 1 (fun s => decide (cmdArg e.word < 4) && s.mayState c (cmdArg e.word))
    (fun s =>
      let s := s.settle c
      let s := s.modCell c (fun x => { x with carrier := none })
      ((s.cwr c Cell.CSTAT.STATE (cmdArg e.word)).cwr c Cell.CSTAT.BLKCAUSE 0).syncOut c) id)

/-- SET_PWM (R126, R127): PER and DUTY are transferred and a carrier period starts. -/
def execSetPwm (c : Nat) (e : CmdEntry) (s : State) : COut :=
  .next (
    let per := cmdArg e.word % 65536
    let duty := toSigned (cmdArg e.word / 65536) 10
    let st := if duty < 0 then 2 else 1
    s.command c e 2 (fun s => s.mayState c st && decide (2 * s.dt c + 64 ≤ per))
      (fun s =>
        let s := s.modCell c (fun x => { x with perW := false, dutyW := false })
        let s := (((s.cwr c Cell.PWM_PER.PER per).cwr c Cell.PWM_DUTY.DUTY (cmdArg e.word / 65536)).cwr c Cell.PWM_APER.PER
          per).cwr c Cell.PWM_ADUTY.DUTY (cmdArg e.word / 65536)
        (((s.cwr c Cell.CSTAT.STATE st).cwr c Cell.CSTAT.BLKCAUSE 0).cellSyncPair c).startPeriod c) id)

/-- FORCE (R129): LEVEL and FEN wait for the next period start or boundary. -/
def execForce (c : Nat) (e : CmdEntry) (s : State) : COut :=
  .next (s.command c e 3
    (fun s => decide (cmdArg e.word < 32) && s.con c Cell.CFG.FORCE_PERM && !s.badLevel c (cmdArg e.word % 16))
    (fun s =>
      ((s.cwr c Cell.FORCE.LEVEL (cmdArg e.word % 16)).cwr c Cell.FORCE.FEN (cmdArg e.word / 16)).modCell c
        (fun x => { x with forceW := true })) id)

/-- CLEAR_TRIP (R133): the latches MASK selects, unless a selected enabled input is active. -/
def execClearTrip (c : Nat) (e : CmdEntry) (s : State) : COut :=
  .next (
    let m := cmdArg e.word
    s.command c e 4
      (fun s => decide (m < 16) && (s.crd c Cell.TRIPSTAT.TIN &&& s.crd c Cell.TRIPCFG.TRIPEN &&& m) == 0)
      (fun s =>
        let l := s.crd c Cell.TRIPSTAT.TLATCH
        (s.cwr c Cell.TRIPSTAT.TLATCH (l - (l &&& m))).syncOut c) id)

/-- READ_REG (R121): the register goes into the next report. -/
def execReadReg (c : Nat) (e : CmdEntry) (s : State) : COut :=
  .next (
    let a := bits (cmdArg e.word) 23 16
    s.command c e 5 (fun _ => cmdArg e.word == a * 65536)
      (fun s => s.modCell c (fun x => { x with rdv := true, raddr := a, rdata := s.cellReg c a })) id)

/-- WRITE_REG (R121): the register is written under its field's class. -/
def execWriteReg (c : Nat) (e : CmdEntry) (s : State) : COut :=
  .next (s.command c e 6 (fun _ => decide (cmdArg e.word < 2 ^ 24))
    (fun s => s.cellWrite c (bits (cmdArg e.word) 23 16) (cmdArg e.word % 65536)) id)

/-- CLR.CLRCNT (R149): the retained counters clear. -/
def execCellClrcnt (c : Nat) (s : State) : COut := .next (if s.cellUp c then s.cellCntClr c else s)

/-- CLR.BYPF_CLR with KEY = 0xB5 clears BYPF (R135). -/
def execBypfClr (c : Nat) (v : Half) (s : State) : COut := .next (if s.cellUp c then s.bypfClear c v.toNat else s)

/-- SLEEP (R116): accepted while the commanded state is block; a selected cell goes to sleep. -/
def execSleep (c : Nat) (e : CmdEntry) (s : State) : COut :=
  .next (
    let a := cmdArg e.word
    let mode := a / 2 ^ 24
    let slot := bits a 22 16
    s.command c e 10
      (fun s => s.crd c Cell.CSTAT.STATE == 3 && decide (mode < 3) && a == mode * 2 ^ 24 + slot * 65536)
      (fun s =>
        if (match mode with
            | 0 => s.ownSlot c == some slot
            | 1 => true
            | _ => s.con c Cell.CSTAT.OCC) then
          ((s.setOcc c).cwr c Cell.CSTAT.AWREQ 0).fastStop c .newt
        else s) id)

/-- BIST_START (R148): accepted while the commanded state is block. -/
def execBistStart (c : Nat) (e : CmdEntry) (s : State) : COut :=
  .next (s.command c e 11 (fun s => s.crd c Cell.CSTAT.STATE == 3 && decide (cmdArg e.word < 3))
    (fun s =>
      let s := s.modCell c (fun x => { x with blk := { x.blk with bist := true } })
      (((s.cwr c Cell.BIST_STAT.BUSY 1).cwr c Cell.BIST_STAT.TYPE (cmdArg e.word)).cwr c Cell.CSTAT.BYPA 0).cellBlock c 7) id)

/-- Cell BIST ends (R148): MISR against golden value, then every field that is not retained returns to its reset value;
BIST_STAT survives, the MISR stays readable, and BISTFAIL latches again while FAIL = 1. -/
def execCellBistEnd (c : Nat) (misr golden : BitVec 64) (s : State) : COut :=
  .next (
    if s.cellUp c && s.con c Cell.BIST_STAT.BUSY then
      let keep := (Cell.fields.filter (fun f => f.off = 0x28)).map (fun f => f.key (cellB c))
      let s := s.dropVolatile c keep
      let s := ((s.cwr c Cell.BIST_STAT.BUSY 0).cwrB c Cell.BIST_STAT.PASS (misr == golden)).cwrB c Cell.BIST_STAT.FAIL
        (misr != golden)
      let s := (List.range 4).foldl (fun s i => s.cwr c (Cell.BIST_SIG.SIG.at i) (misr.toNat / 2 ^ (16 * i) % 65536)) s
      let s := s.modCell c (fun x =>
        { x with blk := { x.blk with bist := false, gsup := false }, carrier := none, forced := none, forceW := false,
                 perW := false, dutyW := false })
      (s.afterReset c).relatch c
    else s)

/-- ARM_BYPASS (R135): BYPA with its KEY, which is not zero. -/
def execArmBypass (c : Nat) (e : CmdEntry) (s : State) : COut :=
  .next (s.command c e 13 (fun _ => decide (0 < cmdArg e.word) && decide (cmdArg e.word < 256))
    (fun s => (s.cwr c Cell.CSTAT.BYPA 1).modCell c (fun x => { x with key := cmdArg e.word })) id)

/-- FIRE_BYPASS (R135): with BYPA = 1 and the arming KEY, else refused and BYPA clears. -/
def execFireBypass (c : Nat) (e : CmdEntry) (s : State) : COut :=
  .next (s.command c e 14
    (fun s => decide (0 < cmdArg e.word) && s.con c Cell.CSTAT.BYPA && (s.cell c).key == cmdArg e.word)
    (fun s =>
      let s := s.modCell c (fun x => { x with byp := true })
      ((s.cwr c Cell.CSTAT.BYPF 1).cwr c Cell.CSTAT.BYPA 0).cellBlock c 5)
    (fun s => s.cwr c Cell.CSTAT.BYPA 0))

/-- The arming window ends (R135). -/
def execBypassWindowExpiry (c : Nat) (s : State) : COut := .next (if s.cellUp c then s.cwr c Cell.CSTAT.BYPA 0 else s)

/-- The BYP pulse ends (R135). -/
def execBypPulseEnd (c : Nat) (s : State) : COut := .next (s.modCell c (fun x => { x with byp := false }))

/-! ## Transmitter -/

/-- RANGE (R88, R140): the ranging burst, if the ranging entry of the map in force names the cell's slot. -/
def execRange (c : Nat) (s : State) : COut :=
  .next (
    let sl := s.crd c Cell.SLOT_R.SLOT
    match s.cellMap c (s.cell c).cyc with
    | some (m, _) =>
      (match m.rng with
       | some (r, _) =>
         if s.mayTx c && m.mode == 2 && r == sl then s.send c (rangingBurst sl (Config.cellSerial c).toNat) else s
       | none => s)
    | none => s)

/-- The cell transmits its report in its report slot (R81, R88, R140): of the previous cycle's frame while that can still
be open, which is until 2,000 ns after the Meridian (R51), else of this cycle's. -/
def execCellReportTx (c : Nat) (s : State) : COut :=
  .next (
    let n := (s.cell c).cyc
    let p := (n + 2 ^ 48 - 1) % 2 ^ 48
    if s.mayTx c && s.con c Cell.CSTAT.EQV then
      match (if (s.cell c).idx < 2 then s.reportOf c p else none) with
      | some b => (s.markSent c p).send c b
      | none =>
        match s.reportOf c n with
        | some b => (s.markSent c n).send c b
        | none => s
    else s)

/-- The cell answers re-grant entry `m` with its stored report of the named CYC and RG = 1; nothing if it is not among the
last eight (R86, R140). -/
def execCellRegrantTx (c : Nat) (m : Nat) (s : State) : COut :=
  .next (
    match s.cellMap c (s.cell c).cyc with
    | some (g, _) =>
      (match g.rgs[m]? with
       | some (sl, cy) =>
         if s.mayTx c && g.mode == 1 && sl == s.crd c Cell.SLOT_R.SLOT then
           (match (s.cell c).reports.find? (fun r => r.1 % 256 == cy) with
            | some r => s.send c (withCrc (setBit (r.2.toNat / 65536) 96))
            | none => s)
         else s
       | none => s)
    | none => s)

/-- The report of the cycle is frozen and stored (R142). -/
def execCellReportFreeze (c : Nat) (s : State) : COut :=
  .next (
    if !s.cellUp c then s
    else
      let r := (s.freezeReport c).pack
      let s := s.freeWord.2
      s.modCell c (fun x => { x with reports := ((x.meas.cyc, r) :: x.reports).take 8, badcmd := false, late := false,
                                     dcrc := 0, rdv := false }))

/-- The SARs convert (R143): index 0 VCAP_A and VCAP_B, 1 TEMP and AUXIN, 2 the check channel, inputs in µV. The measure
instant lies before the Meridian frame reaches the cell, so its cycle is the one after the last header's (R51, R66). -/
def execCellConversion (c idx : Nat) (va vb : Int) (s : State) : COut :=
  .next (
    if !s.cellUp c then s
    else match idx with
      | 0 =>
        let sel := s.crd c Cell.CAL_STAT.CALSEL
        let s := ((s.cwr c Cell.VCA.CODE (State.uniCode va)).cwrB c Cell.VCA.OV (decide (1200000 ≤ va))).cwrB c Cell.VCA.SRC
          (sel == 1)
        let s := ((s.cwr c Cell.VCB.CODE (State.uniCode vb)).cwrB c Cell.VCB.OV (decide (1200000 ≤ vb))).cwrB c Cell.VCB.SRC
          (sel == 2)
        s.modCell c (fun x =>
          { x with meas := ⟨if x.idx = 0 then x.cyc else (x.cyc + 1) % 2 ^ 48, s.outState c⟩ })
      | 1 => (s.cwr c Cell.TEMPC.CODE (State.sgnCode va 600000)).cwr c Cell.AUXC.CODE (State.uniCode vb)
      | 2 =>
        let a := State.uniCode va
        let b := State.uniCode vb
        let s := (s.cwr c Cell.CHKA.CODE a).cwr c Cell.CHKB.CODE b
        let n := if s.crd c Cell.CHK_CTL.CHK_WIN < (if a < b then b - a else a - b) then (s.cell c).chk + 1 else 0
        let s := s.modCell c (fun x => { x with chk := n })
        if 2 ≤ n then s.cellFlt c 0 else s
      | _ => s)

/-- The spare slice switches to the other SAR (R146); a result outside the trim range keeps the old trim. -/
def execCellCalSwitch (c : Nat) (inRange : Bool) (s : State) : COut :=
  .next (
    if !s.cellUp c then s
    else
      let sel := s.crd c Cell.CAL_STAT.CALSEL
      let s := if inRange then s
        else if sel = 1 then (s.cwr c Cell.CAL_STAT.CALFAILA 1).cellFlt c 1
        else if sel = 2 then (s.cwr c Cell.CAL_STAT.CALFAILB 1).cellFlt c 1
        else s
      s.cwr c Cell.CAL_STAT.CALSEL (if sel = 1 then 2 else 1))

/-! ## Carrier and inputs -/

/-- The carrier reaches PER and starts its next period (R126, R128, R129). -/
def execCarrierPeriodStart (c : Nat) (s : State) : COut :=
  .next (if s.cellUp c && (s.cell c).carrier.isSome then (s.shadowTransfer c).startPeriod c else s)

/-- An aligned subframe boundary (R128 to R130): with no carrier running, shadows and FORCE transfer and SYNCO pulses if
SYNC_SRC = 1. -/
def execCellAlignedBoundary (c : Nat) (s : State) : COut :=
  .next (
    if !s.cellUp c then s
    else if (s.cell c).carrier.isSome then s.modCell c (fun x => { x with pwmc := true })
    else
      let s := ((s.modCell c (fun x => { x with pwmc := false })).shadowTransfer c).forceTransfer c
      (if s.con c Cell.CFG.SYNC_SRC then s.pulse c else s).syncOut c)

/-- Trip input `i` is active for 20 ns (R131). -/
def execTripInput (c i : Nat) (s : State) : COut :=
  .next (
    let s := s.cwr c Cell.TRIPSTAT.TIN (setBit (s.crd c Cell.TRIPSTAT.TIN) (i % 4))
    if s.cellUp c then s.tripScan c else s)

/-- A trip input returns to its inactive level (R131). -/
def execTripInputInactive (c i : Nat) (s : State) : COut :=
  .next (
    let s := s.cwr c Cell.TRIPSTAT.TIN (clrBit (s.crd c Cell.TRIPSTAT.TIN) (i % 4))
    if s.cellUp c then s.syncTact c else s)

/-- GSUP_OK is low for 1 µs (R134). -/
def execGsupLow (c : Nat) (s : State) : COut :=
  .next (
    let s := s.modCell c (fun x => { x with gsup := false })
    if s.cellUp c then s.gsupCheck c else s)

/-- GSUP_OK returns high (R134): its block source ends; the commanded state stays block (R123). -/
def execGsupOkRestored (c : Nat) (s : State) : COut :=
  .next (
    let s := s.modCell c (fun x => { x with gsup := true })
    if s.cellUp c then s.gsupCheck c else s)

/-! ## Faults -/

/-- Loss of light in LINKED (R114, R136). -/
def execLossOfLight (c : Nat) (s : State) : COut :=
  .next (
    if s.cellLinked c then
      let s := s.modCell c (fun x => { x with power := .acquire, blk := { x.blk with lol := true } })
      ((s.cellFlt c 2).cinc c Cell.LOLCNT.COUNT).cellBlock c 2
    else s)

/-- No own CMD block for LOLT µs in LINKED (R137). -/
def execLolTimeout (c : Nat) (s : State) : COut :=
  .next (if s.cellLinked c then (s.cellFlt c 3).cellBlock c 3 else s)

/-- The transmit guard cuts TXEN (R141). -/
def execTxGuardViolation (c : Nat) (s : State) : COut :=
  .next (if s.cellUp c then ((s.setOcc c).cellFlt c 5).cinc c Cell.GUARDCNT.COUNT else s)

/-- PLL unlock in LINKED (R147): block, and TXEN low until relocked and a full map accepted. -/
def execCellPllUnlock (c : Nat) (s : State) : COut :=
  .next (if s.cellLinked c then ((s.modCell c (fun x => { x with txOff := true })).cellFlt c 6).cellBlock c 0 else s)

/-- A parity error (R147): block, and pending commands are discarded. -/
def execCellParityError (c : Nat) (s : State) : COut :=
  .next (if s.cellUp c then ((s.modCell c (fun x => { x with waiting := [] })).cellFlt c 7).cellBlock c 0 else s)

/-- The duplicated decoders disagree about a waiting command (R147): it is discarded and the outputs block. -/
def execCellDupmis (c : Nat) (e : CmdEntry) (s : State) : COut :=
  .next (
    if s.cellUp c then
      let s := s.modCell c (fun x => { x with waiting := x.waiting.eraseP (fun w => w.entry == e) })
      (s.cellFlt c 8).cellBlock c 0
    else s)

/-- Die temperature above 135 °C (R147). -/
def execCellOvertemp (c : Nat) (s : State) : COut := .next (if s.cellUp c then s.cellFlt c 9 else s)

/-- VAUX below 2.7 V while above VAUX_OFF (R147). -/
def execVauxlow (c : Nat) (s : State) : COut := .next (if s.cellUp c then s.cellFlt c 12 else s)

/-! ## Power (R111 to R116) -/

/-- VNEWT rises above 1.00 V: a newt cold start (R112, R114). -/
def execNewtColdStart (c : Nat) (s : State) : COut :=
  .next (
    if (s.cell c).power == .off then
      let tin := s.crd c Cell.TRIPSTAT.TIN
      let p (k : Nat) : Bool := decide (cellB c * 32 ≤ k) && decide (k < cellB (c + 1) * 32)
      let s := { s with cregs := s.cregs.drop p, cact := s.cact.drop p }
      ((s.cwr c Cell.TRIPSTAT.TIN tin).modCell c (fun x => { x with power := .newt })).tryStart c
    else s)

/-- VAUX reaches VAUX_ON: with AWREQ = 1 a cell in NEWT starts its regulators (R114). -/
def execVauxOnRise (c : Nat) (s : State) : COut :=
  .next ((s.modCell c (fun x => { x with vauxOn := true })).tryStart c)

/-- The wake tone is heard (R115): only in NEWT with VAUX at or above VAUX_ON. -/
def execWake (c : Nat) (s : State) : COut :=
  .next (
    if (s.cell c).power == .newt && (s.cell c).vauxOn then (s.cwr c Cell.CSTAT.AWREQ 1).tryStart c else s)

/-- The regulators are in range (R113, R114): fast-domain start in block with BLKCAUSE 4. -/
def execRegulatorsInRange (c : Nat) (s : State) : COut :=
  .next (
    if (s.cell c).power == .starting then
      let s := (s.dropVolatile c []).modCell c (fun x => { x with power := .acquire })
      (s.cinc c Cell.FSTART.COUNT).afterReset c
    else s)

/-- VAUX falls below VAUX_OFF (R114): the fast domain goes off. -/
def execVauxOffFall (c : Nat) (s : State) : COut :=
  .next (
    let s := s.modCell c (fun x => { x with vauxOn := false })
    if (s.cell c).power == .starting || s.cellUp c then s.fastStop c .newt else s)

/-- VNEWT falls below 0.90 V (R111, R114): the newt domain is lost. -/
def execNewtBrownout (c : Nat) (s : State) : COut := .next (s.fastStop c .off)

end Sys2Proof.Machine
end

