-- ==== Sys2Proof/Machine/Dispatch.lean ====
section
/-!
DEFINITION. One command on everything but the queue: one arm per constructor of `Instr`.
-/
namespace Sys2Proof.Machine

open Sys2Proof

/-- What a command does. -/
def exec (i : Instr) (s : State) : Host.Outcome State Fault Refusal :=
  match i with
  | .registerWrite w addr v => Sys2Proof.Machine.execRegisterWrite w addr v s
  | .capq m o => Sys2Proof.Machine.execCapq m o s
  | .absentClr w => Sys2Proof.Machine.execAbsentClr w s
  | .pcieHostRequest wr addr v => Sys2Proof.Machine.execPcieHostRequest wr addr v s
  | .cycleWriteLand m addr v => Sys2Proof.Machine.execCycleWriteLand m addr v s
  | .cycCommit m n t => Sys2Proof.Machine.execCycCommit m n t s
  | .flitCrcFail link => Sys2Proof.Machine.execFlitCrcFail link s
  | .fabricTimeout m wr addr => Sys2Proof.Machine.execFabricTimeout m wr addr s
  | .fabErrclr w => Sys2Proof.Machine.execFabErrclr w s
  | .windowTableEccError ue => Sys2Proof.Machine.execWindowTableEccError ue s
  | .subframeBoundary => Sys2Proof.Machine.execSubframeBoundary s
  | .upstreamSlotsDone => Sys2Proof.Machine.execUpstreamSlotsDone s
  | .cycleTimerEn w v => Sys2Proof.Machine.execCycleTimerEn w v s
  | .cycleTimerStart => Sys2Proof.Machine.execCycleTimerStart s
  | .cycleTimerDis w => Sys2Proof.Machine.execCycleTimerDis w s
  | .cycleTimerStop => Sys2Proof.Machine.execCycleTimerStop s
  | .cycNumLoRead m => Sys2Proof.Machine.execCycNumLoRead m s
  | .modBuildCutoff k => Sys2Proof.Machine.execModBuildCutoff k s
  | .rankComplete k glitch => Sys2Proof.Machine.execRankComplete k glitch s
  | .checkerVerdict k => Sys2Proof.Machine.execCheckerVerdict k s
  | .refstale k a => Sys2Proof.Machine.execRefstale k a s
  | .plausibilityExclusion k c => Sys2Proof.Machine.execPlausibilityExclusion k c s
  | .trendPeriodEnd k => Sys2Proof.Machine.execTrendPeriodEnd k s
  | .armCntclr w k a => Sys2Proof.Machine.execArmCntclr w k a s
  | .cvAgeClear w k => Sys2Proof.Machine.execCvAgeClear w k s
  | .pfxClear w k c => Sys2Proof.Machine.execPfxClear w k c s
  | .modRamError k c ue => Sys2Proof.Machine.execModRamError k c ue s
  | .laneBuildCutoff ln => Sys2Proof.Machine.execLaneBuildCutoff ln s
  | .frameStart ln => Sys2Proof.Machine.execFrameStart ln s
  | .cellHdrAccept c b => Sys2Proof.Machine.execCellHdrAccept c b s
  | .cellCmdBlock c b margin => Sys2Proof.Machine.execCellCmdBlock c b margin s
  | .cellRptBlock c b margin => Sys2Proof.Machine.execCellRptBlock c b margin s
  | .cellAcmd c b margin => Sys2Proof.Machine.execCellAcmd c b margin s
  | .cellBcast c b margin => Sys2Proof.Machine.execCellBcast c b margin s
  | .cellMer c b => Sys2Proof.Machine.execCellMer c b s
  | .cellGrant c b => Sys2Proof.Machine.execCellGrant c b s
  | .enableTx c b => Sys2Proof.Machine.execEnableTx c b s
  | .occult c byId b => Sys2Proof.Machine.execOccult c byId b s
  | .release c b => Sys2Proof.Machine.execRelease c b s
  | .eqset c b => Sys2Proof.Machine.execEqset c b s
  | .nop c e => Sys2Proof.Machine.execNop c e s
  | .setState c e => Sys2Proof.Machine.execSetState c e s
  | .setPwm c e => Sys2Proof.Machine.execSetPwm c e s
  | .force c e => Sys2Proof.Machine.execForce c e s
  | .clearTrip c e => Sys2Proof.Machine.execClearTrip c e s
  | .readReg c e => Sys2Proof.Machine.execReadReg c e s
  | .writeReg c e => Sys2Proof.Machine.execWriteReg c e s
  | .cellClrcnt c => Sys2Proof.Machine.execCellClrcnt c s
  | .bypfClr c v => Sys2Proof.Machine.execBypfClr c v s
  | .sleep c e => Sys2Proof.Machine.execSleep c e s
  | .bistStart c e => Sys2Proof.Machine.execBistStart c e s
  | .cellBistEnd c misr golden => Sys2Proof.Machine.execCellBistEnd c misr golden s
  | .armBypass c e => Sys2Proof.Machine.execArmBypass c e s
  | .fireBypass c e => Sys2Proof.Machine.execFireBypass c e s
  | .bypassWindowExpiry c => Sys2Proof.Machine.execBypassWindowExpiry c s
  | .bypPulseEnd c => Sys2Proof.Machine.execBypPulseEnd c s
  | .range c => Sys2Proof.Machine.execRange c s
  | .cellReportTx c => Sys2Proof.Machine.execCellReportTx c s
  | .cellRegrantTx c slot => Sys2Proof.Machine.execCellRegrantTx c slot s
  | .cellReportFreeze c => Sys2Proof.Machine.execCellReportFreeze c s
  | .cellConversion c idx va vb => Sys2Proof.Machine.execCellConversion c idx va vb s
  | .cellCalSwitch c inRange => Sys2Proof.Machine.execCellCalSwitch c inRange s
  | .carrierPeriodStart c => Sys2Proof.Machine.execCarrierPeriodStart c s
  | .tripInput c idx => Sys2Proof.Machine.execTripInput c idx s
  | .gsupLow c => Sys2Proof.Machine.execGsupLow c s
  | .lossOfLight c => Sys2Proof.Machine.execLossOfLight c s
  | .lolTimeout c => Sys2Proof.Machine.execLolTimeout c s
  | .txGuardViolation c => Sys2Proof.Machine.execTxGuardViolation c s
  | .cellPllUnlock c => Sys2Proof.Machine.execCellPllUnlock c s
  | .cellParityError c => Sys2Proof.Machine.execCellParityError c s
  | .cellDupmis c e => Sys2Proof.Machine.execCellDupmis c e s
  | .cellOvertemp c => Sys2Proof.Machine.execCellOvertemp c s
  | .vauxlow c => Sys2Proof.Machine.execVauxlow c s
  | .newtColdStart c => Sys2Proof.Machine.execNewtColdStart c s
  | .vauxOnRise c => Sys2Proof.Machine.execVauxOnRise c s
  | .wake c => Sys2Proof.Machine.execWake c s
  | .regulatorsInRange c => Sys2Proof.Machine.execRegulatorsInRange c s
  | .vauxOffFall c => Sys2Proof.Machine.execVauxOffFall c s
  | .newtBrownout c => Sys2Proof.Machine.execNewtBrownout c s
  | .laneReportRx ln slot rx => Sys2Proof.Machine.execLaneReportRx ln slot rx s
  | .laneRangingRx ln rx => Sys2Proof.Machine.execLaneRangingRx ln rx s
  | .rangingNoBurst ln => Sys2Proof.Machine.execRangingNoBurst ln s
  | .ackwaitExpiry ln sl => Sys2Proof.Machine.execAckwaitExpiry ln sl s
  | .outOfGrantLight ln who => Sys2Proof.Machine.execOutOfGrantLight ln who s
  | .babbleUnidentified ln => Sys2Proof.Machine.execBabbleUnidentified ln s
  | .babblePersist ln => Sys2Proof.Machine.execBabblePersist ln s
  | .seeErrPersist ln sl => Sys2Proof.Machine.execSeeErrPersist ln sl s
  | .rxlos ln => Sys2Proof.Machine.execRxlos ln s
  | .cellCmdAssign ln sl => Sys2Proof.Machine.execCellCmdAssign ln sl s
  | .cellCmdEnable ln sl => Sys2Proof.Machine.execCellCmdEnable ln sl s
  | .cellCmdOccult ln sl => Sys2Proof.Machine.execCellCmdOccult ln sl s
  | .cellCmdRelease ln sl => Sys2Proof.Machine.execCellCmdRelease ln sl s
  | .cellCmdCntclr ln sl => Sys2Proof.Machine.execCellCmdCntclr ln sl s
  | .acmdPush ln sl v => Sys2Proof.Machine.execAcmdPush ln sl v s
  | .bcastPush w ln v => Sys2Proof.Machine.execBcastPush w ln v s
  | .laneCntClr w ln => Sys2Proof.Machine.execLaneCntClr w ln s
  | .laneEnSet w ln => Sys2Proof.Machine.execLaneEnSet w ln s
  | .laneEnClear w ln => Sys2Proof.Machine.execLaneEnClear w ln s
  | .laneDarkRequest w ln => Sys2Proof.Machine.execLaneDarkRequest w ln s
  | .laneWakeUp w ln => Sys2Proof.Machine.execLaneWakeUp w ln s
  | .laneLocked ln => Sys2Proof.Machine.execLaneLocked ln s
  | .ldiePllUnlock l => Sys2Proof.Machine.execLdiePllUnlock l s
  | .laneTxflt ln => Sys2Proof.Machine.execLaneTxflt ln s
  | .wakeStart w ln => Sys2Proof.Machine.execWakeStart w ln s
  | .wakeToneEnd ln => Sys2Proof.Machine.execWakeToneEnd ln s
  | .rsStart w ln => Sys2Proof.Machine.execRsStart w ln s
  | .rsAbort w ln => Sys2Proof.Machine.execRsAbort w ln s
  | .rsScanDone ln counts => Sys2Proof.Machine.execRsScanDone ln counts s
  | .contextRamError ln sl ue => Sys2Proof.Machine.execContextRamError ln sl ue s
  | .framerMismatch l => Sys2Proof.Machine.execFramerMismatch l s
  | .lawInputFill k => Sys2Proof.Machine.execLawInputFill k s
  | .svInputStale k idx => Sys2Proof.Machine.execSvInputStale k idx s
  | .fastPassEnd k => Sys2Proof.Machine.execFastPassEnd k s
  | .slowPassEnd k => Sys2Proof.Machine.execSlowPassEnd k s
  | .modelPlausibility k ch sec => Sys2Proof.Machine.execModelPlausibility k ch sec s
  | .lawDeferredWrite k => Sys2Proof.Machine.execLawDeferredWrite k s
  | .clrst w k ch => Sys2Proof.Machine.execClrst w k ch s
  | .clrplaus w k ch => Sys2Proof.Machine.execClrplaus w k ch s
  | .lawLockstepDiff k => Sys2Proof.Machine.execLawLockstepDiff k s
  | .lawRamError k ue => Sys2Proof.Machine.execLawRamError k ue s
  | .exportTrailer k => Sys2Proof.Machine.execExportTrailer k s
  | .exportDone k => Sys2Proof.Machine.execExportDone k s
  | .ld m o => Sys2Proof.Machine.execLd m o s
  | .ldu m o => Sys2Proof.Machine.execLdu m o s
  | .st m o => Sys2Proof.Machine.execSt m o s
  | .ldw m o => Sys2Proof.Machine.execLdw m o s
  | .stw m o => Sys2Proof.Machine.execStw m o s
  | .loadDataReturn m idx ue => Sys2Proof.Machine.execLoadDataReturn m idx ue s
  | .add m o sf => Sys2Proof.Machine.execAdd m o sf s
  | .sub m o sf => Sys2Proof.Machine.execSub m o sf s
  | .and m o sf => Sys2Proof.Machine.execAnd m o sf s
  | .or m o sf => Sys2Proof.Machine.execOr m o sf s
  | .xor m o sf => Sys2Proof.Machine.execXor m o sf s
  | .andn m o sf => Sys2Proof.Machine.execAndn m o sf s
  | .shl m o sf => Sys2Proof.Machine.execShl m o sf s
  | .shr m o sf => Sys2Proof.Machine.execShr m o sf s
  | .sar m o sf => Sys2Proof.Machine.execSar m o sf s
  | .ror m o sf => Sys2Proof.Machine.execRor m o sf s
  | .mul m o sf => Sys2Proof.Machine.execMul m o sf s
  | .mulh m o sf => Sys2Proof.Machine.execMulh m o sf s
  | .mulhu m o sf => Sys2Proof.Machine.execMulhu m o sf s
  | .slt m o sf => Sys2Proof.Machine.execSlt m o sf s
  | .sltu m o sf => Sys2Proof.Machine.execSltu m o sf s
  | .min m o sf => Sys2Proof.Machine.execMin m o sf s
  | .max m o sf => Sys2Proof.Machine.execMax m o sf s
  | .adds m o sf => Sys2Proof.Machine.execAdds m o sf s
  | .subs m o sf => Sys2Proof.Machine.execSubs m o sf s
  | .abss m o sf => Sys2Proof.Machine.execAbss m o sf s
  | .negs m o sf => Sys2Proof.Machine.execNegs m o sf s
  | .cmp m o sf => Sys2Proof.Machine.execCmp m o sf s
  | .addi m o => Sys2Proof.Machine.execAddi m o s
  | .andi m o => Sys2Proof.Machine.execAndi m o s
  | .ori m o => Sys2Proof.Machine.execOri m o s
  | .xori m o => Sys2Proof.Machine.execXori m o s
  | .lui m o => Sys2Proof.Machine.execLui m o s
  | .shi m o => Sys2Proof.Machine.execShi m o s
  | .cmpi m o => Sys2Proof.Machine.execCmpi m o s
  | .pmovToP m o => Sys2Proof.Machine.execPmovToP m o s
  | .pmovToM m o => Sys2Proof.Machine.execPmovToM m o s
  | .pmovFromP m o => Sys2Proof.Machine.execPmovFromP m o s
  | .pmovFromM m o => Sys2Proof.Machine.execPmovFromM m o s
  | .setcb m o => Sys2Proof.Machine.execSetcb m o s
  | .pmovGetCb m o => Sys2Proof.Machine.execPmovGetCb m o s
  | .pmovGetCl m o => Sys2Proof.Machine.execPmovGetCl m o s
  | .bCond m o => Sys2Proof.Machine.execBCond m o s
  | .callCond m o => Sys2Proof.Machine.execCallCond m o s
  | .jr m o => Sys2Proof.Machine.execJr m o s
  | .jrl m o => Sys2Proof.Machine.execJrl m o s
  | .mac m o fn => Sys2Proof.Machine.execMac m o fn s
  | .msu m o fn => Sys2Proof.Machine.execMsu m o fn s
  | .mpy m o fn => Sys2Proof.Machine.execMpy m o fn s
  | .aclr m o => Sys2Proof.Machine.execAclr m o s
  | .amov m o => Sys2Proof.Machine.execAmov m o s
  | .aneg m o => Sys2Proof.Machine.execAneg m o s
  | .ash m o => Sys2Proof.Machine.execAsh m o s
  | .ashr m o => Sys2Proof.Machine.execAshr m o s
  | .aadd m o => Sys2Proof.Machine.execAadd m o s
  | .aldl m o => Sys2Proof.Machine.execAldl m o s
  | .aldh m o => Sys2Proof.Machine.execAldh m o s
  | .aldg m o => Sys2Proof.Machine.execAldg m o s
  | .rndc m o => Sys2Proof.Machine.execRndc m o s
  | .extt m o => Sys2Proof.Machine.execExtt m o s
  | .rdl m o => Sys2Proof.Machine.execRdl m o s
  | .rdh m o => Sys2Proof.Machine.execRdh m o s
  | .rdg m o => Sys2Proof.Machine.execRdg m o s
  | .norm m o => Sys2Proof.Machine.execNorm m o s
  | .expn m o => Sys2Proof.Machine.execExpn m o s
  | .expnAcc m o => Sys2Proof.Machine.execExpnAcc m o s
  | .fncR m o => Sys2Proof.Machine.execFncR m o s
  | .fncW m o => Sys2Proof.Machine.execFncW m o s
  | .fncRw m o => Sys2Proof.Machine.execFncRw m o s
  | .fncSys m o => Sys2Proof.Machine.execFncSys m o s
  | .fncCyc m o => Sys2Proof.Machine.execFncCyc m o s
  | .fenceRelease m => Sys2Proof.Machine.execFenceRelease m s
  | .fncCycCommit m n => Sys2Proof.Machine.execFncCycCommit m n s
  | .srd m o => Sys2Proof.Machine.execSrd m o s
  | .swr m o => Sys2Proof.Machine.execSwr m o s
  | .tret m o => Sys2Proof.Machine.execTret m o s
  | .nret m o => Sys2Proof.Machine.execNret m o s
  | .syscall m hi imm => Sys2Proof.Machine.execSyscall m hi imm s
  | .brk m o => Sys2Proof.Machine.execBrk m o s
  | .freezeQ m o => Sys2Proof.Machine.execFreezeQ m o s
  | .pwrHint m o => Sys2Proof.Machine.execPwrHint m o s
  | .nmiEntry m src => Sys2Proof.Machine.execNmiEntry m src s
  | .coreLockstepDiff k q => Sys2Proof.Machine.execCoreLockstepDiff k q s
  | .tcmEccError m ue => Sys2Proof.Machine.execTcmEccError m ue s
  | .sramEccError k ue => Sys2Proof.Machine.execSramEccError k ue s
  | .releaseRetry w m => Sys2Proof.Machine.execReleaseRetry w m s
  | .releaseTrap w m => Sys2Proof.Machine.execReleaseTrap w m s
  | .releaseReset w m => Sys2Proof.Machine.execReleaseReset w m s
  | .fzPop w => Sys2Proof.Machine.execFzPop w s
  | .coreReset w m => Sys2Proof.Machine.execCoreReset w m s
  | .coreRelease w m => Sys2Proof.Machine.execCoreRelease w m s
  | .taskPost m o => Sys2Proof.Machine.execTaskPost m o s
  | .taskGet m o => Sys2Proof.Machine.execTaskGet m o s
  | .taskDone m o => Sys2Proof.Machine.execTaskDone m o s
  | .taskDisable w k slot => Sys2Proof.Machine.execTaskDisable w k slot s
  | .schRaise w k evt => Sys2Proof.Machine.execSchRaise w k evt s
  | .mbxPut m o => Sys2Proof.Machine.execMbxPut m o s
  | .mbxGet m o => Sys2Proof.Machine.execMbxGet m o s
  | .mbxChannelPut m idx => Sys2Proof.Machine.execMbxChannelPut m idx s
  | .mbxChannelGet m idx => Sys2Proof.Machine.execMbxChannelGet m idx s
  | .chPutWrite w ch v => Sys2Proof.Machine.execChPutWrite w ch v s
  | .chGetRead w ch => Sys2Proof.Machine.execChGetRead w ch s
  | .chBindWrite w ch v => Sys2Proof.Machine.execChBindWrite w ch v s
  | .bindLock w k => Sys2Proof.Machine.execBindLock w k s
  | .dbRing m o => Sys2Proof.Machine.execDbRing m o s
  | .doorbellSet m mask => Sys2Proof.Machine.execDoorbellSet m mask s
  | .dbWait m o => Sys2Proof.Machine.execDbWait m o s
  | .dbPendWrite w m mask => Sys2Proof.Machine.execDbPendWrite w m mask s
  | .dbClr w m mask => Sys2Proof.Machine.execDbClr w m mask s
  | .dbMaskWrite w m v => Sys2Proof.Machine.execDbMaskWrite w m v s
  | .schedRamError k ue mbx idx => Sys2Proof.Machine.execSchedRamError k ue mbx idx s
  | .adcResult a n vin => Sys2Proof.Machine.execAdcResult a n vin s
  | .pairMismatch a p => Sys2Proof.Machine.execPairMismatch a p s
  | .urgRequest w a n v => Sys2Proof.Machine.execUrgRequest w a n v s
  | .refDiff a => Sys2Proof.Machine.execRefDiff a s
  | .referr a => Sys2Proof.Machine.execReferr a s
  | .calMatchEnd a sum64 => Sys2Proof.Machine.execCalMatchEnd a sum64 s
  | .calDwellEnd a ofs gain => Sys2Proof.Machine.execCalDwellEnd a ofs gain s
  | .adCntclr w a => Sys2Proof.Machine.execAdCntclr w a s
  | .adieRamError a ue n ridx => Sys2Proof.Machine.execAdieRamError a ue n ridx s
  | .adieOvertemp a => Sys2Proof.Machine.execAdieOvertemp a s
  | .dmaStart w k ch => Sys2Proof.Machine.execDmaStart w k ch s
  | .dmaPause w k ch => Sys2Proof.Machine.execDmaPause w k ch s
  | .dmaResume w k ch => Sys2Proof.Machine.execDmaResume w k ch s
  | .dmaAbort w k ch => Sys2Proof.Machine.execDmaAbort w k ch s
  | .dmaAppend w k ch => Sys2Proof.Machine.execDmaAppend w k ch s
  | .dmaDescLoaded k ch => Sys2Proof.Machine.execDmaDescLoaded k ch s
  | .dmaReadReturn k ch ue => Sys2Proof.Machine.execDmaReadReturn k ch ue s
  | .dmaDrainDone k ch => Sys2Proof.Machine.execDmaDrainDone k ch s
  | .dmaLinkReturn k ch => Sys2Proof.Machine.execDmaLinkReturn k ch s
  | .dmaRamError k ue chs => Sys2Proof.Machine.execDmaRamError k ue chs s
  | .acqArm w k => Sys2Proof.Machine.execAcqArm w k s
  | .acqStop w k => Sys2Proof.Machine.execAcqStop w k s
  | .swtrig w k => Sys2Proof.Machine.execSwtrig w k s
  | .trigInEdge idx falling => Sys2Proof.Machine.execTrigInEdge idx falling s
  | .xtrigFall => Sys2Proof.Machine.execXtrigFall s
  | .acqRecordWrite k => Sys2Proof.Machine.execAcqRecordWrite k s
  | .acqTimeRecord k => Sys2Proof.Machine.execAcqTimeRecord k s
  | .acqPostEnd k => Sys2Proof.Machine.execAcqPostEnd k s
  | .captureMemWrite w addr => Sys2Proof.Machine.execCaptureMemWrite w addr s
  | .captureMemRead m addr ce ue => Sys2Proof.Machine.execCaptureMemRead m addr ce ue s
  | .tcntLowRead m k off => Sys2Proof.Machine.execTcntLowRead m k off s
  | .timeSet w adj => Sys2Proof.Machine.execTimeSet w adj s
  | .timeAdj w => Sys2Proof.Machine.execTimeAdj w s
  | .timeNsRead m => Sys2Proof.Machine.execTimeNsRead m s
  | .vnPrimarySample w ofs => Sys2Proof.Machine.execVnPrimarySample w ofs s
  | .vnSecondarySample w ofs => Sys2Proof.Machine.execVnSecondarySample w ofs s
  | .vnRearm w => Sys2Proof.Machine.execVnRearm w s
  | .vnDisable w => Sys2Proof.Machine.execVnDisable w s
  | .vernierHoldover => Sys2Proof.Machine.execVernierHoldover s
  | .syncInCapture ts falling => Sys2Proof.Machine.execSyncInCapture ts falling s
  | .siTsNsRead m => Sys2Proof.Machine.execSiTsNsRead m s
  | .syncOutPulse => Sys2Proof.Machine.execSyncOutPulse s
  | .portEnable w e => Sys2Proof.Machine.execPortEnable w e s
  | .frameReceived e fr => Sys2Proof.Machine.execFrameReceived e fr s
  | .svFrameReceived e fr => Sys2Proof.Machine.execSvFrameReceived e fr s
  | .txKick w e => Sys2Proof.Machine.execTxKick w e s
  | .frameTransmitted e macTs => Sys2Proof.Machine.execFrameTransmitted e macTs s
  | .portCntClr w e => Sys2Proof.Machine.execPortCntClr w e s
  | .ethLinkLoss e => Sys2Proof.Machine.execEthLinkLoss e s
  | .portRamError e ue => Sys2Proof.Machine.execPortRamError e ue s
  | .faultFiring src tag => Sys2Proof.Machine.execFaultFiring src tag s
  | .blockResetDone blk => Sys2Proof.Machine.execBlockResetDone blk s
  | .conseqWindowEnd blk => Sys2Proof.Machine.execConseqWindowEnd blk s
  | .escalationWindowEnd blk => Sys2Proof.Machine.execEscalationWindowEnd blk s
  | .fsPendClear w src => Sys2Proof.Machine.execFsPendClear w src s
  | .aliveEn w => Sys2Proof.Machine.execAliveEn w s
  | .aliveStop w => Sys2Proof.Machine.execAliveStop w s
  | .aliveHalfPeriod => Sys2Proof.Machine.execAliveHalfPeriod s
  | .aliveReadbackFail => Sys2Proof.Machine.execAliveReadbackFail s
  | .fcLock w => Sys2Proof.Machine.execFcLock w s
  | .wden w => Sys2Proof.Machine.execWden w s
  | .wdKick w v => Sys2Proof.Machine.execWdKick w v s
  | .watchdogExpiry => Sys2Proof.Machine.execWatchdogExpiry s
  | .flogPop w => Sys2Proof.Machine.execFlogPop w s
  | .fsClr w => Sys2Proof.Machine.execFsClr w s
  | .injectionArm w v => Sys2Proof.Machine.execInjectionArm w v s
  | .injectionTimeout => Sys2Proof.Machine.execInjectionTimeout s
  | .parityScrub safety err => Sys2Proof.Machine.execParityScrub safety err s
  | .sprReq w => Sys2Proof.Machine.execSprReq w s
  | .sprRel w sameCycle => Sys2Proof.Machine.execSprRel w sameCycle s
  | .srsReq w => Sys2Proof.Machine.execSrsReq w s
  | .safetyArm w => Sys2Proof.Machine.execSafetyArm w s
  | .srsViolation => Sys2Proof.Machine.execSrsViolation s
  | .srsRampEnd => Sys2Proof.Machine.execSrsRampEnd s
  | .srsInputTimeout => Sys2Proof.Machine.execSrsInputTimeout s
  | .stopInLow b => Sys2Proof.Machine.execStopInLow b s
  | .stopInDiscrepancy => Sys2Proof.Machine.execStopInDiscrepancy s
  | .stopOutDrop => Sys2Proof.Machine.execStopOutDrop s
  | .brkTripRise => Sys2Proof.Machine.execBrkTripRise s
  | .safetyReadbackFail brk => Sys2Proof.Machine.execSafetyReadbackFail brk s
  | .safetyFrameReceived lan bytes => Sys2Proof.Machine.execSafetyFrameReceived lan bytes s
  | .safetyCopyMissing lan => Sys2Proof.Machine.execSafetyCopyMissing lan s
  | .safetyNetWatchdog lanA lanB => Sys2Proof.Machine.execSafetyNetWatchdog lanA lanB s
  | .degLimitReached => Sys2Proof.Machine.execDegLimitReached s
  | .safetyStatusTx => Sys2Proof.Machine.execSafetyStatusTx s
  | .pairEn w => Sys2Proof.Machine.execPairEn w s
  | .pairActInFall => Sys2Proof.Machine.execPairActInFall s
  | .startupClaim => Sys2Proof.Machine.execStartupClaim s
  | .passRecordReceived r => Sys2Proof.Machine.execPassRecordReceived r s
  | .passRecordMissing => Sys2Proof.Machine.execPassRecordMissing s
  | .statusRecordTx => Sys2Proof.Machine.execStatusRecordTx s
  | .statusRecordReceived r gridOfs => Sys2Proof.Machine.execStatusRecordReceived r gridOfs s
  | .epochReceived e => Sys2Proof.Machine.execEpochReceived e s
  | .mirrorLaneDown idx => Sys2Proof.Machine.execMirrorLaneDown idx s
  | .handover w => Sys2Proof.Machine.execHandover w s
  | .drill w => Sys2Proof.Machine.execDrill w s
  | .cycsync w => Sys2Proof.Machine.execCycsync w s
  | .handoverRelease => Sys2Proof.Machine.execHandoverRelease s
  | .handingPeerCheck => Sys2Proof.Machine.execHandingPeerCheck s
  | .takingTimeout => Sys2Proof.Machine.execTakingTimeout s
  | .takebackRequest => Sys2Proof.Machine.execTakebackRequest s
  | .drillReturn => Sys2Proof.Machine.execDrillReturn s
  | .drillFail => Sys2Proof.Machine.execDrillFail s
  | .almanacApply => Sys2Proof.Machine.execAlmanacApply s
  | .almanacFreeze w => Sys2Proof.Machine.execAlmanacFreeze w s
  | .almanacUnfreeze w => Sys2Proof.Machine.execAlmanacUnfreeze w s
  | .almanacMergeDone => Sys2Proof.Machine.execAlmanacMergeDone s
  | .clrrec w => Sys2Proof.Machine.execClrrec w s
  | .clrall w => Sys2Proof.Machine.execClrall w s
  | .restore w => Sys2Proof.Machine.execRestore w s
  | .almanacRestoreDone => Sys2Proof.Machine.execAlmanacRestoreDone s
  | .flushnow w => Sys2Proof.Machine.execFlushnow w s
  | .almanacBgPass => Sys2Proof.Machine.execAlmanacBgPass s
  | .almanacImageWritten ok => Sys2Proof.Machine.execAlmanacImageWritten ok s
  | .almanacFullFlushDone => Sys2Proof.Machine.execAlmanacFullFlushDone s
  | .almanacTotalRead m => Sys2Proof.Machine.execAlmanacTotalRead m s
  | .almCntclr w => Sys2Proof.Machine.execAlmCntclr w s
  | .almanacRamError rec ue => Sys2Proof.Machine.execAlmanacRamError rec ue s
  | .meterPoint samples => Sys2Proof.Machine.execMeterPoint samples s
  | .meterIntervalClose => Sys2Proof.Machine.execMeterIntervalClose s
  | .signingDone ok1 ok2 mramErr => Sys2Proof.Machine.execSigningDone ok1 ok2 mramErr s
  | .meterCheckpoint => Sys2Proof.Machine.execMeterCheckpoint s
  | .meterEnable w fresh => Sys2Proof.Machine.execMeterEnable w fresh s
  | .meterRestoreDone => Sys2Proof.Machine.execMeterRestoreDone s
  | .meterDisable w => Sys2Proof.Machine.execMeterDisable w s
  | .importLowRead m exp => Sys2Proof.Machine.execImportLowRead m exp s
  | .attest w => Sys2Proof.Machine.execAttest w s
  | .svnRaise w key => Sys2Proof.Machine.execSvnRaise w key s
  | .revoke w key => Sys2Proof.Machine.execRevoke w key s
  | .recover w => Sys2Proof.Machine.execRecover w s
  | .bootRomRun => Sys2Proof.Machine.execBootRomRun s
  | .porstAssert => Sys2Proof.Machine.execPorstAssert s
  | .porstRelease pref => Sys2Proof.Machine.execPorstRelease pref s
  | .chipRst w key => Sys2Proof.Machine.execChipRst w key s
  | .internalResetEnd => Sys2Proof.Machine.execInternalResetEnd s
  | .bootBist failed => Sys2Proof.Machine.execBootBist failed s
  | .aoPowerOn => Sys2Proof.Machine.execAoPowerOn s
  | .aoPowerLoss => Sys2Proof.Machine.execAoPowerLoss s
  | .railFault => Sys2Proof.Machine.execRailFault s
  | .refclkLoss => Sys2Proof.Machine.execRefclkLoss s
  | .pllUnlock adie => Sys2Proof.Machine.execPllUnlock adie s
  | .xtalStop => Sys2Proof.Machine.execXtalStop s
  | .pwrfailRecognised => Sys2Proof.Machine.execPwrfailRecognised s
  | .pwrfailRise => Sys2Proof.Machine.execPwrfailRise s
  | .dieOn w d => Sys2Proof.Machine.execDieOn w d s
  | .dieOff w d => Sys2Proof.Machine.execDieOff w d s
  | .dieReady d => Sys2Proof.Machine.execDieReady d s
  | .dieBistStart w => Sys2Proof.Machine.execDieBistStart w s
  | .dieBistDone misr golden us => Sys2Proof.Machine.execDieBistDone misr golden us s
  | .xsRead w u => Sys2Proof.Machine.execXsRead w u s
  | .xsWrite w u => Sys2Proof.Machine.execXsWrite w u s
  | .xsErase w u => Sys2Proof.Machine.execXsErase w u s
  | .xsStatus w u => Sys2Proof.Machine.execXsStatus w u s
  | .xsTransferDone u err => Sys2Proof.Machine.execXsTransferDone u err s
  | .dieTempUpdate temps => Sys2Proof.Machine.execDieTempUpdate temps s
  | .cellAlignedBoundary c => Sys2Proof.Machine.execCellAlignedBoundary c s
  | .gsupOkRestored c => Sys2Proof.Machine.execGsupOkRestored c s
  | .tripInputInactive c idx => Sys2Proof.Machine.execTripInputInactive c idx s
  | .ethLinkUp e => Sys2Proof.Machine.execEthLinkUp e s
  | .stopInRestored b => Sys2Proof.Machine.execStopInRestored b s
  | .peerAliveEdge => Sys2Proof.Machine.execPeerAliveEdge s
  | .paliveTimeout => Sys2Proof.Machine.execPaliveTimeout s
  | .pairActInRise => Sys2Proof.Machine.execPairActInRise s
  | .pairActReadbackFail => Sys2Proof.Machine.execPairActReadbackFail s
  | .refDiffEnd a => Sys2Proof.Machine.execRefDiffEnd a s
  | .adiePllRelock a => Sys2Proof.Machine.execAdiePllRelock a s
  | .xtrigRelease k => Sys2Proof.Machine.execXtrigRelease k s
  | .perstNAssert => Sys2Proof.Machine.execPerstNAssert s
  | .perstNRelease => Sys2Proof.Machine.execPerstNRelease s

end Sys2Proof.Machine
end

