-- ==== Sys2Proof/Machine/Tick.lean ====
section
/-!
DEFINITION. What happens while no command waits: one nanosecond passes.
-/
namespace Sys2Proof.Machine

namespace State

/-- One nanosecond of REFCLK passes (R44, R339): package time follows it at −VN_FREQ, the fraction below 2^-16 ns kept in the
residue (units of 2^-16 ns / 500,000,000). While a chip reset is held package time stands still, and the cells' time goes on with REFCLK (log entry 6). -/
def nsTick (s : State) : State :=
  if s.pwr.held then { s with clk := { s.clk with el := s.clk.el + 1, ct := s.clk.ct + 65536 } }
  else
    let r := s.clk.pres + s.eth.vnF
    { s with clk := { s.clk with el := s.clk.el + 1, pt := ((s.clk.pt : Int) + 65536 - r / 500000000).toNat,
                                 ct := ((s.clk.ct : Int) + 65536 - r / 500000000).toNat,
                                 pres := r % 500000000 } }

end State

end Sys2Proof.Machine
end

