-- ==== Sys2Proof/Safety.lean ====
section
/-!
DEFINITION. What counts as a sound state and as a safe package, in the terms the statements use.
-/
namespace Sys2Proof.Machine

open Sys2Proof

/-- What a program sees of a core: general, pointer, modifier and circular registers, accumulators and flags (R207). -/
def Core.data (c : Core) : List (Nat × Word) × List (Nat × Word) × List (Nat × Word) × List (Nat × Word) × List (Nat × Word) ×
    List (Nat × Acc72) × Flags := (c.g, c.p, c.m, c.cb, c.cl, c.acc, c.flags)

namespace State

/-- Every memory is in its canonical form: the RAM and capture memories, the boot NOR and the MRAM. -/
def memOk (s : State) : Bool := Memory.wf s.mem && Memory.wf s.nor && Memory.wf s.mram

/-- What no command changes: the queue (the step alone takes from it) and what the part has (R1, R5). -/
def fixed (s : State) : List Instr × Part := (s.pending, s.part)

/-- The package lets no laser transmit (R79, R397): no lane shows its transmitter enabled. -/
def dark (s : State) : Prop := ∀ n, s.hasL (n / 16) → n < 64 → s.rd (laneB n) Lane.LANE_STAT.TXEN = 0

/-- Core `m` can execute its next instruction and none of the registers `l` awaits load data (R212, R220, R222, R225). -/
def ready (s : State) (m : Nat) (l : List Nat) : Bool := s.canRun m && l.all (fun i => !(s.core m).awaits i)

/-- What a trap of core `m` leaves, with the registers of `c` (R216, R217): with EXL = 0, ECAUSE, EPC, EADDR and ESTATUS are
written, PRV and EXL are set and the PC is at TVEC, where its fetch meets nothing; with EXL = 1 the core freezes. -/
def trapped (s : State) (m : Nat) (c : Core) (cause epc eaddr : Word) (t : State) : Prop :=
  (t.core m).data = c.data ∧ (∀ n, n ≠ m → t.core n = s.core n) ∧ t.mem = s.mem ∧ t.nor = s.nor ∧ t.mram = s.mram ∧
  (c.exl = true → t.isFrozen m = true) ∧
  (c.exl = false →
    let u := s.setCore m { c with epc := epc, eaddr := eaddr, ecause := cause, estatus := c.status (s.paired m), prv := true,
                                  exl := true, pc := c.tvec, stall := none }
    u.fetchOk m c.tvec → t = u)

/-- What an instruction leaves when core `m` goes on in sequence with the registers and flags of `c`: no other core and no
memory changes, and unless the next instruction begins a new 4 KiB page, whose fetch is checked first (R25, R211), the PC
moves by 4, ICNT counts (R231), and every other register of the core is as in `c` and every register of a block as before. -/
def ran (s : State) (m : Nat) (c : Core) (t : State) : Prop :=
  (t.core m).data = c.data ∧ (∀ n, n ≠ m → t.core n = s.core n) ∧ t.mem = s.mem ∧ t.nor = s.nor ∧ t.mram = s.mram ∧
  ((c.pc + 4).toNat % 4096 ≠ 0 → t.core m = { c with pc := c.pc + 4, icnt := c.icnt + 1, stall := none } ∧ t.regs = s.regs)

/-- What a jump of core `m` to `pc` leaves, with the registers and flags of `c`: as in sequence, the PC at the target where
its fetch meets no violation and no absent or switched-off unit (R211). -/
def went (s : State) (m : Nat) (c : Core) (pc : Word) (t : State) : Prop :=
  (t.core m).data = c.data ∧ (∀ n, n ≠ m → t.core n = s.core n) ∧ t.mem = s.mem ∧ t.nor = s.nor ∧ t.mram = s.mram ∧
  (let u := s.setCore m { c with pc := pc &&& 0xFFFFFFFC, icnt := c.icnt + 1, stall := none }
   u.fetchOk m (pc &&& 0xFFFFFFFC) → t = u)

/-- Source `n`, if the part has it and its die is up, is on its way to the fault collector (R351, R352). -/
def fires (s t : State) (n : Nat) : Prop := s.canFire n = true → n ∈ t.fc.detect

/-- Beside the fields `l`, no register, memory, core, lane or cell of `t` differs from `s`. -/
def only (s t : State) (l : List (Nat × Fld)) : Prop :=
  (∀ b f, (∀ e ∈ l, f.key b ≠ e.2.key e.1) → t.rd b f = s.rd b f) ∧ t.mem = s.mem ∧ t.nor = s.nor ∧ t.mram = s.mram ∧
  t.cores = s.cores ∧ t.lanes = s.lanes ∧ t.cells = s.cells ∧ t.cregs = s.cregs

end State

/-- The command answers a next state of which `P` holds. -/
def gives (o : Host.Outcome State Fault Refusal) (P : State → Prop) : Prop := ∃ t, o = .next t ∧ P t

/-- The core after an operation of opcode 0x00 with result `r` for gd (R246, R247): with `sf`, Z and N follow the result and C
and V take `cv`'s values where it gives them; SAT is set where `sat` holds. -/
def aluCore (c : Core) (d : Nat) (sf : Bool) (r : Word) (cv : Option Bool × Option Bool) (sat : Bool) : Core :=
  { c.wg d r with
    flags := ⟨if sf then r == 0 else c.flags.z, if sf then r.msb else c.flags.n, if sf then cv.1.getD c.flags.c else c.flags.c,
              if sf then cv.2.getD c.flags.v else c.flags.v, c.flags.sat || sat⟩ }

/-- A row of opcode 0x00 (R247): gd takes `f` of ga and gb, and nothing changes but it and the flags. -/
def aluRow (mk : Nat → OpA → Bool → Instr) (f : Word → Word → Word) (cv : Word → Word → Option Bool × Option Bool)
    (sat : Word → Word → Bool) : Prop :=
  ∀ m o sf s, s.ready m [o.d.toNat, o.a.toNat, o.b.toNat] = true →
    gives (exec (mk m o sf) s) (
      let c := s.core m
      let a := c.rg o.a.toNat
      let b := c.rg o.b.toNat
      s.ran m (aluCore c o.d.toNat sf (f a b) (cv a b) (sat a b)))

/-- A register-immediate row (R248): gd takes `f` of ga and the immediate; no flag changes. -/
def immRow (mk : Nat → OpB → Instr) (legal : OpB → Prop) (f : Word → BitVec 16 → Word) : Prop :=
  ∀ m o s, s.ready m [o.d.toNat, o.a.toNat] = true → legal o →
    gives (exec (mk m o) s) (s.ran m ((s.core m).wg o.d.toNat (f ((s.core m).rg o.a.toNat) o.imm)))

/-- A row that only works on registers of the core: with the fields that are marked zero zero and no operand awaited, its
registers become those of `f`. -/
def regRow {α : Type} (mk : Nat → α → Instr) (legal : α → Prop) (regs : α → List Nat) (f : α → Core → Core) : Prop :=
  ∀ m o s, s.ready m (regs o) = true → legal o → gives (exec (mk m o) s) (s.ran m (f o (s.core m)))

/-- The accumulator after an exact result: saturated to 72 bits, with SAT where it saturates (R238). -/
def accSet (c : Core) (i : Nat) (x : Int) : Core :=
  { c.wa i (BitVec.ofInt 72 (if x < -2 ^ 71 then -2 ^ 71 else if 2 ^ 71 - 1 < x then 2 ^ 71 - 1 else x))
    with flags := { c.flags with sat := c.flags.sat || decide (x < -2 ^ 71 ∨ 2 ^ 71 ≤ x) } }

/-- A step that neither faults nor is refused. -/
def goes (s : State) : Prop := ∃ t, step s = .next t

end Sys2Proof.Machine
end

