-- ==== Sys2Proof/Certificates/Slice0/Obligations.lean ====
section
/-!
DEFINITION. The statements about the block, family by family of its commands, and about the whole.
-/
open Sys2Proof Sys2Proof.Machine Sys2Proof.Machine.State

/-! ## The cores -/

/-- R246, R247: the operations of opcode 0x00. -/
def Obligations.AluResults : Prop :=
  let ovf (x : Int) : Bool := decide (x < -2 ^ 31 ∨ 2 ^ 31 ≤ x)
  let sat (x : Int) : Word := BitVec.ofInt 32 (if x < -2 ^ 31 then -2 ^ 31 else if 2 ^ 31 - 1 < x then 2 ^ 31 - 1 else x)
  let keepCV : Word → Word → Option Bool × Option Bool := fun _ _ => (none, none)
  let noSat : Word → Word → Bool := fun _ _ => false
  let addC (a b : Word) : Bool := decide (2 ^ 32 ≤ a.toNat + b.toNat)
  let subC (a b : Word) : Bool := decide (b.toNat ≤ a.toNat)
  aluRow .add (fun a b => a + b) (fun a b => (some (addC a b), some (ovf (a.toInt + b.toInt)))) noSat ∧
  aluRow .sub (fun a b => a - b) (fun a b => (some (subC a b), some (ovf (a.toInt - b.toInt)))) noSat ∧
  aluRow .and (fun a b => a &&& b) keepCV noSat ∧ aluRow .or (fun a b => a ||| b) keepCV noSat ∧
  aluRow .xor (fun a b => a ^^^ b) keepCV noSat ∧ aluRow .andn (fun a b => a &&& ~~~b) keepCV noSat ∧
  aluRow .mul (fun a b => a * b) keepCV noSat ∧
  aluRow .mulh (fun a b => BitVec.ofInt 32 (a.toInt * b.toInt / 2 ^ 32)) keepCV noSat ∧
  aluRow .mulhu (fun a b => BitVec.ofNat 32 (a.toNat * b.toNat / 2 ^ 32)) keepCV noSat ∧
  aluRow .slt (fun a b => if a.toInt < b.toInt then 1 else 0) keepCV noSat ∧
  aluRow .sltu (fun a b => if a.toNat < b.toNat then 1 else 0) keepCV noSat ∧
  aluRow .min (fun a b => if a.toInt < b.toInt then a else b) keepCV noSat ∧
  aluRow .max (fun a b => if a.toInt < b.toInt then b else a) keepCV noSat ∧
  aluRow .adds (fun a b => sat (a.toInt + b.toInt)) (fun a b => (some (addC a b), some (ovf (a.toInt + b.toInt))))
    (fun a b => ovf (a.toInt + b.toInt)) ∧
  aluRow .subs (fun a b => sat (a.toInt - b.toInt)) (fun a b => (some (subC a b), some (ovf (a.toInt - b.toInt))))
    (fun a b => ovf (a.toInt - b.toInt))

/-- R246, R247: shifts and rotates by gb mod 32; C takes the last bit out, bit 31 of a rotate's result, and stays for n = 0. -/
def Obligations.ShiftResults : Prop :=
  let lastOut (f : Word → Nat → Bool) (a b : Word) : Option Bool × Option Bool :=
    (if b.toNat % 32 = 0 then none else some (f a (b.toNat % 32)), none)
  let noSat : Word → Word → Bool := fun _ _ => false
  aluRow .shl (fun a b => a <<< (b.toNat % 32)) (lastOut (fun a n => a.getLsbD (32 - n))) noSat ∧
  aluRow .shr (fun a b => a >>> (b.toNat % 32)) (lastOut (fun a n => a.getLsbD (n - 1))) noSat ∧
  aluRow .sar (fun a b => a.sshiftRight (b.toNat % 32)) (lastOut (fun a n => a.getLsbD (n - 1))) noSat ∧
  aluRow .ror (fun a b => a.rotateRight (b.toNat % 32)) (lastOut (fun a n => (a.rotateRight n).msb)) noSat

/-- R247: ABSS and NEGS, their b field zero, saturate to 2^31 - 1 with SAT and leave C and V. R246: CMP writes the flags of
ga - gb and no register. -/
def Obligations.AbsNegCompare : Prop :=
  let ovf (x : Int) : Bool := decide (x < -2 ^ 31 ∨ 2 ^ 31 ≤ x)
  let sat (x : Int) : Word := BitVec.ofInt 32 (if x < -2 ^ 31 then -2 ^ 31 else if 2 ^ 31 - 1 < x then 2 ^ 31 - 1 else x)
  (∀ m (o : OpA) sf s, s.ready m [o.d.toNat, o.a.toNat, o.b.toNat] = true → o.b = 0 →
    (let c := s.core m
     let a := (c.rg o.a.toNat).toInt
     let abs := if a < 0 then -a else a
     gives (exec (.abss m o sf) s) (s.ran m (aluCore c o.d.toNat sf (sat abs) (none, none) (ovf abs))) ∧
     gives (exec (.negs m o sf) s) (s.ran m (aluCore c o.d.toNat sf (sat (-a)) (none, none) (ovf (-a)))))) ∧
  (∀ m (o : OpA) sf s, s.ready m [0, o.a.toNat, o.b.toNat] = true → o.d = 0 →
    (let c := s.core m
     let a := c.rg o.a.toNat
     let b := c.rg o.b.toNat
     gives (exec (.cmp m o sf) s)
       (s.ran m (aluCore c 0 true (a - b) (some (decide (b.toNat ≤ a.toNat)), some (ovf (a.toInt - b.toInt))) false))))

/-- R248: the register-immediate operations; the immediate of ADDI and CMPI is sign-extended, that of the logical ones
zero-extended; SHI's immediate names the shift and its amount. -/
def Obligations.ImmediateResults : Prop :=
  immRow .addi (fun _ => True) (fun a i => a + i.signExtend 32) ∧
  immRow .andi (fun _ => True) (fun a i => a &&& i.setWidth 32) ∧
  immRow .ori (fun _ => True) (fun a i => a ||| i.setWidth 32) ∧
  immRow .xori (fun _ => True) (fun a i => a ^^^ i.setWidth 32) ∧
  immRow .lui (fun o => o.a = 0) (fun _ i => i.setWidth 32 <<< 16) ∧
  immRow .shi (fun o => o.imm.toNat < 128) (fun a i =>
    if i.toNat / 32 = 0 then a <<< (i.toNat % 32)
    else if i.toNat / 32 = 1 then a >>> (i.toNat % 32)
    else if i.toNat / 32 = 2 then a.sshiftRight (i.toNat % 32)
    else a.rotateRight (i.toNat % 32)) ∧
  (∀ m (o : OpB) s, s.ready m [0, o.a.toNat] = true → o.d = 0 →
    (let c := s.core m
     let a := c.rg o.a.toNat
     let b := o.imm.signExtend 32
     gives (exec (.cmpi m o) s) (s.ran m (aluCore c 0 true (a - b) (some (decide (b.toNat ≤ a.toNat)),
       some (decide (a.toInt - b.toInt < -2 ^ 31 ∨ 2 ^ 31 ≤ a.toInt - b.toInt))) false))))

/-- R247: pointer, modifier and circular registers move to and from general registers; a write to g0 is discarded. -/
def Obligations.PointerMoves : Prop :=
  regRow .pmovToP (fun o : OpA => o.b = 0 ∧ o.d.toNat < 8) (fun o => [o.a.toNat]) (fun o c => c.wp o.d.toNat (c.rg o.a.toNat)) ∧
  regRow .pmovToM (fun o : OpA => o.b = 0 ∧ o.d.toNat < 8) (fun o => [o.a.toNat]) (fun o c => c.wm o.d.toNat (c.rg o.a.toNat)) ∧
  regRow .pmovFromP (fun o : OpA => o.b = 0 ∧ o.a.toNat < 8) (fun o => [o.d.toNat]) (fun o c => c.wg o.d.toNat (c.rp o.a.toNat)) ∧
  regRow .pmovFromM (fun o : OpA => o.b = 0 ∧ o.a.toNat < 8) (fun o => [o.d.toNat]) (fun o c => c.wg o.d.toNat (c.rm o.a.toNat)) ∧
  regRow .setcb (fun o : OpA => o.d.toNat < 8) (fun o => [o.a.toNat, o.b.toNat])
    (fun o c => c.wcirc o.d.toNat (c.rg o.a.toNat) (c.rg o.b.toNat)) ∧
  regRow .pmovGetCb (fun o : OpA => o.b = 0 ∧ o.a.toNat < 8) (fun o => [o.d.toNat]) (fun o c => c.wg o.d.toNat (c.rcb o.a.toNat)) ∧
  regRow .pmovGetCl (fun o : OpA => o.b = 0 ∧ o.a.toNat < 8) (fun o => [o.d.toNat]) (fun o c => c.wg o.d.toNat (c.rcl o.a.toNat)) ∧
  (∀ (c : Core) v i, (c.wg 0 v = c ∧ c.rg 0 = 0) ∧ (i ≠ 0 → (c.wg i v).rg i = v))

/-- R237, R238, R247, R251: the accumulator operations. P is the exact product, signed or unsigned by UA and UB, doubled unless
INT, shifted by sh; sums saturate to 72 bits with SAT. -/
def Obligations.AccumulatorResults : Prop :=
  let shift (x n : Int) : Int := if 0 ≤ n then x * 2 ^ n.toNat else x / 2 ^ (-n).toNat
  let prod (o : OpE × BitVec 9) (c : Core) : Int :=
    let a := c.rg o.1.a.toNat
    let b := c.rg o.1.b.toNat
    let x : Int := if o.2.getLsbD 1 then a.toNat else a.toInt
    let y : Int := if o.2.getLsbD 2 then b.toNat else b.toInt
    shift (if o.2.getLsbD 0 then x * y else 2 * (x * y)) o.1.sh.toInt
  let acc (o : OpE) (c : Core) : Int := (c.ra o.acc.toNat).toInt
  regRow (fun m (o : OpE × BitVec 9) => .mac m o.1 o.2) (fun o => o.2.toNat < 8) (fun o => [o.1.a.toNat, o.1.b.toNat])
    (fun o c => accSet c o.1.acc.toNat (acc o.1 c + prod o c)) ∧
  regRow (fun m (o : OpE × BitVec 9) => .msu m o.1 o.2) (fun o => o.2.toNat < 8) (fun o => [o.1.a.toNat, o.1.b.toNat])
    (fun o c => accSet c o.1.acc.toNat (acc o.1 c - prod o c)) ∧
  regRow (fun m (o : OpE × BitVec 9) => .mpy m o.1 o.2) (fun o => o.2.toNat < 8) (fun o => [o.1.a.toNat, o.1.b.toNat])
    (fun o c => accSet c o.1.acc.toNat (prod o c)) ∧
  regRow .aclr (fun o : OpE => o.a = 0 ∧ o.b = 0 ∧ o.sh = 0) (fun _ => []) (fun o c => c.wa o.acc.toNat 0) ∧
  regRow .amov (fun o : OpE => o.a = 0 ∧ o.b.toNat < 4 ∧ o.sh = 0) (fun _ => []) (fun o c => c.wa o.acc.toNat (c.ra o.b.toNat)) ∧
  regRow .aneg (fun o : OpE => o.a = 0 ∧ o.b = 0 ∧ o.sh = 0) (fun _ => []) (fun o c => accSet c o.acc.toNat (-acc o c)) ∧
  regRow .ash (fun o : OpE => o.a = 0 ∧ o.b = 0) (fun _ => []) (fun o c => accSet c o.acc.toNat (shift (acc o c) o.sh.toInt)) ∧
  regRow .ashr (fun o : OpE => o.b = 0 ∧ o.sh = 0) (fun o => [o.a.toNat]) (fun o c =>
    let n := ((c.rg o.a.toNat).setWidth 8).toInt
    accSet c o.acc.toNat (shift (acc o c) (if n < -71 then -71 else if 71 < n then 71 else n))) ∧
  regRow .aadd (fun o : OpE => o.b = 0) (fun o => [o.a.toNat])
    (fun o c => accSet c o.acc.toNat (acc o c + shift (c.rg o.a.toNat).toInt (32 + o.sh.toInt)))

/-- R239, R240, R251: what moves between accumulators and general registers. RNDC rounds A × 2^sh / 2^32 to the nearest
integer, ties to even, EXTT towards minus infinity; both saturate to 32 bits with SAT. -/
def Obligations.ExtractionResults : Prop :=
  let sat (x : Int) : Word := BitVec.ofInt 32 (if x < -2 ^ 31 then -2 ^ 31 else if 2 ^ 31 - 1 < x then 2 ^ 31 - 1 else x)
  let put (o : OpE) (x : Int) (c : Core) : Core := { c.wg o.a.toNat (sat x) with
    flags := { c.flags with sat := c.flags.sat || decide (x < -2 ^ 31 ∨ 2 ^ 31 ≤ x) } }
  let acc (o : OpE) (c : Core) : Int := (c.ra o.acc.toNat).toInt
  let unit (o : OpE) : Int := 2 ^ (32 - o.sh.toInt).toNat
  regRow .rndc (fun o : OpE => o.b = 0) (fun o => [o.a.toNat]) (fun o c =>
    let q := acc o c / unit o
    let r := acc o c % unit o
    put o (if 2 * r < unit o then q else if 2 * r > unit o then q + 1 else if q % 2 = 0 then q else q + 1) c) ∧
  regRow .extt (fun o : OpE => o.b = 0) (fun o => [o.a.toNat]) (fun o c => put o (acc o c / unit o) c) ∧
  regRow .aldl (fun o : OpE => o.b = 0 ∧ o.sh = 0) (fun o => [o.a.toNat]) (fun o c =>
    c.wa o.acc.toNat (accPut (c.ra o.acc.toNat) 0 32 (c.rg o.a.toNat).toNat)) ∧
  regRow .aldh (fun o : OpE => o.b = 0 ∧ o.sh = 0) (fun o => [o.a.toNat]) (fun o c =>
    c.wa o.acc.toNat (accPut (c.ra o.acc.toNat) 32 32 (c.rg o.a.toNat).toNat)) ∧
  regRow .aldg (fun o : OpE => o.b = 0 ∧ o.sh = 0) (fun o => [o.a.toNat]) (fun o c =>
    c.wa o.acc.toNat (accPut (c.ra o.acc.toNat) 64 8 (c.rg o.a.toNat).toNat)) ∧
  regRow .rdl (fun o : OpE => o.b = 0 ∧ o.sh = 0) (fun o => [o.a.toNat]) (fun o c => c.wg o.a.toNat ((c.ra o.acc.toNat).setWidth 32)) ∧
  regRow .rdh (fun o : OpE => o.b = 0 ∧ o.sh = 0) (fun o => [o.a.toNat]) (fun o c => c.wg o.a.toNat ((c.ra o.acc.toNat >>> 32).setWidth 32)) ∧
  regRow .rdg (fun o : OpE => o.b = 0 ∧ o.sh = 0) (fun o => [o.a.toNat]) (fun o c =>
    c.wg o.a.toNat (((c.ra o.acc.toNat >>> 64).setWidth 8).signExtend 32)) ∧
  regRow .norm (fun _ : OpA => True) (fun o => [o.d.toNat, o.a.toNat]) (fun o c =>
    c.wg o.d.toNat (c.rg o.a.toNat <<< expn32 (c.rg o.a.toNat))) ∧
  regRow .expn (fun o : OpA => o.b = 0) (fun o => [o.d.toNat, o.a.toNat]) (fun o c =>
    c.wg o.d.toNat (BitVec.ofNat 32 (expn32 (c.rg o.a.toNat)))) ∧
  regRow .expnAcc (fun o : OpA => o.b = 0 ∧ o.a.toNat < 4) (fun o => [o.d.toNat]) (fun o c =>
    c.wg o.d.toNat (BitVec.ofInt 32 (expn72 (c.ra o.a.toNat))))

/-- R250: branches. A condition that holds moves the PC to PC + sext(off22) × 4, CALL also writes g1; JR and JRL jump to ga.
Where the spec leaves a reading open the clauses follow log entries 14 and 15, the model's choice. -/
def Obligations.BranchResults : Prop :=
  let holds (f : Flags) (n : Nat) : Bool :=
    if n = 0 then f.z else if n = 1 then !f.z else if n = 2 then f.c else if n = 3 then !f.c else if n = 4 then f.n
    else if n = 5 then !f.n else if n = 6 then f.v else if n = 7 then !f.v else if n = 8 then f.c && !f.z
    else if n = 9 then !f.c || f.z else if n = 10 then f.n == f.v else if n = 11 then f.n != f.v
    else if n = 12 then !f.z && f.n == f.v else if n = 13 then f.z || f.n != f.v else if n = 14 then true else f.sat
  (∀ m (o : OpD) s, s.ready m [1] = true →
    (let c := s.core m
     let target := c.pc + (o.off.signExtend 32 <<< 2)
     (holds c.flags o.cond.toNat = true → gives (exec (.bCond m o) s) (s.went m c target) ∧
       gives (exec (.callCond m o) s) (s.went m (c.wg 1 (c.pc + 4)) target)) ∧
     (holds c.flags o.cond.toNat = false → gives (exec (.bCond m o) s) (s.ran m c) ∧ gives (exec (.callCond m o) s) (s.ran m c)))) ∧
  (∀ m (o : OpA) s, s.ready m [o.d.toNat, o.a.toNat] = true → o.b = 0 →
    (let c := s.core m
     gives (exec (.jrl m o) s) (s.went m (c.wg o.d.toNat (c.pc + 4)) (c.rg o.a.toNat)) ∧
     (o.d = 0 → gives (exec (.jr m o) s) (s.went m c (c.rg o.a.toNat)))))

/-- R215, R216, R254: SYSCALL and BREAK take their traps; SYSCALL counts and saves the next PC.
Where the spec leaves a reading open the clauses follow log entry 16, the model's choice. -/
def Obligations.SystemTraps : Prop :=
  ∀ m s, s.canRun m = true →
    (let c := s.core m
     (∀ imm : BitVec 16, gives (exec (.syscall m 0 imm) s)
       (s.trapped m (if c.exl then c else { c with icnt := c.icnt + 1 }) (BitVec.ofNat 32 (imm.toNat * 65536 + 5)) (c.pc + 4) 0)) ∧
     gives (exec (.brk m ⟨0, 0, 0⟩) s) (s.trapped m c 6 c.pc c.pc))

/-- R208, R215, R245: a field that is marked zero and is not, mode 3 of PWR.HINT, TRET with EXL = 0 and NRET with NMIL = 0 are
ILLEGAL; a privileged instruction of a task is PRIV.
Where the spec leaves a reading open the clauses follow log entry 16, the model's choice. -/
def Obligations.RefusedInstructions : Prop :=
  ∀ m s, s.canRun m = true →
    (let c := s.core m
     let ill := s.trapped m c 1 c.pc c.pc
     let prv := s.trapped m c 2 c.pc c.pc
     (∀ o : OpA, o.d ≠ 0 → gives (exec (.jr m o) s) ill) ∧
     (∀ o : OpB, o.a ≠ 0 → gives (exec (.lui m o) s) ill) ∧
     (∀ o : OpC, o.mode = 0 → o.m ≠ 0 → gives (exec (.ld m o) s) ill ∧ gives (exec (.st m o) s) ill) ∧
     (∀ o : OpE, o.b ≠ 0 → gives (exec (.rndc m o) s) ill) ∧
     (∀ o : OpS, o.imm = 3 → gives (exec (.pwrHint m o) s) ill) ∧
     (c.exl = false → gives (exec (.tret m ⟨0, 0, 0⟩) s) ill) ∧ (c.nmil = false → gives (exec (.nret m ⟨0, 0, 0⟩) s) ill) ∧
     (c.prv = false →
       (c.exl = true → gives (exec (.tret m ⟨0, 0, 0⟩) s) prv) ∧ (c.nmil = true → gives (exec (.nret m ⟨0, 0, 0⟩) s) prv) ∧
       (∀ r1 r2, gives (exec (.freezeQ m ⟨r1, r2, 0⟩) s) prv) ∧ gives (exec (.pwrHint m ⟨0, 0, 2⟩) s) prv ∧
       (∀ r1 (sr : BitVec 10), sr.toNat < 13 → sr ≠ 1 →
         gives (exec (.srd m ⟨r1, 0, sr⟩) s) prv ∧ gives (exec (.swr m ⟨r1, 0, sr⟩) s) prv)))

/-- R216, R218: the returns. TRET restores PRV, EXL and NMIL from ESTATUS and goes to EPC; NRET restores them and the power
mode from NSTATUS and goes to NEPC, where no NMI is pending. -/
def Obligations.Returns : Prop :=
  ∀ m s, s.canRun m = true → (s.core m).prv = true →
    (let c := s.core m
     ((s.core m).exl = true → gives (exec (.tret m ⟨0, 0, 0⟩) s)
       (s.went m { c with prv := c.estatus.getLsbD 0, exl := c.estatus.getLsbD 1, nmil := c.estatus.getLsbD 2 } c.epc)) ∧
     ((s.core m).nmil = true → c.nmi = [] → gives (exec (.nret m ⟨0, 0, 0⟩) s) (fun t =>
       let c' : Core := { c with prv := c.nstatus.getLsbD 0, exl := c.nstatus.getLsbD 1, nmil := c.nstatus.getLsbD 2,
                                 pwr := c.nstatus.toNat / 16 % 4, pc := c.nepc &&& 0xFFFFFFFC, icnt := c.icnt + 1, stall := none }
       (t.core m).data = c.data ∧ ((s.setCore m c').fetchOk m c'.pc = true → t.core m = c'))))

/-- R229, R231: SRD and SWR on every system register; a read-only register ignores the write; CCNT_LO latches CCNT_HI. -/
def Obligations.SystemRegisters : Prop :=
  ∀ m (r : BitVec 5) s, s.ready m [r.toNat] = true → (s.core m).prv = true →
    (let c := s.core m
     let now := s.clk.el - c.born
     (∀ e ∈ [(0x00, c.status (s.paired m)), (0x01, c.flagWord), (0x02, c.epc &&& 0xFFFFFFFC), (0x03, c.estatus), (0x04, c.ecause),
       (0x05, c.eaddr), (0x06, c.tvec), (0x07, c.nepc), (0x08, c.nstatus), (0x09, c.ncause), (0x0A, c.nvec), (0x0B, c.sscr0),
       (0x0C, c.sscr1), (0x0D, BitVec.ofNat 32 m), (0x0F, c.ccntHi), (0x10, c.icnt), (0x11, c.tscr)],
       gives (exec (.srd m ⟨r, 0, BitVec.ofNat 10 e.1⟩) s) (s.ran m (c.wg r.toNat e.2))) ∧
     gives (exec (.srd m ⟨r, 0, 0x0E⟩) s)
       (s.ran m ({ c with ccntHi := BitVec.ofNat 32 (now / 2 ^ 32) }.wg r.toNat (BitVec.ofNat 32 now))) ∧
     (let v := c.rg r.toNat
      let w (n : Nat) (c' : Core) : Prop := gives (exec (.swr m ⟨r, 0, BitVec.ofNat 10 n⟩) s) (s.ran m c')
      w 0x01 { c with flags := ⟨v.getLsbD 0, v.getLsbD 1, v.getLsbD 2, v.getLsbD 3, v.getLsbD 4⟩ } ∧
      w 0x02 { c with epc := v &&& 0xFFFFFFFC } ∧ w 0x03 { c with estatus := v &&& 0x3F } ∧ w 0x04 c ∧ w 0x05 c ∧
      w 0x06 { c with tvec := v &&& 0xFFFFFFFC } ∧ w 0x07 { c with nepc := v } ∧ w 0x08 { c with nstatus := v &&& 0x3F } ∧
      w 0x09 c ∧ w 0x0A { c with nvec := v &&& 0xFFFFFFFC } ∧ w 0x0B { c with sscr0 := v } ∧ w 0x0C { c with sscr1 := v } ∧
      w 0x0D c ∧ w 0x0E c ∧ w 0x0F c ∧ w 0x10 c ∧ w 0x11 { c with tscr := v } ∧
      gives (exec (.swr m ⟨r, 0, 0⟩) s) (fun t =>
        let c' : Core := { c with prv := v.getLsbD 0, exl := v.getLsbD 1, pc := c.pc + 4, icnt := c.icnt + 1, stall := none }
        (t.core m).data = c.data ∧ ((s.setCore m c').fetchOk m (c.pc + 4) = true → t = s.setCore m c'))))

/-- R4, R228, R229: FREEZE.Q, CAPQ and PWR.HINT. -/
def Obligations.QueriesAndPower : Prop :=
  ∀ m s, 
    (∀ r1 r2 : BitVec 5, s.ready m [r1.toNat, r2.toNat] = true → (s.core m).prv = true →
      (let c := s.core m
       let mid := (c.rg r2.toNat).toNat % 256
       let w : Word := BitVec.ofNat 32 ((if s.isFrozen mid then 1 else 0) +
         (match s.fz.find? (fun r => r.mid == mid) with | some r => 256 * r.cause + 4096 | none => 0))
       gives (exec (.freezeQ m ⟨r1, r2, 0⟩) s) (s.ran m (c.wg r1.toNat w)))) ∧
    (∀ r1 (sel : BitVec 10), s.ready m [r1.toNat] = true →
      gives (exec (.capq m ⟨r1, 0, sel⟩) s)
        (s.ran m ((s.core m).wg r1.toNat (if sel.toNat ≤ 5 then s.regWord (0x20060000 + 4 * sel.toNat) else 0)))) ∧
    (s.canRun m = true → ∀ mode : BitVec 10, mode.toNat < 2 ∨ (mode = 2 ∧ (s.core m).prv = true) →
      gives (exec (.pwrHint m ⟨0, 0, mode⟩) s) (fun t =>
        let c := s.core m
        (t.core m).data = c.data ∧
        (((c.pc + 4).toNat % 4096 ≠ 0 ∨ mode = 2) →
          t.core m = { c with pwr := mode.toNat, pc := c.pc + 4, icnt := c.icnt + 1, stall := none })))

/-- R210 to R212, R243, R249: a load of RAM that is aligned, inside a readable window and not held by the ordering of its window
takes one of the eight outstanding places with its datum; its destination waits, its pointer moves by its mode.
Where the spec leaves a reading open the clauses follow log entries 13 and 15, the model's choice. -/
def Obligations.LoadsIssue : Prop :=
  ∀ m s (k : Nat),
    (let c := s.core m
     let issue (i : Instr) (regs : List Nat) (addr size : Nat) (sext : Bool) (dst : Nat) (upd : Core → Core) : Prop :=
       s.ready m regs = true → addr % size = 0 → (addr < 0x20000000 ∨ 0x60000000 ≤ addr) →
       memKey (s.locate (some m) addr) addr = some k →
       s.violation (s.accMid m) c.prv (s.locate (some m) addr) addr size .rd = none →
       s.isOrdered (s.accMid m) addr size = false → c.loads.length < 8 →
       gives (exec i s) (s.ran m (upd { c with loads := c.loads ++ [⟨.mem, addr, size, sext, dst, c.prv,
         some (BitVec.ofNat 64 (Mem.readN (s.ramFor (s.accMid m)) k size)), false, c.pc.toNat⟩] }))
     (∀ o : OpC, legalC o = true →
       issue (.ld m o) [o.d.toNat, o.d.toNat + 1] (addrC c o).toNat (2 ^ o.sz.toNat) true o.d.toNat (fun c => pointC c o) ∧
       issue (.ldu m o) [o.d.toNat, o.d.toNat + 1] (addrC c o).toNat (2 ^ o.sz.toNat) false o.d.toNat (fun c => pointC c o)) ∧
     (∀ o : OpB, issue (.ldw m o) [o.a.toNat, o.d.toNat] (c.rg o.a.toNat + o.imm.signExtend 32).toNat 4 false o.d.toNat id))

/-- R241, R242: the four addressing modes of format C, the size being 2^sz bytes.
Where the spec leaves a reading open the clauses follow log entry 16, the model's choice. -/
def Obligations.AddressModes : Prop :=
  ∀ (c : Core) (o : OpC),
    (let i := o.p.toNat
     let p := c.rp i
     let m := c.rm o.m.toNat
     let step : Word := BitVec.ofInt 32 (o.disp.toInt * 2 ^ o.sz.toNat)
     (o.mode = 0 → addrC c o = p + step ∧ pointC c o = c) ∧
     (o.mode = 1 → addrC c o = p ∧ pointC c o = c.wp i (p + m)) ∧
     (o.mode = 2 → addrC c o = p ∧ pointC c o = c.wp i (
       if c.rcl i = 0 then p + m
       else if (c.rcb i).toNat + (c.rcl i).toNat ≤ (p + m).toNat then p + m - c.rcl i
       else if (p + m).toNat < (c.rcb i).toNat then p + m + c.rcl i
       else p + m)) ∧
     (o.mode = 3 → addrC c o = p ∧ pointC c o = c.wp i (p + step)))

/-- R210, R212, R249: the datum of the oldest-issued place `i` reaches its register: 4 bytes whole, 1 and 2 bytes extended,
8 bytes in gd and gd + 1; the place is free again.
Where the spec leaves a reading open the clauses follow log entry 13, the model's choice. -/
def Obligations.LoadsReturn : Prop :=
  ∀ m i s l (v : BitVec 64), m < 32 → (s.core m).loads[i]? = some l → l.val = some v →
    gives (exec (.loadDataReturn m i false) s) (fun t =>
      let c : Core := { s.core m with loads := (s.core m).loads.eraseIdx i }
      (∀ n, n ≠ m → t.core n = s.core n) ∧ t.mem = s.mem ∧
      (l.size = 4 → t.core m = c.wg l.dst (v.setWidth 32)) ∧
      (l.size = 2 → t.core m = c.wg l.dst (if l.sext then (v.setWidth 16).signExtend 32 else (v.setWidth 16).setWidth 32)) ∧
      (l.size = 1 → t.core m = c.wg l.dst (if l.sext then (v.setWidth 8).signExtend 32 else (v.setWidth 8).setWidth 32)) ∧
      (l.size = 8 → t.core m = (c.wg l.dst (v.setWidth 32)).wg (l.dst + 1) ((v >>> 32).setWidth 32)))

/-- R210, R211, R249: an aligned store inside a writable window. To RAM it takes effect at every copy of its location (both of a
paired pair, R23) and nowhere else; to a register word it travels (R30, R31).
Where the spec leaves a reading open the clauses follow log entry 13, the model's choice. -/
def Obligations.StoresIssue : Prop :=
  ∀ m s, s.memOk = true →
    (let c := s.core m
     let mid := s.accMid m
     let issue (i : Instr) (regs : List Nat) (addr size v : Nat) (c' : Core) : Prop :=
       let l := s.locate (some m) addr
       s.ready m regs = true → addr % size = 0 → s.violation mid c.prv l addr size .wr = none → s.isOrdered mid addr size = false →
       ((addr < 0x20000000 ∨ 0x60000000 ≤ addr) → (l = .sram ∨ ∃ n off, l = .tcm n off) → s.heldBySys m l = false →
         gives (exec i s) (fun t =>
           (t.core m).data = c'.data ∧ (∀ n, n ≠ m → t.core n = s.core n) ∧ t.nor = s.nor ∧ t.mram = s.mram ∧
           (∀ a, (∀ k ∈ s.storeKeys l addr, a < k ∨ k + size ≤ a) → Mem.read t.mem a = Mem.read s.mem a) ∧
           (∀ k, s.storeKeys l addr = [k] → ∀ j, j < size → Mem.read t.mem (k + j) = BitVec.ofNat 8 (v / 256 ^ j)))) ∧
       (l = .reg → size = 4 → cycTarget addr = none → (s.fab.flight.filter (fun f => f.mid == mid)).length < 8 →
         (c.pc + 4).toNat % 4096 ≠ 0 →
         gives (exec i s) (fun t => t.fab.flight = s.fab.flight ++ [⟨mid, c.prv, addr, BitVec.ofNat 32 v, 4, false⟩] ∧
           t.regs = s.regs ∧ t.mem = s.mem ∧ (t.core m).data = c'.data))
     (∀ o : OpC, legalC o = true →
       issue (.st m o) [o.d.toNat, o.d.toNat + 1] (addrC c o).toNat (2 ^ o.sz.toNat)
         ((c.rg o.d.toNat).toNat + (if o.sz = 3 then (c.rg (o.d.toNat + 1)).toNat * 2 ^ 32 else 0)) (pointC c o)) ∧
     (∀ o : OpB, issue (.stw m o) [o.a.toNat, o.d.toNat] (c.rg o.a.toNat + o.imm.signExtend 32).toNat 4
       (c.rg o.d.toNat).toNat c))

/-- R210, R215, R221: where a load or a store does not complete: a misaligned address, or a register address with a size other
than 4, is ALIGN; a window violation freezes the core.
Where the spec leaves a reading open the clauses follow log entry 17, the model's choice. -/
def Obligations.BadAccesses : Prop :=
  ∀ m s,
    (let c := s.core m
     (∀ o : OpC, legalC o = true → s.ready m [o.d.toNat, o.d.toNat + 1] = true →
       (let a := (addrC c o).toNat
        let size := 2 ^ o.sz.toNat
        let l := s.locate (some m) a
        let bad := a % size ≠ 0 ∨ (0x20000000 ≤ a ∧ a < 0x60000000 ∧ size ≠ 4)
        (bad → gives (exec (.ld m o) s) (s.trapped m c 0x003 c.pc (BitVec.ofNat 32 a)) ∧
          gives (exec (.ldu m o) s) (s.trapped m c 0x003 c.pc (BitVec.ofNat 32 a)) ∧
          gives (exec (.st m o) s) (s.trapped m c 0x403 c.pc (BitVec.ofNat 32 a))) ∧
        (¬bad → s.violation (s.accMid m) c.prv l a size .rd ≠ none →
          gives (exec (.ld m o) s) (fun t => t.isFrozen m = true ∧ t.mem = s.mem) ∧
          gives (exec (.ldu m o) s) (fun t => t.isFrozen m = true ∧ t.mem = s.mem)) ∧
        (¬bad → s.violation (s.accMid m) c.prv l a size .wr ≠ none →
          gives (exec (.st m o) s) (fun t => t.isFrozen m = true ∧ t.mem = s.mem)))))

/-- R33, R35, R253: a fence whose waits are over lets the core go on, FNC.SYS and FNC.CYC and a fence that waits stall it; the
end of the waits lets the core go on, and a commit covers every uncovered staged write of the core and reports its number.
Where the spec leaves a reading open the clauses follow log entries 15 and 20, the model's choice. -/
def Obligations.FencesComplete : Prop :=
  ∀ m s,
    (let c := s.core m
     let waits (f : Stall) (t : State) : Prop := t = s.setCore m { c with stall := some f }
     (∀ o : OpA, o.d = 0 → o.a = 0 → o.b = 0 → s.ready m [] = true →
       (if s.loadsDone m then gives (exec (.fncR m o) s) (s.ran m c) else gives (exec (.fncR m o) s) (waits .fenceR)) ∧
       (if s.storesDone m then gives (exec (.fncW m o) s) (s.ran m c) else gives (exec (.fncW m o) s) (waits .fenceW)) ∧
       (if s.loadsDone m ∧ s.storesDone m then gives (exec (.fncRw m o) s) (s.ran m c)
        else gives (exec (.fncRw m o) s) (waits .fenceRW)) ∧
       gives (exec (.fncSys m o) s) (waits .fenceSys)) ∧
     (∀ o : OpA, o.a = 0 → o.b = 0 → s.ready m [o.d.toNat] = true →
       gives (exec (.fncCyc m o) s) (waits (.fenceCyc o.d.toNat))) ∧
     (s.isFrozen m = false → s.inRst m = false →
       (∀ f, c.stall = some f → f ≠ .fenceSys → s.fenceMet m f = true → gives (exec (.fenceRelease m) s) (s.ran m c)) ∧
       (∀ d n, c.stall = some (.fenceCyc d) → s.cycLanded m = true → n = s.cycChoice m →
         gives (exec (.fncCycCommit m n) s) (fun t =>
           (t.core m).data = (c.wg d (BitVec.ofNat 32 (n % 65536 + if s.cycSplit m n then 2 ^ 31 else 0))).data ∧
           t.fab.staged = s.fab.staged.map (fun x =>
             if x.core = true ∧ x.mid = m ∧ x.cov = none then { x with cov := some n } else x) ∧
           t.mem = s.mem))))

/-- R218, R219: an NMI of a core that runs and is at no NMI saves the PC and the status, names its source, and goes on at NVEC in
privileged mode; a core at an NMI keeps it pending.
Where the spec leaves a reading open the clauses follow log entry 17, the model's choice. -/
def Obligations.NmiTaken : Prop :=
  ∀ m src s, m < 32 → src < 512 → s.dieUp (m / 16) = true → s.inRst m = false → (s.paired m = true → m % 2 = 0) →
    (s.core m).nmi = [] → s.isFrozen m = false →
    (let c := s.core m
     gives (exec (.nmiEntry m src) s) (fun t =>
       (t.core m).data = c.data ∧ t.mem = s.mem ∧ (∀ n, n ≠ m → t.core n = s.core n) ∧
       (c.nmil = true → t.core m = { c with nmi := [src] }) ∧
       (c.nmil = false →
         let c' : Core := { c with nepc := c.pc, nstatus := c.status (s.paired m), ncause := BitVec.ofNat 32 src, prv := true,
                                   nmil := true, pwr := 0, pc := c.nvec, blockedIn := none, stall := none, nmi := [] }
         c.blockedIn = none → (s.setCore m c').fetchOk m c.nvec = true → t.core m = c')))

/-- R224, R232, R233: a lockstep difference and an uncorrectable TCM error freeze their core; every memory error and lockstep
difference is reported; a corrected TCM error is counted.
Where the spec leaves a reading open the clauses follow log entries 17 and 47, the model's choice. -/
def Obligations.CoreFaultReports : Prop :=
  (∀ k q s, k < 2 → q < 8 → s.dieUp k = true → s.paired (16 * k + 2 * q) = true → s.inRst (16 * k + 2 * q) = false →
    s.isFrozen (16 * k + 2 * q) = false →
    gives (exec (.coreLockstepDiff k q) s) (fun t =>
      t.isFrozen (16 * k + 2 * q) = true ∧ s.fires t (0x040 + q + 0x40 * k) ∧ t.mem = s.mem)) ∧
  (∀ m s, m < 32 → s.dieUp (m / 16) = true →
    gives (exec (.tcmEccError m false) s) (fun t =>
      t.rd (coreB (s.lead m)) Cc.CORE_STAT.TCMCE = min (s.rd (coreB (s.lead m)) Cc.CORE_STAT.TCMCE + 1) 255 ∧
      s.fires t (0x050 + m % 16 / 2 + 0x40 * (m / 16)) ∧ t.cores = s.cores ∧ t.mem = s.mem)) ∧
  (∀ m s, m < 32 → s.dieUp (m / 16) = true → s.inRst (s.lead m) = false →
    gives (exec (.tcmEccError m true) s) (fun t =>
      t.isFrozen (s.lead m) = true ∧ s.fires t (0x058 + m % 16 / 2 + 0x40 * (m / 16)) ∧ t.mem = s.mem)) ∧
  (∀ k ue s, s.dieUp k = true →
    gives (exec (.sramEccError k ue) s) (fun t =>
      s.fires t ((if ue then 0x049 else 0x048) + 0x40 * k) ∧ t.regs = s.regs ∧ t.cores = s.cores ∧ t.mem = s.mem))

/-- R209, R217, R226 to R230: the freeze unit and the core control block refuse an unprivileged writer; a release of a master that is
not frozen is NOTFROZEN; RETRY and TRAP let the core go, RESET puts it in reset; a release from reset counts the epoch.
Where the spec leaves a reading open the clauses follow log entries 12 and 18, the model's choice. -/
def Obligations.CoreControl : Prop :=
  ∀ (w : Wr) m s,
    (privileged w = false → ∀ i, i = Instr.releaseRetry w m ∨ i = Instr.releaseTrap w m ∨ i = Instr.releaseReset w m ∨
        i = Instr.coreReset w m ∨ i = Instr.coreRelease w m →
      gives (exec i s) (fun t => t.rd fzB Fz.FZ_RSTAT.NOPERM = 1 ∧ t.cores = s.cores ∧ t.frozen = s.frozen ∧ t.mem = s.mem)) ∧
    (privileged w = true → s.isFrozen m = false → ∀ i, i = Instr.releaseRetry w m ∨ i = Instr.releaseTrap w m ∨
        i = Instr.releaseReset w m →
      gives (exec i s) (fun t => t.rd fzB Fz.FZ_RSTAT.NOTFROZEN = 1 ∧ t.cores = s.cores ∧ t.frozen = s.frozen)) ∧
    (privileged w = true → m < 32 → ∀ r, s.frozen.find? (fun e => e.1 == m) = some (m, r) →
      (r.cause ≠ 3 → r.cause ≠ 5 → r.fetch = false → (s.core m).nmi = [] →
        gives (exec (.releaseRetry w m) s) (fun t => t.isFrozen m = false ∧ t.cores = s.cores ∧ t.mem = s.mem)) ∧
      (r.cause = 3 ∨ r.cause = 5 → gives (exec (.releaseRetry w m) s) (fun t =>
        t.rd fzB Fz.FZ_RSTAT.BADACT = 1 ∧ t.cores = s.cores ∧ t.frozen = s.frozen)) ∧
      (r.cause ≤ 2 → r.exl = false → (s.core m).nmi = [] → (s.core m).exl = false →
        gives (exec (.releaseTrap w m) s) (fun t => (t.core m).data = (s.core m).data ∧ t.mem = s.mem ∧
          (t.core m).epc = BitVec.ofNat 32 r.pc ∧ (t.core m).eaddr = BitVec.ofNat 32 r.addr ∧
          (t.core m).ecause = BitVec.ofNat 32 (7 + 256 * r.fetch.toNat + 1024 * r.wr.toNat) ∧ (t.core m).exl = true)) ∧
      (s.hasK (m / 16) = true → s.rd (coreB (m / 2 * 2)) Cc.CORE_CTL.PAIRED = 0 →
        gives (exec (.releaseReset w m) s) (fun t => t.inRst m = true))) ∧
    (privileged w = true → m < 32 → s.hasK (m / 16) = true → s.rd (coreB (m / 2 * 2)) Cc.CORE_CTL.PAIRED = 0 →
      gives (exec (.coreReset w m) s) (fun t => t.inRst m = true)) ∧
    (privileged w = true → m < 32 → s.dieUp (m / 16) = true → s.inRst m = true →
      s.rd (coreB (m / 2 * 2)) Cc.CORE_CTL.PAIRED = 0 →
      gives (exec (.coreRelease w m) s) (fun t => t.inRst m = false ∧
        t.rd (coreB m) Cc.CORE_STAT.EPOCH = (s.rd (coreB m) Cc.CORE_STAT.EPOCH + 1) % 256)) ∧
    gives (exec (.fzPop w) s) (fun t => t.fz = s.fz.tail ∧ t.rd fzB Fz.FZ_CNT.DEPTH = s.fz.tail.length % 16 ∧
      t.frozen = s.frozen ∧ t.cores = s.cores)

/-- R256, R257, R259: posting a slot makes an IDLE one READY, a RUNNING one run again, and counts an overrun of any other; a core
takes the READY slot that `pickTask` names, or blocks; TASK.DONE by the holder ends the run, by another core it is an error.
Where the spec leaves a reading open the clauses follow log entry 15, the model's choice. -/
def Obligations.TasksRun : Prop :=
  ∀ m s,
    (let c := s.core m
     let k := m / 16
     let st (t : State) (i : Nat) : Nat := t.rd (schB k) (Sch.TASK_STAT.STATE.at i)
     let en (i : Nat) : Prop := s.rd (schB k) (Sch.TASK_CFG.EN.at i) ≠ 0
     (c.pc + 4).toNat % 4096 ≠ 0 → (s.sch k).blocked = [] →
     (∀ o : OpA, o.d = 0 → o.b = 0 → s.ready m [o.a.toNat] = true →
       (let i := (c.rg o.a.toNat).toNat % 256
        gives (exec (.taskPost m o) s) (fun t => t.core m = { c with pc := c.pc + 4, icnt := c.icnt + 1, stall := none } ∧
          (¬en i → t.regs = s.regs) ∧
          (en i → st s i = 0 → st t i = 1 ∧ (t.sch k).ready = (s.sch k).ready ++ [i]) ∧
          (en i → st s i = 2 → st t i = 3) ∧
          (en i → st s i = 1 ∨ st s i = 3 → st t i = st s i ∧
            t.rd (schB k) (Sch.TASK_STAT.OVR.at i) = min (s.rd (schB k) (Sch.TASK_STAT.OVR.at i) + 1) 255)) ∧
        gives (exec (.taskDone m o) s) (fun t => t.core m = { c with pc := c.pc + 4, icnt := c.icnt + 1, stall := none } ∧
          (s.rd (schB k) (Sch.TASK_STAT.HOLDER.at i) = m →
            (st s i = 2 → st t i = 0) ∧
            (en i → st s i = 3 → st t i = 1 ∧ (t.sch k).ready = (s.sch k).ready ++ [i])) ∧
          (st s i < 2 ∨ s.rd (schB k) (Sch.TASK_STAT.HOLDER.at i) ≠ m → t.rd (schB k) Sch.SCH_STAT.BADDONE = 1)))) ∧
     (∀ o : OpA, o.a = 0 → o.b = 0 → s.ready m [o.d.toNat] = true →
       gives (exec (.taskGet m o) s) (fun t =>
         (∀ i, s.pickTask m = some i → st t i = 2 ∧ t.rd (schB k) (Sch.TASK_STAT.HOLDER.at i) = m ∧
           (t.sch k).ready = (s.sch k).ready.filter (fun j => j != i) ∧ (t.core m).data = (c.wg o.d.toNat (s.taskWord k i)).data) ∧
         (s.pickTask m = none → t.core m = { c with blockedIn := some (.taskGet o.d.toNat), stall := none } ∧
           (t.sch k).blocked = [m]))))

/-- R257, R258, R262: disabling a slot drops its activation; a raised event activates the slots bound to it; a corrected error of the
scheduler's memory is noted, an uncorrectable one loses the slot or the mailbox word it hit.
Where the spec leaves a reading open the clauses follow log entry 47, the model's choice. -/
def Obligations.SlotsAndEvents : Prop :=
  ∀ (w : Wr) k i s, k < 2 → i < 256 →
    (let st (t : State) : Nat := t.rd (schB k) (Sch.TASK_STAT.STATE.at i)
     let dropped (t : State) : Prop := t.rd (schB k) (Sch.TASK_CFG.EN.at i) = 0 ∧
       (st s = 1 → st t = 0 ∧ t.rd (schB k) (Sch.TASK_STAT.DROPPED.at i) = 1 ∧
         (t.sch k).ready = (s.sch k).ready.filter (fun j => j != i)) ∧
       (st s ≠ 1 → st t = st s)
     gives (exec (.taskDisable w k i) s) dropped ∧
     (∀ e, s.bound k (0xC0 + e % 64) = [] → gives (exec (.schRaise w k e) s) (fun t => t.regs = s.regs ∧ t.cores = s.cores)) ∧
     (∀ e, s.bound k (0xC0 + e % 64) = [i] → s.dieUp k = true → (s.sch k).blocked = [] → st s = 0 →
       gives (exec (.schRaise w k e) s) (fun t => st t = 1 ∧ (t.sch k).ready = (s.sch k).ready ++ [i])) ∧
     gives (exec (.schedRamError k false false i) s) (fun t => t.rd (schB k) Sch.SCH_STAT.RAMCE = 1 ∧ st t = st s) ∧
     gives (exec (.schedRamError k true false i) s) (fun t => t.rd (schB k) Sch.SCH_STAT.RAMUE = 1 ∧ dropped t) ∧
     (i < 64 → gives (exec (.schedRamError k true true i) s) (fun t =>
       t.rd (schB k) Sch.SCH_STAT.RAMUE = 1 ∧ t.rd (mbxB k) (Mbx.CH_STAT.FULL.at i) = 0)))

/-- R262 to R266: a channel without doorbell takes a word from its sender when it is empty, refuses it when full, and gives it
to its receiver; an access by any other master is denied and counted; a binding changes by a privileged write until the lock.
MBX.PUT and MBX.GET take one of the eight outstanding places; at the channel the access gives its status (0 taken, 1 full, 2
denied) or the word. -/
def Obligations.MailboxChannels : Prop :=
  (∀ (w : Wr) k c s, k < 2 → c < 64 →
      (let b := mbxB k
       let full (t : State) : Nat := t.rd b (Mbx.CH_STAT.FULL.at c)
       (∀ v, gives (exec (.chPutWrite w (64 * k + c) v) s) (fun t =>
         (s.mayUse k c w.mid w.sup true = false → t.rd b Mbx.MBX_CNT0.DENY = min (s.rd b Mbx.MBX_CNT0.DENY + 1) 65535 ∧ full t = full s) ∧
         (s.mayUse k c w.mid w.sup true = true → full s ≠ 0 →
           t.rd b Mbx.MBX_CNT1.PUTBUSY = min (s.rd b Mbx.MBX_CNT1.PUTBUSY + 1) 65535 ∧ full t = full s) ∧
         (s.mayUse k c w.mid w.sup true = true → full s = 0 → s.rd b (Mbx.CH_BIND.DBEN.at c) = 0 →
           full t = 1 ∧ t.rd b (Mbx.CH_GET.WORD.at c) = v.toNat ∧ t.rd b (Mbx.CH_STAT.SMID.at c) = w.mid % 256))) ∧
       gives (exec (.chGetRead w (64 * k + c)) s) (fun t =>
         let answer (v : Word) : Prop := t.fab.reads = s.fab.reads ++ [(w.mid, b + 0x10C + 16 * c, v)]
         (s.mayUse k c w.mid w.sup false = false → t.rd b Mbx.MBX_CNT0.DENY = min (s.rd b Mbx.MBX_CNT0.DENY + 1) 65535 ∧ answer 0) ∧
         (s.mayUse k c w.mid w.sup false = true → full s = 0 →
           t.rd b Mbx.MBX_CNT1.EMPTYRD = min (s.rd b Mbx.MBX_CNT1.EMPTYRD + 1) 65535 ∧ answer 0) ∧
         (s.mayUse k c w.mid w.sup false = true → full s ≠ 0 → s.rd b (Mbx.CH_BIND.DBEN.at c) = 0 →
           full t = 0 ∧ answer (BitVec.ofNat 32 (s.rd b (Mbx.CH_GET.WORD.at c))))) ∧
       (∀ v : Word, gives (exec (.chBindWrite w (64 * k + c) v) s) (fun t =>
         if privileged w = true ∧ s.rd b Mbx.MBX_CTL.BIND_LOCK = 0 then
           t.rd b (Mbx.CH_BIND.TXMID.at c) = v.toNat % 256 ∧ t.rd b (Mbx.CH_BIND.RXMID.at c) = v.toNat / 256 % 256 ∧
           t.rd b (Mbx.CH_BIND.V.at c) = v.toNat / 2 ^ 31
         else t.regs = s.regs)) ∧
       gives (exec (.bindLock w k) s) (fun t => t.rd b Mbx.MBX_CTL.BIND_LOCK = 1))) ∧
  (∀ m s,
      (let c := s.core m
       (∀ o : OpA, s.ready m [o.a.toNat, o.b.toNat, o.d.toNat] = true →
         (let a := (c.rg o.a.toNat).toNat
          let k := a / 64 % 2
          let issued (kind : LoadKind) : Core := { c with loads := c.loads ++
            [⟨kind, mbxB k + 0x100 + 16 * (a % 64), 4, false, o.d.toNat, c.prv, none, false, c.pc.toNat⟩] }
          s.hasK k = true → s.dieUp k = true → c.loads.length < 8 →
          gives (exec (.mbxPut m o) s)
            (s.ran m (issued (.put k (a % 64) (c.rg o.b.toNat) (s.epochOf (s.accMid m))))) ∧
          (o.b = 0 → gives (exec (.mbxGet m o) s) (s.ran m (issued (.get k (a % 64))))))) ∧
       (∀ i l, c.loads[i]? = some l → l.val = none →
         (let datum (t : State) (v : Nat) : Prop :=
            (t.core m).loads[i]? = some { l with val := some (BitVec.ofNat 64 v) }
          ∀ k ch, k < 2 → ch < 64 → s.rd (mbxB k) (Mbx.CH_BIND.DBEN.at ch) = 0 →
            (let full (t : State) : Nat := t.rd (mbxB k) (Mbx.CH_STAT.FULL.at ch)
             (∀ v e, l.kind = .put k ch v e → gives (exec (.mbxChannelPut m i) s) (fun t =>
               if s.mayUse k ch (s.accMid m) l.sup true = false then datum t 2 ∧ full t = full s
               else if full s ≠ 0 then datum t 1 ∧ full t = full s
               else datum t 0 ∧ full t = 1 ∧ t.rd (mbxB k) (Mbx.CH_GET.WORD.at ch) = v.toNat)) ∧
             (l.kind = .get k ch → gives (exec (.mbxChannelGet m i) s) (fun t =>
               if s.mayUse k ch (s.accMid m) l.sup false = false ∨ full s = 0 then datum t 0 ∧ full t = full s
               else datum t (s.rd (mbxB k) (Mbx.CH_GET.WORD.at ch) % 2 ^ 32) ∧ full t = 0)))))))

/-- R267 to R270: a doorbell sets pending bits of a core and of the even core of a paired pair; DB.WAIT takes the unmasked
pending bits or blocks the core; software sets, clears and masks bits; a ring to no core is dropped and counted. -/
def Obligations.Doorbells : Prop :=
  ∀ (w : Wr) m s, m < 32 → s.hasK (m / 16) = true →
    (let c := s.core m
     let pend (t : State) (n : Nat) : Nat := t.rd (mbxB (n / 16)) (Mbx.DB_PEND.PEND.at (n % 16))
     ((c.pc + 4).toNat % 4096 ≠ 0 →
       (∀ o : OpA, o.d = 0 → s.ready m [o.a.toNat, o.b.toNat] = true →
         (let r := (c.rg o.a.toNat).toNat % 256
          gives (exec (.dbRing m o) s) (fun t =>
            (32 ≤ r → t.rd (mbxB (m / 16)) Mbx.MBX_CNT0.DBDROP = min (s.rd (mbxB (m / 16)) Mbx.MBX_CNT0.DBDROP + 1) 65535) ∧
            (r < 32 → s.hasK (r / 16) = true → (s.fab.flight.filter (fun f => f.mid == s.accMid m)).length < 8 →
              t.fab.flight = s.fab.flight ++
                [⟨s.accMid m, c.prv, mbxB (r / 16) + 0x800 + 16 * (r % 16), c.rg o.b.toNat, 4, false⟩] ∧
              t.core m = { c with pc := c.pc + 4, icnt := c.icnt + 1, stall := none })))) ∧
       (∀ o : OpA, o.a = 0 → o.b = 0 → s.ready m [o.d.toNat] = true →
         (let hit := s.dbPend m &&& ~~~(s.dbMask m)
          gives (exec (.dbWait m o) s) (fun t =>
            if hit = 0 then t.core m = { c with blockedIn := some (.dbWait o.d.toNat), stall := none } ∧
              t.rd (mbxB (m / 16)) (Mbx.DB_STAT.WAITING.at (m % 16)) = 1
            else (t.core m).data = (c.wg o.d.toNat hit).data ∧ pend t m = (s.dbPend m &&& ~~~hit).toNat)))) ∧
     (∀ mask : Word, (s.core (s.lead m)).blockedIn = none → c.blockedIn = none →
       gives (exec (.doorbellSet m mask) s) (fun t => s.hasK (s.lead m / 16) = true →
         pend t (s.lead m) = (s.dbPend (s.lead m) ||| mask).toNat) ∧
       (if s.paired m = true ∧ m % 2 = 1 then
          gives (exec (.dbPendWrite w m mask) s) (fun t => t.regs = s.regs) ∧
          gives (exec (.dbClr w m mask) s) (fun t => t.regs = s.regs) ∧
          gives (exec (.dbMaskWrite w m mask) s) (fun t => t.regs = s.regs)
        else
          gives (exec (.dbPendWrite w m mask) s) (fun t => pend t m = (s.dbPend m ||| mask).toNat) ∧
          gives (exec (.dbClr w m mask) s) (fun t => pend t m = (s.dbPend m &&& ~~~mask).toNat) ∧
          gives (exec (.dbMaskWrite w m mask) s) (fun t =>
            t.rd (mbxB (m / 16)) (Mbx.DB_MASK.MASK.at (m % 16)) = mask.toNat))))

/-! ## Fabric, timer and modulators -/

/-- R7, R28, R29, R32, R34, R35: what the fabric records of failures, and how a landed or committed cycle write is staged.
Where the spec leaves a reading open the clauses follow log entries 19 and 20, the model's choice. -/
def Obligations.FabricRows : Prop :=
  ∀ (w : Wr) s,
    gives (exec (.absentClr w) s) (fun t => t.rd capsB Caps.ABSENT_ADDR.ADDR = 0 ∧ t.rd capsB Caps.ABSENT_INFO.MID = 0 ∧
      t.rd capsB Caps.ABSENT_INFO.WR = 0 ∧ t.rd capsB Caps.ABSENT_INFO.INSN = 0 ∧ t.rd capsB Caps.ABSENT_INFO.COUNT = 0) ∧
    gives (exec (.fabErrclr w) s) (fun t => t.rd capsB Fab.FAB_ERR_INFO.VALID = 0 ∧ t.rd capsB Fab.FAB_STAT.TMO_CNT =
      s.rd capsB Fab.FAB_STAT.TMO_CNT) ∧
    (∀ i, s.linkUp i = true → s.hasLink i = true →
      (s.fab.flit.find? (fun e => e.1 == i) = none → gives (exec (.flitCrcFail i) s) (fun t =>
        s.fires t 0x010 ∧ t.rd capsB Fab.FAB_REPLAY.COUNT = min (s.rd capsB Fab.FAB_REPLAY.COUNT + 1) (2 ^ 32 - 1) ∧
        t.pwr = s.pwr)) ∧
      (∀ at_, s.fab.flit.find? (fun e => e.1 == i) = some (i, 4, at_) → at_ = s.clk.el →
        gives (exec (.flitCrcFail i) s) (fun t => s.fires t 0x012 ∧ t.linkUp i = false))) ∧
    (∀ i, s.linkUp i = false → gives (exec (.flitCrcFail i) s) (fun t => t = s)) ∧
    (∀ m addr, m < 0x20 → s.fab.flight.any (fun f => f.mid == s.accMid m && f.addr == addr) = true →
      gives (exec (.fabricTimeout m true addr) s) (fun t => s.fires t 0x011 ∧
        t.fab.flight = s.fab.flight.eraseP (fun f => f.mid == s.accMid m && f.addr == addr) ∧
        t.rd capsB Fab.FAB_STAT.TMO_CNT = min (s.rd capsB Fab.FAB_STAT.TMO_CNT + 1) 65535 ∧
        t.rd capsB Fab.FAB_ERR_INFO.VALID ≠ 0 ∧
        (s.rd capsB Fab.FAB_ERR_INFO.VALID = 0 → t.rd capsB Fab.FAB_ERR_ADDR.ADDR = addr % 2 ^ 32))) ∧
    (∀ m i addr l, m < 0x20 → (s.core m).loads.findIdx? (fun l => l.addr == addr) = some i → (s.core m).loads[i]? = some l →
      l.size = 4 → gives (exec (.fabricTimeout m false addr) s) (fun t => s.fires t 0x011 ∧
        t.core m = ({ s.core m with loads := (s.core m).loads.eraseIdx i }).wg l.dst 0)) ∧
    (∀ ue, gives (exec (.windowTableEccError ue) s) (fun t => s.fires t (if ue then 0x014 else 0x013) ∧ t.regs = s.regs)) ∧
    (∀ m addr v tgt, 32 ≤ m → s.locate none addr = .reg → cycTarget addr = some tgt →
      gives (exec (.cycleWriteLand m addr v) s) (fun t => t.regs = s.regs ∧
        t.fab.staged = s.fab.staged ++ [⟨tgt, m, true, addr, v, 0, false, none, none⟩])) ∧
    (∀ m n tgt, m < 32 → gives (exec (.cycCommit m n tgt) s) (fun t => t.regs = s.regs ∧
      t.fab.staged.length = s.fab.staged.length ∧
      (∀ (i : Nat) x, s.fab.staged[i]? = some x →
        x.core = true ∧ x.mid = m ∧ x.tgt = tgt → x.cov = some n → t.fab.staged[i]? = some { x with commit := some n }) ∧
      (∀ (i : Nat) x, s.fab.staged[i]? = some x → ¬(x.core = true ∧ x.mid = m ∧ x.tgt = tgt) → t.fab.staged[i]? = some x)))

/-- R56 to R58: enabling the timer takes the fields of the write while it is stopped and refuses illegal values; while it runs,
fields that would change are refused and reported; clearing EN lets it stop at the end of a cycle; a running timer numbers
subframes and cycles; a read of CYC_NUM_LO latches the high part.
Where the spec leaves a reading open the clauses follow log entry 21, the model's choice. -/
def Obligations.TimerCommands : Prop :=
  ∀ (w : Wr) s,
    (∀ v : Word,
      (let n := v.toNat / 256 % 64
       let a := v.toNat / 65536 % 256
       gives (exec (.cycleTimerEn w v) s) (fun t =>
         t.rd pwrB Cyc.CYC_CTL.EN = 1 ∧
         (s.running = true → t.rd pwrB Cyc.CYC_CTL.NSUB = s.rd pwrB Cyc.CYC_CTL.NSUB ∧
           t.rd pwrB Cyc.CYC_CTL.ALIGN = s.rd pwrB Cyc.CYC_CTL.ALIGN ∧
           (n ≠ s.nsub ∨ a ≠ s.rd pwrB Cyc.CYC_CTL.ALIGN → t.rd pwrB Cyc.CYC_STAT.HELD_WR = 1 ∧ s.fires t 0x1CE)) ∧
         (s.running = false →
           (if s.nsubOk n then t.rd pwrB Cyc.CYC_CTL.NSUB = n
            else t.rd pwrB Cyc.CYC_CTL.NSUB = s.rd pwrB Cyc.CYC_CTL.NSUB ∧ t.rd pwrB Cyc.CYC_STAT.CFG_REJ = 1) ∧
           (if 40 ≤ a ∧ a ≤ 148 then t.rd pwrB Cyc.CYC_CTL.ALIGN = a
            else t.rd pwrB Cyc.CYC_CTL.ALIGN = s.rd pwrB Cyc.CYC_CTL.ALIGN ∧ t.rd pwrB Cyc.CYC_STAT.CFG_REJ = 1))))) ∧
    gives (exec (.cycleTimerDis w) s) (fun t => t.rd pwrB Cyc.CYC_CTL.EN = 0 ∧ t.running = s.running ∧ t.clk = s.clk) ∧
    (s.running = true → gives (exec .cycleTimerStart s) (fun t => t = s)) ∧
    (s.running = true → s.rd pwrB Cyc.CYC_CTL.EN ≠ 0 → gives (exec .cycleTimerStop s) (fun t => t = s)) ∧
    gives (exec .subframeBoundary s) (fun t => t.mem = s.mem ∧ t.pending = s.pending) ∧
    gives (exec .upstreamSlotsDone s) (fun t => t.clk.upOwed = s.clk.upOwed - (if s.clk.b0 = none then 0 else 1) ∧
      t.mem = s.mem) ∧
    (s.running = true → s.nsub ≤ 32 → s.rd pwrB Cyc.CYC_CTL.EN ≠ 0 → s.subIdx + 1 < s.nsub →
      (let t := s.timerBoundary
       t.subIdx = s.subIdx + 1 ∧ t.clk.n = s.clk.n + 1 ∧ t.cycNum = s.cycNum ∧ t.running = true)) ∧
    (∀ m, gives (exec (.cycNumLoRead m) s) (fun t =>
      t.fab.reads = s.fab.reads ++ [(m, pwrB + 0x204, BitVec.ofNat 32 (s.rd pwrB Cyc.CYC_NUM_LO.NUM_LO))] ∧
      t.rd pwrB Cyc.CYC_NUM_HI.NUM_HI = s.clk.cycHi % 2 ^ 16))

/-- R173 to R181, where the modulator is up: counters clear, an age flag and a plausibility exclusion clear, memory errors are noted
and an uncorrectable one unlearns the cell; each pass step keeps every memory.
Where the spec leaves a reading open the clauses follow log entries 7, 23 and 47, the model's choice. -/
def Obligations.ModulatorRows : Prop :=
  ∀ (w : Wr) k s, k < 2 → s.dieUp k = true →
    (∀ a, a < 6 → gives (exec (.armCntclr w k a) s) (fun t => t.rd (armB k a) Arm.ARM_CNT0.REFMISS = 0 ∧
      t.rd (armB k a) Arm.ARM_CNT0.DWELLV = 0 ∧ t.rd (armB k a) Arm.ARM_CNT1.CHKCNT = 0 ∧
      t.rd (armB k a) Arm.ARM_CNT1.PFXCNT = 0)) ∧
    gives (exec (.cvAgeClear w k) s) (fun t => t.rd (modB k) Mod.CV_STAT.AGE = 0 ∧
      (t.est k (s.rd (modB k) Mod.CV_STAT.SELD)).age = false) ∧
    (∀ c, c < 6144 → gives (exec (.pfxClear w k c) s) (fun t => t.rd (ctB k c) Ct.CMAP.PFX = 0 ∧ t.rd (ctB k c) Ct.CEST.PFCNT = 0)) ∧
    (∀ c, c < 6144 → gives (exec (.modRamError k c false) s) (fun t => t.rd (modB k) Mod.MOD_STAT.RAMCE = 1 ∧
      s.fires t (0x06C + 0x40 * k))) ∧
    (∀ c, c < 6144 → s.mappedOn k c = false → gives (exec (.modRamError k c true) s) (fun t =>
      t.rd (modB k) Mod.MOD_STAT.RAMUE = 1 ∧ t.rd (ctB k c) Ct.CMAP.SEED = 0 ∧ s.fires t (0x06D + 0x40 * k))) ∧
    (∀ c, c < 6144 → s.exclusionDue k c = true → s.rd (ctB k c) Ct.CMAP.PFX = 0 → s.armOf k c < 6 →
      gives (exec (.plausibilityExclusion k c) s) (fun t => t.rd (ctB k c) Ct.CMAP.PFX = 1 ∧
        t.rd (armB k (s.armOf k c)) Arm.ARM_CNT1.PFXCNT = min (s.rd (armB k (s.armOf k c)) Arm.ARM_CNT1.PFXCNT + 1) 65535)) ∧
    (∀ a, a < 6 → s.staleDue k a = true → s.rd (armB k a) Arm.ARM_CTL.REFACT = 0 → gives (exec (.refstale k a) s) (fun t =>
      t.rd (armB k a) Arm.ARM_STAT.REFSTALE = 1 ∧ (t.arm k a).stale = true ∧ s.fires t (0x06A + 0x40 * k))) ∧
    (∀ i, i = Instr.modBuildCutoff k ∨ (∃ g, i = Instr.rankComplete k g) ∨ i = Instr.checkerVerdict k ∨ i = Instr.trendPeriodEnd k →
      gives (exec i s) (fun t => t.mem = s.mem ∧ t.nor = s.nor ∧ t.mram = s.mram ∧ t.pending = s.pending))

/-! ## A-dies and law engines -/

/-- R278 to R297, where the A-die is up: urgent requests, reference and pair checks, calibration matches, counter clears and
memory errors, with the event bit and the fault source of each.
Where the spec leaves a reading open the clauses follow log entry 30, the model's choice. -/
def Obligations.ConverterRows : Prop :=
  ∀ (w : Wr) a s, a < 2 → s.adUp a = true →
    (let b := adB a
     let src (i : Nat) : Nat := 0x140 + 16 * a + i
     let evt (t : State) (i : Nat) : Prop := (t.rd b Ad.AD_EVT.EVT).testBit i = true
     gives (exec (.refDiff a) s) (fun t => t.rd b Ad.AD_STAT.REFBAD = 1) ∧
     gives (exec (.refDiffEnd a) s) (fun t => t.rd b Ad.AD_STAT.REFBAD = 0) ∧
     (s.rd b Ad.AD_STAT.REFBAD ≠ 0 → gives (exec (.referr a) s) (fun t => t.rd b Ad.AD_STAT.REFERR = 1 ∧ evt t 5 ∧ s.fires t (src 0))) ∧
     gives (exec (.adCntclr w a) s) (fun t => t.rd b Ad.AD_CNT0.URGDROP = 0 ∧ t.rd b Ad.AD_CNT0.SKIPPED = 0 ∧
       t.rd b Ad.AD_CNT1.PFAIL = 0 ∧ t.rd b Ad.AD_CNT1.ROTCNT = 0) ∧
     (∀ n (v : Word), n < 24 →
       gives (exec (.urgRequest w a n v) s) (fun t =>
         if v.toNat % 8 = 7 ∨ 47 < v.toNat / 65536 % 64 then
           t.rd b Ad.AD_STAT.CFG_REJ = 1 ∧ s.fires t (src 6) ∧ t.rd (seqB a n) Seq.SEQ_STAT.URGPEND = s.rd (seqB a n) Seq.SEQ_STAT.URGPEND
         else if s.rd (seqB a n) Seq.SEQ_STAT.URGPEND ≠ 0 then
           t.rd b Ad.AD_CNT0.URGDROP = min (s.rd b Ad.AD_CNT0.URGDROP + 1) 65535
         else t.rd (seqB a n) Seq.SEQ_STAT.URGPEND = 1 ∧
           Tab.get (t.ad a).urg n ⟨0, 0, 0, 0⟩ = ⟨v.toNat % 8, v.toNat / 256 % 2, v.toNat / 65536 % 64, s.clk.pt⟩)) ∧
     (∀ sum : Int, s.rd b Ad.AD_STAT.CALSEL < 24 → s.rd b Ad.AD_STAT.CALPH = 0 → (s.ad a).noMatch = false →
       gives (exec (.calMatchEnd a sum) s) (fun t =>
         if 64 * s.rd b Ad.AD_CTL.SPTOL < sum.natAbs then
           (t.rd b Ad.SPMIS.MIS).testBit (s.rd b Ad.AD_STAT.CALSEL) = true ∧ evt t 4 ∧ s.fires t (src 3)
         else t.rd b Ad.AD_STAT.CALPH = 1 ∧ t.rd (seqB a (s.rd b Ad.AD_STAT.CALSEL)) Seq.SEQ_STAT.SPARE = 1)) ∧
     (∀ p r, p < 12 → Tab.get (s.ad a).runs p ⟨0, false⟩ = r → r.told = false → max 1 (s.rd b Ad.PAIR_CTL.PLIM) ≤ r.fails →
       gives (exec (.pairMismatch a p) s) (fun t => (t.rd b Ad.PAIRMIS.MIS).testBit p = true ∧ evt t 2 ∧ s.fires t (src 1))) ∧
     gives (exec (.adieOvertemp a) s) (fun t => s.fires t (src 7) ∧ t.regs = s.regs) ∧
     (∀ n r, gives (exec (.adieRamError a false n r) s) (fun t => t.rd b Ad.AD_STAT.RAMCE = 1 ∧ s.fires t (src 4))) ∧
     (∀ n, n < 24 → gives (exec (.adieRamError a true n none) s) (fun t =>
       t.rd b Ad.AD_STAT.RAMUE = 1 ∧ t.rd (seqB a n) Seq.SEQ_CTL.EN = 0 ∧ t.rd (seqB a n) Seq.SEQ_STAT.RUN = 0)) ∧
     (∀ n vin, gives (exec (.adcResult a n vin) s) (fun t => t.mem = s.mem ∧
       ((s.ad a).conv.find? (fun c => c.n == n) = none → t = s))) ∧
     (∀ ofs gain, gives (exec (.calDwellEnd a ofs gain) s) (fun t => t.mem = s.mem ∧
       (s.rd b Ad.AD_STAT.CALSEL = 0x1F → t = s))))

/-- R186 to R204, where the K-die is up: stale inputs and plausibility are reported once, a lockstep difference and an uncorrectable
memory error freeze the engine, the state of a running channel is not cleared, an export ends with its trailer answered.
Where the spec leaves a reading open the clauses follow log entry 31, the model's choice. -/
def Obligations.LawRows : Prop :=
  ∀ (w : Wr) k s, k < 2 → s.dieUp k = true →
    (let b := lawB k
     (∀ i, i < 128 → s.rd b (Lmap.MAP.SRC.at i) = 2 → (s.rd b (Law.IN_STALE.STALE.at (i / 32))).testBit (i % 32) = false →
       gives (exec (.svInputStale k i) s) (fun t =>
         (t.rd b (Law.IN_STALE.STALE.at (i / 32))).testBit (i % 32) = true ∧ s.fires t (0x067 + 0x40 * k))) ∧
     (∀ ch sec, ch < 6 → gives (exec (.modelPlausibility k ch sec) s) (fun t =>
       if (s.law k).due.contains (ch, sec) then t.rd (lchB k ch) Lch.CH_STAT.PLAUS = 1 ∧
         t.rd (lchB k ch) Lch.CH_STAT.PSEC = sec % 256 ∧
         t.rd (lchB k ch) Lch.CH_CNT.PLAUSCNT = min (s.rd (lchB k ch) Lch.CH_CNT.PLAUSCNT + 1) 65535
       else t = s)) ∧
     (∀ ch, ch < 6 → s.rd (lchB k ch) Lch.CH_STAT.RUNNING ≠ 0 → gives (exec (.clrst w k ch) s) (fun t =>
       t.rd (lchB k ch) Lch.CH_STAT.HELD_WR = 1 ∧ s.fires t (0x065 + 0x40 * k) ∧
       (∀ j, t.lawState k j = s.lawState k j))) ∧
     (∀ ch, ch < 6 → gives (exec (.clrplaus w k ch) s) (fun t => t.mem = s.mem)) ∧
     gives (exec (.lawLockstepDiff k) s) (fun t => s.rd b Law.LAW_STAT.FROZEN = 0 →
       t.rd b Law.LAW_STAT.FROZEN = 1 ∧ t.mem = s.mem) ∧
     gives (exec (.lawRamError k false) s) (fun t => t.rd b Law.LAW_STAT.RAMCE = 1 ∧ s.fires t (0x062 + 0x40 * k)) ∧
     gives (exec (.lawRamError k true) s) (fun t => (s.rd b Law.LAW_STAT.FROZEN = 0 → t.rd b Law.LAW_STAT.FROZEN = 1) ∧
       (s.rd b Law.LAW_STAT.FROZEN ≠ 0 → t.rd b Law.LAW_STAT.RAMUE = 1 ∧ s.fires t (0x063 + 0x40 * k))) ∧
     (∀ x y, (s.law k).exp = some (x, y, true) → s.unanswered (lawMid k) = false →
       gives (exec (.exportDone k) s) (fun t => t.rd b Law.EXP_CNT.DONE = min (s.rd b Law.EXP_CNT.DONE + 1) 65535 ∧
         (t.rd b Law.LAW_EVT.EVT).testBit 0 = true)) ∧
     (∀ i, i = Instr.lawInputFill k ∨ i = Instr.lawDeferredWrite k →
       gives (exec i s) (fun t => t.mem = s.mem ∧ t.nor = s.nor ∧ t.mram = s.mram ∧ t.pending = s.pending)) ∧
     (∀ i, i = Instr.fastPassEnd k ∨ i = Instr.slowPassEnd k →
       gives (exec i s) (fun t => t.fixed = s.fixed ∧ (s.memOk = true → t.memOk = true))))

/-! ## DMA channels, acquisition engines, Ethernet and package time -/

/-- R303 to R309, where the K-die is up: a channel starts at its head descriptor, pauses, resumes where it was, aborts to IDLE,
looks again at its last link after an append, ends at a null link, and stops on an uncorrectable error.
Where the spec leaves a reading open the clauses follow log entry 34, the model's choice. -/
def Obligations.DmaRows : Prop :=
  ∀ (w : Wr) k c s, k < 2 → c < 16 → s.dieUp k = true →
    (let b := dchB k c
     let st (t : State) : Nat := t.rd b Dch.CH_STAT.STATE
     gives (exec (.dmaStart w k c) s) (fun t =>
       if s.dRuns k c then t.regs = s.regs
       else s.rd b Dch.CH_CTL.PAUSE = 0 → st t = 1 ∧ t.rd b Dch.CH_DESC.DESC = s.rd b Dch.CH_HEAD.HEAD * 32 % 2 ^ 32 ∧
         t.rd b Dch.CH_CNT.DONE = 0 ∧ t.rd b Dch.CH_STAT.BADDESC = 0) ∧
     gives (exec (.dmaPause w k c) s) (fun t => t.rd b Dch.CH_CTL.PAUSE = 1 ∧
       (s.dRuns k c = true → st s ≠ 5 → st t = 5 ∧ (t.rd b Dch.CH_EVT.EVT).testBit 3 = true)) ∧
     gives (exec (.dmaResume w k c) s) (fun t => st s = 5 → s.rd b Dch.CH_STAT.FRZ = 0 → (s.dma k c).left = 1 ∨ (s.dma k c).left = 2 →
       t.rd b Dch.CH_CTL.PAUSE = 0 ∧ st t = (s.dma k c).left) ∧
     gives (exec (.dmaAbort w k c) s) (fun t => if s.dRuns k c then st t = 0 ∧ t.dma k c = DmaCh.reset else t.regs = s.regs) ∧
     gives (exec (.dmaAppend w k c) s) (fun t =>
       (st s = 1 ∨ st s = 2 ∨ st s = 3 ∨ st s = 5 → t.rd b Dch.CH_STAT.RECHECK = 1 ∧ st t = st s) ∧
       (st s = 0 ∨ st s = 6 → t.regs = s.regs)) ∧
     gives (exec (.dmaRamError k false []) s) (fun t => t.rd (dmaB k) Dma.DMA_STAT.RAMCE = 1 ∧ s.fires t (0x07B + 0x40 * k)) ∧
     gives (exec (.dmaRamError k true []) s) (fun t => t.rd (dmaB k) Dma.DMA_STAT.RAMUE = 1 ∧ s.fires t (0x07C + 0x40 * k)) ∧
     gives (exec (.dmaReadReturn k c true) s) (fun t =>
       if st s = 1 ∧ (s.dma k c).load = false then st t = 6 ∧ t.rd b Dch.CH_STAT.MEMUE = 1 ∧ s.fires t (0x07A + 0x40 * k)
       else t = s) ∧
     gives (exec (.dmaReadReturn k c false) s) (fun t => t.fixed = s.fixed ∧ (s.memOk = true → t.memOk = true)) ∧
     (∀ v, st s = 3 → (s.dma k c).link = some v → gives (exec (.dmaLinkReturn k c) s) (fun t =>
       (v.getLsbD 0 = false → st t = 1 ∧ t.rd b Dch.CH_DESC.DESC = v.toNat / 32 * 32) ∧
       (v.getLsbD 0 = true → s.rd b Dch.CH_STAT.RECHECK = 0 → st t = 4 ∧ (t.rd b Dch.CH_EVT.EVT).testBit 1 = true))) ∧
     gives (exec (.dmaDescLoaded k c) s) (fun t => t.mem = s.mem ∧ (st s ≠ 1 → t = s)) ∧
     gives (exec (.dmaDrainDone k c) s) (fun t => t.mem = s.mem ∧ (st s ≠ 2 → t = s)))

/-- R312 to R324, on a part with the option and with the K-die up: arming starts a recording, an enabled software trigger of an
armed engine begins its post-trigger part, a stop or the end of that part leaves it complete; capture memory takes no write.
Where the spec leaves a reading open the clauses follow log entry 32, the model's choice. -/
def Obligations.AcquisitionRows : Prop :=
  ∀ (w : Wr) k s, k < 2 → s.part.q = true → s.dieUp k = true →
    (let b := acqB k
     let st (t : State) : Nat := t.rd b Acq.ACQ_STAT.STATE
     gives (exec (.acqArm w k) s) (fun t => if st s = 1 ∨ st s = 2 then t.regs = s.regs else st t = 1) ∧
     gives (exec (.acqStop w k) s) (fun t => st t ≠ 1 ∧ st t ≠ 2) ∧
     gives (exec (.swtrig w k) s) (fun t => st s = 1 → (s.rd b Acq.TRIG_CFG.TRIG_EN).testBit 9 = true →
       st t = 2 ∧ t.rd b Acq.ACQ_STAT.TV = 1 ∧ (t.rd b Acq.ACQ_EVT.EVT).testBit 0 = true) ∧
     (∀ i f, s.acqRuns 0 = false → s.acqRuns 1 = false → gives (exec (.trigInEdge i f) s) (fun t => t = s) ∧
       gives (exec .xtrigFall s) (fun t => t = s)) ∧
     (∀ i f, gives (exec (.trigInEdge i f) s) (fun t => t.mem = s.mem)) ∧ gives (exec .xtrigFall s) (fun t => t.mem = s.mem) ∧
     gives (exec (.xtrigRelease k) s) (fun t => (t.acqs k).drives = false ∧ t.regs = s.regs) ∧
     gives (exec (.acqPostEnd k) s) (fun t => st s = 2 → (s.acqs k).queue = [] → st t = 3 ∧
       (t.rd b Acq.ACQ_EVT.EVT).testBit 1 = true) ∧
     gives (exec (.acqTimeRecord k) s) (fun t => t.mem = s.mem ∧ (s.acqRuns k = false → t = s)) ∧
     gives (exec (.acqRecordWrite k) s) (fun t => (s.acqRuns k = false → t = s) ∧ (s.memOk = true → t.memOk = true)) ∧
     (∀ addr, s.locate none addr = .cap k → gives (exec (.captureMemWrite w addr) s) (fun t => t.rd b Acq.ACQ_STAT.WRDISC = 1 ∧
       t.mem = s.mem)) ∧
     (∀ m addr, s.locate none addr = .cap k →
       gives (exec (.captureMemRead m addr true false) s) (fun t => t.rd b Acq.ACQ_STAT.CAPCE = 1 ∧ s.fires t (0x021 + 4 * k)) ∧
       gives (exec (.captureMemRead m addr false true) s) (fun t => t.rd b Acq.ACQ_STAT.CAPUE = 1 ∧ s.fires t (0x022 + 4 * k))) ∧
     (∀ m, gives (exec (.tcntLowRead m k 0x50) s) (fun t =>
       t.fab.reads = s.fab.reads ++ [(m, b + 0x50, BitVec.ofNat 32 s.tick)] ∧ t.rd b (Acq.TCNT.CNT.at 1) = s.tick / 2 ^ 32 % 2 ^ 32)))

/-- R328 to R350: reading package time latches its other words; time is not set while the cycle timer runs; the Vernier is
disabled, rearmed, and holds over; a port is enabled, kicked, counted, and loses and gains its link.
Where the spec leaves a reading open the clauses follow log entry 36, the model's choice. -/
def Obligations.EthernetRows : Prop :=
  ∀ (w : Wr) s,
    (∀ m, gives (exec (.timeNsRead m) s) (fun t => t.fab.reads = s.fab.reads ++ [(m, ethB, BitVec.ofNat 32 s.nowNs)] ∧
      t.rd ethB Eth.TIME_SEC.SEC = s.nowSec % 2 ^ 32 ∧ t.rd ethB Eth.TIME_FRAC.FRAC = s.nowFrac ∧ t.clk = s.clk)) ∧
    (s.running = true →
      (∀ adj, gives (exec (.timeSet w adj) s) (fun t => t.rd ethB Eth.TIME_STAT.STEP_REJ = 1 ∧ s.fires t 0x166 ∧ t.clk = s.clk)) ∧
      gives (exec (.timeAdj w) s) (fun t => t.rd ethB Eth.TIME_STAT.STEP_REJ = 1 ∧ s.fires t 0x166 ∧ t.clk = s.clk)) ∧
    (let st (t : State) : Nat := t.rd ethB Eth.VN_STAT.STATE
     gives (exec (.vnDisable w) s) (fun t => t.rd ethB Eth.VN_CTL.EN = 0 ∧ st t = 0) ∧
     gives (exec (.vnRearm w) s) (fun t => if s.rd ethB Eth.VN_CTL.EN ≠ 0 ∧ st s = 4 then st t = 1 ∧ t.eth.vnRef = true
       else t.regs = s.regs) ∧
     gives (exec .vernierHoldover s) (fun t => if s.rd ethB Eth.VN_CTL.EN ≠ 0 ∧ st s = 1 then st t = 2 ∧ s.fires t 0x167 ∧
       (t.rd ethB Eth.VN_EVT.EVT).testBit 0 = true else t = s) ∧
     (∀ ofs, s.rd ethB Eth.VN_CTL.EN = 0 → gives (exec (.vnPrimarySample w ofs) s) (fun t => t.regs = s.regs) ∧
       gives (exec (.vnSecondarySample w ofs) s) (fun t => t.regs = s.regs))) ∧
    (∀ ts f, gives (exec (.syncInCapture ts f) s) (fun t => t.mem = s.mem ∧ (s.rd ethB Eth.SYNC_CTL.SIEN = 0 → t = s))) ∧
    (∀ m, gives (exec (.siTsNsRead m) s) (fun t =>
      t.fab.reads = s.fab.reads ++ [(m, ethB + 0x208, BitVec.ofNat 32 (s.rd ethB Eth.SI_TS_NS.NS))] ∧
      t.rd ethB Eth.SI_TS_SEC.SEC = s.eth.siTs / 65536000000000 % 2 ^ 32)) ∧
    gives (exec .syncOutPulse s) (fun t => t.regs = s.regs ∧ (s.rd ethB Eth.SYNC_CTL.SOEN ≠ 0 → s.rd ethB Eth.SYNC_CTL.SOSEL = 0 →
      t.eth.soHigh = some (s.clk.pt + max 1 (s.rd ethB Eth.SYNC_CTL.SOW) * 6553600))) ∧
    (∀ e, e < 4 →
      (let b := portB e
       gives (exec (.portEnable w e) s) (fun t => t.rd b Port.PORT_CTL.EN ≠ 0 ∧
         (s.rd b Port.PORT_CTL.EN = 0 → t.rd b Port.RING_IDX.RX = 0 ∧ t.rd b Port.RING_IDX.TX = 0)) ∧
       gives (exec (.txKick w e) s) (fun t => e ∉ t.eth.txIdle ∧ t.regs = s.regs) ∧
       gives (exec (.portCntClr w e) s) (fun t => t.rd b Port.RXOK.COUNT = 0 ∧ t.rd b Port.RXDROP.COUNT = 0 ∧
         t.rd b Port.RXFRZ.COUNT = 0 ∧ t.rd b Port.RXERR.COUNT = 0 ∧ t.rd b Port.TXOK.COUNT = 0) ∧
       gives (exec (.ethLinkLoss e) s) (fun t => t.rd b Port.PORT_STAT.LINK = 0 ∧
         (s.rd b Port.PORT_STAT.LINK ≠ 0 → (t.rd b Port.PORT_EVT.EVT).testBit 0 = true ∧
           (s.rd b Port.PORT_CTL.EN ≠ 0 → s.fires t (0x160 + e)))) ∧
       gives (exec (.ethLinkUp e) s) (fun t => t.rd b Port.PORT_STAT.LINK ≠ 0 ∧
         (s.rd b Port.PORT_STAT.LINK = 0 → (t.rd b Port.PORT_EVT.EVT).testBit 0 = true)) ∧
       (∀ ue, gives (exec (.portRamError e ue) s) (fun t => s.fires t (if ue then 0x165 else 0x164) ∧ t.regs = s.regs)) ∧
       (∀ fr, gives (exec (.frameReceived e fr) s) (fun t => t.fixed = s.fixed ∧ (s.memOk = true → t.memOk = true))) ∧
       (∀ ts, gives (exec (.frameTransmitted e ts) s) (fun t => t.fixed = s.fixed ∧ (s.memOk = true → t.memOk = true))))) ∧
    (∀ i fr, gives (exec (.svFrameReceived i fr) s) (fun t => t.mem = s.mem ∧ (s.rd (svB i) Sv.SV_CTL.EN = 0 → t = s)))

/-! ## Lanes and cell contexts -/

/-- R99 to R107, on a lane of an L-die that is up: enabling and disabling, DARK and waking, lock, PLL and transmitter faults,
the wake tone, the receive scan, the counters and the broadcast queue; when an L-die's PLL unlocks no lane of it transmits, and
when its framer disagrees all transmitters of the die are off and stay held.
Where the spec leaves a reading open the clauses follow log entry 27, the model's choice. -/
def Obligations.LaneStates : Prop :=
  (∀ (w : Wr) ln s, ln < 64 → s.laneUp ln = true →
      (let b := laneB ln
       gives (exec (.laneEnSet w ln) s) (fun t => t.rd b Lane.LANE_CTL.EN = 1 ∧
         t.lstate ln = if s.lstate ln = 2 then s.runState ln else s.lstate ln) ∧
       gives (exec (.laneEnClear w ln) s) (fun t => t.rd b Lane.LANE_CTL.EN = 0 ∧
         (s.lstate ln = 3 ∨ s.lstate ln = 4 → (s.lane ln).darkHeld = false → t.lstate ln = 2 ∧ t.rd b Lane.LANE_STAT.TXEN = 0 ∧
           (t.lane ln).line = [] ∧ (t.lane ln).maps = []) ∧
         (s.lstate ln ≠ 3 → s.lstate ln ≠ 4 → t.lstate ln = s.lstate ln)) ∧
       gives (exec (.laneDarkRequest w ln) s) (fun t =>
         if s.allEmpty ln then t.rd b Lane.LANE_CTL.DARK = 1 ∨ s.lstate ln = 0
         else t.rd b Lane.LANE_STAT.DARK_REJ = 1 ∧ t.lstate ln = s.lstate ln) ∧
       (s.lstate ln = 2 → s.allEmpty ln = true → gives (exec (.laneDarkRequest w ln) s) (fun t => t.lstate ln = 0)) ∧
       gives (exec (.laneWakeUp w ln) s) (fun t => t.rd b Lane.LANE_CTL.DARK = 0 ∧ (t.lane ln).darkHeld = false ∧
         t.lstate ln = if s.lstate ln = 0 then 1 else s.lstate ln) ∧
       gives (exec (.laneLocked ln) s) (fun t => if s.lstate ln = 1 then
           (t.rd b Lane.LANE_EVT.EVT).testBit 11 = true ∧ (s.rd b Lane.LANE_CTL.EN ≠ 0 → t.lstate ln = s.runState ln)
         else t = s) ∧
       gives (exec (.laneTxflt ln) s) (fun t => t.rd b Lane.LANE_STAT.TXFLT = 1 ∧ (t.rd b Lane.LANE_FLT.CAUSE).testBit 0 = true ∧
         s.fires t (ldieSrc ln + ln % 16)) ∧
       gives (exec (.rxlos ln) s) (fun t => (s.lane ln).darkCyc < 4 → t = s) ∧
       gives (exec (.wakeStart w ln) s) (fun t => if s.lstate ln = 3 then t.rd b Lane.WAKE_CTL.BUSY = 1 else t.regs = s.regs) ∧
       gives (exec (.wakeToneEnd ln) s) (fun t => t.rd b Lane.WAKE_CTL.BUSY = 0) ∧
       (∀ sl, s.rd b Lane.RS_CTL.SLOT = sl → sl < 96 → s.cstate (ln * 96 + sl) = 3 → (s.lane ln).scan = none →
         gives (exec (.rsStart w ln) s) (fun t => t.rd b Lane.RS_STAT.BUSY = 1 ∧ t.rd b Lane.RS_STAT.POINT = 0 ∧
           (t.lane ln).scan = some ⟨sl, max 1 (s.rd b Lane.RS_CTL.BURSTS), 0, 0⟩)) ∧
       gives (exec (.rsAbort w ln) s) (fun t => (t.lane ln).scan = none ∧
         ((s.lane ln).scan ≠ none → t.rd b Lane.RS_STAT.BUSY = 0 ∧ t.rd b Lane.RS_STAT.ABORTED = 1)) ∧
       (∀ counts, gives (exec (.rsScanDone ln counts) s) (fun t => if (s.lane ln).scan = none then t = s else
         (t.lane ln).scan = none ∧ t.rd b Lane.RS_STAT.BUSY = 0 ∧ t.rd b Lane.RS_STAT.DONE = 1 ∧
         (t.rd b Lane.LANE_EVT.EVT).testBit 9 = true)) ∧
       gives (exec (.laneCntClr w ln) s) (fun t => t.rd b Lane.CNT_RXOK.COUNT = 0 ∧ t.rd b Lane.CNT_RXFAIL.COUNT = 0 ∧
         t.rd b Lane.CNT_REGRANT.COUNT = 0 ∧ t.rd b Lane.CNT_RGDROP.COUNT = 0 ∧ t.rd b Lane.CNT_BABBLE.COUNT = 0 ∧
         t.rd b Lane.CNT_ACMDRS.COUNT = 0) ∧
       (∀ v, gives (exec (.bcastPush w ln v) s) (fun t =>
         if 8 ≤ (s.lane ln).bcast.length then t.rd b Lane.BCAST_STAT.BC_OVF = 1 ∧ (t.lane ln).bcast = (s.lane ln).bcast
         else (t.lane ln).bcast = (s.lane ln).bcast ++ [v] ∧ t.rd b Lane.BCAST_STAT.DEPTH = (s.lane ln).bcast.length + 1)))) ∧
  (∀ l s, l < 4 → s.hasL l = true →
      gives (exec (.ldiePllUnlock l) s) (fun t => ∀ j, j < 16 → t.rd (laneB (16 * l + j)) Lane.LANE_STAT.LSTATE = 0 ∨
        t.rd (laneB (16 * l + j)) Lane.LANE_STAT.LSTATE = 2) ∧
      gives (exec (.framerMismatch l) s) (fun t => l ∈ t.txHold ∧
        ∀ j, j < 16 → t.rd (laneB (16 * l + j)) Lane.LANE_STAT.TXEN = 0))

/-- R93, R98, R105, R107, for a context of a lane that is up: the CELL_CMD bits act only from the states the table gives, a push
is refused, overflows or queues, and RAM errors report themselves.
Where the spec leaves a reading open the clauses follow log entries 27 and 47, the model's choice. -/
def Obligations.ContextRows : Prop :=
  ∀ ln sl s, ln < 64 → sl < 96 → s.laneUp ln = true →
    (let c := ln * 96 + sl
     let b := ctxB c
     gives (exec (.cellCmdAssign ln sl) s) (fun t => if s.cstate c = 0 then t.cstate c = 1 else t = s) ∧
     gives (exec (.cellCmdEnable ln sl) s) (fun t =>
       if s.cstate c = 1 ∨ s.cstate c = 5 then
         if s.rd (laneB ln) Lane.LANE_STAT.NENABLED < s.upSlots then t.cstate c = 2
         else t.rd b Ctx.CELL_STAT.ENREJ = 1 ∧ t.cstate c = s.cstate c
       else t = s) ∧
     gives (exec (.cellCmdOccult ln sl) s) (fun t =>
       if s.cstate c = 2 ∨ s.cstate c = 3 ∨ s.cstate c = 4 then t.cstate c = 5 else t = s) ∧
     gives (exec (.cellCmdRelease ln sl) s) (fun t => if s.cstate c = 0 then t = s else t.cstate c = 0) ∧
     gives (exec (.cellCmdCntclr ln sl) s) (fun t => t.rd b Ctx.CELL_CNT0.RPT_OK = 0 ∧ t.rd b Ctx.CELL_CNT0.RPT_FAIL = 0 ∧
       t.rd b Ctx.CELL_CNT1.LATE = 0 ∧ t.rd b Ctx.CELL_CNT1.DCRC = 0 ∧ t.rd b Ctx.CELL_SEE.MIN = 255 ∧ t.cstate c = s.cstate c) ∧
     (∀ v, gives (exec (.acmdPush ln sl v) s) (fun t =>
       let x := s.ctx c
       if cmdOp v = 7 ∨ cmdOp v = 8 ∨ cmdOp v = 0xC then t.rd b Ctx.ACMD_STAT.REJ = 1 ∧ t.ctx c = x
       else if 4 ≤ x.queue.length + (if x.out.isSome then 1 else 0) then t.rd b Ctx.ACMD_STAT.OVF = 1 ∧ t.ctx c = x
       else t.ctx c = { x with queue := x.queue ++ [v] } ∧
         t.rd b Ctx.ACMD_STAT.DEPTH = x.queue.length + 1 + (if x.out.isSome then 1 else 0))) ∧
     gives (exec (.ackwaitExpiry ln sl) s) (fun t => ((s.ctx c).out = none → t = s) ∧ t.mem = s.mem ∧
       (∀ o, (s.ctx c).out = some o → o.due = false → s.cstate c = 3 → 2 ≤ o.resends →
         max 3 (s.rd (laneB ln) Lane.LANE_CTL.ACKWAIT) + o.held ≤ (s.cycNum + 2 ^ 48 - o.cyc) % 2 ^ 48 →
         t.rd b Ctx.ACMD_STAT.FAIL = 1 ∧ (t.ctx c).out = none ∧ t.cstate c = 4)) ∧
     gives (exec (.seeErrPersist ln sl) s) (fun t => if 16 ≤ (s.ctx c).seeBad ∧ (s.ctx c).seeDone = false then
       s.fires t (ldieSrc ln + 25) ∧ (t.ctx c).seeDone = true else t = s) ∧
     gives (exec (.contextRamError ln sl false) s) (fun t => s.fires t (ldieSrc ln + 16) ∧ t.regs = s.regs) ∧
     gives (exec (.contextRamError ln sl true) s) (fun t => t.cstate c = 5 ∧ (t.ctx c).nopOnce = true))

/-- R65 to R76, R82 to R89, R96, R97: a lane in RUN puts a frame that begins with an HDR block on the line; ranging that meets
no burst at its last guess, or a foreign serial number, fails with its cause; a lane that is absent or off receives nothing.
Where the spec leaves a reading open the clauses follow log entry 27, the model's choice. -/
def Obligations.BurstRows : Prop :=
  ∀ ln s, ln < 64 →
    gives (exec (.laneBuildCutoff ln) s) (fun t => t.mem = s.mem ∧ (s.laneUp ln = false → t = s)) ∧
    gives (exec (.frameStart ln) s) (fun t => t.mem = s.mem ∧ (s.laneUp ln = false ∨ s.lstate ln ≠ 3 → t = s) ∧
      (s.laneUp ln = true → s.lstate ln = 3 → (t.lane ln).occall = (s.lane ln).occall - 1 ∧
        ∃ h r, (t.lane ln).line = h :: r ∧ h.btype = 1 ∧ (s.running = false → r = []))) ∧
    (∀ slot rx, gives (exec (.laneReportRx ln slot rx) s) (fun t => t.mem = s.mem ∧
      (s.laneUp ln = false ∨ (s.lstate ln ≠ 3 ∧ s.lstate ln ≠ 4) → t = s))) ∧
    (∀ rx, gives (exec (.laneRangingRx ln rx) s) (fun t => t.mem = s.mem ∧ (s.laneUp ln = false ∨ s.lstate ln ≠ 3 → t = s) ∧
      (∀ sl r, s.laneUp ln = true → s.lstate ln = 3 → s.rangingNow ln = some (sl, r) → sl < 96 → burstGood rx.bits = true →
        rx.err.natAbs ≤ 42900 → rfield rx.bits 111 64 ≠ (s.serialOf (ln * 96 + sl)).toNat →
        t.cstate (ln * 96 + sl) = 1 ∧ t.rd (ctxB (ln * 96 + sl)) Ctx.CELL_STAT.RFCAUSE = 2))) ∧
    gives (exec (.rangingNoBurst ln) s) (fun t => t.mem = s.mem ∧
      (∀ sl r, s.laneUp ln = true → s.lstate ln = 3 → s.rangingNow ln = some (sl, r) → sl < 96 →
        (r.guesses = [] → t.cstate (ln * 96 + sl) = 1 ∧ t.rd (ctxB (ln * 96 + sl)) Ctx.CELL_STAT.RFCAUSE = 1) ∧
        (∀ g l, r.guesses = g :: l → t.regs = s.regs ∧ (t.ctx (ln * 96 + sl)).rng =
          some { r with placed := false, guess := g, guesses := l, waited := 0 }))) ∧
    (∀ who, gives (exec (.outOfGrantLight ln who) s) (fun t => t.mem = s.mem ∧
      (s.laneUp ln = true → s.lstate ln = 4 → (t.lane ln).lightNow = true ∧
        t.rd (laneB ln) Lane.CNT_BABBLE.COUNT = min (s.rd (laneB ln) Lane.CNT_BABBLE.COUNT + 1) 4294967295 ∧
        (t.rd (laneB ln) Lane.LANE_EVT.EVT).testBit 6 = true))) ∧
    gives (exec (.babbleUnidentified ln) s) (fun t => t.mem = s.mem ∧
      (s.laneUp ln = true → s.lstate ln = 3 → s.rd (laneB ln) Lane.LANE_CTL.BAB_ALL = 0 →
        max 1 (s.rd (laneB ln) Lane.LANE_CTL.BAB_TH) ≤ (s.lane ln).lightRun → s.fires t (ldieSrc ln + 18))) ∧
    gives (exec (.babblePersist ln) s) (fun t => t.mem = s.mem ∧
      (∀ n, (s.lane ln).occPersist = some n → 4 ≤ n → t.rd (laneB ln) Lane.LANE_STAT.BABPERS = 1 ∧
        (t.rd (laneB ln) Lane.LANE_FLT.CAUSE).testBit 4 = true))

/-! ## Cell controllers -/

/-- R117 to R135, R148: a command word at the head of a linked cell executes as its opcode says where the word is legal, has no
effect but BADCMD where it is not, and does nothing before its turn.
Where the spec leaves a reading open the clauses follow log entry 25, the model's choice. -/
def Obligations.CellCommands : Prop :=
  ∀ c (e : CmdEntry) s,
    (let arg := cmdArg e.word
     let x := s.cell c
     (s.nextWord c ≠ some e →
       gives (exec (.setState c e) s) (fun t => t = s) ∧ gives (exec (.setPwm c e) s) (fun t => t = s) ∧
       gives (exec (.force c e) s) (fun t => t = s) ∧ gives (exec (.clearTrip c e) s) (fun t => t = s) ∧
       gives (exec (.readReg c e) s) (fun t => t = s) ∧ gives (exec (.writeReg c e) s) (fun t => t = s) ∧
       gives (exec (.sleep c e) s) (fun t => t = s) ∧ gives (exec (.bistStart c e) s) (fun t => t = s) ∧
       gives (exec (.armBypass c e) s) (fun t => t = s) ∧ gives (exec (.fireBypass c e) s) (fun t => t = s)) ∧
     (s.nextWord c = some e → s.cellLinked c = true → s.duplicate c e = true → cmdOp e.word = 14 →
       gives (exec (.fireBypass c e) s) (fun t => t = s.setCell c { x with waiting := x.waiting.tail })) ∧
     (s.nextWord c = some e → s.cellLinked c = true → s.duplicate c e = false → s.crd c Cell.BIST_STAT.BUSY = 0 →
       gives (exec (.nop c e) s) (fun t => (cmdOp e.word = 0 → arg = 0 → t = (s.setCell c { x with waiting := x.waiting.tail }).ackSeq c e) ∧
         (cmdOp e.word = 8 ∨ cmdOp e.word = 9 ∨ cmdOp e.word = 12 ∨ cmdOp e.word = 15 →
           (t.cell c).badcmd = true ∧ t.cregs = (s.ackSeq c e).cregs)) ∧
       (cmdOp e.word = 1 → gives (exec (.setState c e) s) (fun t =>
         if arg < 4 ∧ s.mayState c arg = true then t.crd c Cell.CSTAT.STATE = arg ∧ t.crd c Cell.CSTAT.BLKCAUSE = 0 ∧
           (t.cell c).carrier = none
         else (t.cell c).badcmd = true ∧ t.cregs = (s.ackSeq c e).cregs)) ∧
       (cmdOp e.word = 2 → e.place ≠ .bcast → gives (exec (.setPwm c e) s) (fun t =>
         let st := if toSigned (arg / 65536) 10 < 0 then 2 else 1
         if s.mayState c st = true ∧ 2 * s.dt c + 64 ≤ arg % 65536 then t.crd c Cell.CSTAT.STATE = st ∧
           t.crd c Cell.PWM_APER.PER = arg % 65536 ∧ t.crd c Cell.PWM_ADUTY.DUTY = arg / 65536 % 1024
         else (t.cell c).badcmd = true ∧ t.cregs = (s.ackSeq c e).cregs)) ∧
       (cmdOp e.word = 3 → e.place = .acmd → gives (exec (.force c e) s) (fun t =>
         if arg < 32 ∧ s.crd c Cell.CFG.FORCE_PERM ≠ 0 ∧ s.badLevel c (arg % 16) = false then
           t.crd c Cell.FORCE.LEVEL = arg % 16 ∧ t.crd c Cell.FORCE.FEN = arg / 16
         else (t.cell c).badcmd = true ∧ t.cregs = (s.ackSeq c e).cregs)) ∧
       (cmdOp e.word = 4 → e.place ≠ .slot → arg < 16 →
         s.crd c Cell.TRIPSTAT.TIN &&& s.crd c Cell.TRIPCFG.TRIPEN &&& arg = 0 → gives (exec (.clearTrip c e) s) (fun t =>
           t.crd c Cell.TRIPSTAT.TLATCH = (s.crd c Cell.TRIPSTAT.TLATCH - (s.crd c Cell.TRIPSTAT.TLATCH &&& arg)) % 16)) ∧
       (cmdOp e.word = 5 → e.place = .acmd → arg % 65536 = 0 → gives (exec (.readReg c e) s) (fun t =>
         if arg / 65536 < 256 then (t.cell c).rdv = true ∧ (t.cell c).raddr = arg / 65536 ∧
           (t.cell c).rdata = (s.ackSeq c e).cellReg c (arg / 65536)
         else (t.cell c).badcmd = true ∧ t.cregs = (s.ackSeq c e).cregs)) ∧
       (∀ q, e.ack = some q → gives (exec (.nop c e) s) (fun t => cmdOp e.word = 0 →
         t.crd c Cell.LASTSEQ.SEQ = q.toNat ∧ t.crd c Cell.LASTSEQ.SEQV = 1)) ∧
       (cmdOp e.word = 6 → e.place = .acmd → 2 ^ 24 ≤ arg → gives (exec (.writeReg c e) s) (fun t =>
         (t.cell c).badcmd = true ∧ t.cregs = (s.ackSeq c e).cregs)) ∧
       (∀ v, v < 8192 → cmdOp e.word = 6 → e.place = .acmd → arg = 7 * 65536 + v → gives (exec (.writeReg c e) s) (fun t =>
         t.crd c Cell.FLT_MASK.MASK = v)) ∧
       (cmdOp e.word = 10 → e.place = .acmd → arg = 2 ^ 24 → s.crd c Cell.CSTAT.STATE = 3 → gives (exec (.sleep c e) s) (fun t =>
         (t.cell c).power = .newt)) ∧
       (cmdOp e.word = 11 → e.place = .acmd → arg < 3 → s.crd c Cell.CSTAT.STATE = 3 → gives (exec (.bistStart c e) s) (fun t =>
         t.crd c Cell.BIST_STAT.BUSY = 1 ∧ t.crd c Cell.BIST_STAT.TYPE = arg ∧ t.crd c Cell.CSTAT.BYPA = 0 ∧ (t.cell c).pat = 0)) ∧
       (cmdOp e.word = 13 → e.place = .acmd → 0 < arg → arg < 256 → gives (exec (.armBypass c e) s) (fun t =>
         t.crd c Cell.CSTAT.BYPA = 1 ∧ (t.cell c).key = arg ∧ t.crd c Cell.CSTAT.BYPF = s.crd c Cell.CSTAT.BYPF)) ∧
       (cmdOp e.word = 14 → e.place = .acmd → 0 < arg → gives (exec (.fireBypass c e) s) (fun t =>
         t.crd c Cell.CSTAT.BYPA = 0 ∧
         if s.crd c Cell.CSTAT.BYPA ≠ 0 ∧ x.key = arg then t.crd c Cell.CSTAT.BYPF = 1 ∧ (t.cell c).byp = true ∧ (t.cell c).pat = 0
         else t.crd c Cell.CSTAT.BYPF = s.crd c Cell.CSTAT.BYPF ∧ (t.cell c).badcmd = true)))) ∧
    gives (exec (.bypassWindowExpiry c) s) (fun t => s.cellUp c = true → t.crd c Cell.CSTAT.BYPA = 0) ∧
    gives (exec (.bypPulseEnd c) s) (fun t => (t.cell c).byp = false ∧ t.cregs = s.cregs) ∧
    gives (exec (.cellClrcnt c) s) (fun t => s.cellUp c = true → t.crd c Cell.FSTART.COUNT = 0 ∧ t.crd c Cell.LOLCNT.COUNT = 0 ∧
      t.crd c Cell.GUARDCNT.COUNT = 0 ∧ ∀ i, i < 4 → t.crd c (Cell.TRIPCNT.COUNT.at i) = 0) ∧
    (∀ v, s.cellUp c = true → gives (exec (.bypfClr c v) s) (fun t =>
      if v.toNat.testBit 1 = true ∧ v.toNat / 256 % 256 = 0xB5 then t.crd c Cell.CSTAT.BYPF = 0 else t = s))

/-- R69 to R76, R80, R112: what a cell takes from the blocks of its lane. A cell that is not linked takes only an HDR; a bad
block counts in DCRC; a good one has the effect its type gives.
Where the spec leaves a reading open the clauses follow log entry 25, the model's choice. -/
def Obligations.CellBlocks : Prop :=
  ∀ c (b : Block) s,
    (∀ m, s.cellLinked c = false → gives (exec (.cellCmdBlock c b m) s) (fun t => t = s) ∧ gives (exec (.cellRptBlock c b m) s) (fun t => t = s) ∧
      gives (exec (.cellAcmd c b m) s) (fun t => t = s) ∧ gives (exec (.cellBcast c b m) s) (fun t => t = s) ∧
      gives (exec (.cellMer c b) s) (fun t => t = s) ∧ gives (exec (.cellGrant c b) s) (fun t => t = s)) ∧
    (∀ m, s.cellLinked c = true → s.blockOk c b = false →
      (let n := min 7 ((s.cell c).dcrc + 1)
       gives (exec (.cellCmdBlock c b m) s) (fun t => (t.cell c).dcrc = n ∧ (t.cell c).failed = b.bidx.toNat :: (s.cell c).failed) ∧
       gives (exec (.cellRptBlock c b m) s) (fun t => (t.cell c).dcrc = n) ∧ gives (exec (.cellAcmd c b m) s) (fun t => (t.cell c).dcrc = n) ∧
       gives (exec (.cellBcast c b m) s) (fun t => (t.cell c).dcrc = n) ∧ gives (exec (.cellMer c b) s) (fun t => (t.cell c).dcrc = n) ∧
       gives (exec (.cellGrant c b) s) (fun t => (t.cell c).dcrc = n) ∧ gives (exec (.enableTx c b) s) (fun t => (t.cell c).dcrc = n) ∧
       gives (exec (.release c b) s) (fun t => (t.cell c).dcrc = n) ∧ gives (exec (.eqset c b) s) (fun t => (t.cell c).dcrc = n))) ∧
    (s.cellUp c = true → b.good = true → b.btype.toNat = 1 → gives (exec (.cellHdrAccept c b) s) (fun t =>
      (t.cell c).power = .linked ∧ (t.cell c).sub = b.wd 2 ∧ (t.cell c).ofs = bits (b.wd 1) 10 0 ∧
      ((b.wd 0).testBit 23 = true → t.crd c Cell.CSTAT.OCC = 1) ∧
      ((b.wd 0).testBit 24 = true → t.crd c Cell.CSTAT.STATE = 3 ∧ t.crd c Cell.CSTAT.BLKCAUSE = 1 ∧ (t.cell c).pat = 0))) ∧
    (∀ sl m, s.blockOk c b = true → b.btype.toNat = 0x10 → s.ownSlot c = some sl → sl / 8 = b.bidx.toNat →
      m + 1250 * (cmdApply (b.word (sl % 8)) : Int) < 20 →
      gives (exec (.cellCmdBlock c b m) s) (fun t => (t.cell c).late = true ∧ (t.cell c).waiting = (s.cell c).waiting)) ∧
    (s.blockOk c b = true → b.btype.toNat = 2 → gives (exec (.cellMer c b) s) (fun t =>
      (t.cell c).cyc = b.wd 0 + b.wd 1 % 65536 * 2 ^ 32 ∧ (t.cell c).sec = b.wd 2 + b.wd 3 * 2 ^ 32 ∧ (t.cell c).ns = b.wd 4)) ∧
    (s.maintFor c 1 b = true → gives (exec (.enableTx c b) s) (fun t => t.crd c Cell.SLOT_R.SLOT = b.mslot % 128 ∧
      t.crd c Cell.SLOT_R.SLOTV = 1 ∧ t.crd c Cell.CSTAT.OCC = 0 ∧ t.crd c Cell.CSTAT.EQV = 0)) ∧
    (s.maintFor c 2 b = true → gives (exec (.occult c true b) s) (fun t => t.crd c Cell.CSTAT.OCC = 1)) ∧
    (s.maintFor c 3 b = true → gives (exec (.release c b) s) (fun t => t.crd c Cell.CSTAT.OCC = 1 ∧
      t.crd c Cell.SLOT_R.SLOTV = 0 ∧ t.crd c Cell.CSTAT.EQV = 0)) ∧
    (s.maintFor c 4 b = true → s.ownSlot c = some b.mslot → gives (exec (.eqset c b) s) (fun t => t.crd c Cell.CSTAT.EQV = 1 ∧
      t.crd c Cell.RTD_L.VAL + t.crd c Cell.RTD_H.VAL * 65536 = bits (b.wd 2) 19 0 ∧
      t.crd c Cell.DDN_L.VAL + t.crd c Cell.DDN_H.VAL * 65536 = bits (b.wd 3) 19 0))

/-- R81, R139 to R146: an occulted cell transmits nothing, ranging answers with the cell's burst, a report is frozen and its
flags cleared, conversions store their codes, and the calibration alternates.
Where the spec leaves a reading open the clauses follow log entries 25 and 26, the model's choice. -/
def Obligations.CellReports : Prop :=
  ∀ c s,
    (s.crd c Cell.CSTAT.OCC ≠ 0 → gives (exec (.range c) s) (fun t => t = s) ∧ gives (exec (.cellReportTx c) s) (fun t => t = s) ∧
      ∀ m, gives (exec (.cellRegrantTx c m) s) (fun t => t = s)) ∧
    (∀ m f r g, s.mayTx c = true → s.cellMap c (s.cell c).cyc = some (m, f) → m.mode = 2 → m.rng = some (r, g) →
      r = s.crd c Cell.SLOT_R.SLOT → gives (exec (.range c) s) (fun t =>
        (t.cell c).burst = some (rangingBurst r (Config.cellSerial c).toNat))) ∧
    (s.cellUp c = true → gives (exec (.cellReportFreeze c) s) (fun t => (t.cell c).badcmd = false ∧ (t.cell c).late = false ∧
      (t.cell c).dcrc = 0 ∧ (t.cell c).rdv = false ∧
      (t.cell c).reports = (((s.cell c).meas.cyc, (s.freezeReport c).pack) :: (s.cell c).reports).take 8) ∧
     ∀ va vb : Int,
       gives (exec (.cellConversion c 0 va vb) s) (fun t => t.crd c Cell.VCA.CODE = uniCode va ∧ t.crd c Cell.VCB.CODE = uniCode vb ∧
         (t.crd c Cell.VCA.OV = 1 ↔ 1200000 ≤ va)) ∧
       gives (exec (.cellConversion c 1 va vb) s) (fun t => t.crd c Cell.TEMPC.CODE = sgnCode va 600000 ∧
         t.crd c Cell.AUXC.CODE = uniCode vb) ∧
       gives (exec (.cellConversion c 2 va vb) s) (fun t => t.crd c Cell.CHKA.CODE = uniCode va ∧ t.crd c Cell.CHKB.CODE = uniCode vb) ∧
       gives (exec (.cellCalSwitch c true) s) (fun t =>
         t.crd c Cell.CAL_STAT.CALSEL = if s.crd c Cell.CAL_STAT.CALSEL = 1 then 2 else 1) ∧
       (s.crd c Cell.CAL_STAT.CALSEL = 1 → gives (exec (.cellCalSwitch c false) s) (fun t =>
         t.crd c Cell.CAL_STAT.CALFAILA = 1 ∧ (t.crd c Cell.FLT_STAT.CAUSE).testBit 1 = true ∧ t.crd c Cell.CAL_STAT.CALSEL = 2))) ∧
    (s.cellUp c = true → ∀ k, (s.cell c).carrier = some k →
      gives (exec (.carrierPeriodStart c) s) (fun t => (t.cell c).pwmc = true ∧ ∃ k2, (t.cell c).carrier = some k2 ∧ k2.start = s.clk.ct) ∧
      gives (exec (.cellAlignedBoundary c) s) (fun t => (t.cell c).pwmc = true ∧ (t.cell c).carrier = some k)) ∧
    (s.cellUp c = true → (s.cell c).carrier = none → gives (exec (.carrierPeriodStart c) s) (fun t => t = s) ∧
      gives (exec (.cellAlignedBoundary c) s) (fun t => (t.cell c).pwmc = false))

/-- R110 to R116, R123, R131, R134, R147, R148: faults block the cell's outputs with their cause, trips latch, and the fast
domain starts and stops.
Where the spec leaves a reading open the clauses follow log entry 25, the model's choice. -/
def Obligations.CellFaults : Prop :=
  ∀ c s,
    (let cause (t : State) (i : Nat) : Prop := (t.crd c Cell.FLT_STAT.CAUSE).testBit i = true
     let blocks (t : State) (v : Nat) : Prop := t.crd c Cell.CSTAT.STATE = 3 ∧ t.crd c Cell.CSTAT.BLKCAUSE = v ∧ (t.cell c).carrier = none
     (s.cellLinked c = true →
       gives (exec (.lossOfLight c) s) (fun t => cause t 2 ∧ blocks t 2 ∧ (t.cell c).pat = 0 ∧ (t.cell c).power = .acquire) ∧
       gives (exec (.lolTimeout c) s) (fun t => cause t 3 ∧ blocks t 3) ∧
       gives (exec (.cellPllUnlock c) s) (fun t => cause t 6 ∧ blocks t 0 ∧ (t.cell c).txOff = true)) ∧
     (s.cellUp c = true →
       gives (exec (.txGuardViolation c) s) (fun t => cause t 5 ∧ t.crd c Cell.CSTAT.OCC = 1) ∧
       gives (exec (.cellParityError c) s) (fun t => cause t 7 ∧ blocks t 0 ∧ (t.cell c).waiting = []) ∧
       (∀ e, gives (exec (.cellDupmis c e) s) (fun t => cause t 8 ∧ blocks t 0)) ∧
       gives (exec (.cellOvertemp c) s) (fun t => cause t 9 ∧ t.cells = s.cells) ∧
       gives (exec (.vauxlow c) s) (fun t => cause t 12 ∧ t.cells = s.cells) ∧
       (s.crd c Cell.CFG.GSUP_LOCK ≠ 0 → (s.cell c).blk.gsup = false →
         gives (exec (.gsupLow c) s) (fun t => cause t 4 ∧ blocks t 6 ∧ (t.cell c).pat = 0)) ∧
       gives (exec (.gsupOkRestored c) s) (fun t => (t.cell c).blk.gsup = false ∧ (t.cell c).gsup = true) ∧
       (∀ i, i < 4 → (s.crd c Cell.TRIPCFG.TRIPEN).testBit i = true → (s.crd c Cell.TRIPSTAT.TLATCH).testBit i = false →
         gives (exec (.tripInput c i) s) (fun t => blocks t 0 ∧ t.crd c Cell.TRIPSTAT.TLATCH ≠ 0)) ∧
       (∀ misr golden, s.crd c Cell.BIST_STAT.BUSY ≠ 0 → gives (exec (.cellBistEnd c misr golden) s) (fun t =>
         (t.cell c).carrier = none ∧ (t.cell c).power = (s.cell c).power)) ∧
       gives (exec (.vauxOffFall c) s) (fun t => (t.cell c).power = .newt ∧ (t.cell c).vauxOn = false ∧ (t.cell c).waiting = [])) ∧
     (∀ i, gives (exec (.tripInputInactive c i) s) (fun t => (t.crd c Cell.TRIPSTAT.TIN).testBit (i % 4) = false)) ∧
     ((s.cell c).power = .off → gives (exec (.newtColdStart c) s) (fun t => (t.cell c).power = .newt ∨ (t.cell c).power = .starting)) ∧
     ((s.cell c).power = .newt → s.crd c Cell.CSTAT.AWREQ ≠ 0 → gives (exec (.vauxOnRise c) s) (fun t => (t.cell c).power = .starting)) ∧
     ((s.cell c).power = .newt → (s.cell c).vauxOn = true → gives (exec (.wake c) s) (fun t => (t.cell c).power = .starting)) ∧
     ((s.cell c).power = .starting → gives (exec (.regulatorsInRange c) s) (fun t => (t.cell c).power = .acquire)) ∧
     gives (exec (.newtBrownout c) s) (fun t => (t.cell c).power = .off ∧ t.laserAllowed c = false))

/-! ## Fault collector and safety unit -/

/-- R353, R357 to R366: the liveness output, the watchdog, the lock, the log, injection and the clears of the fault collector; a
source the part lacks or whose die is down reports nothing; a firing counts, is pending and is logged once while it is, and
one of class F takes the safe state.
Where the spec leaves a reading open the clauses follow log entry 43, the model's choice. -/
def Obligations.CollectorRows : Prop :=
  (∀ (w : Wr) s,
      (∀ n tag, gives (exec (.faultFiring n tag) s) (fun t => t.fixed = s.fixed ∧ (s.memOk = true → t.memOk = true) ∧
        (s.canFire n = false → t = s))) ∧
      (∀ b, gives (exec (.blockResetDone b) s) (fun t => t.mem = s.mem ∧ (b ∉ s.fc.resetting → t = s)) ∧
        gives (exec (.conseqWindowEnd b) s) (fun t => b ∉ t.fc.conseq ∧ t.regs = s.regs) ∧
        gives (exec (.escalationWindowEnd b) s) (fun t => b ∉ t.fc.escal ∧ t.regs = s.regs)) ∧
      (∀ n, n < 512 → gives (exec (.fsPendClear w n) s) (fun t => t.rd fcB (Fc.FS_STAT.PEND.at n) = 0 ∧
        (t.rd fcB (Fc.FLT_PEND.PEND.at (n / 32))).testBit (n % 32) = false)) ∧
      gives (exec (.aliveEn w) s) (fun t => (s.flatch = true ∨ s.astopPend = true → t.regs = s.regs) ∧
        (s.rd fcB Fc.FC_STAT.ALIVE_RUN = 0 → s.flatch = false → s.astopPend = false → t.rd fcB Fc.FC_STAT.ALIVE_RUN = 1 ∧
          t.fc.alive = true)) ∧
      gives (exec (.aliveStop w) s) (fun t => t.mem = s.mem ∧ (s.rd fcB Fc.FC_STAT.ALIVE_RUN = 0 → t.regs = s.regs)) ∧
      gives (exec .aliveHalfPeriod s) (fun t => t.regs = s.regs ∧
        t.fc.alive = if s.rd fcB Fc.FC_STAT.ALIVE_RUN = 0 then s.fc.alive else !s.fc.alive) ∧
      gives (exec .aliveReadbackFail s) (fun t => s.fires t 2 ∧ t.regs = s.regs) ∧
      gives (exec (.fcLock w) s) (fun t => t.rd fcB Fc.FC_CTL.LOCK = 1 ∧ t.rd fcB Fc.FC_STAT.LOCKED = 1) ∧
      gives (exec (.wden w) s) (fun t => t.rd fcB Fc.FC_CTL.WDEN ≠ 0 ∧ (s.rd fcB Fc.FC_CTL.WDEN = 0 → t.fc.wdRun = true)) ∧
      (∀ v : Word, gives (exec (.wdKick w v) s) (fun t =>
        if v.toNat % 256 = 0xA5 ∧ s.fc.wd5a = true then t.fc.wd5a = false ∧ (t.fc.wdRun = true ↔ s.rd fcB Fc.FC_CTL.WDEN ≠ 0)
        else t.fc.wdRun = s.fc.wdRun ∧ (t.fc.wd5a = true ↔ v.toNat % 256 = 0x5A))) ∧
      gives (exec .watchdogExpiry s) (fun t => if s.fc.wdRun then s.fires t 6 ∧ t.fc.wdRun = false else t = s) ∧
      gives (exec (.flogPop w) s) (fun t => t.fc.log = s.fc.log.tail ∧ t.rd fcB Fc.FLOG_CNT.DEPTH = s.fc.log.tail.length % 64) ∧
      (∀ n, n < 512 → gives (exec (.fsClr w) s) (fun t => t.rd fcB (Fc.FS_STAT.COUNT.at n) = 0)) ∧
      (∀ v : Word, v.toNat.testBit 12 = true → (∀ cl k, srcInfo (v.toNat % 512) = some (cl, some k) → k ≠ bits v.toNat 10 9) →
        gives (exec (.injectionArm w v) s) (fun t => t.rd fcB Fc.INJ_STAT.REJ = 1 ∧ t.fc.inj = s.fc.inj)) ∧
      (∀ (v : Word) cl, v.toNat.testBit 12 = true → srcInfo (v.toNat % 512) = some (cl, some (bits v.toNat 10 9)) →
        s.srcUp (v.toNat % 512) = true → s.fc.inj = none →
        gives (exec (.injectionArm w v) s) (fun t => t.rd fcB Fc.INJ_STAT.BUSY = 1 ∧
          t.fc.inj = some (v.toNat % 512, bits v.toNat 10 9))) ∧
      gives (exec .injectionTimeout s) (fun t => if s.fc.inj = none then t = s else t.fc.inj = none ∧
        t.rd fcB Fc.INJ_STAT.BUSY = 0 ∧ t.rd fcB Fc.INJ_STAT.TIMEOUT = 1) ∧
      gives (exec (.parityScrub true true) s) (fun t => t.sprOn = true ∧ s.fires t 0x18C) ∧
      (∀ b, gives (exec (.parityScrub b false) s) (fun t => t = s)) ∧
      gives (exec (.parityScrub false true) s) (fun t => t.nor = s.nor ∧ (s.pendOn 0 = true → t.fc.log = s.fc.log))) ∧
  (∀ (w : Wr) s,
      (∀ n cls kd, n < 512 → srcInfo n = some (cls, kd) → s.canFire n = true → s.fc.conseq = [] → s.fc.escal = [] →
        n ≠ 0x18B → n ≠ 0x18C →
        (∀ f ∈ [Fc.FS_CFG.IRQ, Fc.FS_CFG.NMI, Fc.FS_CFG.BRST, Fc.FS_CFG.CRST, Fc.FS_CFG.ASTOP], s.fsOn n f = false) →
        gives (exec (.faultFiring n .real) s) (fun t =>
          t.rd fcB (Fc.FS_STAT.COUNT.at n) = min (s.rd fcB (Fc.FS_STAT.COUNT.at n) + 1) 65535 % 65536 ∧
          (s.pendOn n = true → t.fc.log = s.fc.log) ∧
          (s.pendOn n = false → t.rd fcB (Fc.FS_STAT.PEND.at n) = 1 ∧
            (cls = .f → s.flatch = false → t.flatch = true ∧ t.rd fcB Fc.FC_FFIRST.SRC = n ∧ t.rd fcB Fc.FC_STAT.ALIVE_RUN = 0)))) ∧
      gives (exec (.aliveStop w) s) (fun t => s.rd fcB Fc.FC_STAT.ALIVE_RUN ≠ 0 → t.rd fcB Fc.FC_STAT.ALIVE_RUN = 0) ∧
      (∀ b, gives (exec (.blockResetDone b) s) (fun t => b ∉ t.fc.resetting ∨ t.fc.resetting = s.fc.resetting)))

/-- R373 to R390: Safe-Power requests and releases, Safe-Ramp requests, arming, the stop inputs, the breaker, the readbacks and
the safety network of the safety unit.
Where the spec leaves a reading open the clauses follow log entry 44, the model's choice. -/
def Obligations.SafetyRows : Prop :=
  ∀ (w : Wr) s,
    (let stat (t : State) (f : Fld) : Nat := t.rd safB f
     (privileged w = false →
       gives (exec (.sprReq w) s) (fun t => stat t Saf.SAFE_STAT.NOPERM = 1 ∧ t.sprOn = s.sprOn ∧ s.fires t 0x18F) ∧
       gives (exec (.srsReq w) s) (fun t => stat t Saf.SAFE_STAT.NOPERM = 1 ∧ t.sprOn = s.sprOn ∧ s.fires t 0x18F) ∧
       ∀ same, gives (exec (.sprRel w same) s) (fun t => stat t Saf.SAFE_STAT.NOPERM = 1 ∧ t.sprOn = s.sprOn ∧ s.fires t 0x18F)) ∧
     (privileged w = true →
       gives (exec (.sprReq w) s) (fun t => t.sprOn = true ∧ (s.sprOn = false → stat t Saf.SAFE_STAT.SPRCAUSE = 9 ∧
         stat t Saf.SAFE_STAT.SRS = 0 ∧ t.saf.stopDue = true ∧ t.saf.brkDue = true ∧ s.fires t 0x180)) ∧
       (s.sprOn = false → stat s Saf.SAFE_STAT.SRS = 0 → gives (exec (.srsReq w) s) (fun t => stat t Saf.SAFE_STAT.SRS = 1 ∧
         stat t Saf.SAFE_STAT.SRSCAUSE = 1 ∧ s.fires t 0x181)) ∧
       (∀ same, s.relCause same ≠ 0 → gives (exec (.sprRel w same) s) (fun t => stat t Saf.SAFE_STAT.REL_REJ = 1 ∧
         stat t Saf.REL_CAUSE.CAUSE = s.relCause same % 256 ∧ t.sprOn = s.sprOn ∧ s.fires t 0x18E)) ∧
       (∀ same, s.relCause same = 0 → s.sprOn = true → gives (exec (.sprRel w same) s) (fun t => t.sprOn = false ∧
         stat t Saf.SAFE_STAT.STOUT = 3 ∧ stat t Saf.SAFE_STAT.BRK = 0))) ∧
     (stat s Saf.SAFE_CTL.ARM = 0 → stat s Saf.SAFE_CTL.SFEN ≠ 0 → stat s Saf.SF_CONN.CONN = 0 →
       gives (exec (.safetyArm w) s) (fun t => stat t Saf.SAFE_STAT.CFG_REJ = 1 ∧ stat t Saf.SAFE_CTL.ARM = 0 ∧ s.fires t 0x18F)) ∧
     (stat s Saf.SAFE_CTL.ARM = 0 → stat s Saf.SAFE_CTL.SFEN = 0 →
       gives (exec (.safetyArm w) s) (fun t => stat t Saf.SAFE_CTL.ARM = 1 ∧ stat t Saf.SAFE_STAT.ARMED = 1 ∧ stat t Saf.SAFE_STAT.NET = 0)) ∧
     gives (exec .srsViolation s) (fun t => (stat s Saf.SAFE_STAT.SRS = 0 → t = s) ∧ (∀ i k, stat s Saf.SAFE_STAT.SRS ≠ 0 →
       s.saf.violDue = some (i, k) → t.sprOn = true ∧ stat t Saf.SRS_VIOL.ENTRY = i % 16 ∧ stat t Saf.SRS_VIOL.FILL = k % 2 ^ 28)) ∧
     gives (exec .srsRampEnd s) (fun t => (stat s Saf.SAFE_STAT.SRS ≠ 0 → s.saf.rampDue = true → s.saf.violDue = none →
       t.sprOn = true) ∧ (s.saf.rampDue = false → t = s)) ∧
     gives (exec .srsInputTimeout s) (fun t => (stat s Saf.SAFE_STAT.SRS ≠ 0 → s.saf.timeDue = true → t.sprOn = true ∧
       s.fires t 0x18D) ∧ (s.saf.timeDue = false → t = s)) ∧
     (∀ b, gives (exec (.stopInLow b) s) (fun t => t.sprOn = true ∧ s.fires t 0x187 ∧
         (stat t Saf.SAFE_STAT.STIN).testBit b.toNat = false ∧ (s.sprOn = false → stat t Saf.SAFE_STAT.SPRCAUSE = 2)) ∧
       gives (exec (.stopInRestored b) s) (fun t => (stat t Saf.SAFE_STAT.STIN).testBit b.toNat = true)) ∧
     gives (exec .stopInDiscrepancy s) (fun t => if stat s Saf.SAFE_STAT.DISC = 0 then stat t Saf.SAFE_STAT.DISC = 1 ∧
       s.fires t 0x188 else t = s) ∧
     gives (exec .stopOutDrop s) (fun t => if s.saf.stopDue then stat t Saf.SAFE_STAT.STOUT = 0 else t = s) ∧
     gives (exec .brkTripRise s) (fun t => if s.saf.brkDue then stat t Saf.SAFE_STAT.BRK = 1 ∧ t.saf.brkAt = some s.clk.el else t = s) ∧
     (∀ b, gives (exec (.safetyReadbackFail b) s) (fun t => s.fires t (if b then 0x18A else 0x189) ∧ t.regs = s.regs)) ∧
     (∀ lan bytes, gives (exec (.safetyFrameReceived lan bytes) s) (fun t => t.mem = s.mem ∧ (s.framesOn = false → t = s))) ∧
     (∀ lan, gives (exec (.safetyCopyMissing lan) s) (fun t => t.mem = s.mem ∧ (s.framesOn = false → t = s))) ∧
     (∀ a b, gives (exec (.safetyNetWatchdog a b) s) (fun t => t.mem = s.mem ∧ (s.framesOn = false → t = s))) ∧
     gives (exec (.safetyNetWatchdog false false) s) (fun t => t = s) ∧
     gives (exec .degLimitReached s) (fun t => (s.framesOn = false → t = s) ∧
       (s.framesOn = true → s.netState = 1 → s.saf.degTold = false → s.fires t 0x186 ∧
         (s.sprOn = false → stat s Saf.SAFE_STAT.SRS = 0 → stat t Saf.SAFE_STAT.SRS = 1 ∧ stat t Saf.SAFE_STAT.SRSCAUSE = 3))) ∧
     gives (exec .safetyStatusTx s) (fun t => t.regs = s.regs ∧ (s.framesOn = true → t.saf.txSeq = (s.saf.txSeq + 1) % 2 ^ 32)))

/-! ## Redundant pair, Almanac and revenue meter -/

/-- R394 to R415: a package leaves SOLO only by PAIR_EN; records are taken only in the states that use them; a handover or drill
begins in ACTIVE alone and ends in STANDBY, or aborts back to ACTIVE; liveness and the readback report themselves.
Where the spec leaves a reading open the clauses follow log entry 41, the model's choice. -/
def Obligations.PairRows : Prop :=
  ∀ (w : Wr) s,
    (let st (t : State) (f : Fld) : Nat := t.rd pairB f
     gives (exec (.pairEn w) s) (fun t => if s.pstate = 0 then t.pstate = 1 ∧ t.pair.actOut = false else t.regs = s.regs) ∧
     gives (exec .pairActInRise s) (fun t => st t Pair.PAIR_STAT.ACTIN = 1) ∧
     gives (exec .pairActInFall s) (fun t => t.mem = s.mem ∧ (s.mayLeave = false → st t Pair.PAIR_STAT.ACTIN = 0 ∧ t.pstate = s.pstate)) ∧
     gives (exec .startupClaim s) (fun t => t.mem = s.mem ∧ (s.pstate ≠ 1 ∨ st s Pair.PAIR_STAT.ACTIN ≠ 0 → t = s)) ∧
     (∀ r, gives (exec (.passRecordReceived r) s) (fun t => t.mem = s.mem ∧ (s.pstate = 0 ∨ r.crc ≠ passCrc r → t = s))) ∧
     gives (exec .passRecordMissing s) (fun t => t.mem = s.mem ∧ (s.pstate ≠ 1 → s.pstate ≠ 2 → t = s)) ∧
     gives (exec .statusRecordTx s) (fun t => if s.pstate = 1 ∨ s.pstate = 2 then
       t.pair.sentStatus = some s.syncPair.statusRec else t = s) ∧
     (∀ r ofs, gives (exec (.statusRecordReceived r ofs) s) (fun t => t.mem = s.mem ∧ (s.pstate = 0 ∨ r.good = false → t = s))) ∧
     (∀ e, gives (exec (.epochReceived e) s) (fun t => t.mem = s.mem ∧ (s.pstate ≠ 1 → s.pstate ≠ 2 → t = s) ∧
       (s.pstate = 1 → e.good = false → st t Pair.PAIR_CNT0.EPBAD = min (st s Pair.PAIR_CNT0.EPBAD + 1) 65535 ∧
         s.fires t 0x1A2 ∧ st t Pair.PAIR_STAT.EPV = st s Pair.PAIR_STAT.EPV))) ∧
     (∀ i, gives (exec (.mirrorLaneDown i) s) (fun t => if i < 2 ∧ (st s Pair.PAIR_STAT.MIRUP).testBit i = true then
       (st t Pair.PAIR_STAT.MIRUP).testBit i = false ∧ s.fires t 0x1A4 else t = s)) ∧
     gives (exec (.handover w) s) (fun t => if s.pstate = 3 then t.pstate = 4 ∧ t.pair.hcause = 2 else t.regs = s.regs) ∧
     gives (exec (.drill w) s) (fun t => if s.pstate = 3 then t.pstate = 4 ∧ st t Pair.PAIR_STAT.DRBUSY = 1 ∧ t.pair.hcause = 4
       else t.regs = s.regs) ∧
     gives (exec (.cycsync w) s) (fun t => (s.running = true → t.regs = s.regs) ∧ (∀ e, s.running = false → s.pair.epoch = some e →
       t.rd pwrB Cyc.CYC_CTL.EN = 1 ∧ t.rd pwrB Cyc.CYC_CTL.NSUB = e.nsub % 64 ∧ t.rd pwrB Cyc.CYC_CTL.ALIGN = e.align % 256)) ∧
     gives (exec .handoverRelease s) (fun t => if s.pstate = 4 then t.pstate = 1 ∧ t.pair.actOut = false else t = s) ∧
     gives (exec .handingPeerCheck s) (fun t => (s.pstate ≠ 4 → t = s) ∧ (s.pstate = 4 → s.pair.status = none →
       t.pstate = 3 ∧ st t Pair.PAIR_STAT.HOABORT = 1 ∧ s.fires t 0x1A9)) ∧
     gives (exec .takingTimeout s) (fun t => if s.pstate = 2 ∧ s.mayLeave ∧ st s Pair.PAIR_STAT.ACTIN ≠ 0 then
       t.pstate = 1 ∧ st t Pair.PAIR_STAT.HOABORT = 1 ∧ s.fires t 0x1A9 else t = s) ∧
     gives (exec .takebackRequest s) (fun t => t.regs = s.regs ∧ (s.pstate = 1 → st s Pair.PAIR_CTL.TBEN ≠ 0 →
       st s Pair.PAIR_STAT.PREF ≠ 0 → s.stbyOk = true → t.pair.tbreq = true)) ∧
     gives (exec .drillReturn s) (fun t => if s.pair.drill = true ∧ s.pstate = 1 then t.pair.drreq = true else t = s) ∧
     gives (exec .drillFail s) (fun t => (s.pair.drill = false → t = s) ∧ (s.pair.drill = true → s.pstate ≠ 1 →
       st t Pair.PAIR_STAT.DRFAIL = 1 ∧ s.fires t 0x1AE ∧ t.pair.drreq = true)) ∧
     gives (exec .peerAliveEdge s) (fun t => st t Pair.PAIR_STAT.PALIVE = 1) ∧
     gives (exec .paliveTimeout s) (fun t => st t Pair.PAIR_STAT.PALIVE = 0 ∧ (s.pstate = 1 → st s Pair.PAIR_STAT.ACTIN ≠ 0 →
       s.fires t 0x1AB)) ∧
     gives (exec .pairActReadbackFail s) (fun t => s.fires t 0x1AA ∧ t.regs = s.regs))

/-- R417 to R427: observations are applied oldest first; freezing, thawing and merging; clears of one record and of all; a
restore is refused while the Almanac runs; passes, flushes, counters and RAM errors.
Where the spec leaves a reading open the clauses follow log entry 33, the model's choice. -/
def Obligations.AlmanacRows : Prop :=
  (∀ (w : Wr) s,
      (let st (t : State) (f : Fld) : Nat := t.rd almB f
       gives (exec .almanacApply s) (fun t => t.mem = s.mem ∧ (s.alm.obs = [] → t = s)) ∧
       gives (exec (.almanacFreeze w) s) (fun t => st t Alm.ALM_CTL.FREEZE = 1 ∧
         (s.alm.merging = false → t.alm.frozen = true) ∧ (s.alm.merging = true → t.alm.again = true)) ∧
       gives (exec (.almanacUnfreeze w) s) (fun t => st t Alm.ALM_CTL.FREEZE = 0 ∧
         (s.alm.merging = false → s.alm.frozen = true → t.alm.frozen = false ∧ t.alm.merging = true ∧ st t Alm.ALM_STAT.FRZ = 1)) ∧
       gives (exec .almanacMergeDone s) (fun t => t.mem = s.mem ∧ (s.alm.merging = false → t = s)) ∧
       gives (exec (.clrrec w) s) (fun t => (t.almRec (st s Alm.ALM_CUR.REC)).total = 0 ∧
         (t.almRec (st s Alm.ALM_CUR.REC)).wcnt = (s.almRec (st s Alm.ALM_CUR.REC)).wcnt ∧
         ∀ r, r ≠ st s Alm.ALM_CUR.REC → t.almRec r = s.almRec r) ∧
       gives (exec (.clrall w) s) (fun t => ∀ r, r < 2048 → (t.almRec r).total = 0 ∧ (t.almRec r).wcnt = (s.almRec r).wcnt) ∧
       gives (exec (.restore w) s) (fun t => if st s Alm.ALM_CTL.EN = 0 then st t Alm.ALM_STAT.RSTBUSY = 1
         else st t Alm.ALM_STAT.CFG_REJ = 1 ∧ s.fires t 0x02D ∧ st t Alm.ALM_STAT.RSTBUSY = st s Alm.ALM_STAT.RSTBUSY) ∧
       gives (exec .almanacRestoreDone s) (fun t => t.mem = s.mem ∧ (st s Alm.ALM_STAT.RSTBUSY = 0 → t = s)) ∧
       gives (exec (.flushnow w) s) (fun t => t.mem = s.mem ∧ (st s Alm.ALM_STAT.BGBUSY ≠ 0 → t.regs = s.regs)) ∧
       gives (exec .almanacBgPass s) (fun t => t.mem = s.mem ∧ (st s Alm.ALM_CTL.EN = 0 → t = s)) ∧
       (∀ ok, gives (exec (.almanacImageWritten ok) s) (fun t => t.fixed = s.fixed ∧ (s.memOk = true → t.memOk = true) ∧
         (s.alm.flush = [] → s.alm.early = [] → s.alm.pass = [] → t = s))) ∧
       gives (exec .almanacFullFlushDone s) (fun t => if st s Alm.ALM_STAT.FFBUSY ≠ 0 ∧ s.alm.flush = [] then
         st t Alm.ALM_STAT.FFBUSY = 0 ∧ st t Alm.ALM_STAT.FFDONE = 1 else t = s) ∧
       (∀ m, gives (exec (.almanacTotalRead m) s) (fun t =>
         t.fab.reads = s.fab.reads ++ [(m, almB + 0x21C, BitVec.ofNat 32 (s.almRec (st s Alm.ALM_CUR.REC)).total)] ∧
         st t Alm.ALM_CUR.REC = if st s Alm.ALM_CTL.AUTOINC = 0 then st s Alm.ALM_CUR.REC else (st s Alm.ALM_CUR.REC + 1) % 2048)) ∧
       gives (exec (.almCntclr w) s) (fun t => st t Alm.ALM_CNT0.QLOST = 0 ∧ st t Alm.ALM_CNT0.LOSTINC = 0 ∧
         st t Alm.ALM_CNT1.PASSES = 0 ∧ st t Alm.ALM_CNT1.EARLY = 0) ∧
       (∀ r, gives (exec (.almanacRamError r false) s) (fun t => s.fires t 0x02B ∧ t.regs = s.regs) ∧
         gives (exec (.almanacRamError r true) s) (fun t => st t Alm.ALM_STAT.RAMUE = 1 ∧ s.fires t 0x02C ∧
           (r < 2048 → (t.almRec r).total = 0))))) ∧
  (∀ (w : Wr) s,
      (∀ o rest, s.alm.obs = o :: rest → gives (exec .almanacApply s) (fun t => t.alm.obs = rest)) ∧
      (s.alm.merging = true → s.alm.again = false → gives (exec .almanacMergeDone s) (fun t => t.alm.merging = false ∧
        t.alm.frozen = false ∧ t.alm.bufBins = [] ∧ t.rd almB Alm.ALM_STAT.FRZ = 0)) ∧
      (s.rd almB Alm.ALM_STAT.RSTBUSY ≠ 0 → gives (exec .almanacRestoreDone s) (fun t =>
        t.rd almB Alm.ALM_STAT.RSTBUSY = 0 ∧ t.rd almB Alm.ALM_STAT.RSTDONE = 1)) ∧
      (s.rd almB Alm.ALM_STAT.BGBUSY = 0 → s.almChanged ≠ [] → gives (exec (.flushnow w) s) (fun t =>
        t.rd almB Alm.ALM_STAT.BGBUSY = 1 ∧ t.alm.pass = s.almChanged) ∧
        (s.rd almB Alm.ALM_CTL.EN ≠ 0 → gives (exec .almanacBgPass s) (fun t => t.rd almB Alm.ALM_STAT.BGBUSY = 1 ∧
          t.alm.pass = s.almChanged))))

/-- R437 to R450: a meter that is absent or off counts nothing and is not read; enabling is refused where its inputs are not
there; a disable ends the span; records are signed in order.
Where the spec leaves a reading open the clauses follow log entry 40, the model's choice. -/
def Obligations.MeterRows : Prop :=
  (∀ (w : Wr) s,
      (let st (t : State) (f : Fld) : Nat := t.rd mtrB f
       (∀ l, gives (exec (.meterPoint l) s) (fun t => t.mem = s.mem ∧ (s.mtrRuns = false ∨ l = [] → t = s))) ∧
       gives (exec .meterIntervalClose s) (fun t => t.mem = s.mem ∧ (st s Mtr.MTR_STAT.COUNTING = 0 → t = s)) ∧
       (∀ a b c, gives (exec (.signingDone a b c) s) (fun t => t.fixed = s.fixed ∧ (s.memOk = true → t.memOk = true) ∧
         (s.sec.queue = [] → t = s))) ∧
       (∀ c j q, s.sec.queue = j :: q → gives (exec (.signingDone false false c) s) (fun t => st t Mtr.MTR_STAT.SIGFAIL = 1 ∧
         s.fires t 0x1B2 ∧ t.sec.queue = q ∧ t.mram = s.mram)) ∧
       gives (exec .meterCheckpoint s) (fun t => t.fixed = s.fixed ∧ (s.memOk = true → t.memOk = true)) ∧
       (∀ f, gives (exec (.meterEnable w f) s) (fun t => t.mem = s.mem ∧ (s.mtrRuns = true ∨ s.part.m = false → t.regs = s.regs))) ∧
       gives (exec .meterRestoreDone s) (fun t => t.fixed = s.fixed ∧ (s.memOk = true → t.memOk = true) ∧
         (st s Mtr.MTR_STAT.RSTBUSY = 0 → t = s)) ∧
       gives (exec (.meterDisable w) s) (fun t => t.mem = s.mem ∧ (s.mtrRuns = false → t.regs = s.regs)) ∧
       (∀ m, s.part.m = true →
         gives (exec (.importLowRead m false) s) (fun t => t.fab.reads = s.fab.reads ++
           [(m, mtrB + Mtr.IMPORT.E.off, BitVec.ofNat 32 (mtrReg s.mtr.imp))] ∧
           st t (Mtr.IMPORT.E.at 1) = mtrReg s.mtr.imp / 2 ^ 32 % 2 ^ 32) ∧
         gives (exec (.importLowRead m true) s) (fun t => t.fab.reads = s.fab.reads ++
           [(m, mtrB + Mtr.EXPORT.E.off, BitVec.ofNat 32 (mtrReg s.mtr.exp))] ∧
           st t (Mtr.EXPORT.E.at 1) = mtrReg s.mtr.exp / 2 ^ 32 % 2 ^ 32)))) ∧
  (∀ (w : Wr) s,
      (s.mtrRuns = true → gives (exec (.meterDisable w) s) (fun t => t.rd mtrB Mtr.MTR_CTL.EN = 0 ∧ t.rd mtrB Mtr.MTR_STAT.RUN = 0 ∧
        t.rd mtrB Mtr.MTR_STAT.RSTBUSY = 0)) ∧
      (∀ f, s.mtrRuns = false → s.part.m = true → s.mtr.stopped = true → gives (exec (.meterEnable w f) s) (fun t =>
        t.rd mtrB Mtr.MTR_STAT.CFG_REJ = 1 ∧ s.fires t 0x1B7 ∧ t.rd mtrB Mtr.MTR_CTL.EN = s.rd mtrB Mtr.MTR_CTL.EN)) ∧
      (∀ f, s.mtrRuns = false → s.part.m = true → s.mtr.stopped = false → s.dieUp (6 + s.rd mtrB Mtr.MTR_SRC.MAID) = true →
        (∀ i, i < 2 → s.rd (seqB (s.rd mtrB Mtr.MTR_SRC.MAID) (2 * s.rd mtrB Mtr.MTR_SRC.MPAIR + i)) Seq.SEQ_CTL.EN = 0) → s.pairCounts = true →
        gives (exec (.meterEnable w f) s) (fun t => t.rd mtrB Mtr.MTR_CTL.EN = 1 ∧ t.rd mtrB Mtr.MTR_STAT.RUN = 1 ∧
          t.rd mtrB Mtr.MTR_STAT.RSTBUSY = 1)) ∧
      (s.rd mtrB Mtr.MTR_STAT.COUNTING ≠ 0 → gives (exec .meterIntervalClose s) (fun t => t.mtr.recno = s.mtr.recno + 1 ∧
        t.sec.queue.length = s.sec.queue.length + 1)))

/-! ## Power, reset and self-test; security; the bus -/

/-- R453 to R464, R469 to R471 and R486: the resets, the clocks, the supply, the dies and their self-tests.
Where the spec leaves a reading open the clauses follow log entries 38 and 39, the model's choice. -/
def Obligations.PowerRows : Prop :=
  ∀ (w : Wr) s,
    (let pw (t : State) (f : Fld) : Nat := t.rd pwrB f
     let held (o : Host.Outcome State Fault Refusal) (porst : Bool) (rc : Nat) : Prop := gives o (fun t => t.fixed = s.fixed ∧
       t.pwr.held = true ∧ t.pwr.porst = porst ∧ pw t Pwr.PWR_STAT.RSTCAUSE = rc ∧ t.rd fcB Fc.FC_STAT.SPRREQ = t.rd fcB Fc.FC_STAT.FLATCH)
     let off (o : Host.Outcome State Fault Refusal) (b : Bool) : Prop := gives o (fun t => t.mem = [] ∧ t.pwr.aoOff = b ∧ t.pwr.held = true)
     (if s.pwr.aoOff then gives (exec .porstAssert s) (fun t => t = s) else held (exec .porstAssert s) true 1) ∧
     (∀ p, gives (exec (.porstRelease p) s) (fun t => if s.pwr.held ∧ s.pwr.porst ∧ s.pwr.aoOff = false then
       t.pwr.held = false ∧ t.rd pairB Pair.PAIR_STAT.PREF = p.toNat else t = s)) ∧
     (privileged w = true → pw s Pwr.PWR_STAT.PFACT = 0 → held (exec (.chipRst w 0xC3) s) false 3) ∧
     (∀ k, privileged w = true → k ≠ 0xC3 → gives (exec (.chipRst w k) s) (fun t => t.regs = s.regs)) ∧
     gives (exec .internalResetEnd s) (fun t => if s.pwr.held ∧ s.pwr.porst = false then t.pwr.held = false else t = s) ∧
     (∀ l, gives (exec (.bootBist l) s) (fun t => if s.pwr.held = false ∧ s.rom = true ∧ s.sec.ran = false ∧
       pw s Pwr.AO_CTL.BOOTBIST ≠ 0 then (0 ∉ l → t.rd bistB Bist.BIST_BOOTRES.RAN = 1 ∧ pw t Pwr.AO_CTL.BOOTBIST = 0) ∧
       (0 ∈ l → s.flatch = true → s.fires t 0x1CB) else t = s)) ∧
     off (exec .aoPowerOn s) false ∧ off (exec .aoPowerLoss s) true ∧
     gives (exec .railFault s) (fun t => t.regs = s.regs ∧ (pw s Pwr.PWR_STAT.PFSEEN = 0 → s.fires t 0x1C4) ∧
       (pw s Pwr.PWR_STAT.PFSEEN ≠ 0 → t = s)) ∧
     gives (exec .refclkLoss s) (fun t => if s.pwr.held then t = s else pw t Pwr.DIE_STAT.REFOK = 0 ∧ s.fires t 0x1C0) ∧
     (∀ a, a < 2 → gives (exec (.pllUnlock (some a)) s) (fun t => if s.adUp a then
         (pw t Pwr.DIE_STAT.LOCK).testBit (6 + a) = false ∧ s.fires t 0x1C2 else t = s) ∧
       gives (exec (.adiePllRelock a) s) (fun t => if s.adUp a then (pw t Pwr.DIE_STAT.LOCK).testBit (6 + a) = true else t = s)) ∧
     gives (exec (.pllUnlock none) s) (fun t => if s.pwr.held then t = s else s.fires t 0x1C1) ∧
     gives (exec .xtalStop s) (fun t => pw t Pwr.DIE_STAT.XTALOK = 0 ∧ t.pwr.xtal = false ∧ s.fires t 0x1C3) ∧
     gives (exec .pwrfailRecognised s) (fun t => t.fixed = s.fixed ∧ (pw s Pwr.PWR_STAT.PFACT ≠ 0 → t = s) ∧
       (s.pwr.held = false → pw s Pwr.PWR_STAT.PFACT = 0 → pw s Pwr.PWR_STAT.PFSEEN ≠ 0 → pw t Pwr.PWR_STAT.PFACT = 1 ∧ s.fires t 0x1C8)) ∧
     gives (exec .pwrfailRise s) (fun t => if pw s Pwr.PWR_STAT.PFACT = 0 then t = s else pw t Pwr.PWR_STAT.PFACT = 0 ∧ s.fires t 0x1C9) ∧
     (∀ d, 0 < d → d < 8 → s.hasDie d = true →
       (privileged w = true → s.dieOf Pwr.DIE_CTL.ON d = false → gives (exec (.dieOn w d) s) (fun t =>
         t.dieOf Pwr.DIE_CTL.ON d = true ∧ t.dieOf Pwr.DIE_STAT.BUSY d = true)) ∧
       (privileged w = true → s.dieOf Pwr.DIE_CTL.ON d = true → s.quiescent d = false → gives (exec (.dieOff w d) s) (fun t =>
         pw t Pwr.PWR_STAT.PWR_REJ = 1 ∧ t.dieOf Pwr.DIE_CTL.ON d = true ∧ s.fires t 0x1CE)) ∧
       (privileged w = true → s.dieOf Pwr.DIE_CTL.ON d = true → s.quiescent d = true → s.dieOf Pwr.DIE_STAT.BUSY d = false →
         gives (exec (.dieOff w d) s) (fun t => t.dieOf Pwr.DIE_CTL.ON d = false)) ∧
       (s.pwr.held = false → s.dieOf Pwr.DIE_STAT.BUSY d = true → s.dieOf Pwr.DIE_CTL.ON d = true →
         ¬(s.rd bistB Bist.BIST_STAT.BUSY ≠ 0 ∧ s.rd bistB Bist.BIST_STAT.DIE = d) → gives (exec (.dieReady d) s) (fun t => t.dieOf Pwr.DIE_STAT.RDY d = true ∧ t.dieOf Pwr.DIE_STAT.BUSY d = false))) ∧
     (∀ d, gives (exec (.dieOn w d) s) (fun t => t.mem = s.mem ∧ (d = 0 → privileged w = true → t.regs = s.regs)) ∧
       gives (exec (.dieOff w d) s) (fun t => t.fixed = s.fixed ∧ (d = 0 → privileged w = true → t.regs = s.regs)) ∧
       gives (exec (.dieReady d) s) (fun t => t.fixed = s.fixed ∧ (d = 0 → t = s))) ∧
     (s.rd bistB Bist.BIST_STAT.BUSY ≠ 0 ∨ s.rd bistB Bist.BIST_CTL.DIE = 0 ∨ s.quiescent (s.rd bistB Bist.BIST_CTL.DIE) = false →
       gives (exec (.dieBistStart w) s) (fun t => t.rd bistB Bist.BIST_STAT.REJ = 1 ∧ s.fires t 0x1CE ∧
       t.rd bistB Bist.BIST_STAT.BUSY = s.rd bistB Bist.BIST_STAT.BUSY)) ∧
     gives (exec (.dieBistStart w) s) (fun t => t.fixed = s.fixed) ∧
     (∀ x y us, gives (exec (.dieBistDone x y us) s) (fun t => t.mem = s.mem ∧ (s.rd bistB Bist.BIST_STAT.BUSY = 0 → t = s) ∧
       (s.rd bistB Bist.BIST_STAT.BUSY ≠ 0 → t.rd bistB Bist.BIST_STAT.BUSY = 0 ∧
         t.rd bistB Bist.BIST_SIG.SIG = x.toNat % 2 ^ 32 ∧
         (x = y → t.rd bistB Bist.BIST_STAT.PASS = 1) ∧ (x ≠ y → t.rd bistB Bist.BIST_STAT.FAIL = 1 ∧ s.fires t 0x1CA)))) ∧
     (∀ l, gives (exec (.dieTempUpdate l) s) (fun t => t.mem = s.mem ∧ (l = [] → t = s))) ∧
     (∀ x, s.dieUp 0 = true → gives (exec (.dieTempUpdate [x]) s) (fun t => pw t (Pwr.DIE_TEMP.T.at 0) = ofSigned x 16 ∧
       pw t (Pwr.DIE_TEMP.VALID.at 0) = 1 ∧ (4 * (pw s Pwr.TEMP_CTL.TWARN : Int) < x → 0 ∉ s.pwr.warm → s.fires t 0x1C6))) ∧
     gives (exec .perstNAssert s) (fun t => t = { s with pwr := { s.pwr with perst := true } }) ∧
     gives (exec .perstNRelease s) (fun t => t = { s with pwr := { s.pwr with perst := false } }))

/-- R18, R454, R458, R459: a chip reset holds the package; the always-on record of the fault collector, the boot count, the
fuses and BOOTBIST stay; every other register but SPRREQ, the straps and what names the part reads its reset value; shared
SRAM and the TCMs are lost (what a byte of them then reads as is the model's choice, log 2), the capture memories and the
devices on the xSPI ports are not.
Where the spec leaves a reading open the clauses follow log entry 45, the model's choice. -/
def Obligations.ChipReset : Prop :=
  ∀ (w : Wr) s i, (i = .porstAssert ∧ s.pwr.aoOff = false ∨
      i = .chipRst w 0xC3 ∧ privileged w = true ∧ s.rd pwrB Pwr.PWR_STAT.PFACT = 0) →
    gives (exec i s) (fun t =>
      (∀ f ∈ [Fc.FC_STAT.FLATCH, Fc.FC_FFIRST.SRC, Fc.FC_FFIRST.VALID, Fc.FC_FSEC.SEC, Fc.FC_FNS.NS],
        t.rd fcB f = s.rd fcB f % 2 ^ f.wid) ∧
      (∀ f ∈ [Secu.BOOTCNT.N, Secu.SEC_SVN.FLOOR, Secu.SEC_OTP.PROG, Secu.SEC_OTP.REVOKED],
        t.rd secB f = s.rd secB f % 2 ^ f.wid) ∧
      t.rd pwrB Pwr.AO_CTL.BOOTBIST = s.rd pwrB Pwr.AO_CTL.BOOTBIST % 2 ∧
      (∀ b f, (∀ e ∈ keptRegs, f.key b ≠ e.2.key e.1) → f.key b ≠ Fc.FC_STAT.SPRREQ.key fcB → t.rd b f = State.reset.rd b f) ∧
      t.mem = s.mem.filter (fun c => decide (0x60000000 ≤ c.1) && decide (c.1 < 0x61000000)) ∧
      t.nor = s.nor ∧ t.mram = s.mram ∧ t.cells = s.cells)

/-- R463, R466, R467: a command of an xSPI controller begins or is refused, and ends.
Where the spec leaves a reading open the clauses follow log entry 38, the model's choice. -/
def Obligations.XspiRows : Prop :=
  ∀ (w : Wr) s u, u < 2 →
    (let pw (t : State) (f : Fld) : Nat := t.rd pwrB (f.at u)
     let go (i : Instr) (op : Nat) : Prop :=
       let bad := u = 1 ∧ s.rd pwrB Pwr.PWR_STAT.PFSEEN ≠ 0 ∨ s.xsBad u op (pw s Pwr.XS_ADDR.ADDR) (pw s Pwr.XS_LEN.LEN) = true
       gives (exec i s) (fun t => t.mem = s.mem ∧ t.nor = s.nor ∧ t.mram = s.mram ∧
         (privileged w = false → t.rd fzB Fz.FZ_RSTAT.NOPERM = 1 ∧ t.pwr.xs = s.pwr.xs) ∧
         (privileged w = true → bad → pw t Pwr.XS_STAT.REJ = 1 ∧ s.fires t 0x1CE ∧ t.pwr.xs = s.pwr.xs) ∧
         (privileged w = true → ¬bad → pw t Pwr.XS_STAT.BUSY = 1 ∧ pw t Pwr.XS_STAT.OWNER = 1 ∧
           t.pwr.xs = s.pwr.xs ++ [(u, ⟨op, pw s Pwr.XS_ADDR.ADDR, pw s Pwr.XS_LEN.LEN⟩)]))
     go (.xsRead w u) 0 ∧ go (.xsWrite w u) 1 ∧ go (.xsErase w u) 2 ∧ go (.xsStatus w u) 3 ∧
     (∀ err, gives (exec (.xsTransferDone u err) s) (fun t => t.fixed = s.fixed ∧ (s.memOk = true → t.memOk = true) ∧
       (s.pwr.xs.find? (fun e => e.1 == u) = none → t = s) ∧
       (∀ j, s.pwr.xs.find? (fun e => e.1 == u) = some j → t.mem = s.mem ∧ pw t Pwr.XS_STAT.BUSY = 0 ∧
         (err = false → pw t Pwr.XS_STAT.DONE = 1) ∧ (err = true → pw t Pwr.XS_STAT.ERR = 1) ∧
         (j.2.op = 0 → t.nor = s.nor ∧ t.mram = s.mram) ∧ (u = 0 → t.mram = s.mram) ∧ (u = 1 → t.nor = s.nor)))))

/-- R443, R445 and R447: attestation, the irreversible commands, and what the boot ROM does not do again.
Where the spec leaves a reading open the clauses follow log entries 39 and 49, the model's choice. -/
def Obligations.SecurityRows : Prop :=
  ∀ (w : Wr) s,
    (let se (t : State) (f : Fld) : Nat := t.rd secB f
     gives (exec (.attest w) s) (fun t => if 4 ≤ s.sec.queue.length then se t Secu.ATT_STAT.REJ = 1 ∧ t.sec.queue = s.sec.queue
       else se t Secu.ATT_STAT.BUSY = 1 ∧ t.sec.queue.length = s.sec.queue.length + 1) ∧
     (privileged w = false → ∀ k,
       gives (exec (.svnRaise w k) s) (fun t => t.rd fzB Fz.FZ_RSTAT.NOPERM = 1 ∧ se t Secu.SEC_SVN.FLOOR = se s Secu.SEC_SVN.FLOOR) ∧
       gives (exec (.revoke w k) s) (fun t => t.rd fzB Fz.FZ_RSTAT.NOPERM = 1 ∧ se t Secu.SEC_OTP.REVOKED = se s Secu.SEC_OTP.REVOKED)) ∧
     (privileged w = true → ∀ k, k ≠ 0x6B →
       gives (exec (.svnRaise w k) s) (fun t => se t Secu.SEC_STAT.REJ = 1 ∧ s.fires t 0x1BC ∧ se t Secu.SEC_SVN.FLOOR = se s Secu.SEC_SVN.FLOOR) ∧
       gives (exec (.revoke w k) s) (fun t => se t Secu.SEC_STAT.REJ = 1 ∧ s.fires t 0x1BC ∧ se t Secu.SEC_OTP.REVOKED = se s Secu.SEC_OTP.REVOKED)) ∧
     (privileged w = true → gives (exec (.svnRaise w 0x6B) s) (fun t =>
       if se s Secu.SEC_SVN.FLOOR < se s Secu.SEC_ARG.ARG then
         se t Secu.SEC_SVN.FLOOR = se s Secu.SEC_ARG.ARG % 2 ^ Secu.SEC_SVN.FLOOR.wid
       else se t Secu.SEC_STAT.REJ = 1 ∧ s.fires t 0x1BC ∧ se t Secu.SEC_SVN.FLOOR = se s Secu.SEC_SVN.FLOOR)) ∧
     (privileged w = true → let n := se s Secu.SEC_ARG.ARG % 4
       let rev := setBit (se s Secu.SEC_OTP.REVOKED) n
       let allowed : Prop := (∃ i, i < 4 ∧ (se s Secu.SEC_OTP.PROG).testBit i = true ∧ rev.testBit i = false) ∧
         (se s Secu.SEC_STAT.BOOTSLOT = 0 ∨ se s Secu.SEC_STAT.KEYSLOT ≠ n)
       gives (exec (.revoke w 0x6B) s) (fun t => (allowed → se t Secu.SEC_OTP.REVOKED = rev % 16) ∧
         (¬allowed → se t Secu.SEC_STAT.REJ = 1 ∧ s.fires t 0x1BC ∧ se t Secu.SEC_OTP.REVOKED = se s Secu.SEC_OTP.REVOKED))) ∧
     gives (exec (.recover w) s) (fun t => t.fixed = s.fixed ∧ (s.memOk = true → t.memOk = true) ∧ (s.rom = false → t.regs = s.regs)) ∧
     gives (exec .bootRomRun s) (fun t => t.fixed = s.fixed ∧ (s.memOk = true → t.memOk = true) ∧
       (s.pwr.held = true ∨ s.rom = false ∨ s.sec.ran = true → t = s) ∧
       (s.pwr.held = false → s.rom = true → s.sec.ran = false → s.rd pwrB Pwr.PWR_STAT.PFACT = 0 → s.rd pwrB Pwr.AO_CTL.BOOTBIST = 0 →
         s.flatch = true → t.sec.ran = true ∧ t.rom = true ∧ se t Secu.SEC_STAT.BOOTERR = 1)))

/-- R6, R8, R17, R22, R42, R222, R457 and R486: a register write lands in its register and nowhere else, or is discarded and
recorded where the unit is absent or off; what the PCIe host is told.
Where the spec leaves a reading open the clauses follow log entries 10, 12 and 46, the model's choice. -/
def Obligations.BusRows : Prop :=
  ∀ (w : Wr) s (v : Word),
    gives (exec (.registerWrite w (capsB + 0x100) v) s) (fun t => t.rd capsB Fab.FAB_CTL.TMO = v.toNat % 2 ^ 16 ∧
      t.rd capsB Fab.FAB_CTL.STAGE_HOLD = v.toNat / 2 ^ 16 % 2 ^ 4 ∧
      (∀ b f, f.key b ≠ Fab.FAB_CTL.TMO.key capsB → f.key b ≠ Fab.FAB_CTL.STAGE_HOLD.key capsB → t.rd b f = s.rd b f) ∧ t.mem = s.mem) ∧
    (∀ m i, m < 128 → i < 16 → gives (exec (.registerWrite w (winB m i) v) s) (fun t =>
      t.rd (winB m i) Win.WBASE.BASE = v.toNat / 2 ^ 12 ∧
      (∀ b f, f.key b ≠ Win.WBASE.BASE.key (winB m i) → t.rd b f = s.rd b f) ∧ t.mem = s.mem)) ∧
    (∀ a, s.locate none a = .absent → gives (exec (.registerWrite w a v) s) (fun t =>
      t.rd capsB Caps.ABSENT_ADDR.ADDR = a % 2 ^ 32 ∧ t.rd capsB Caps.ABSENT_INFO.MID = w.mid % 2 ^ 8 ∧
      t.rd capsB Caps.ABSENT_INFO.WR = 1 ∧ t.mem = s.mem)) ∧
    (∀ a, s.locate none a = .off → s.rd pwrB Pwr.OFF_INFO.VALID = 0 → gives (exec (.registerWrite w a v) s) (fun t =>
      t.rd pwrB Pwr.OFF_ADDR.ADDR = a % 2 ^ 32 ∧ t.rd pwrB Pwr.OFF_INFO.VALID = 1 ∧ s.fires t 0x1C5 ∧ t.mem = s.mem)) ∧
    (∀ a, gives (exec (.registerWrite w a v) s) (fun t => t.fixed = s.fixed ∧ (s.memOk = true → t.memOk = true))) ∧
    (∀ wr a, gives (exec (.pcieHostRequest wr a v) s) (fun t => t.fixed = s.fixed ∧ (s.memOk = true → t.memOk = true) ∧
      (s.pwr.perst = true ∨ s.pwr.held = true → t = s) ∧
      (s.pwr.perst = false → s.pwr.held = false → s.isFrozen 0x70 = true → t.fab.hostAbort = true ∧ t.regs = s.regs ∧ t.mem = s.mem))) ∧
    (∀ k, gives (exec (.exportTrailer k) s) (fun t => t.fixed = s.fixed ∧ (s.memOk = true → t.memOk = true) ∧
      (k < 2 → (s.law k).exp = none → t = s)))

/-! ## The whole block -/

/-- The step takes the command at the front of the queue and runs it on the state with the queue's rest. -/
def Obligations.StepRunsFront : Prop :=
  ∀ s c q, s.pending = c :: q → step s = exec c { s with pending := q }

/-- With no command waiting a nanosecond passes (the model's choice, log 6): no register, memory or core changes. -/
def Obligations.StepIdle : Prop :=
  ∀ s, s.pending = [] → gives (step s) (fun t => t.pending = [] ∧ t.regs = s.regs ∧ t.cregs = s.cregs ∧ t.mem = s.mem ∧
    t.nor = s.nor ∧ t.mram = s.mram ∧ t.cores = s.cores ∧ t.clk.el = s.clk.el + 1)

/-- R18: registers whose Reset column is not zero hold that value after reset, in every block; a core after reset (R231); the
time of the package (R328). -/
def Obligations.ResetValues : Prop :=
  let r (b : Nat) (f : Fld) : Nat := State.reset.rd b f
  (r capsB Caps.CAPS_ID.FAMILY = 0xD5A2 ∧ r capsB Caps.CAPS_OPT.PAIRCAP = 1 ∧ r capsB Fab.FAB_CTL.TMO = 100 ∧
   r capsB Fab.FAB_CTL.STAGE_HOLD = 2 ∧ r pwrB Cyc.CYC_CTL.NSUB = 8 ∧ r pwrB Cyc.CYC_CTL.ALIGN = 120 ∧
   r pwrB Cyc.CYC_STAT.UPSLOTS = 96 ∧ r pwrB Pwr.DIE_CTL.ON = 1 ∧ r pwrB Pwr.DIE_STAT.RDY = 1 ∧
   r pwrB Pwr.TEMP_CTL.TWARN = 115 ∧ r pwrB Pwr.TEMP_CTL.TCRIT = 125) ∧
  (∀ n ∈ [0, 31, 63], r (laneB n) Lane.LANE_CTL.DARK = 1 ∧ r (laneB n) Lane.LANE_CTL.BAB_ALL = 1 ∧
   r (laneB n) Lane.LANE_CTL.ACKWAIT = 3 ∧ r (laneB n) Lane.RNG_CTL.RNG_LIM = 20 ∧ r (laneB n) Lane.SEE_CTL.SEE_WARN = 80 ∧
   r (ctxB (96 * n)) Ctx.CELL_STAT.GRANT_U = 255) ∧
  (∀ c ∈ [0, 6143], State.reset.crd c Cell.DEVID.PART = 0x12 ∧ State.reset.crd c Cell.CSTAT.STATE = 3 ∧
   State.reset.crd c Cell.CSTAT.BLKCAUSE = 4 ∧ State.reset.crd c Cell.TRIPCFG.TRIPEN = 15 ∧ State.reset.crd c Cell.PWM_DT.DT = 256) ∧
  (∀ k ∈ [0, 1], r (modB k) Mod.MOD_CTL.EXTRAP = 1 ∧ r (modB k) Mod.CV_KLT.KLT = 0x4000 ∧ r (armB k 5) Arm.ARM_EST.QMIN = 256 ∧
   r (armB k 0) Arm.ARM_PLAUS.PBAND = 8000 ∧ r (ctB k 511) Ct.CEST.K = 0x4000 ∧ r (lawB k) Law.LAW_CTL.SVTO = 5 ∧
   r (lchB k 5) Lch.CH_REF.REFSLOT = 256 ∧ r (acqB k) Acq.ACQ_CTL.XW = 10) ∧
  (∀ m ∈ [2, 15, 31], r (coreB m) Cc.CORE_CTL.RST = 1 ∧ (State.reset.core m).prv = true ∧ (State.reset.core m).exl = false ∧
   (State.reset.core m).tvec = 0x40 ∧ (State.reset.core m).nvec = 0x80) ∧
  (∀ a ∈ [0, 1], r (adB a) Ad.AD_CTL.CALEN = 1 ∧ r (adB a) Ad.AD_CTL.CALDW = 80 ∧ r (adB a) Ad.AD_STAT.CALSEL = 31 ∧
   r (seqB a 23) Seq.SEQ_CTL.MERSYNC = 1) ∧
  (r ethB Eth.VN_GAIN.KP = 0x2666 ∧ r ethB Eth.VN_LIM.SLEWMAX = 1000 ∧ r (portB 3) Port.PORT_CTL.ANEN = 1 ∧
   r (svB 15) Sv.SV_CTL.SYNCREQ = 1 ∧ r fcB Fc.FC_CTL.CONSEQ_W = 20 ∧ r fcB Fc.WD_CTL.WD_TO = 100 ∧
   r fcB (Fc.FS_CFG.IRQ.at 511) = 1 ∧ r safB Saf.SAFE_STAT.SPR = 1 ∧ r safB Saf.SRS_CFG.TRAMP = 200 ∧
   r safB Saf.DEG_CFG.DEG_LIM = 60 ∧ r pairB Pair.PAIR_CTL.TBEN = 1 ∧ r pairB Pair.PAIR_EPOCH.AGE = 255 ∧
   r mtrB Mtr.MTR_CTL.LENMIN = 15 ∧ r mtrB Mtr.RINGN.N = 16) ∧
  (State.reset.pending = [] ∧ State.reset.clk.pt = 0 ∧ State.reset.frozen = [] ∧ State.reset.pwr.held = false)

/-- The memories of the package are in their canonical form after reset.
Where the spec leaves a reading open the clauses follow log entry 2, the model's choice. -/
def Obligations.ResetMemOk : Prop := State.reset.memOk = true

/-- Every command completes: whatever its operands and in every state it answers a next state; no command touches the
queue, from which the step alone takes, or what the part has (R1, R5).
Where the spec leaves a reading open the clauses follow log entry 1, the model's choice. -/
def Obligations.EveryCommandCompletes : Prop := ∀ i s, gives (exec i s) (fun t => t.fixed = s.fixed)

/-- Only stores, DMA, exports and captures, the Ethernet ports, the boot ROM, the Almanac, the meter, the xSPI controllers and
resets reach a memory: every other command leaves every byte of RAM and capture memory, of the boot NOR and of the MRAM.
Where the spec leaves a reading open the clauses follow log entry 13, the model's choice. -/
def Obligations.MemoryFrame : Prop :=
  ∀ (i : Instr) s, match i with
    | .acqRecordWrite .. | .acqStop .. | .almanacImageWritten .. | .aoPowerLoss | .aoPowerOn | .bootRomRun | .chipRst ..
    | .dieBistStart .. | .dieOff .. | .dieReady .. | .dmaReadReturn .. | .exportTrailer .. | .fabricTimeout .. | .fastPassEnd ..
    | .faultFiring .. | .fenceRelease .. | .frameReceived .. | .frameTransmitted .. | .internalResetEnd | .meterCheckpoint
    | .meterRestoreDone | .pcieHostRequest .. | .porstAssert | .porstRelease .. | .pwrfailRecognised | .recover ..
    | .registerWrite .. | .signingDone .. | .slowPassEnd .. | .st .. | .stw .. | .xsTransferDone .. => True
    | _ => gives (exec i s) (fun t => (∀ a, Mem.read t.mem a = Mem.read s.mem a) ∧ (∀ a, Mem.read t.nor a = Mem.read s.nor a) ∧
        ∀ a, Mem.read t.mram a = Mem.read s.mram a)

/-- Every step keeps the canonical form of every memory: addresses rising, no byte listed that reads as an unlisted one. -/
def Obligations.MemoryStaysCanonical : Prop :=
  ∀ s, s.memOk = true → gives (step s) (fun t => t.memOk = true)

/-- R209: FREEZE_CTL, CORE_CTL and CORE_BOOT take a write only from a core at supervisor privilege or from MID 0x7F; a write
from any other source is ignored and sets NOPERM. -/
def Obligations.PrivilegeRule : Prop :=
  ∀ (w : Wr) s, (privileged w = true ↔ w.mid = 0x7F ∨ w.mid < 32 ∧ w.sup = true) ∧
    (let ignored (i : Instr) (a : Nat) : Prop := exec i s = .next ((s.wr fzB Fz.FZ_RSTAT.NOPERM 1).retire w a)
     privileged w = false →
       (∀ v, ignored (.registerWrite w (fzB + 0x10) v) (fzB + 0x10)) ∧
       ∀ m, ignored (.coreReset w m) (coreB m) ∧ ignored (.coreRelease w m) (coreB m) ∧
         ignored (.releaseRetry w m) (fzB + 0x10) ∧ ignored (.releaseTrap w m) (fzB + 0x10) ∧
         ignored (.releaseReset w m) (fzB + 0x10) ∧
         (m < 32 → s.hasK (m / 16) = true → ∀ v, ignored (.registerWrite w (coreB m) v) (coreB m) ∧
           ignored (.registerWrite w (coreB m + 4) v) (coreB m + 4)))

/-- Frames of rows that write a few fields: no other register field, no memory, no core and no cell changes. -/
def Obligations.RegisterFrames : Prop :=
  ∀ (w : Wr) s,
    (let only (i : Instr) (l : List (Nat × Fld)) : Prop := gives (exec i s) (fun t => s.only t l)
     only (.fcLock w) [(fcB, Fc.FC_CTL.LOCK), (fcB, Fc.FC_STAT.LOCKED)] ∧
     only (.wden w) [(fcB, Fc.FC_CTL.WDEN)] ∧
     only .injectionTimeout [(fcB, Fc.INJ_STAT.BUSY), (fcB, Fc.INJ_STAT.TIMEOUT)] ∧
     (∀ k, only (.bindLock w k) [(mbxB k, Mbx.MBX_CTL.BIND_LOCK)]) ∧
     only .peerAliveEdge [(pairB, Pair.PAIR_STAT.PALIVE)] ∧
     only .paliveTimeout [(pairB, Pair.PAIR_STAT.PALIVE)] ∧
     only .stopInDiscrepancy [(safB, Saf.SAFE_STAT.DISC)] ∧
     only (.restore w) [(almB, Alm.ALM_STAT.CFG_REJ), (almB, Alm.ALM_STAT.RSTBUSY)] ∧
     only (.cycleTimerDis w) [(pwrB, Cyc.CYC_CTL.EN)] ∧
     (∀ m, only (.cycNumLoRead m) [(pwrB, Cyc.CYC_NUM_HI.NUM_HI)]) ∧
     (∀ a, only (.refDiff a) [(adB a, Ad.AD_STAT.REFBAD)] ∧ only (.refDiffEnd a) [(adB a, Ad.AD_STAT.REFBAD)] ∧
       only (.adiePllRelock a) [(pwrB, Pwr.DIE_STAT.LOCK)]) ∧
     (∀ ln, only (.wakeToneEnd ln) [(laneB ln, Lane.WAKE_CTL.BUSY)]) ∧
     only .refclkLoss [(pwrB, Pwr.DIE_STAT.REFOK)] ∧ only .xtalStop [(pwrB, Pwr.DIE_STAT.XTALOK)] ∧
     only .pwrfailRise [(pwrB, Pwr.PWR_STAT.PFACT)] ∧
     (∀ d, only (.dieOn w d) [(pwrB, Pwr.DIE_CTL.ON), (pwrB, Pwr.DIE_STAT.BUSY), (fzB, Fz.FZ_RSTAT.NOPERM)]) ∧
     (∀ k, only (.svnRaise w k) [(secB, Secu.SEC_SVN.FLOOR), (secB, Secu.SEC_STAT.REJ), (fzB, Fz.FZ_RSTAT.NOPERM)] ∧
       only (.revoke w k) [(secB, Secu.SEC_OTP.REVOKED), (secB, Secu.SEC_STAT.REJ), (fzB, Fz.FZ_RSTAT.NOPERM)]) ∧
     only .railFault [] ∧ only .perstNAssert [] ∧ only .perstNRelease [] ∧
     (∀ b, only (.conseqWindowEnd b) [] ∧ only (.escalationWindowEnd b) []))
end

