-- ==== Sys2Proof/Laws/State.lean ====
section
/-!
SUPPORT. One lemma per field per update of the state, so that no proof unfolds a record update.
-/
namespace Sys2Proof.Machine

namespace State

/-! ## Short forms of a register write -/

@[simp] theorem wrB_eq (s : State) (b : Nat) (f : Fld) (v : Bool) : s.wrB b f v = s.wr b f v.toNat := rfl
@[simp] theorem incBy_eq (s : State) (b : Nat) (f : Fld) (d : Nat) : s.incBy b f d = s.wr b f (min (s.rd b f + d) f.top) := rfl
@[simp] theorem inc_eq (s : State) (b : Nat) (f : Fld) : s.inc b f = s.wr b f (min (s.rd b f + 1) f.top) := rfl
@[simp] theorem incW_eq (s : State) (b : Nat) (f : Fld) : s.incW b f = s.wr b f (s.rd b f + 1) := rfl
@[simp] theorem cwrB_eq (s : State) (c : Nat) (f : Fld) (v : Bool) : s.cwrB c f v = s.cwr c f v.toNat := rfl
@[simp] theorem modCore_eq (s : State) (m : Nat) (g : Core → Core) : s.modCore m g = s.setCore m (g (s.core m)) := rfl
@[simp] theorem modLane_eq (s : State) (n : Nat) (g : Lane → Lane) : s.modLane n g = s.setLane n (g (s.lane n)) := rfl
@[simp] theorem modCtx_eq (s : State) (c : Nat) (g : Ctx → Ctx) : s.modCtx c g = s.setCtx c (g (s.ctx c)) := rfl
@[simp] theorem modAd_eq (s : State) (a : Nat) (g : AdSt → AdSt) : s.modAd a g = s.setAd a (g (s.ad a)) := rfl
@[simp] theorem modLaw_eq (s : State) (k : Nat) (g : LawSt → LawSt) : s.modLaw k g = s.setLaw k (g (s.law k)) := rfl

/-! ## `wr` -/

@[simp] theorem wr_pending (s : State) (b : Nat) (f : Fld) (v : Nat) : (s.wr b f v).pending = s.pending := rfl
@[simp] theorem wr_part (s : State) (b : Nat) (f : Fld) (v : Nat) : (s.wr b f v).part = s.part := rfl
@[simp] theorem wr_clk (s : State) (b : Nat) (f : Fld) (v : Nat) : (s.wr b f v).clk = s.clk := rfl
@[simp] theorem wr_regs (s : State) (b : Nat) (f : Fld) (v : Nat) : (s.wr b f v).regs = s.regs.set b f v := rfl
@[simp] theorem wr_act (s : State) (b : Nat) (f : Fld) (v : Nat) : (s.wr b f v).act = s.act := rfl
@[simp] theorem wr_cregs (s : State) (b : Nat) (f : Fld) (v : Nat) : (s.wr b f v).cregs = s.cregs := rfl
@[simp] theorem wr_cact (s : State) (b : Nat) (f : Fld) (v : Nat) : (s.wr b f v).cact = s.cact := rfl
@[simp] theorem wr_mem (s : State) (b : Nat) (f : Fld) (v : Nat) : (s.wr b f v).mem = s.mem := rfl
@[simp] theorem wr_nor (s : State) (b : Nat) (f : Fld) (v : Nat) : (s.wr b f v).nor = s.nor := rfl
@[simp] theorem wr_mram (s : State) (b : Nat) (f : Fld) (v : Nat) : (s.wr b f v).mram = s.mram := rfl
@[simp] theorem wr_fab (s : State) (b : Nat) (f : Fld) (v : Nat) : (s.wr b f v).fab = s.fab := rfl
@[simp] theorem wr_lanes (s : State) (b : Nat) (f : Fld) (v : Nat) : (s.wr b f v).lanes = s.lanes := rfl
@[simp] theorem wr_ctxs (s : State) (b : Nat) (f : Fld) (v : Nat) : (s.wr b f v).ctxs = s.ctxs := rfl
@[simp] theorem wr_cells (s : State) (b : Nat) (f : Fld) (v : Nat) : (s.wr b f v).cells = s.cells := rfl
@[simp] theorem wr_mods (s : State) (b : Nat) (f : Fld) (v : Nat) : (s.wr b f v).mods = s.mods := rfl
@[simp] theorem wr_cores (s : State) (b : Nat) (f : Fld) (v : Nat) : (s.wr b f v).cores = s.cores := rfl
@[simp] theorem wr_fz (s : State) (b : Nat) (f : Fld) (v : Nat) : (s.wr b f v).fz = s.fz := rfl
@[simp] theorem wr_frozen (s : State) (b : Nat) (f : Fld) (v : Nat) : (s.wr b f v).frozen = s.frozen := rfl
@[simp] theorem wr_sched (s : State) (b : Nat) (f : Fld) (v : Nat) : (s.wr b f v).sched = s.sched := rfl
@[simp] theorem wr_fc (s : State) (b : Nat) (f : Fld) (v : Nat) : (s.wr b f v).fc = s.fc := rfl
@[simp] theorem wr_ads (s : State) (b : Nat) (f : Fld) (v : Nat) : (s.wr b f v).ads = s.ads := rfl
@[simp] theorem wr_laws (s : State) (b : Nat) (f : Fld) (v : Nat) : (s.wr b f v).laws = s.laws := rfl
@[simp] theorem wr_eth (s : State) (b : Nat) (f : Fld) (v : Nat) : (s.wr b f v).eth = s.eth := rfl
@[simp] theorem wr_dmas (s : State) (b : Nat) (f : Fld) (v : Nat) : (s.wr b f v).dmas = s.dmas := rfl
@[simp] theorem wr_acq (s : State) (b : Nat) (f : Fld) (v : Nat) : (s.wr b f v).acq = s.acq := rfl
@[simp] theorem wr_alm (s : State) (b : Nat) (f : Fld) (v : Nat) : (s.wr b f v).alm = s.alm := rfl
@[simp] theorem wr_pair (s : State) (b : Nat) (f : Fld) (v : Nat) : (s.wr b f v).pair = s.pair := rfl
@[simp] theorem wr_saf (s : State) (b : Nat) (f : Fld) (v : Nat) : (s.wr b f v).saf = s.saf := rfl
@[simp] theorem wr_mtr (s : State) (b : Nat) (f : Fld) (v : Nat) : (s.wr b f v).mtr = s.mtr := rfl
@[simp] theorem wr_sec (s : State) (b : Nat) (f : Fld) (v : Nat) : (s.wr b f v).sec = s.sec := rfl
@[simp] theorem wr_pwr (s : State) (b : Nat) (f : Fld) (v : Nat) : (s.wr b f v).pwr = s.pwr := rfl
@[simp] theorem wr_txHold (s : State) (b : Nat) (f : Fld) (v : Nat) : (s.wr b f v).txHold = s.txHold := rfl
@[simp] theorem wr_rom (s : State) (b : Nat) (f : Fld) (v : Nat) : (s.wr b f v).rom = s.rom := rfl
@[simp] theorem wr_fresh (s : State) (b : Nat) (f : Fld) (v : Nat) : (s.wr b f v).fresh = s.fresh := rfl

/-! ## `cwr` -/

@[simp] theorem cwr_pending (s : State) (c : Nat) (f : Fld) (v : Nat) : (s.cwr c f v).pending = s.pending := rfl
@[simp] theorem cwr_part (s : State) (c : Nat) (f : Fld) (v : Nat) : (s.cwr c f v).part = s.part := rfl
@[simp] theorem cwr_clk (s : State) (c : Nat) (f : Fld) (v : Nat) : (s.cwr c f v).clk = s.clk := rfl
@[simp] theorem cwr_regs (s : State) (c : Nat) (f : Fld) (v : Nat) : (s.cwr c f v).regs = s.regs := rfl
@[simp] theorem cwr_act (s : State) (c : Nat) (f : Fld) (v : Nat) : (s.cwr c f v).act = s.act := rfl
@[simp] theorem cwr_cregs (s : State) (c : Nat) (f : Fld) (v : Nat) : (s.cwr c f v).cregs = s.cregs.set (cellB c) f v := rfl
@[simp] theorem cwr_cact (s : State) (c : Nat) (f : Fld) (v : Nat) : (s.cwr c f v).cact = s.cact := rfl
@[simp] theorem cwr_mem (s : State) (c : Nat) (f : Fld) (v : Nat) : (s.cwr c f v).mem = s.mem := rfl
@[simp] theorem cwr_nor (s : State) (c : Nat) (f : Fld) (v : Nat) : (s.cwr c f v).nor = s.nor := rfl
@[simp] theorem cwr_mram (s : State) (c : Nat) (f : Fld) (v : Nat) : (s.cwr c f v).mram = s.mram := rfl
@[simp] theorem cwr_fab (s : State) (c : Nat) (f : Fld) (v : Nat) : (s.cwr c f v).fab = s.fab := rfl
@[simp] theorem cwr_lanes (s : State) (c : Nat) (f : Fld) (v : Nat) : (s.cwr c f v).lanes = s.lanes := rfl
@[simp] theorem cwr_ctxs (s : State) (c : Nat) (f : Fld) (v : Nat) : (s.cwr c f v).ctxs = s.ctxs := rfl
@[simp] theorem cwr_cells (s : State) (c : Nat) (f : Fld) (v : Nat) : (s.cwr c f v).cells = s.cells := rfl
@[simp] theorem cwr_mods (s : State) (c : Nat) (f : Fld) (v : Nat) : (s.cwr c f v).mods = s.mods := rfl
@[simp] theorem cwr_cores (s : State) (c : Nat) (f : Fld) (v : Nat) : (s.cwr c f v).cores = s.cores := rfl
@[simp] theorem cwr_fz (s : State) (c : Nat) (f : Fld) (v : Nat) : (s.cwr c f v).fz = s.fz := rfl
@[simp] theorem cwr_frozen (s : State) (c : Nat) (f : Fld) (v : Nat) : (s.cwr c f v).frozen = s.frozen := rfl
@[simp] theorem cwr_sched (s : State) (c : Nat) (f : Fld) (v : Nat) : (s.cwr c f v).sched = s.sched := rfl
@[simp] theorem cwr_fc (s : State) (c : Nat) (f : Fld) (v : Nat) : (s.cwr c f v).fc = s.fc := rfl
@[simp] theorem cwr_ads (s : State) (c : Nat) (f : Fld) (v : Nat) : (s.cwr c f v).ads = s.ads := rfl
@[simp] theorem cwr_laws (s : State) (c : Nat) (f : Fld) (v : Nat) : (s.cwr c f v).laws = s.laws := rfl
@[simp] theorem cwr_eth (s : State) (c : Nat) (f : Fld) (v : Nat) : (s.cwr c f v).eth = s.eth := rfl
@[simp] theorem cwr_dmas (s : State) (c : Nat) (f : Fld) (v : Nat) : (s.cwr c f v).dmas = s.dmas := rfl
@[simp] theorem cwr_acq (s : State) (c : Nat) (f : Fld) (v : Nat) : (s.cwr c f v).acq = s.acq := rfl
@[simp] theorem cwr_alm (s : State) (c : Nat) (f : Fld) (v : Nat) : (s.cwr c f v).alm = s.alm := rfl
@[simp] theorem cwr_pair (s : State) (c : Nat) (f : Fld) (v : Nat) : (s.cwr c f v).pair = s.pair := rfl
@[simp] theorem cwr_saf (s : State) (c : Nat) (f : Fld) (v : Nat) : (s.cwr c f v).saf = s.saf := rfl
@[simp] theorem cwr_mtr (s : State) (c : Nat) (f : Fld) (v : Nat) : (s.cwr c f v).mtr = s.mtr := rfl
@[simp] theorem cwr_sec (s : State) (c : Nat) (f : Fld) (v : Nat) : (s.cwr c f v).sec = s.sec := rfl
@[simp] theorem cwr_pwr (s : State) (c : Nat) (f : Fld) (v : Nat) : (s.cwr c f v).pwr = s.pwr := rfl
@[simp] theorem cwr_txHold (s : State) (c : Nat) (f : Fld) (v : Nat) : (s.cwr c f v).txHold = s.txHold := rfl
@[simp] theorem cwr_rom (s : State) (c : Nat) (f : Fld) (v : Nat) : (s.cwr c f v).rom = s.rom := rfl
@[simp] theorem cwr_fresh (s : State) (c : Nat) (f : Fld) (v : Nat) : (s.cwr c f v).fresh = s.fresh := rfl

/-! ## `takeS` -/

@[simp] theorem takeS_pending (s : State) (b : Nat) (f : Fld) : (s.takeS b f).pending = s.pending := rfl
@[simp] theorem takeS_part (s : State) (b : Nat) (f : Fld) : (s.takeS b f).part = s.part := rfl
@[simp] theorem takeS_clk (s : State) (b : Nat) (f : Fld) : (s.takeS b f).clk = s.clk := rfl
@[simp] theorem takeS_regs (s : State) (b : Nat) (f : Fld) : (s.takeS b f).regs = s.regs := rfl
@[simp] theorem takeS_act (s : State) (b : Nat) (f : Fld) : (s.takeS b f).act = s.act.set b f (s.rd b f) := rfl
@[simp] theorem takeS_cregs (s : State) (b : Nat) (f : Fld) : (s.takeS b f).cregs = s.cregs := rfl
@[simp] theorem takeS_cact (s : State) (b : Nat) (f : Fld) : (s.takeS b f).cact = s.cact := rfl
@[simp] theorem takeS_mem (s : State) (b : Nat) (f : Fld) : (s.takeS b f).mem = s.mem := rfl
@[simp] theorem takeS_nor (s : State) (b : Nat) (f : Fld) : (s.takeS b f).nor = s.nor := rfl
@[simp] theorem takeS_mram (s : State) (b : Nat) (f : Fld) : (s.takeS b f).mram = s.mram := rfl
@[simp] theorem takeS_fab (s : State) (b : Nat) (f : Fld) : (s.takeS b f).fab = s.fab := rfl
@[simp] theorem takeS_lanes (s : State) (b : Nat) (f : Fld) : (s.takeS b f).lanes = s.lanes := rfl
@[simp] theorem takeS_ctxs (s : State) (b : Nat) (f : Fld) : (s.takeS b f).ctxs = s.ctxs := rfl
@[simp] theorem takeS_cells (s : State) (b : Nat) (f : Fld) : (s.takeS b f).cells = s.cells := rfl
@[simp] theorem takeS_mods (s : State) (b : Nat) (f : Fld) : (s.takeS b f).mods = s.mods := rfl
@[simp] theorem takeS_cores (s : State) (b : Nat) (f : Fld) : (s.takeS b f).cores = s.cores := rfl
@[simp] theorem takeS_fz (s : State) (b : Nat) (f : Fld) : (s.takeS b f).fz = s.fz := rfl
@[simp] theorem takeS_frozen (s : State) (b : Nat) (f : Fld) : (s.takeS b f).frozen = s.frozen := rfl
@[simp] theorem takeS_sched (s : State) (b : Nat) (f : Fld) : (s.takeS b f).sched = s.sched := rfl
@[simp] theorem takeS_fc (s : State) (b : Nat) (f : Fld) : (s.takeS b f).fc = s.fc := rfl
@[simp] theorem takeS_ads (s : State) (b : Nat) (f : Fld) : (s.takeS b f).ads = s.ads := rfl
@[simp] theorem takeS_laws (s : State) (b : Nat) (f : Fld) : (s.takeS b f).laws = s.laws := rfl
@[simp] theorem takeS_eth (s : State) (b : Nat) (f : Fld) : (s.takeS b f).eth = s.eth := rfl
@[simp] theorem takeS_dmas (s : State) (b : Nat) (f : Fld) : (s.takeS b f).dmas = s.dmas := rfl
@[simp] theorem takeS_acq (s : State) (b : Nat) (f : Fld) : (s.takeS b f).acq = s.acq := rfl
@[simp] theorem takeS_alm (s : State) (b : Nat) (f : Fld) : (s.takeS b f).alm = s.alm := rfl
@[simp] theorem takeS_pair (s : State) (b : Nat) (f : Fld) : (s.takeS b f).pair = s.pair := rfl
@[simp] theorem takeS_saf (s : State) (b : Nat) (f : Fld) : (s.takeS b f).saf = s.saf := rfl
@[simp] theorem takeS_mtr (s : State) (b : Nat) (f : Fld) : (s.takeS b f).mtr = s.mtr := rfl
@[simp] theorem takeS_sec (s : State) (b : Nat) (f : Fld) : (s.takeS b f).sec = s.sec := rfl
@[simp] theorem takeS_pwr (s : State) (b : Nat) (f : Fld) : (s.takeS b f).pwr = s.pwr := rfl
@[simp] theorem takeS_txHold (s : State) (b : Nat) (f : Fld) : (s.takeS b f).txHold = s.txHold := rfl
@[simp] theorem takeS_rom (s : State) (b : Nat) (f : Fld) : (s.takeS b f).rom = s.rom := rfl
@[simp] theorem takeS_fresh (s : State) (b : Nat) (f : Fld) : (s.takeS b f).fresh = s.fresh := rfl

/-! ## `setLane` -/

@[simp] theorem setLane_pending (s : State) (n : Nat) (x : Lane) : (s.setLane n x).pending = s.pending := rfl
@[simp] theorem setLane_part (s : State) (n : Nat) (x : Lane) : (s.setLane n x).part = s.part := rfl
@[simp] theorem setLane_clk (s : State) (n : Nat) (x : Lane) : (s.setLane n x).clk = s.clk := rfl
@[simp] theorem setLane_regs (s : State) (n : Nat) (x : Lane) : (s.setLane n x).regs = s.regs := rfl
@[simp] theorem setLane_act (s : State) (n : Nat) (x : Lane) : (s.setLane n x).act = s.act := rfl
@[simp] theorem setLane_cregs (s : State) (n : Nat) (x : Lane) : (s.setLane n x).cregs = s.cregs := rfl
@[simp] theorem setLane_cact (s : State) (n : Nat) (x : Lane) : (s.setLane n x).cact = s.cact := rfl
@[simp] theorem setLane_mem (s : State) (n : Nat) (x : Lane) : (s.setLane n x).mem = s.mem := rfl
@[simp] theorem setLane_nor (s : State) (n : Nat) (x : Lane) : (s.setLane n x).nor = s.nor := rfl
@[simp] theorem setLane_mram (s : State) (n : Nat) (x : Lane) : (s.setLane n x).mram = s.mram := rfl
@[simp] theorem setLane_fab (s : State) (n : Nat) (x : Lane) : (s.setLane n x).fab = s.fab := rfl
@[simp] theorem setLane_lanes (s : State) (n : Nat) (x : Lane) : (s.setLane n x).lanes = Tab.put s.lanes n x := rfl
@[simp] theorem setLane_ctxs (s : State) (n : Nat) (x : Lane) : (s.setLane n x).ctxs = s.ctxs := rfl
@[simp] theorem setLane_cells (s : State) (n : Nat) (x : Lane) : (s.setLane n x).cells = s.cells := rfl
@[simp] theorem setLane_mods (s : State) (n : Nat) (x : Lane) : (s.setLane n x).mods = s.mods := rfl
@[simp] theorem setLane_cores (s : State) (n : Nat) (x : Lane) : (s.setLane n x).cores = s.cores := rfl
@[simp] theorem setLane_fz (s : State) (n : Nat) (x : Lane) : (s.setLane n x).fz = s.fz := rfl
@[simp] theorem setLane_frozen (s : State) (n : Nat) (x : Lane) : (s.setLane n x).frozen = s.frozen := rfl
@[simp] theorem setLane_sched (s : State) (n : Nat) (x : Lane) : (s.setLane n x).sched = s.sched := rfl
@[simp] theorem setLane_fc (s : State) (n : Nat) (x : Lane) : (s.setLane n x).fc = s.fc := rfl
@[simp] theorem setLane_ads (s : State) (n : Nat) (x : Lane) : (s.setLane n x).ads = s.ads := rfl
@[simp] theorem setLane_laws (s : State) (n : Nat) (x : Lane) : (s.setLane n x).laws = s.laws := rfl
@[simp] theorem setLane_eth (s : State) (n : Nat) (x : Lane) : (s.setLane n x).eth = s.eth := rfl
@[simp] theorem setLane_dmas (s : State) (n : Nat) (x : Lane) : (s.setLane n x).dmas = s.dmas := rfl
@[simp] theorem setLane_acq (s : State) (n : Nat) (x : Lane) : (s.setLane n x).acq = s.acq := rfl
@[simp] theorem setLane_alm (s : State) (n : Nat) (x : Lane) : (s.setLane n x).alm = s.alm := rfl
@[simp] theorem setLane_pair (s : State) (n : Nat) (x : Lane) : (s.setLane n x).pair = s.pair := rfl
@[simp] theorem setLane_saf (s : State) (n : Nat) (x : Lane) : (s.setLane n x).saf = s.saf := rfl
@[simp] theorem setLane_mtr (s : State) (n : Nat) (x : Lane) : (s.setLane n x).mtr = s.mtr := rfl
@[simp] theorem setLane_sec (s : State) (n : Nat) (x : Lane) : (s.setLane n x).sec = s.sec := rfl
@[simp] theorem setLane_pwr (s : State) (n : Nat) (x : Lane) : (s.setLane n x).pwr = s.pwr := rfl
@[simp] theorem setLane_txHold (s : State) (n : Nat) (x : Lane) : (s.setLane n x).txHold = s.txHold := rfl
@[simp] theorem setLane_rom (s : State) (n : Nat) (x : Lane) : (s.setLane n x).rom = s.rom := rfl
@[simp] theorem setLane_fresh (s : State) (n : Nat) (x : Lane) : (s.setLane n x).fresh = s.fresh := rfl

/-! ## `setCtx` -/

@[simp] theorem setCtx_pending (s : State) (c : Nat) (x : Ctx) : (s.setCtx c x).pending = s.pending := rfl
@[simp] theorem setCtx_part (s : State) (c : Nat) (x : Ctx) : (s.setCtx c x).part = s.part := rfl
@[simp] theorem setCtx_clk (s : State) (c : Nat) (x : Ctx) : (s.setCtx c x).clk = s.clk := rfl
@[simp] theorem setCtx_regs (s : State) (c : Nat) (x : Ctx) : (s.setCtx c x).regs = s.regs := rfl
@[simp] theorem setCtx_act (s : State) (c : Nat) (x : Ctx) : (s.setCtx c x).act = s.act := rfl
@[simp] theorem setCtx_cregs (s : State) (c : Nat) (x : Ctx) : (s.setCtx c x).cregs = s.cregs := rfl
@[simp] theorem setCtx_cact (s : State) (c : Nat) (x : Ctx) : (s.setCtx c x).cact = s.cact := rfl
@[simp] theorem setCtx_mem (s : State) (c : Nat) (x : Ctx) : (s.setCtx c x).mem = s.mem := rfl
@[simp] theorem setCtx_nor (s : State) (c : Nat) (x : Ctx) : (s.setCtx c x).nor = s.nor := rfl
@[simp] theorem setCtx_mram (s : State) (c : Nat) (x : Ctx) : (s.setCtx c x).mram = s.mram := rfl
@[simp] theorem setCtx_fab (s : State) (c : Nat) (x : Ctx) : (s.setCtx c x).fab = s.fab := rfl
@[simp] theorem setCtx_lanes (s : State) (c : Nat) (x : Ctx) : (s.setCtx c x).lanes = s.lanes := rfl
@[simp] theorem setCtx_ctxs (s : State) (c : Nat) (x : Ctx) : (s.setCtx c x).ctxs = Tab.put s.ctxs c x := rfl
@[simp] theorem setCtx_cells (s : State) (c : Nat) (x : Ctx) : (s.setCtx c x).cells = s.cells := rfl
@[simp] theorem setCtx_mods (s : State) (c : Nat) (x : Ctx) : (s.setCtx c x).mods = s.mods := rfl
@[simp] theorem setCtx_cores (s : State) (c : Nat) (x : Ctx) : (s.setCtx c x).cores = s.cores := rfl
@[simp] theorem setCtx_fz (s : State) (c : Nat) (x : Ctx) : (s.setCtx c x).fz = s.fz := rfl
@[simp] theorem setCtx_frozen (s : State) (c : Nat) (x : Ctx) : (s.setCtx c x).frozen = s.frozen := rfl
@[simp] theorem setCtx_sched (s : State) (c : Nat) (x : Ctx) : (s.setCtx c x).sched = s.sched := rfl
@[simp] theorem setCtx_fc (s : State) (c : Nat) (x : Ctx) : (s.setCtx c x).fc = s.fc := rfl
@[simp] theorem setCtx_ads (s : State) (c : Nat) (x : Ctx) : (s.setCtx c x).ads = s.ads := rfl
@[simp] theorem setCtx_laws (s : State) (c : Nat) (x : Ctx) : (s.setCtx c x).laws = s.laws := rfl
@[simp] theorem setCtx_eth (s : State) (c : Nat) (x : Ctx) : (s.setCtx c x).eth = s.eth := rfl
@[simp] theorem setCtx_dmas (s : State) (c : Nat) (x : Ctx) : (s.setCtx c x).dmas = s.dmas := rfl
@[simp] theorem setCtx_acq (s : State) (c : Nat) (x : Ctx) : (s.setCtx c x).acq = s.acq := rfl
@[simp] theorem setCtx_alm (s : State) (c : Nat) (x : Ctx) : (s.setCtx c x).alm = s.alm := rfl
@[simp] theorem setCtx_pair (s : State) (c : Nat) (x : Ctx) : (s.setCtx c x).pair = s.pair := rfl
@[simp] theorem setCtx_saf (s : State) (c : Nat) (x : Ctx) : (s.setCtx c x).saf = s.saf := rfl
@[simp] theorem setCtx_mtr (s : State) (c : Nat) (x : Ctx) : (s.setCtx c x).mtr = s.mtr := rfl
@[simp] theorem setCtx_sec (s : State) (c : Nat) (x : Ctx) : (s.setCtx c x).sec = s.sec := rfl
@[simp] theorem setCtx_pwr (s : State) (c : Nat) (x : Ctx) : (s.setCtx c x).pwr = s.pwr := rfl
@[simp] theorem setCtx_txHold (s : State) (c : Nat) (x : Ctx) : (s.setCtx c x).txHold = s.txHold := rfl
@[simp] theorem setCtx_rom (s : State) (c : Nat) (x : Ctx) : (s.setCtx c x).rom = s.rom := rfl
@[simp] theorem setCtx_fresh (s : State) (c : Nat) (x : Ctx) : (s.setCtx c x).fresh = s.fresh := rfl

/-! ## `setCell` -/

@[simp] theorem setCell_pending (s : State) (c : Nat) (x : Cell) : (s.setCell c x).pending = s.pending := rfl
@[simp] theorem setCell_part (s : State) (c : Nat) (x : Cell) : (s.setCell c x).part = s.part := rfl
@[simp] theorem setCell_clk (s : State) (c : Nat) (x : Cell) : (s.setCell c x).clk = s.clk := rfl
@[simp] theorem setCell_regs (s : State) (c : Nat) (x : Cell) : (s.setCell c x).regs = s.regs := rfl
@[simp] theorem setCell_act (s : State) (c : Nat) (x : Cell) : (s.setCell c x).act = s.act := rfl
@[simp] theorem setCell_cregs (s : State) (c : Nat) (x : Cell) : (s.setCell c x).cregs = s.cregs := rfl
@[simp] theorem setCell_cact (s : State) (c : Nat) (x : Cell) : (s.setCell c x).cact = s.cact := rfl
@[simp] theorem setCell_mem (s : State) (c : Nat) (x : Cell) : (s.setCell c x).mem = s.mem := rfl
@[simp] theorem setCell_nor (s : State) (c : Nat) (x : Cell) : (s.setCell c x).nor = s.nor := rfl
@[simp] theorem setCell_mram (s : State) (c : Nat) (x : Cell) : (s.setCell c x).mram = s.mram := rfl
@[simp] theorem setCell_fab (s : State) (c : Nat) (x : Cell) : (s.setCell c x).fab = s.fab := rfl
@[simp] theorem setCell_lanes (s : State) (c : Nat) (x : Cell) : (s.setCell c x).lanes = s.lanes := rfl
@[simp] theorem setCell_ctxs (s : State) (c : Nat) (x : Cell) : (s.setCell c x).ctxs = s.ctxs := rfl
@[simp] theorem setCell_cells (s : State) (c : Nat) (x : Cell) : (s.setCell c x).cells = Tab.put s.cells c x := rfl
@[simp] theorem setCell_mods (s : State) (c : Nat) (x : Cell) : (s.setCell c x).mods = s.mods := rfl
@[simp] theorem setCell_cores (s : State) (c : Nat) (x : Cell) : (s.setCell c x).cores = s.cores := rfl
@[simp] theorem setCell_fz (s : State) (c : Nat) (x : Cell) : (s.setCell c x).fz = s.fz := rfl
@[simp] theorem setCell_frozen (s : State) (c : Nat) (x : Cell) : (s.setCell c x).frozen = s.frozen := rfl
@[simp] theorem setCell_sched (s : State) (c : Nat) (x : Cell) : (s.setCell c x).sched = s.sched := rfl
@[simp] theorem setCell_fc (s : State) (c : Nat) (x : Cell) : (s.setCell c x).fc = s.fc := rfl
@[simp] theorem setCell_ads (s : State) (c : Nat) (x : Cell) : (s.setCell c x).ads = s.ads := rfl
@[simp] theorem setCell_laws (s : State) (c : Nat) (x : Cell) : (s.setCell c x).laws = s.laws := rfl
@[simp] theorem setCell_eth (s : State) (c : Nat) (x : Cell) : (s.setCell c x).eth = s.eth := rfl
@[simp] theorem setCell_dmas (s : State) (c : Nat) (x : Cell) : (s.setCell c x).dmas = s.dmas := rfl
@[simp] theorem setCell_acq (s : State) (c : Nat) (x : Cell) : (s.setCell c x).acq = s.acq := rfl
@[simp] theorem setCell_alm (s : State) (c : Nat) (x : Cell) : (s.setCell c x).alm = s.alm := rfl
@[simp] theorem setCell_pair (s : State) (c : Nat) (x : Cell) : (s.setCell c x).pair = s.pair := rfl
@[simp] theorem setCell_saf (s : State) (c : Nat) (x : Cell) : (s.setCell c x).saf = s.saf := rfl
@[simp] theorem setCell_mtr (s : State) (c : Nat) (x : Cell) : (s.setCell c x).mtr = s.mtr := rfl
@[simp] theorem setCell_sec (s : State) (c : Nat) (x : Cell) : (s.setCell c x).sec = s.sec := rfl
@[simp] theorem setCell_pwr (s : State) (c : Nat) (x : Cell) : (s.setCell c x).pwr = s.pwr := rfl
@[simp] theorem setCell_txHold (s : State) (c : Nat) (x : Cell) : (s.setCell c x).txHold = s.txHold := rfl
@[simp] theorem setCell_rom (s : State) (c : Nat) (x : Cell) : (s.setCell c x).rom = s.rom := rfl
@[simp] theorem setCell_fresh (s : State) (c : Nat) (x : Cell) : (s.setCell c x).fresh = s.fresh := rfl

/-! ## `setModul` -/

@[simp] theorem setModul_pending (s : State) (k : Nat) (x : Modul) : (s.setModul k x).pending = s.pending := rfl
@[simp] theorem setModul_part (s : State) (k : Nat) (x : Modul) : (s.setModul k x).part = s.part := rfl
@[simp] theorem setModul_clk (s : State) (k : Nat) (x : Modul) : (s.setModul k x).clk = s.clk := rfl
@[simp] theorem setModul_regs (s : State) (k : Nat) (x : Modul) : (s.setModul k x).regs = s.regs := rfl
@[simp] theorem setModul_act (s : State) (k : Nat) (x : Modul) : (s.setModul k x).act = s.act := rfl
@[simp] theorem setModul_cregs (s : State) (k : Nat) (x : Modul) : (s.setModul k x).cregs = s.cregs := rfl
@[simp] theorem setModul_cact (s : State) (k : Nat) (x : Modul) : (s.setModul k x).cact = s.cact := rfl
@[simp] theorem setModul_mem (s : State) (k : Nat) (x : Modul) : (s.setModul k x).mem = s.mem := rfl
@[simp] theorem setModul_nor (s : State) (k : Nat) (x : Modul) : (s.setModul k x).nor = s.nor := rfl
@[simp] theorem setModul_mram (s : State) (k : Nat) (x : Modul) : (s.setModul k x).mram = s.mram := rfl
@[simp] theorem setModul_fab (s : State) (k : Nat) (x : Modul) : (s.setModul k x).fab = s.fab := rfl
@[simp] theorem setModul_lanes (s : State) (k : Nat) (x : Modul) : (s.setModul k x).lanes = s.lanes := rfl
@[simp] theorem setModul_ctxs (s : State) (k : Nat) (x : Modul) : (s.setModul k x).ctxs = s.ctxs := rfl
@[simp] theorem setModul_cells (s : State) (k : Nat) (x : Modul) : (s.setModul k x).cells = s.cells := rfl
@[simp] theorem setModul_mods (s : State) (k : Nat) (x : Modul) : (s.setModul k x).mods = Tab.put s.mods k x := rfl
@[simp] theorem setModul_cores (s : State) (k : Nat) (x : Modul) : (s.setModul k x).cores = s.cores := rfl
@[simp] theorem setModul_fz (s : State) (k : Nat) (x : Modul) : (s.setModul k x).fz = s.fz := rfl
@[simp] theorem setModul_frozen (s : State) (k : Nat) (x : Modul) : (s.setModul k x).frozen = s.frozen := rfl
@[simp] theorem setModul_sched (s : State) (k : Nat) (x : Modul) : (s.setModul k x).sched = s.sched := rfl
@[simp] theorem setModul_fc (s : State) (k : Nat) (x : Modul) : (s.setModul k x).fc = s.fc := rfl
@[simp] theorem setModul_ads (s : State) (k : Nat) (x : Modul) : (s.setModul k x).ads = s.ads := rfl
@[simp] theorem setModul_laws (s : State) (k : Nat) (x : Modul) : (s.setModul k x).laws = s.laws := rfl
@[simp] theorem setModul_eth (s : State) (k : Nat) (x : Modul) : (s.setModul k x).eth = s.eth := rfl
@[simp] theorem setModul_dmas (s : State) (k : Nat) (x : Modul) : (s.setModul k x).dmas = s.dmas := rfl
@[simp] theorem setModul_acq (s : State) (k : Nat) (x : Modul) : (s.setModul k x).acq = s.acq := rfl
@[simp] theorem setModul_alm (s : State) (k : Nat) (x : Modul) : (s.setModul k x).alm = s.alm := rfl
@[simp] theorem setModul_pair (s : State) (k : Nat) (x : Modul) : (s.setModul k x).pair = s.pair := rfl
@[simp] theorem setModul_saf (s : State) (k : Nat) (x : Modul) : (s.setModul k x).saf = s.saf := rfl
@[simp] theorem setModul_mtr (s : State) (k : Nat) (x : Modul) : (s.setModul k x).mtr = s.mtr := rfl
@[simp] theorem setModul_sec (s : State) (k : Nat) (x : Modul) : (s.setModul k x).sec = s.sec := rfl
@[simp] theorem setModul_pwr (s : State) (k : Nat) (x : Modul) : (s.setModul k x).pwr = s.pwr := rfl
@[simp] theorem setModul_txHold (s : State) (k : Nat) (x : Modul) : (s.setModul k x).txHold = s.txHold := rfl
@[simp] theorem setModul_rom (s : State) (k : Nat) (x : Modul) : (s.setModul k x).rom = s.rom := rfl
@[simp] theorem setModul_fresh (s : State) (k : Nat) (x : Modul) : (s.setModul k x).fresh = s.fresh := rfl

/-! ## `setAd` -/

@[simp] theorem setAd_pending (s : State) (a : Nat) (x : AdSt) : (s.setAd a x).pending = s.pending := rfl
@[simp] theorem setAd_part (s : State) (a : Nat) (x : AdSt) : (s.setAd a x).part = s.part := rfl
@[simp] theorem setAd_clk (s : State) (a : Nat) (x : AdSt) : (s.setAd a x).clk = s.clk := rfl
@[simp] theorem setAd_regs (s : State) (a : Nat) (x : AdSt) : (s.setAd a x).regs = s.regs := rfl
@[simp] theorem setAd_act (s : State) (a : Nat) (x : AdSt) : (s.setAd a x).act = s.act := rfl
@[simp] theorem setAd_cregs (s : State) (a : Nat) (x : AdSt) : (s.setAd a x).cregs = s.cregs := rfl
@[simp] theorem setAd_cact (s : State) (a : Nat) (x : AdSt) : (s.setAd a x).cact = s.cact := rfl
@[simp] theorem setAd_mem (s : State) (a : Nat) (x : AdSt) : (s.setAd a x).mem = s.mem := rfl
@[simp] theorem setAd_nor (s : State) (a : Nat) (x : AdSt) : (s.setAd a x).nor = s.nor := rfl
@[simp] theorem setAd_mram (s : State) (a : Nat) (x : AdSt) : (s.setAd a x).mram = s.mram := rfl
@[simp] theorem setAd_fab (s : State) (a : Nat) (x : AdSt) : (s.setAd a x).fab = s.fab := rfl
@[simp] theorem setAd_lanes (s : State) (a : Nat) (x : AdSt) : (s.setAd a x).lanes = s.lanes := rfl
@[simp] theorem setAd_ctxs (s : State) (a : Nat) (x : AdSt) : (s.setAd a x).ctxs = s.ctxs := rfl
@[simp] theorem setAd_cells (s : State) (a : Nat) (x : AdSt) : (s.setAd a x).cells = s.cells := rfl
@[simp] theorem setAd_mods (s : State) (a : Nat) (x : AdSt) : (s.setAd a x).mods = s.mods := rfl
@[simp] theorem setAd_cores (s : State) (a : Nat) (x : AdSt) : (s.setAd a x).cores = s.cores := rfl
@[simp] theorem setAd_fz (s : State) (a : Nat) (x : AdSt) : (s.setAd a x).fz = s.fz := rfl
@[simp] theorem setAd_frozen (s : State) (a : Nat) (x : AdSt) : (s.setAd a x).frozen = s.frozen := rfl
@[simp] theorem setAd_sched (s : State) (a : Nat) (x : AdSt) : (s.setAd a x).sched = s.sched := rfl
@[simp] theorem setAd_fc (s : State) (a : Nat) (x : AdSt) : (s.setAd a x).fc = s.fc := rfl
@[simp] theorem setAd_ads (s : State) (a : Nat) (x : AdSt) : (s.setAd a x).ads = Tab.put s.ads a x := rfl
@[simp] theorem setAd_laws (s : State) (a : Nat) (x : AdSt) : (s.setAd a x).laws = s.laws := rfl
@[simp] theorem setAd_eth (s : State) (a : Nat) (x : AdSt) : (s.setAd a x).eth = s.eth := rfl
@[simp] theorem setAd_dmas (s : State) (a : Nat) (x : AdSt) : (s.setAd a x).dmas = s.dmas := rfl
@[simp] theorem setAd_acq (s : State) (a : Nat) (x : AdSt) : (s.setAd a x).acq = s.acq := rfl
@[simp] theorem setAd_alm (s : State) (a : Nat) (x : AdSt) : (s.setAd a x).alm = s.alm := rfl
@[simp] theorem setAd_pair (s : State) (a : Nat) (x : AdSt) : (s.setAd a x).pair = s.pair := rfl
@[simp] theorem setAd_saf (s : State) (a : Nat) (x : AdSt) : (s.setAd a x).saf = s.saf := rfl
@[simp] theorem setAd_mtr (s : State) (a : Nat) (x : AdSt) : (s.setAd a x).mtr = s.mtr := rfl
@[simp] theorem setAd_sec (s : State) (a : Nat) (x : AdSt) : (s.setAd a x).sec = s.sec := rfl
@[simp] theorem setAd_pwr (s : State) (a : Nat) (x : AdSt) : (s.setAd a x).pwr = s.pwr := rfl
@[simp] theorem setAd_txHold (s : State) (a : Nat) (x : AdSt) : (s.setAd a x).txHold = s.txHold := rfl
@[simp] theorem setAd_rom (s : State) (a : Nat) (x : AdSt) : (s.setAd a x).rom = s.rom := rfl
@[simp] theorem setAd_fresh (s : State) (a : Nat) (x : AdSt) : (s.setAd a x).fresh = s.fresh := rfl

/-! ## `setLaw` -/

@[simp] theorem setLaw_pending (s : State) (k : Nat) (x : LawSt) : (s.setLaw k x).pending = s.pending := rfl
@[simp] theorem setLaw_part (s : State) (k : Nat) (x : LawSt) : (s.setLaw k x).part = s.part := rfl
@[simp] theorem setLaw_clk (s : State) (k : Nat) (x : LawSt) : (s.setLaw k x).clk = s.clk := rfl
@[simp] theorem setLaw_regs (s : State) (k : Nat) (x : LawSt) : (s.setLaw k x).regs = s.regs := rfl
@[simp] theorem setLaw_act (s : State) (k : Nat) (x : LawSt) : (s.setLaw k x).act = s.act := rfl
@[simp] theorem setLaw_cregs (s : State) (k : Nat) (x : LawSt) : (s.setLaw k x).cregs = s.cregs := rfl
@[simp] theorem setLaw_cact (s : State) (k : Nat) (x : LawSt) : (s.setLaw k x).cact = s.cact := rfl
@[simp] theorem setLaw_mem (s : State) (k : Nat) (x : LawSt) : (s.setLaw k x).mem = s.mem := rfl
@[simp] theorem setLaw_nor (s : State) (k : Nat) (x : LawSt) : (s.setLaw k x).nor = s.nor := rfl
@[simp] theorem setLaw_mram (s : State) (k : Nat) (x : LawSt) : (s.setLaw k x).mram = s.mram := rfl
@[simp] theorem setLaw_fab (s : State) (k : Nat) (x : LawSt) : (s.setLaw k x).fab = s.fab := rfl
@[simp] theorem setLaw_lanes (s : State) (k : Nat) (x : LawSt) : (s.setLaw k x).lanes = s.lanes := rfl
@[simp] theorem setLaw_ctxs (s : State) (k : Nat) (x : LawSt) : (s.setLaw k x).ctxs = s.ctxs := rfl
@[simp] theorem setLaw_cells (s : State) (k : Nat) (x : LawSt) : (s.setLaw k x).cells = s.cells := rfl
@[simp] theorem setLaw_mods (s : State) (k : Nat) (x : LawSt) : (s.setLaw k x).mods = s.mods := rfl
@[simp] theorem setLaw_cores (s : State) (k : Nat) (x : LawSt) : (s.setLaw k x).cores = s.cores := rfl
@[simp] theorem setLaw_fz (s : State) (k : Nat) (x : LawSt) : (s.setLaw k x).fz = s.fz := rfl
@[simp] theorem setLaw_frozen (s : State) (k : Nat) (x : LawSt) : (s.setLaw k x).frozen = s.frozen := rfl
@[simp] theorem setLaw_sched (s : State) (k : Nat) (x : LawSt) : (s.setLaw k x).sched = s.sched := rfl
@[simp] theorem setLaw_fc (s : State) (k : Nat) (x : LawSt) : (s.setLaw k x).fc = s.fc := rfl
@[simp] theorem setLaw_ads (s : State) (k : Nat) (x : LawSt) : (s.setLaw k x).ads = s.ads := rfl
@[simp] theorem setLaw_laws (s : State) (k : Nat) (x : LawSt) : (s.setLaw k x).laws = Tab.put s.laws k x := rfl
@[simp] theorem setLaw_eth (s : State) (k : Nat) (x : LawSt) : (s.setLaw k x).eth = s.eth := rfl
@[simp] theorem setLaw_dmas (s : State) (k : Nat) (x : LawSt) : (s.setLaw k x).dmas = s.dmas := rfl
@[simp] theorem setLaw_acq (s : State) (k : Nat) (x : LawSt) : (s.setLaw k x).acq = s.acq := rfl
@[simp] theorem setLaw_alm (s : State) (k : Nat) (x : LawSt) : (s.setLaw k x).alm = s.alm := rfl
@[simp] theorem setLaw_pair (s : State) (k : Nat) (x : LawSt) : (s.setLaw k x).pair = s.pair := rfl
@[simp] theorem setLaw_saf (s : State) (k : Nat) (x : LawSt) : (s.setLaw k x).saf = s.saf := rfl
@[simp] theorem setLaw_mtr (s : State) (k : Nat) (x : LawSt) : (s.setLaw k x).mtr = s.mtr := rfl
@[simp] theorem setLaw_sec (s : State) (k : Nat) (x : LawSt) : (s.setLaw k x).sec = s.sec := rfl
@[simp] theorem setLaw_pwr (s : State) (k : Nat) (x : LawSt) : (s.setLaw k x).pwr = s.pwr := rfl
@[simp] theorem setLaw_txHold (s : State) (k : Nat) (x : LawSt) : (s.setLaw k x).txHold = s.txHold := rfl
@[simp] theorem setLaw_rom (s : State) (k : Nat) (x : LawSt) : (s.setLaw k x).rom = s.rom := rfl
@[simp] theorem setLaw_fresh (s : State) (k : Nat) (x : LawSt) : (s.setLaw k x).fresh = s.fresh := rfl

/-! ## `setAcq` -/

@[simp] theorem setAcq_pending (s : State) (k : Nat) (x : AcqSt) : (s.setAcq k x).pending = s.pending := rfl
@[simp] theorem setAcq_part (s : State) (k : Nat) (x : AcqSt) : (s.setAcq k x).part = s.part := rfl
@[simp] theorem setAcq_clk (s : State) (k : Nat) (x : AcqSt) : (s.setAcq k x).clk = s.clk := rfl
@[simp] theorem setAcq_regs (s : State) (k : Nat) (x : AcqSt) : (s.setAcq k x).regs = s.regs := rfl
@[simp] theorem setAcq_act (s : State) (k : Nat) (x : AcqSt) : (s.setAcq k x).act = s.act := rfl
@[simp] theorem setAcq_cregs (s : State) (k : Nat) (x : AcqSt) : (s.setAcq k x).cregs = s.cregs := rfl
@[simp] theorem setAcq_cact (s : State) (k : Nat) (x : AcqSt) : (s.setAcq k x).cact = s.cact := rfl
@[simp] theorem setAcq_mem (s : State) (k : Nat) (x : AcqSt) : (s.setAcq k x).mem = s.mem := rfl
@[simp] theorem setAcq_nor (s : State) (k : Nat) (x : AcqSt) : (s.setAcq k x).nor = s.nor := rfl
@[simp] theorem setAcq_mram (s : State) (k : Nat) (x : AcqSt) : (s.setAcq k x).mram = s.mram := rfl
@[simp] theorem setAcq_fab (s : State) (k : Nat) (x : AcqSt) : (s.setAcq k x).fab = s.fab := rfl
@[simp] theorem setAcq_lanes (s : State) (k : Nat) (x : AcqSt) : (s.setAcq k x).lanes = s.lanes := rfl
@[simp] theorem setAcq_ctxs (s : State) (k : Nat) (x : AcqSt) : (s.setAcq k x).ctxs = s.ctxs := rfl
@[simp] theorem setAcq_cells (s : State) (k : Nat) (x : AcqSt) : (s.setAcq k x).cells = s.cells := rfl
@[simp] theorem setAcq_mods (s : State) (k : Nat) (x : AcqSt) : (s.setAcq k x).mods = s.mods := rfl
@[simp] theorem setAcq_cores (s : State) (k : Nat) (x : AcqSt) : (s.setAcq k x).cores = s.cores := rfl
@[simp] theorem setAcq_fz (s : State) (k : Nat) (x : AcqSt) : (s.setAcq k x).fz = s.fz := rfl
@[simp] theorem setAcq_frozen (s : State) (k : Nat) (x : AcqSt) : (s.setAcq k x).frozen = s.frozen := rfl
@[simp] theorem setAcq_sched (s : State) (k : Nat) (x : AcqSt) : (s.setAcq k x).sched = s.sched := rfl
@[simp] theorem setAcq_fc (s : State) (k : Nat) (x : AcqSt) : (s.setAcq k x).fc = s.fc := rfl
@[simp] theorem setAcq_ads (s : State) (k : Nat) (x : AcqSt) : (s.setAcq k x).ads = s.ads := rfl
@[simp] theorem setAcq_laws (s : State) (k : Nat) (x : AcqSt) : (s.setAcq k x).laws = s.laws := rfl
@[simp] theorem setAcq_eth (s : State) (k : Nat) (x : AcqSt) : (s.setAcq k x).eth = s.eth := rfl
@[simp] theorem setAcq_dmas (s : State) (k : Nat) (x : AcqSt) : (s.setAcq k x).dmas = s.dmas := rfl
@[simp] theorem setAcq_acq (s : State) (k : Nat) (x : AcqSt) : (s.setAcq k x).acq = Tab.put s.acq k x := rfl
@[simp] theorem setAcq_alm (s : State) (k : Nat) (x : AcqSt) : (s.setAcq k x).alm = s.alm := rfl
@[simp] theorem setAcq_pair (s : State) (k : Nat) (x : AcqSt) : (s.setAcq k x).pair = s.pair := rfl
@[simp] theorem setAcq_saf (s : State) (k : Nat) (x : AcqSt) : (s.setAcq k x).saf = s.saf := rfl
@[simp] theorem setAcq_mtr (s : State) (k : Nat) (x : AcqSt) : (s.setAcq k x).mtr = s.mtr := rfl
@[simp] theorem setAcq_sec (s : State) (k : Nat) (x : AcqSt) : (s.setAcq k x).sec = s.sec := rfl
@[simp] theorem setAcq_pwr (s : State) (k : Nat) (x : AcqSt) : (s.setAcq k x).pwr = s.pwr := rfl
@[simp] theorem setAcq_txHold (s : State) (k : Nat) (x : AcqSt) : (s.setAcq k x).txHold = s.txHold := rfl
@[simp] theorem setAcq_rom (s : State) (k : Nat) (x : AcqSt) : (s.setAcq k x).rom = s.rom := rfl
@[simp] theorem setAcq_fresh (s : State) (k : Nat) (x : AcqSt) : (s.setAcq k x).fresh = s.fresh := rfl

/-! ## `setCore` -/

@[simp] theorem setCore_pending (s : State) (m : Nat) (x : Core) : (s.setCore m x).pending = s.pending := rfl
@[simp] theorem setCore_part (s : State) (m : Nat) (x : Core) : (s.setCore m x).part = s.part := rfl
@[simp] theorem setCore_clk (s : State) (m : Nat) (x : Core) : (s.setCore m x).clk = s.clk := rfl
@[simp] theorem setCore_regs (s : State) (m : Nat) (x : Core) : (s.setCore m x).regs = s.regs := rfl
@[simp] theorem setCore_act (s : State) (m : Nat) (x : Core) : (s.setCore m x).act = s.act := rfl
@[simp] theorem setCore_cregs (s : State) (m : Nat) (x : Core) : (s.setCore m x).cregs = s.cregs := rfl
@[simp] theorem setCore_cact (s : State) (m : Nat) (x : Core) : (s.setCore m x).cact = s.cact := rfl
@[simp] theorem setCore_mem (s : State) (m : Nat) (x : Core) : (s.setCore m x).mem = s.mem := rfl
@[simp] theorem setCore_nor (s : State) (m : Nat) (x : Core) : (s.setCore m x).nor = s.nor := rfl
@[simp] theorem setCore_mram (s : State) (m : Nat) (x : Core) : (s.setCore m x).mram = s.mram := rfl
@[simp] theorem setCore_fab (s : State) (m : Nat) (x : Core) : (s.setCore m x).fab = s.fab := rfl
@[simp] theorem setCore_lanes (s : State) (m : Nat) (x : Core) : (s.setCore m x).lanes = s.lanes := rfl
@[simp] theorem setCore_ctxs (s : State) (m : Nat) (x : Core) : (s.setCore m x).ctxs = s.ctxs := rfl
@[simp] theorem setCore_cells (s : State) (m : Nat) (x : Core) : (s.setCore m x).cells = s.cells := rfl
@[simp] theorem setCore_mods (s : State) (m : Nat) (x : Core) : (s.setCore m x).mods = s.mods := rfl
@[simp] theorem setCore_cores (s : State) (m : Nat) (x : Core) : (s.setCore m x).cores = Tab.put s.cores m x := rfl
@[simp] theorem setCore_fz (s : State) (m : Nat) (x : Core) : (s.setCore m x).fz = s.fz := rfl
@[simp] theorem setCore_frozen (s : State) (m : Nat) (x : Core) : (s.setCore m x).frozen = s.frozen := rfl
@[simp] theorem setCore_sched (s : State) (m : Nat) (x : Core) : (s.setCore m x).sched = s.sched := rfl
@[simp] theorem setCore_fc (s : State) (m : Nat) (x : Core) : (s.setCore m x).fc = s.fc := rfl
@[simp] theorem setCore_ads (s : State) (m : Nat) (x : Core) : (s.setCore m x).ads = s.ads := rfl
@[simp] theorem setCore_laws (s : State) (m : Nat) (x : Core) : (s.setCore m x).laws = s.laws := rfl
@[simp] theorem setCore_eth (s : State) (m : Nat) (x : Core) : (s.setCore m x).eth = s.eth := rfl
@[simp] theorem setCore_dmas (s : State) (m : Nat) (x : Core) : (s.setCore m x).dmas = s.dmas := rfl
@[simp] theorem setCore_acq (s : State) (m : Nat) (x : Core) : (s.setCore m x).acq = s.acq := rfl
@[simp] theorem setCore_alm (s : State) (m : Nat) (x : Core) : (s.setCore m x).alm = s.alm := rfl
@[simp] theorem setCore_pair (s : State) (m : Nat) (x : Core) : (s.setCore m x).pair = s.pair := rfl
@[simp] theorem setCore_saf (s : State) (m : Nat) (x : Core) : (s.setCore m x).saf = s.saf := rfl
@[simp] theorem setCore_mtr (s : State) (m : Nat) (x : Core) : (s.setCore m x).mtr = s.mtr := rfl
@[simp] theorem setCore_sec (s : State) (m : Nat) (x : Core) : (s.setCore m x).sec = s.sec := rfl
@[simp] theorem setCore_pwr (s : State) (m : Nat) (x : Core) : (s.setCore m x).pwr = s.pwr := rfl
@[simp] theorem setCore_txHold (s : State) (m : Nat) (x : Core) : (s.setCore m x).txHold = s.txHold := rfl
@[simp] theorem setCore_rom (s : State) (m : Nat) (x : Core) : (s.setCore m x).rom = s.rom := rfl
@[simp] theorem setCore_fresh (s : State) (m : Nat) (x : Core) : (s.setCore m x).fresh = s.fresh := rfl

/-! ## `setSch` -/

@[simp] theorem setSch_pending (s : State) (k : Nat) (x : Sched) : (s.setSch k x).pending = s.pending := rfl
@[simp] theorem setSch_part (s : State) (k : Nat) (x : Sched) : (s.setSch k x).part = s.part := rfl
@[simp] theorem setSch_clk (s : State) (k : Nat) (x : Sched) : (s.setSch k x).clk = s.clk := rfl
@[simp] theorem setSch_regs (s : State) (k : Nat) (x : Sched) : (s.setSch k x).regs = s.regs := rfl
@[simp] theorem setSch_act (s : State) (k : Nat) (x : Sched) : (s.setSch k x).act = s.act := rfl
@[simp] theorem setSch_cregs (s : State) (k : Nat) (x : Sched) : (s.setSch k x).cregs = s.cregs := rfl
@[simp] theorem setSch_cact (s : State) (k : Nat) (x : Sched) : (s.setSch k x).cact = s.cact := rfl
@[simp] theorem setSch_mem (s : State) (k : Nat) (x : Sched) : (s.setSch k x).mem = s.mem := rfl
@[simp] theorem setSch_nor (s : State) (k : Nat) (x : Sched) : (s.setSch k x).nor = s.nor := rfl
@[simp] theorem setSch_mram (s : State) (k : Nat) (x : Sched) : (s.setSch k x).mram = s.mram := rfl
@[simp] theorem setSch_fab (s : State) (k : Nat) (x : Sched) : (s.setSch k x).fab = s.fab := rfl
@[simp] theorem setSch_lanes (s : State) (k : Nat) (x : Sched) : (s.setSch k x).lanes = s.lanes := rfl
@[simp] theorem setSch_ctxs (s : State) (k : Nat) (x : Sched) : (s.setSch k x).ctxs = s.ctxs := rfl
@[simp] theorem setSch_cells (s : State) (k : Nat) (x : Sched) : (s.setSch k x).cells = s.cells := rfl
@[simp] theorem setSch_mods (s : State) (k : Nat) (x : Sched) : (s.setSch k x).mods = s.mods := rfl
@[simp] theorem setSch_cores (s : State) (k : Nat) (x : Sched) : (s.setSch k x).cores = s.cores := rfl
@[simp] theorem setSch_fz (s : State) (k : Nat) (x : Sched) : (s.setSch k x).fz = s.fz := rfl
@[simp] theorem setSch_frozen (s : State) (k : Nat) (x : Sched) : (s.setSch k x).frozen = s.frozen := rfl
@[simp] theorem setSch_sched (s : State) (k : Nat) (x : Sched) : (s.setSch k x).sched = Tab.put s.sched k x := rfl
@[simp] theorem setSch_fc (s : State) (k : Nat) (x : Sched) : (s.setSch k x).fc = s.fc := rfl
@[simp] theorem setSch_ads (s : State) (k : Nat) (x : Sched) : (s.setSch k x).ads = s.ads := rfl
@[simp] theorem setSch_laws (s : State) (k : Nat) (x : Sched) : (s.setSch k x).laws = s.laws := rfl
@[simp] theorem setSch_eth (s : State) (k : Nat) (x : Sched) : (s.setSch k x).eth = s.eth := rfl
@[simp] theorem setSch_dmas (s : State) (k : Nat) (x : Sched) : (s.setSch k x).dmas = s.dmas := rfl
@[simp] theorem setSch_acq (s : State) (k : Nat) (x : Sched) : (s.setSch k x).acq = s.acq := rfl
@[simp] theorem setSch_alm (s : State) (k : Nat) (x : Sched) : (s.setSch k x).alm = s.alm := rfl
@[simp] theorem setSch_pair (s : State) (k : Nat) (x : Sched) : (s.setSch k x).pair = s.pair := rfl
@[simp] theorem setSch_saf (s : State) (k : Nat) (x : Sched) : (s.setSch k x).saf = s.saf := rfl
@[simp] theorem setSch_mtr (s : State) (k : Nat) (x : Sched) : (s.setSch k x).mtr = s.mtr := rfl
@[simp] theorem setSch_sec (s : State) (k : Nat) (x : Sched) : (s.setSch k x).sec = s.sec := rfl
@[simp] theorem setSch_pwr (s : State) (k : Nat) (x : Sched) : (s.setSch k x).pwr = s.pwr := rfl
@[simp] theorem setSch_txHold (s : State) (k : Nat) (x : Sched) : (s.setSch k x).txHold = s.txHold := rfl
@[simp] theorem setSch_rom (s : State) (k : Nat) (x : Sched) : (s.setSch k x).rom = s.rom := rfl
@[simp] theorem setSch_fresh (s : State) (k : Nat) (x : Sched) : (s.setSch k x).fresh = s.fresh := rfl

/-! ## `modDma` -/

@[simp] theorem modDma_pending (s : State) (k c : Nat) (g : DmaCh → DmaCh) : (s.modDma k c g).pending = s.pending := rfl
@[simp] theorem modDma_part (s : State) (k c : Nat) (g : DmaCh → DmaCh) : (s.modDma k c g).part = s.part := rfl
@[simp] theorem modDma_clk (s : State) (k c : Nat) (g : DmaCh → DmaCh) : (s.modDma k c g).clk = s.clk := rfl
@[simp] theorem modDma_regs (s : State) (k c : Nat) (g : DmaCh → DmaCh) : (s.modDma k c g).regs = s.regs := rfl
@[simp] theorem modDma_act (s : State) (k c : Nat) (g : DmaCh → DmaCh) : (s.modDma k c g).act = s.act := rfl
@[simp] theorem modDma_cregs (s : State) (k c : Nat) (g : DmaCh → DmaCh) : (s.modDma k c g).cregs = s.cregs := rfl
@[simp] theorem modDma_cact (s : State) (k c : Nat) (g : DmaCh → DmaCh) : (s.modDma k c g).cact = s.cact := rfl
@[simp] theorem modDma_mem (s : State) (k c : Nat) (g : DmaCh → DmaCh) : (s.modDma k c g).mem = s.mem := rfl
@[simp] theorem modDma_nor (s : State) (k c : Nat) (g : DmaCh → DmaCh) : (s.modDma k c g).nor = s.nor := rfl
@[simp] theorem modDma_mram (s : State) (k c : Nat) (g : DmaCh → DmaCh) : (s.modDma k c g).mram = s.mram := rfl
@[simp] theorem modDma_fab (s : State) (k c : Nat) (g : DmaCh → DmaCh) : (s.modDma k c g).fab = s.fab := rfl
@[simp] theorem modDma_lanes (s : State) (k c : Nat) (g : DmaCh → DmaCh) : (s.modDma k c g).lanes = s.lanes := rfl
@[simp] theorem modDma_ctxs (s : State) (k c : Nat) (g : DmaCh → DmaCh) : (s.modDma k c g).ctxs = s.ctxs := rfl
@[simp] theorem modDma_cells (s : State) (k c : Nat) (g : DmaCh → DmaCh) : (s.modDma k c g).cells = s.cells := rfl
@[simp] theorem modDma_mods (s : State) (k c : Nat) (g : DmaCh → DmaCh) : (s.modDma k c g).mods = s.mods := rfl
@[simp] theorem modDma_cores (s : State) (k c : Nat) (g : DmaCh → DmaCh) : (s.modDma k c g).cores = s.cores := rfl
@[simp] theorem modDma_fz (s : State) (k c : Nat) (g : DmaCh → DmaCh) : (s.modDma k c g).fz = s.fz := rfl
@[simp] theorem modDma_frozen (s : State) (k c : Nat) (g : DmaCh → DmaCh) : (s.modDma k c g).frozen = s.frozen := rfl
@[simp] theorem modDma_sched (s : State) (k c : Nat) (g : DmaCh → DmaCh) : (s.modDma k c g).sched = s.sched := rfl
@[simp] theorem modDma_fc (s : State) (k c : Nat) (g : DmaCh → DmaCh) : (s.modDma k c g).fc = s.fc := rfl
@[simp] theorem modDma_ads (s : State) (k c : Nat) (g : DmaCh → DmaCh) : (s.modDma k c g).ads = s.ads := rfl
@[simp] theorem modDma_laws (s : State) (k c : Nat) (g : DmaCh → DmaCh) : (s.modDma k c g).laws = s.laws := rfl
@[simp] theorem modDma_eth (s : State) (k c : Nat) (g : DmaCh → DmaCh) : (s.modDma k c g).eth = s.eth := rfl
@[simp] theorem modDma_dmas (s : State) (k c : Nat) (g : DmaCh → DmaCh) : (s.modDma k c g).dmas = Tab.put s.dmas (16 * k + c) (g (s.dma k c)) := rfl
@[simp] theorem modDma_acq (s : State) (k c : Nat) (g : DmaCh → DmaCh) : (s.modDma k c g).acq = s.acq := rfl
@[simp] theorem modDma_alm (s : State) (k c : Nat) (g : DmaCh → DmaCh) : (s.modDma k c g).alm = s.alm := rfl
@[simp] theorem modDma_pair (s : State) (k c : Nat) (g : DmaCh → DmaCh) : (s.modDma k c g).pair = s.pair := rfl
@[simp] theorem modDma_saf (s : State) (k c : Nat) (g : DmaCh → DmaCh) : (s.modDma k c g).saf = s.saf := rfl
@[simp] theorem modDma_mtr (s : State) (k c : Nat) (g : DmaCh → DmaCh) : (s.modDma k c g).mtr = s.mtr := rfl
@[simp] theorem modDma_sec (s : State) (k c : Nat) (g : DmaCh → DmaCh) : (s.modDma k c g).sec = s.sec := rfl
@[simp] theorem modDma_pwr (s : State) (k c : Nat) (g : DmaCh → DmaCh) : (s.modDma k c g).pwr = s.pwr := rfl
@[simp] theorem modDma_txHold (s : State) (k c : Nat) (g : DmaCh → DmaCh) : (s.modDma k c g).txHold = s.txHold := rfl
@[simp] theorem modDma_rom (s : State) (k c : Nat) (g : DmaCh → DmaCh) : (s.modDma k c g).rom = s.rom := rfl
@[simp] theorem modDma_fresh (s : State) (k c : Nat) (g : DmaCh → DmaCh) : (s.modDma k c g).fresh = s.fresh := rfl

/-! ## `modEth` -/

@[simp] theorem modEth_pending (s : State) (g : EthSt → EthSt) : (s.modEth g).pending = s.pending := rfl
@[simp] theorem modEth_part (s : State) (g : EthSt → EthSt) : (s.modEth g).part = s.part := rfl
@[simp] theorem modEth_clk (s : State) (g : EthSt → EthSt) : (s.modEth g).clk = s.clk := rfl
@[simp] theorem modEth_regs (s : State) (g : EthSt → EthSt) : (s.modEth g).regs = s.regs := rfl
@[simp] theorem modEth_act (s : State) (g : EthSt → EthSt) : (s.modEth g).act = s.act := rfl
@[simp] theorem modEth_cregs (s : State) (g : EthSt → EthSt) : (s.modEth g).cregs = s.cregs := rfl
@[simp] theorem modEth_cact (s : State) (g : EthSt → EthSt) : (s.modEth g).cact = s.cact := rfl
@[simp] theorem modEth_mem (s : State) (g : EthSt → EthSt) : (s.modEth g).mem = s.mem := rfl
@[simp] theorem modEth_nor (s : State) (g : EthSt → EthSt) : (s.modEth g).nor = s.nor := rfl
@[simp] theorem modEth_mram (s : State) (g : EthSt → EthSt) : (s.modEth g).mram = s.mram := rfl
@[simp] theorem modEth_fab (s : State) (g : EthSt → EthSt) : (s.modEth g).fab = s.fab := rfl
@[simp] theorem modEth_lanes (s : State) (g : EthSt → EthSt) : (s.modEth g).lanes = s.lanes := rfl
@[simp] theorem modEth_ctxs (s : State) (g : EthSt → EthSt) : (s.modEth g).ctxs = s.ctxs := rfl
@[simp] theorem modEth_cells (s : State) (g : EthSt → EthSt) : (s.modEth g).cells = s.cells := rfl
@[simp] theorem modEth_mods (s : State) (g : EthSt → EthSt) : (s.modEth g).mods = s.mods := rfl
@[simp] theorem modEth_cores (s : State) (g : EthSt → EthSt) : (s.modEth g).cores = s.cores := rfl
@[simp] theorem modEth_fz (s : State) (g : EthSt → EthSt) : (s.modEth g).fz = s.fz := rfl
@[simp] theorem modEth_frozen (s : State) (g : EthSt → EthSt) : (s.modEth g).frozen = s.frozen := rfl
@[simp] theorem modEth_sched (s : State) (g : EthSt → EthSt) : (s.modEth g).sched = s.sched := rfl
@[simp] theorem modEth_fc (s : State) (g : EthSt → EthSt) : (s.modEth g).fc = s.fc := rfl
@[simp] theorem modEth_ads (s : State) (g : EthSt → EthSt) : (s.modEth g).ads = s.ads := rfl
@[simp] theorem modEth_laws (s : State) (g : EthSt → EthSt) : (s.modEth g).laws = s.laws := rfl
@[simp] theorem modEth_eth (s : State) (g : EthSt → EthSt) : (s.modEth g).eth = g s.eth := rfl
@[simp] theorem modEth_dmas (s : State) (g : EthSt → EthSt) : (s.modEth g).dmas = s.dmas := rfl
@[simp] theorem modEth_acq (s : State) (g : EthSt → EthSt) : (s.modEth g).acq = s.acq := rfl
@[simp] theorem modEth_alm (s : State) (g : EthSt → EthSt) : (s.modEth g).alm = s.alm := rfl
@[simp] theorem modEth_pair (s : State) (g : EthSt → EthSt) : (s.modEth g).pair = s.pair := rfl
@[simp] theorem modEth_saf (s : State) (g : EthSt → EthSt) : (s.modEth g).saf = s.saf := rfl
@[simp] theorem modEth_mtr (s : State) (g : EthSt → EthSt) : (s.modEth g).mtr = s.mtr := rfl
@[simp] theorem modEth_sec (s : State) (g : EthSt → EthSt) : (s.modEth g).sec = s.sec := rfl
@[simp] theorem modEth_pwr (s : State) (g : EthSt → EthSt) : (s.modEth g).pwr = s.pwr := rfl
@[simp] theorem modEth_txHold (s : State) (g : EthSt → EthSt) : (s.modEth g).txHold = s.txHold := rfl
@[simp] theorem modEth_rom (s : State) (g : EthSt → EthSt) : (s.modEth g).rom = s.rom := rfl
@[simp] theorem modEth_fresh (s : State) (g : EthSt → EthSt) : (s.modEth g).fresh = s.fresh := rfl

/-! ## `modPair` -/

@[simp] theorem modPair_pending (s : State) (g : PairSt → PairSt) : (s.modPair g).pending = s.pending := rfl
@[simp] theorem modPair_part (s : State) (g : PairSt → PairSt) : (s.modPair g).part = s.part := rfl
@[simp] theorem modPair_clk (s : State) (g : PairSt → PairSt) : (s.modPair g).clk = s.clk := rfl
@[simp] theorem modPair_regs (s : State) (g : PairSt → PairSt) : (s.modPair g).regs = s.regs := rfl
@[simp] theorem modPair_act (s : State) (g : PairSt → PairSt) : (s.modPair g).act = s.act := rfl
@[simp] theorem modPair_cregs (s : State) (g : PairSt → PairSt) : (s.modPair g).cregs = s.cregs := rfl
@[simp] theorem modPair_cact (s : State) (g : PairSt → PairSt) : (s.modPair g).cact = s.cact := rfl
@[simp] theorem modPair_mem (s : State) (g : PairSt → PairSt) : (s.modPair g).mem = s.mem := rfl
@[simp] theorem modPair_nor (s : State) (g : PairSt → PairSt) : (s.modPair g).nor = s.nor := rfl
@[simp] theorem modPair_mram (s : State) (g : PairSt → PairSt) : (s.modPair g).mram = s.mram := rfl
@[simp] theorem modPair_fab (s : State) (g : PairSt → PairSt) : (s.modPair g).fab = s.fab := rfl
@[simp] theorem modPair_lanes (s : State) (g : PairSt → PairSt) : (s.modPair g).lanes = s.lanes := rfl
@[simp] theorem modPair_ctxs (s : State) (g : PairSt → PairSt) : (s.modPair g).ctxs = s.ctxs := rfl
@[simp] theorem modPair_cells (s : State) (g : PairSt → PairSt) : (s.modPair g).cells = s.cells := rfl
@[simp] theorem modPair_mods (s : State) (g : PairSt → PairSt) : (s.modPair g).mods = s.mods := rfl
@[simp] theorem modPair_cores (s : State) (g : PairSt → PairSt) : (s.modPair g).cores = s.cores := rfl
@[simp] theorem modPair_fz (s : State) (g : PairSt → PairSt) : (s.modPair g).fz = s.fz := rfl
@[simp] theorem modPair_frozen (s : State) (g : PairSt → PairSt) : (s.modPair g).frozen = s.frozen := rfl
@[simp] theorem modPair_sched (s : State) (g : PairSt → PairSt) : (s.modPair g).sched = s.sched := rfl
@[simp] theorem modPair_fc (s : State) (g : PairSt → PairSt) : (s.modPair g).fc = s.fc := rfl
@[simp] theorem modPair_ads (s : State) (g : PairSt → PairSt) : (s.modPair g).ads = s.ads := rfl
@[simp] theorem modPair_laws (s : State) (g : PairSt → PairSt) : (s.modPair g).laws = s.laws := rfl
@[simp] theorem modPair_eth (s : State) (g : PairSt → PairSt) : (s.modPair g).eth = s.eth := rfl
@[simp] theorem modPair_dmas (s : State) (g : PairSt → PairSt) : (s.modPair g).dmas = s.dmas := rfl
@[simp] theorem modPair_acq (s : State) (g : PairSt → PairSt) : (s.modPair g).acq = s.acq := rfl
@[simp] theorem modPair_alm (s : State) (g : PairSt → PairSt) : (s.modPair g).alm = s.alm := rfl
@[simp] theorem modPair_pair (s : State) (g : PairSt → PairSt) : (s.modPair g).pair = g s.pair := rfl
@[simp] theorem modPair_saf (s : State) (g : PairSt → PairSt) : (s.modPair g).saf = s.saf := rfl
@[simp] theorem modPair_mtr (s : State) (g : PairSt → PairSt) : (s.modPair g).mtr = s.mtr := rfl
@[simp] theorem modPair_sec (s : State) (g : PairSt → PairSt) : (s.modPair g).sec = s.sec := rfl
@[simp] theorem modPair_pwr (s : State) (g : PairSt → PairSt) : (s.modPair g).pwr = s.pwr := rfl
@[simp] theorem modPair_txHold (s : State) (g : PairSt → PairSt) : (s.modPair g).txHold = s.txHold := rfl
@[simp] theorem modPair_rom (s : State) (g : PairSt → PairSt) : (s.modPair g).rom = s.rom := rfl
@[simp] theorem modPair_fresh (s : State) (g : PairSt → PairSt) : (s.modPair g).fresh = s.fresh := rfl

/-! ## `modFc` -/

@[simp] theorem modFc_pending (s : State) (g : Collector → Collector) : (s.modFc g).pending = s.pending := rfl
@[simp] theorem modFc_part (s : State) (g : Collector → Collector) : (s.modFc g).part = s.part := rfl
@[simp] theorem modFc_clk (s : State) (g : Collector → Collector) : (s.modFc g).clk = s.clk := rfl
@[simp] theorem modFc_regs (s : State) (g : Collector → Collector) : (s.modFc g).regs = s.regs := rfl
@[simp] theorem modFc_act (s : State) (g : Collector → Collector) : (s.modFc g).act = s.act := rfl
@[simp] theorem modFc_cregs (s : State) (g : Collector → Collector) : (s.modFc g).cregs = s.cregs := rfl
@[simp] theorem modFc_cact (s : State) (g : Collector → Collector) : (s.modFc g).cact = s.cact := rfl
@[simp] theorem modFc_mem (s : State) (g : Collector → Collector) : (s.modFc g).mem = s.mem := rfl
@[simp] theorem modFc_nor (s : State) (g : Collector → Collector) : (s.modFc g).nor = s.nor := rfl
@[simp] theorem modFc_mram (s : State) (g : Collector → Collector) : (s.modFc g).mram = s.mram := rfl
@[simp] theorem modFc_fab (s : State) (g : Collector → Collector) : (s.modFc g).fab = s.fab := rfl
@[simp] theorem modFc_lanes (s : State) (g : Collector → Collector) : (s.modFc g).lanes = s.lanes := rfl
@[simp] theorem modFc_ctxs (s : State) (g : Collector → Collector) : (s.modFc g).ctxs = s.ctxs := rfl
@[simp] theorem modFc_cells (s : State) (g : Collector → Collector) : (s.modFc g).cells = s.cells := rfl
@[simp] theorem modFc_mods (s : State) (g : Collector → Collector) : (s.modFc g).mods = s.mods := rfl
@[simp] theorem modFc_cores (s : State) (g : Collector → Collector) : (s.modFc g).cores = s.cores := rfl
@[simp] theorem modFc_fz (s : State) (g : Collector → Collector) : (s.modFc g).fz = s.fz := rfl
@[simp] theorem modFc_frozen (s : State) (g : Collector → Collector) : (s.modFc g).frozen = s.frozen := rfl
@[simp] theorem modFc_sched (s : State) (g : Collector → Collector) : (s.modFc g).sched = s.sched := rfl
@[simp] theorem modFc_fc (s : State) (g : Collector → Collector) : (s.modFc g).fc = g s.fc := rfl
@[simp] theorem modFc_ads (s : State) (g : Collector → Collector) : (s.modFc g).ads = s.ads := rfl
@[simp] theorem modFc_laws (s : State) (g : Collector → Collector) : (s.modFc g).laws = s.laws := rfl
@[simp] theorem modFc_eth (s : State) (g : Collector → Collector) : (s.modFc g).eth = s.eth := rfl
@[simp] theorem modFc_dmas (s : State) (g : Collector → Collector) : (s.modFc g).dmas = s.dmas := rfl
@[simp] theorem modFc_acq (s : State) (g : Collector → Collector) : (s.modFc g).acq = s.acq := rfl
@[simp] theorem modFc_alm (s : State) (g : Collector → Collector) : (s.modFc g).alm = s.alm := rfl
@[simp] theorem modFc_pair (s : State) (g : Collector → Collector) : (s.modFc g).pair = s.pair := rfl
@[simp] theorem modFc_saf (s : State) (g : Collector → Collector) : (s.modFc g).saf = s.saf := rfl
@[simp] theorem modFc_mtr (s : State) (g : Collector → Collector) : (s.modFc g).mtr = s.mtr := rfl
@[simp] theorem modFc_sec (s : State) (g : Collector → Collector) : (s.modFc g).sec = s.sec := rfl
@[simp] theorem modFc_pwr (s : State) (g : Collector → Collector) : (s.modFc g).pwr = s.pwr := rfl
@[simp] theorem modFc_txHold (s : State) (g : Collector → Collector) : (s.modFc g).txHold = s.txHold := rfl
@[simp] theorem modFc_rom (s : State) (g : Collector → Collector) : (s.modFc g).rom = s.rom := rfl
@[simp] theorem modFc_fresh (s : State) (g : Collector → Collector) : (s.modFc g).fresh = s.fresh := rfl

/-! ## `modSaf` -/

@[simp] theorem modSaf_pending (s : State) (g : SafSt → SafSt) : (s.modSaf g).pending = s.pending := rfl
@[simp] theorem modSaf_part (s : State) (g : SafSt → SafSt) : (s.modSaf g).part = s.part := rfl
@[simp] theorem modSaf_clk (s : State) (g : SafSt → SafSt) : (s.modSaf g).clk = s.clk := rfl
@[simp] theorem modSaf_regs (s : State) (g : SafSt → SafSt) : (s.modSaf g).regs = s.regs := rfl
@[simp] theorem modSaf_act (s : State) (g : SafSt → SafSt) : (s.modSaf g).act = s.act := rfl
@[simp] theorem modSaf_cregs (s : State) (g : SafSt → SafSt) : (s.modSaf g).cregs = s.cregs := rfl
@[simp] theorem modSaf_cact (s : State) (g : SafSt → SafSt) : (s.modSaf g).cact = s.cact := rfl
@[simp] theorem modSaf_mem (s : State) (g : SafSt → SafSt) : (s.modSaf g).mem = s.mem := rfl
@[simp] theorem modSaf_nor (s : State) (g : SafSt → SafSt) : (s.modSaf g).nor = s.nor := rfl
@[simp] theorem modSaf_mram (s : State) (g : SafSt → SafSt) : (s.modSaf g).mram = s.mram := rfl
@[simp] theorem modSaf_fab (s : State) (g : SafSt → SafSt) : (s.modSaf g).fab = s.fab := rfl
@[simp] theorem modSaf_lanes (s : State) (g : SafSt → SafSt) : (s.modSaf g).lanes = s.lanes := rfl
@[simp] theorem modSaf_ctxs (s : State) (g : SafSt → SafSt) : (s.modSaf g).ctxs = s.ctxs := rfl
@[simp] theorem modSaf_cells (s : State) (g : SafSt → SafSt) : (s.modSaf g).cells = s.cells := rfl
@[simp] theorem modSaf_mods (s : State) (g : SafSt → SafSt) : (s.modSaf g).mods = s.mods := rfl
@[simp] theorem modSaf_cores (s : State) (g : SafSt → SafSt) : (s.modSaf g).cores = s.cores := rfl
@[simp] theorem modSaf_fz (s : State) (g : SafSt → SafSt) : (s.modSaf g).fz = s.fz := rfl
@[simp] theorem modSaf_frozen (s : State) (g : SafSt → SafSt) : (s.modSaf g).frozen = s.frozen := rfl
@[simp] theorem modSaf_sched (s : State) (g : SafSt → SafSt) : (s.modSaf g).sched = s.sched := rfl
@[simp] theorem modSaf_fc (s : State) (g : SafSt → SafSt) : (s.modSaf g).fc = s.fc := rfl
@[simp] theorem modSaf_ads (s : State) (g : SafSt → SafSt) : (s.modSaf g).ads = s.ads := rfl
@[simp] theorem modSaf_laws (s : State) (g : SafSt → SafSt) : (s.modSaf g).laws = s.laws := rfl
@[simp] theorem modSaf_eth (s : State) (g : SafSt → SafSt) : (s.modSaf g).eth = s.eth := rfl
@[simp] theorem modSaf_dmas (s : State) (g : SafSt → SafSt) : (s.modSaf g).dmas = s.dmas := rfl
@[simp] theorem modSaf_acq (s : State) (g : SafSt → SafSt) : (s.modSaf g).acq = s.acq := rfl
@[simp] theorem modSaf_alm (s : State) (g : SafSt → SafSt) : (s.modSaf g).alm = s.alm := rfl
@[simp] theorem modSaf_pair (s : State) (g : SafSt → SafSt) : (s.modSaf g).pair = s.pair := rfl
@[simp] theorem modSaf_saf (s : State) (g : SafSt → SafSt) : (s.modSaf g).saf = g s.saf := rfl
@[simp] theorem modSaf_mtr (s : State) (g : SafSt → SafSt) : (s.modSaf g).mtr = s.mtr := rfl
@[simp] theorem modSaf_sec (s : State) (g : SafSt → SafSt) : (s.modSaf g).sec = s.sec := rfl
@[simp] theorem modSaf_pwr (s : State) (g : SafSt → SafSt) : (s.modSaf g).pwr = s.pwr := rfl
@[simp] theorem modSaf_txHold (s : State) (g : SafSt → SafSt) : (s.modSaf g).txHold = s.txHold := rfl
@[simp] theorem modSaf_rom (s : State) (g : SafSt → SafSt) : (s.modSaf g).rom = s.rom := rfl
@[simp] theorem modSaf_fresh (s : State) (g : SafSt → SafSt) : (s.modSaf g).fresh = s.fresh := rfl

/-! ## `modAlm` -/

@[simp] theorem modAlm_pending (s : State) (g : Almanac → Almanac) : (s.modAlm g).pending = s.pending := rfl
@[simp] theorem modAlm_part (s : State) (g : Almanac → Almanac) : (s.modAlm g).part = s.part := rfl
@[simp] theorem modAlm_clk (s : State) (g : Almanac → Almanac) : (s.modAlm g).clk = s.clk := rfl
@[simp] theorem modAlm_regs (s : State) (g : Almanac → Almanac) : (s.modAlm g).regs = s.regs := rfl
@[simp] theorem modAlm_act (s : State) (g : Almanac → Almanac) : (s.modAlm g).act = s.act := rfl
@[simp] theorem modAlm_cregs (s : State) (g : Almanac → Almanac) : (s.modAlm g).cregs = s.cregs := rfl
@[simp] theorem modAlm_cact (s : State) (g : Almanac → Almanac) : (s.modAlm g).cact = s.cact := rfl
@[simp] theorem modAlm_mem (s : State) (g : Almanac → Almanac) : (s.modAlm g).mem = s.mem := rfl
@[simp] theorem modAlm_nor (s : State) (g : Almanac → Almanac) : (s.modAlm g).nor = s.nor := rfl
@[simp] theorem modAlm_mram (s : State) (g : Almanac → Almanac) : (s.modAlm g).mram = s.mram := rfl
@[simp] theorem modAlm_fab (s : State) (g : Almanac → Almanac) : (s.modAlm g).fab = s.fab := rfl
@[simp] theorem modAlm_lanes (s : State) (g : Almanac → Almanac) : (s.modAlm g).lanes = s.lanes := rfl
@[simp] theorem modAlm_ctxs (s : State) (g : Almanac → Almanac) : (s.modAlm g).ctxs = s.ctxs := rfl
@[simp] theorem modAlm_cells (s : State) (g : Almanac → Almanac) : (s.modAlm g).cells = s.cells := rfl
@[simp] theorem modAlm_mods (s : State) (g : Almanac → Almanac) : (s.modAlm g).mods = s.mods := rfl
@[simp] theorem modAlm_cores (s : State) (g : Almanac → Almanac) : (s.modAlm g).cores = s.cores := rfl
@[simp] theorem modAlm_fz (s : State) (g : Almanac → Almanac) : (s.modAlm g).fz = s.fz := rfl
@[simp] theorem modAlm_frozen (s : State) (g : Almanac → Almanac) : (s.modAlm g).frozen = s.frozen := rfl
@[simp] theorem modAlm_sched (s : State) (g : Almanac → Almanac) : (s.modAlm g).sched = s.sched := rfl
@[simp] theorem modAlm_fc (s : State) (g : Almanac → Almanac) : (s.modAlm g).fc = s.fc := rfl
@[simp] theorem modAlm_ads (s : State) (g : Almanac → Almanac) : (s.modAlm g).ads = s.ads := rfl
@[simp] theorem modAlm_laws (s : State) (g : Almanac → Almanac) : (s.modAlm g).laws = s.laws := rfl
@[simp] theorem modAlm_eth (s : State) (g : Almanac → Almanac) : (s.modAlm g).eth = s.eth := rfl
@[simp] theorem modAlm_dmas (s : State) (g : Almanac → Almanac) : (s.modAlm g).dmas = s.dmas := rfl
@[simp] theorem modAlm_acq (s : State) (g : Almanac → Almanac) : (s.modAlm g).acq = s.acq := rfl
@[simp] theorem modAlm_alm (s : State) (g : Almanac → Almanac) : (s.modAlm g).alm = g s.alm := rfl
@[simp] theorem modAlm_pair (s : State) (g : Almanac → Almanac) : (s.modAlm g).pair = s.pair := rfl
@[simp] theorem modAlm_saf (s : State) (g : Almanac → Almanac) : (s.modAlm g).saf = s.saf := rfl
@[simp] theorem modAlm_mtr (s : State) (g : Almanac → Almanac) : (s.modAlm g).mtr = s.mtr := rfl
@[simp] theorem modAlm_sec (s : State) (g : Almanac → Almanac) : (s.modAlm g).sec = s.sec := rfl
@[simp] theorem modAlm_pwr (s : State) (g : Almanac → Almanac) : (s.modAlm g).pwr = s.pwr := rfl
@[simp] theorem modAlm_txHold (s : State) (g : Almanac → Almanac) : (s.modAlm g).txHold = s.txHold := rfl
@[simp] theorem modAlm_rom (s : State) (g : Almanac → Almanac) : (s.modAlm g).rom = s.rom := rfl
@[simp] theorem modAlm_fresh (s : State) (g : Almanac → Almanac) : (s.modAlm g).fresh = s.fresh := rfl

/-! ## `modMtr` -/

@[simp] theorem modMtr_pending (s : State) (g : MtrSt → MtrSt) : (s.modMtr g).pending = s.pending := rfl
@[simp] theorem modMtr_part (s : State) (g : MtrSt → MtrSt) : (s.modMtr g).part = s.part := rfl
@[simp] theorem modMtr_clk (s : State) (g : MtrSt → MtrSt) : (s.modMtr g).clk = s.clk := rfl
@[simp] theorem modMtr_regs (s : State) (g : MtrSt → MtrSt) : (s.modMtr g).regs = s.regs := rfl
@[simp] theorem modMtr_act (s : State) (g : MtrSt → MtrSt) : (s.modMtr g).act = s.act := rfl
@[simp] theorem modMtr_cregs (s : State) (g : MtrSt → MtrSt) : (s.modMtr g).cregs = s.cregs := rfl
@[simp] theorem modMtr_cact (s : State) (g : MtrSt → MtrSt) : (s.modMtr g).cact = s.cact := rfl
@[simp] theorem modMtr_mem (s : State) (g : MtrSt → MtrSt) : (s.modMtr g).mem = s.mem := rfl
@[simp] theorem modMtr_nor (s : State) (g : MtrSt → MtrSt) : (s.modMtr g).nor = s.nor := rfl
@[simp] theorem modMtr_mram (s : State) (g : MtrSt → MtrSt) : (s.modMtr g).mram = s.mram := rfl
@[simp] theorem modMtr_fab (s : State) (g : MtrSt → MtrSt) : (s.modMtr g).fab = s.fab := rfl
@[simp] theorem modMtr_lanes (s : State) (g : MtrSt → MtrSt) : (s.modMtr g).lanes = s.lanes := rfl
@[simp] theorem modMtr_ctxs (s : State) (g : MtrSt → MtrSt) : (s.modMtr g).ctxs = s.ctxs := rfl
@[simp] theorem modMtr_cells (s : State) (g : MtrSt → MtrSt) : (s.modMtr g).cells = s.cells := rfl
@[simp] theorem modMtr_mods (s : State) (g : MtrSt → MtrSt) : (s.modMtr g).mods = s.mods := rfl
@[simp] theorem modMtr_cores (s : State) (g : MtrSt → MtrSt) : (s.modMtr g).cores = s.cores := rfl
@[simp] theorem modMtr_fz (s : State) (g : MtrSt → MtrSt) : (s.modMtr g).fz = s.fz := rfl
@[simp] theorem modMtr_frozen (s : State) (g : MtrSt → MtrSt) : (s.modMtr g).frozen = s.frozen := rfl
@[simp] theorem modMtr_sched (s : State) (g : MtrSt → MtrSt) : (s.modMtr g).sched = s.sched := rfl
@[simp] theorem modMtr_fc (s : State) (g : MtrSt → MtrSt) : (s.modMtr g).fc = s.fc := rfl
@[simp] theorem modMtr_ads (s : State) (g : MtrSt → MtrSt) : (s.modMtr g).ads = s.ads := rfl
@[simp] theorem modMtr_laws (s : State) (g : MtrSt → MtrSt) : (s.modMtr g).laws = s.laws := rfl
@[simp] theorem modMtr_eth (s : State) (g : MtrSt → MtrSt) : (s.modMtr g).eth = s.eth := rfl
@[simp] theorem modMtr_dmas (s : State) (g : MtrSt → MtrSt) : (s.modMtr g).dmas = s.dmas := rfl
@[simp] theorem modMtr_acq (s : State) (g : MtrSt → MtrSt) : (s.modMtr g).acq = s.acq := rfl
@[simp] theorem modMtr_alm (s : State) (g : MtrSt → MtrSt) : (s.modMtr g).alm = s.alm := rfl
@[simp] theorem modMtr_pair (s : State) (g : MtrSt → MtrSt) : (s.modMtr g).pair = s.pair := rfl
@[simp] theorem modMtr_saf (s : State) (g : MtrSt → MtrSt) : (s.modMtr g).saf = s.saf := rfl
@[simp] theorem modMtr_mtr (s : State) (g : MtrSt → MtrSt) : (s.modMtr g).mtr = g s.mtr := rfl
@[simp] theorem modMtr_sec (s : State) (g : MtrSt → MtrSt) : (s.modMtr g).sec = s.sec := rfl
@[simp] theorem modMtr_pwr (s : State) (g : MtrSt → MtrSt) : (s.modMtr g).pwr = s.pwr := rfl
@[simp] theorem modMtr_txHold (s : State) (g : MtrSt → MtrSt) : (s.modMtr g).txHold = s.txHold := rfl
@[simp] theorem modMtr_rom (s : State) (g : MtrSt → MtrSt) : (s.modMtr g).rom = s.rom := rfl
@[simp] theorem modMtr_fresh (s : State) (g : MtrSt → MtrSt) : (s.modMtr g).fresh = s.fresh := rfl

/-! ## `modSec` -/

@[simp] theorem modSec_pending (s : State) (g : SecSt → SecSt) : (s.modSec g).pending = s.pending := rfl
@[simp] theorem modSec_part (s : State) (g : SecSt → SecSt) : (s.modSec g).part = s.part := rfl
@[simp] theorem modSec_clk (s : State) (g : SecSt → SecSt) : (s.modSec g).clk = s.clk := rfl
@[simp] theorem modSec_regs (s : State) (g : SecSt → SecSt) : (s.modSec g).regs = s.regs := rfl
@[simp] theorem modSec_act (s : State) (g : SecSt → SecSt) : (s.modSec g).act = s.act := rfl
@[simp] theorem modSec_cregs (s : State) (g : SecSt → SecSt) : (s.modSec g).cregs = s.cregs := rfl
@[simp] theorem modSec_cact (s : State) (g : SecSt → SecSt) : (s.modSec g).cact = s.cact := rfl
@[simp] theorem modSec_mem (s : State) (g : SecSt → SecSt) : (s.modSec g).mem = s.mem := rfl
@[simp] theorem modSec_nor (s : State) (g : SecSt → SecSt) : (s.modSec g).nor = s.nor := rfl
@[simp] theorem modSec_mram (s : State) (g : SecSt → SecSt) : (s.modSec g).mram = s.mram := rfl
@[simp] theorem modSec_fab (s : State) (g : SecSt → SecSt) : (s.modSec g).fab = s.fab := rfl
@[simp] theorem modSec_lanes (s : State) (g : SecSt → SecSt) : (s.modSec g).lanes = s.lanes := rfl
@[simp] theorem modSec_ctxs (s : State) (g : SecSt → SecSt) : (s.modSec g).ctxs = s.ctxs := rfl
@[simp] theorem modSec_cells (s : State) (g : SecSt → SecSt) : (s.modSec g).cells = s.cells := rfl
@[simp] theorem modSec_mods (s : State) (g : SecSt → SecSt) : (s.modSec g).mods = s.mods := rfl
@[simp] theorem modSec_cores (s : State) (g : SecSt → SecSt) : (s.modSec g).cores = s.cores := rfl
@[simp] theorem modSec_fz (s : State) (g : SecSt → SecSt) : (s.modSec g).fz = s.fz := rfl
@[simp] theorem modSec_frozen (s : State) (g : SecSt → SecSt) : (s.modSec g).frozen = s.frozen := rfl
@[simp] theorem modSec_sched (s : State) (g : SecSt → SecSt) : (s.modSec g).sched = s.sched := rfl
@[simp] theorem modSec_fc (s : State) (g : SecSt → SecSt) : (s.modSec g).fc = s.fc := rfl
@[simp] theorem modSec_ads (s : State) (g : SecSt → SecSt) : (s.modSec g).ads = s.ads := rfl
@[simp] theorem modSec_laws (s : State) (g : SecSt → SecSt) : (s.modSec g).laws = s.laws := rfl
@[simp] theorem modSec_eth (s : State) (g : SecSt → SecSt) : (s.modSec g).eth = s.eth := rfl
@[simp] theorem modSec_dmas (s : State) (g : SecSt → SecSt) : (s.modSec g).dmas = s.dmas := rfl
@[simp] theorem modSec_acq (s : State) (g : SecSt → SecSt) : (s.modSec g).acq = s.acq := rfl
@[simp] theorem modSec_alm (s : State) (g : SecSt → SecSt) : (s.modSec g).alm = s.alm := rfl
@[simp] theorem modSec_pair (s : State) (g : SecSt → SecSt) : (s.modSec g).pair = s.pair := rfl
@[simp] theorem modSec_saf (s : State) (g : SecSt → SecSt) : (s.modSec g).saf = s.saf := rfl
@[simp] theorem modSec_mtr (s : State) (g : SecSt → SecSt) : (s.modSec g).mtr = s.mtr := rfl
@[simp] theorem modSec_sec (s : State) (g : SecSt → SecSt) : (s.modSec g).sec = g s.sec := rfl
@[simp] theorem modSec_pwr (s : State) (g : SecSt → SecSt) : (s.modSec g).pwr = s.pwr := rfl
@[simp] theorem modSec_txHold (s : State) (g : SecSt → SecSt) : (s.modSec g).txHold = s.txHold := rfl
@[simp] theorem modSec_rom (s : State) (g : SecSt → SecSt) : (s.modSec g).rom = s.rom := rfl
@[simp] theorem modSec_fresh (s : State) (g : SecSt → SecSt) : (s.modSec g).fresh = s.fresh := rfl

/-! ## `modPwr` -/

@[simp] theorem modPwr_pending (s : State) (g : PwrSt → PwrSt) : (s.modPwr g).pending = s.pending := rfl
@[simp] theorem modPwr_part (s : State) (g : PwrSt → PwrSt) : (s.modPwr g).part = s.part := rfl
@[simp] theorem modPwr_clk (s : State) (g : PwrSt → PwrSt) : (s.modPwr g).clk = s.clk := rfl
@[simp] theorem modPwr_regs (s : State) (g : PwrSt → PwrSt) : (s.modPwr g).regs = s.regs := rfl
@[simp] theorem modPwr_act (s : State) (g : PwrSt → PwrSt) : (s.modPwr g).act = s.act := rfl
@[simp] theorem modPwr_cregs (s : State) (g : PwrSt → PwrSt) : (s.modPwr g).cregs = s.cregs := rfl
@[simp] theorem modPwr_cact (s : State) (g : PwrSt → PwrSt) : (s.modPwr g).cact = s.cact := rfl
@[simp] theorem modPwr_mem (s : State) (g : PwrSt → PwrSt) : (s.modPwr g).mem = s.mem := rfl
@[simp] theorem modPwr_nor (s : State) (g : PwrSt → PwrSt) : (s.modPwr g).nor = s.nor := rfl
@[simp] theorem modPwr_mram (s : State) (g : PwrSt → PwrSt) : (s.modPwr g).mram = s.mram := rfl
@[simp] theorem modPwr_fab (s : State) (g : PwrSt → PwrSt) : (s.modPwr g).fab = s.fab := rfl
@[simp] theorem modPwr_lanes (s : State) (g : PwrSt → PwrSt) : (s.modPwr g).lanes = s.lanes := rfl
@[simp] theorem modPwr_ctxs (s : State) (g : PwrSt → PwrSt) : (s.modPwr g).ctxs = s.ctxs := rfl
@[simp] theorem modPwr_cells (s : State) (g : PwrSt → PwrSt) : (s.modPwr g).cells = s.cells := rfl
@[simp] theorem modPwr_mods (s : State) (g : PwrSt → PwrSt) : (s.modPwr g).mods = s.mods := rfl
@[simp] theorem modPwr_cores (s : State) (g : PwrSt → PwrSt) : (s.modPwr g).cores = s.cores := rfl
@[simp] theorem modPwr_fz (s : State) (g : PwrSt → PwrSt) : (s.modPwr g).fz = s.fz := rfl
@[simp] theorem modPwr_frozen (s : State) (g : PwrSt → PwrSt) : (s.modPwr g).frozen = s.frozen := rfl
@[simp] theorem modPwr_sched (s : State) (g : PwrSt → PwrSt) : (s.modPwr g).sched = s.sched := rfl
@[simp] theorem modPwr_fc (s : State) (g : PwrSt → PwrSt) : (s.modPwr g).fc = s.fc := rfl
@[simp] theorem modPwr_ads (s : State) (g : PwrSt → PwrSt) : (s.modPwr g).ads = s.ads := rfl
@[simp] theorem modPwr_laws (s : State) (g : PwrSt → PwrSt) : (s.modPwr g).laws = s.laws := rfl
@[simp] theorem modPwr_eth (s : State) (g : PwrSt → PwrSt) : (s.modPwr g).eth = s.eth := rfl
@[simp] theorem modPwr_dmas (s : State) (g : PwrSt → PwrSt) : (s.modPwr g).dmas = s.dmas := rfl
@[simp] theorem modPwr_acq (s : State) (g : PwrSt → PwrSt) : (s.modPwr g).acq = s.acq := rfl
@[simp] theorem modPwr_alm (s : State) (g : PwrSt → PwrSt) : (s.modPwr g).alm = s.alm := rfl
@[simp] theorem modPwr_pair (s : State) (g : PwrSt → PwrSt) : (s.modPwr g).pair = s.pair := rfl
@[simp] theorem modPwr_saf (s : State) (g : PwrSt → PwrSt) : (s.modPwr g).saf = s.saf := rfl
@[simp] theorem modPwr_mtr (s : State) (g : PwrSt → PwrSt) : (s.modPwr g).mtr = s.mtr := rfl
@[simp] theorem modPwr_sec (s : State) (g : PwrSt → PwrSt) : (s.modPwr g).sec = s.sec := rfl
@[simp] theorem modPwr_pwr (s : State) (g : PwrSt → PwrSt) : (s.modPwr g).pwr = g s.pwr := rfl
@[simp] theorem modPwr_txHold (s : State) (g : PwrSt → PwrSt) : (s.modPwr g).txHold = s.txHold := rfl
@[simp] theorem modPwr_rom (s : State) (g : PwrSt → PwrSt) : (s.modPwr g).rom = s.rom := rfl
@[simp] theorem modPwr_fresh (s : State) (g : PwrSt → PwrSt) : (s.modPwr g).fresh = s.fresh := rfl

end State

end Sys2Proof.Machine
end

