-- ==== Sys2Proof/Laws/Data.lean ====
section
/-!
SUPPORT. Read after write: register files, tables and memory, and the canonical form of memory.
-/
namespace Sys2Proof.Machine

/-! ## Register files -/

theorem RegFile.find_put_same (r : RegFile) (k : Nat) (v : BitVec 32) : (RegFile.put r k v).find k = some v := by
  induction r with
  | nil => simp [RegFile.put, RegFile.find]
  | cons e r ih =>
    obtain ⟨a, w⟩ := e
    simp only [RegFile.put]
    split
    · simp [RegFile.find]
    · split
      · simp [RegFile.find]
      · have : a ≠ k := by omega
        simp [RegFile.find, this, ih]

theorem RegFile.find_put_ne (r : RegFile) (k j : Nat) (v : BitVec 32) (h : j ≠ k) :
    (RegFile.put r k v).find j = RegFile.find r j := by
  induction r with
  | nil => simp [RegFile.put, RegFile.find, Ne.symm h]
  | cons e r ih =>
    obtain ⟨a, w⟩ := e
    simp only [RegFile.put]
    split
    · simp [RegFile.find, Ne.symm h]
    · split
      · rename_i h2
        subst h2
        simp [RegFile.find, Ne.symm h]
      · simp [RegFile.find, ih]

theorem RegFile.get_set_same (r : RegFile) (b : Nat) (f : Fld) (v : Nat) (h : f.wid ≤ 32) :
    (r.set b f v).get b f = v % 2 ^ f.wid := by
  unfold RegFile.set RegFile.get
  rw [RegFile.find_put_same]
  have h1 : v % 2 ^ f.wid < 2 ^ f.wid := Nat.mod_lt _ (Nat.two_pow_pos _)
  have h2 : 2 ^ f.wid ≤ 2 ^ 32 := Nat.pow_le_pow_right (by decide) h
  simp only [BitVec.toNat_ofNat]
  exact Nat.mod_eq_of_lt (by omega)

theorem RegFile.get_set_ne (r : RegFile) (b c : Nat) (f g : Fld) (v : Nat) (h : g.key c ≠ f.key b) :
    (r.set b f v).get c g = r.get c g := by
  unfold RegFile.set RegFile.get
  rw [RegFile.find_put_ne _ _ _ _ h]

/-! ## Tables -/

@[simp] theorem Tab.get_put_same {α : Type} (t : List (Nat × α)) (k : Nat) (v d : α) : Tab.get (Tab.put t k v) k d = v := by
  induction t with
  | nil => simp [Tab.put, Tab.get]
  | cons e r ih =>
    obtain ⟨a, w⟩ := e
    simp only [Tab.put]
    split
    · simp [Tab.get]
    · split
      · simp [Tab.get]
      · have : a ≠ k := by omega
        simp [Tab.get, this, ih]

@[simp] theorem Tab.put_put {α : Type} (t : List (Nat × α)) (k : Nat) (v w : α) : Tab.put (Tab.put t k v) k w = Tab.put t k w := by
  induction t with
  | nil => simp [Tab.put]
  | cons x r ih =>
    obtain ⟨a, b⟩ := x
    by_cases h1 : k < a
    · simp [Tab.put, h1]
    · by_cases h2 : k = a
      · simp [Tab.put, h2]
      · simp [Tab.put, h1, h2, ih]

theorem Tab.get_put_ne {α : Type} (t : List (Nat × α)) (k j : Nat) (v d : α) (h : j ≠ k) :
    Tab.get (Tab.put t k v) j d = Tab.get t j d := by
  induction t with
  | nil => simp [Tab.put, Tab.get, Ne.symm h]
  | cons e r ih =>
    obtain ⟨a, w⟩ := e
    simp only [Tab.put]
    split
    · simp [Tab.get, Ne.symm h]
    · split
      · rename_i h2
        subst h2
        simp [Tab.get, Ne.symm h]
      · simp [Tab.get, ih]

/-! ## Memory: read after write -/

theorem Mem.read_erase_ne (m : List Host.Cell) (k j : Nat) (h : j ≠ k) : Mem.read (Mem.erase m k) j = Mem.read m j := by
  induction m with
  | nil => rfl
  | cons e r ih =>
    obtain ⟨a, w⟩ := e
    simp only [Mem.erase]
    split
    · rename_i h2
      subst h2
      simp [Mem.read, Ne.symm h]
    · simp [Mem.read, ih]

theorem Mem.read_ins_ne (m : List Host.Cell) (k j : Nat) (v : Byte) (h : j ≠ k) : Mem.read (Mem.ins m k v) j = Mem.read m j := by
  induction m with
  | nil => simp [Mem.ins, Mem.read, Ne.symm h]
  | cons e r ih =>
    obtain ⟨a, w⟩ := e
    simp only [Mem.ins]
    split
    · simp [Mem.read, Ne.symm h]
    · split
      · rename_i h2
        subst h2
        simp [Mem.read, Ne.symm h]
      · simp [Mem.read, ih]

theorem Mem.read_ins_same (m : List Host.Cell) (k : Nat) (v : Byte) : Mem.read (Mem.ins m k v) k = v := by
  induction m with
  | nil => simp [Mem.ins, Mem.read]
  | cons e r ih =>
    obtain ⟨a, w⟩ := e
    simp only [Mem.ins]
    split
    · simp [Mem.read]
    · split
      · simp [Mem.read]
      · have : a ≠ k := by omega
        simp [Mem.read, this, ih]

/-- A write leaves every other byte alone. -/
theorem Mem.read_write_ne (m : List Host.Cell) (k j : Nat) (v : Byte) (h : j ≠ k) :
    Mem.read (Mem.write m k v) j = Mem.read m j := by
  unfold Mem.write
  split
  · exact Mem.read_erase_ne m k j h
  · exact Mem.read_ins_ne m k j v h

/-! ## Memory: the canonical form -/

theorem Memory.wf_cons {a : Nat} {v : Byte} {r : List Host.Cell} :
    Memory.wf ((a, v) :: r) = true ↔ v ≠ 0 ∧ (∀ e ∈ r, a < e.1) ∧ Memory.wf r = true := by
  induction r generalizing a v with
  | nil => simp [Memory.wf]
  | cons e r ih =>
    obtain ⟨b, w⟩ := e
    simp only [Memory.wf, Bool.and_eq_true, decide_eq_true_eq, List.mem_cons, forall_eq_or_imp]
    constructor
    · rintro ⟨⟨h1, h2⟩, h3⟩
      refine ⟨h1, ⟨h2, fun e he => ?_⟩, h3⟩
      have := (ih.mp h3).2.1 e he
      omega
    · rintro ⟨h1, ⟨h2, _⟩, h3⟩
      exact ⟨⟨h1, h2⟩, h3⟩

theorem Mem.mem_erase {m : List Host.Cell} {k : Nat} {e : Host.Cell} (h : e ∈ Mem.erase m k) : e ∈ m := by
  induction m with
  | nil => exact h
  | cons x r ih =>
    obtain ⟨a, w⟩ := x
    simp only [Mem.erase] at h
    split at h
    · exact List.mem_cons_of_mem _ h
    · rcases List.mem_cons.mp h with h | h
      · exact List.mem_cons.mpr (.inl h)
      · exact List.mem_cons_of_mem _ (ih h)

theorem Mem.mem_ins {m : List Host.Cell} {k : Nat} {v : Byte} {e : Host.Cell} (h : e ∈ Mem.ins m k v) : e = (k, v) ∨ e ∈ m := by
  induction m with
  | nil => simpa [Mem.ins] using h
  | cons x r ih =>
    obtain ⟨a, w⟩ := x
    simp only [Mem.ins] at h
    split at h
    · simpa using h
    · split at h
      · rcases List.mem_cons.mp h with h | h
        · exact .inl h
        · exact .inr (List.mem_cons_of_mem _ h)
      · rcases List.mem_cons.mp h with h | h
        · exact .inr (List.mem_cons.mpr (.inl h))
        · rcases ih h with h | h
          · exact .inl h
          · exact .inr (List.mem_cons_of_mem _ h)

theorem Memory.wf_erase {m : List Host.Cell} {k : Nat} (h : Memory.wf m = true) : Memory.wf (Mem.erase m k) = true := by
  induction m with
  | nil => exact h
  | cons x r ih =>
    obtain ⟨a, w⟩ := x
    obtain ⟨h1, h2, h3⟩ := Memory.wf_cons.mp h
    simp only [Mem.erase]
    split
    · exact h3
    · exact Memory.wf_cons.mpr ⟨h1, fun e he => h2 e (Mem.mem_erase he), ih h3⟩

theorem Memory.wf_ins {m : List Host.Cell} {k : Nat} {v : Byte} (hv : v ≠ 0) (h : Memory.wf m = true) :
    Memory.wf (Mem.ins m k v) = true := by
  induction m with
  | nil => exact Memory.wf_cons.mpr ⟨hv, by simp, rfl⟩
  | cons x r ih =>
    obtain ⟨a, w⟩ := x
    obtain ⟨h1, h2, h3⟩ := Memory.wf_cons.mp h
    simp only [Mem.ins]
    split
    · refine Memory.wf_cons.mpr ⟨hv, fun e he => ?_, h⟩
      rcases List.mem_cons.mp he with rfl | he
      · assumption
      · have := h2 e he
        omega
    · split
      · rename_i h4
        subst h4
        exact Memory.wf_cons.mpr ⟨hv, h2, h3⟩
      · refine Memory.wf_cons.mpr ⟨h1, fun e he => ?_, ih h3⟩
        rcases Mem.mem_ins he with rfl | he
        · show a < k
          omega
        · exact h2 e he

/-- A write keeps the canonical form. -/
theorem Memory.wf_write {m : List Host.Cell} {k : Nat} {v : Byte} (h : Memory.wf m = true) :
    Memory.wf (Mem.write m k v) = true := by
  unfold Mem.write
  split
  · exact Memory.wf_erase h
  · exact Memory.wf_ins (by assumption) h

theorem Memory.wf_writeN {m : List Host.Cell} {a v : Nat} (n : Nat) (h : Memory.wf m = true) :
    Memory.wf (Mem.writeN m a v n) = true := by
  induction n generalizing m a v with
  | zero => exact h
  | succ n ih => exact ih (Memory.wf_write h)

theorem Memory.wf_writeBytes {m : List Host.Cell} {a : Nat} (l : List Byte) (h : Memory.wf m = true) :
    Memory.wf (Mem.writeBytes m a l) = true := by
  induction l generalizing m a with
  | nil => exact h
  | cons b r ih => exact ih (Memory.wf_write h)

theorem Memory.wf_filter {m : List Host.Cell} (p : Host.Cell → Bool) (h : Memory.wf m = true) :
    Memory.wf (m.filter p) = true := by
  induction m with
  | nil => exact h
  | cons x r ih =>
    obtain ⟨a, w⟩ := x
    obtain ⟨h1, h2, h3⟩ := Memory.wf_cons.mp h
    simp only [List.filter_cons]
    split
    · exact Memory.wf_cons.mpr ⟨h1, fun e he => h2 e (List.mem_filter.mp he).1, ih h3⟩
    · exact ih h3

theorem Memory.wf_foldl {α : Type} {m : List Host.Cell} (g : List Host.Cell → α → List Host.Cell) (l : List α)
    (hg : ∀ m x, Memory.wf m = true → Memory.wf (g m x) = true) (h : Memory.wf m = true) : Memory.wf (l.foldl g m) = true := by
  induction l generalizing m with
  | nil => exact h
  | cons x r ih => exact ih (hg m x h)

/-- In canonical form a byte written is the byte read. -/
theorem Mem.read_erase_same {m : List Host.Cell} {k : Nat} (h : Memory.wf m = true) : Mem.read (Mem.erase m k) k = 0 := by
  have free : ∀ r : List Host.Cell, (∀ e ∈ r, k < e.1) → Mem.read r k = 0 := by
    intro r
    induction r with
    | nil => intro _; rfl
    | cons x r ih =>
      obtain ⟨a, w⟩ := x
      intro hk
      have : k < a := hk (a, w) (List.mem_cons_self ..)
      have h2 : a ≠ k := by omega
      simp only [Mem.read, h2, if_false]
      exact ih (fun e he => hk e (List.mem_cons_of_mem _ he))
  induction m with
  | nil => rfl
  | cons x r ih =>
    obtain ⟨a, w⟩ := x
    obtain ⟨h1, h2, h3⟩ := Memory.wf_cons.mp h
    simp only [Mem.erase]
    split
    · rename_i h4
      subst h4
      exact free r h2
    · rename_i h4
      simp only [Mem.read, h4, if_false]
      exact ih h3

theorem Mem.read_write_same {m : List Host.Cell} {k : Nat} {v : Byte} (h : Memory.wf m = true) :
    Mem.read (Mem.write m k v) k = v := by
  unfold Mem.write
  split
  · rename_i h2
    rw [h2]
    exact Mem.read_erase_same h
  · exact Mem.read_ins_same m k v

theorem Mem.read_writeN_out {m : List Host.Cell} {a v j : Nat} (n : Nat) (h : j < a ∨ a + n ≤ j) :
    Mem.read (Mem.writeN m a v n) j = Mem.read m j := by
  induction n generalizing m a v with
  | zero => rfl
  | succ n ih =>
    unfold Mem.writeN
    rw [ih (by omega), Mem.read_write_ne _ _ _ _ (by omega)]

theorem Mem.read_writeN_in {m : List Host.Cell} {a v i : Nat} (n : Nat) (h : Memory.wf m = true) (hi : i < n) :
    Mem.read (Mem.writeN m a v n) (a + i) = BitVec.ofNat 8 (v / 256 ^ i) := by
  induction n generalizing m a v i with
  | zero => omega
  | succ n ih =>
    unfold Mem.writeN
    cases i with
    | zero =>
      rw [Mem.read_writeN_out n (by omega), Nat.add_zero, Mem.read_write_same h]
      simp
    | succ i =>
      have e : a + (i + 1) = (a + 1) + i := by omega
      rw [e, ih (Memory.wf_write h) (by omega), Nat.div_div_eq_div_mul, Nat.pow_succ, Nat.mul_comm]

/-! ## Registers and tables of the state -/

namespace State

theorem rd_wr_same (s : State) (b : Nat) (f : Fld) (v : Nat) (h : f.wid ≤ 32) : (s.wr b f v).rd b f = v % 2 ^ f.wid :=
  RegFile.get_set_same s.regs b f v h

theorem rd_wr_ne (s : State) (b c : Nat) (f g : Fld) (v : Nat) (h : g.key c ≠ f.key b) : (s.wr b f v).rd c g = s.rd c g :=
  RegFile.get_set_ne s.regs b c f g v h

theorem crd_cwr_same (s : State) (c : Nat) (f : Fld) (v : Nat) (h : f.wid ≤ 32) : (s.cwr c f v).crd c f = v % 2 ^ f.wid :=
  RegFile.get_set_same s.cregs (cellB c) f v h

theorem crd_cwr_ne (s : State) (c d : Nat) (f g : Fld) (v : Nat) (h : g.key (cellB d) ≠ f.key (cellB c)) :
    (s.cwr c f v).crd d g = s.crd d g :=
  RegFile.get_set_ne s.cregs (cellB c) (cellB d) f g v h

@[simp] theorem lane_setLane (s : State) (n : Nat) (x : Lane) : (s.setLane n x).lane n = x := by simp [lane, setLane]
@[simp] theorem ctx_setCtx (s : State) (c : Nat) (x : Ctx) : (s.setCtx c x).ctx c = x := by simp [ctx, setCtx]
@[simp] theorem cell_setCell (s : State) (c : Nat) (x : Cell) : (s.setCell c x).cell c = x := by simp [cell, setCell]
@[simp] theorem modul_setModul (s : State) (k : Nat) (x : Modul) : (s.setModul k x).modul k = x := by simp [modul, setModul]
@[simp] theorem ad_setAd (s : State) (a : Nat) (x : AdSt) : (s.setAd a x).ad a = x := by simp [ad, setAd]
@[simp] theorem law_setLaw (s : State) (k : Nat) (x : LawSt) : (s.setLaw k x).law k = x := by simp [law, setLaw]
@[simp] theorem acqs_setAcq (s : State) (k : Nat) (x : AcqSt) : (s.setAcq k x).acqs k = x := by simp [acqs, setAcq]
@[simp] theorem core_setCore (s : State) (m : Nat) (x : Core) : (s.setCore m x).core m = x := by simp [core, setCore]
@[simp] theorem sch_setSch (s : State) (k : Nat) (x : Sched) : (s.setSch k x).sch k = x := by simp [sch, setSch]

@[simp] theorem setCore_setCore (s : State) (m : Nat) (x y : Core) : (s.setCore m x).setCore m y = s.setCore m y := by
  simp [setCore]

theorem core_setCore_ne (s : State) (m n : Nat) (x : Core) (h : n ≠ m) : (s.setCore m x).core n = s.core n := by
  simp [core, setCore, Tab.get_put_ne _ _ _ _ _ h]

end State

end Sys2Proof.Machine
end

