-- ==== Sys2Proof/Laws/Frame.lean ====
section
/-!
SUPPORT. What most operations of the machine leave alone: the queue, the part and the memories (the frame of an operation).
-/
namespace Sys2Proof.Machine

namespace State

/-- The queue, the part and the memories. -/
abbrev Kept := List Instr × Part × List Host.Cell × List Host.Cell × List Host.Cell

/-- What most operations leave alone. -/
@[irreducible] def keep (s : State) : Kept :=
  (s.pending, s.part, s.mem, s.nor, s.mram)

theorem keep_def (s : State) : s.keep = (s.pending, s.part, s.mem, s.nor, s.mram) := by unfold keep; rfl

theorem keep_mk (s t : State) (h1 : t.pending = s.pending) (h2 : t.part = s.part) (h3 : t.mem = s.mem) (h4 : t.nor = s.nor)
    (h5 : t.mram = s.mram) : t.keep = s.keep := by rw [keep_def, keep_def, h1, h2, h3, h4, h5]

/-- A record update of other fields. -/
theorem keep_rec (x : State) (a0 a1 a2 a3 a4 a5 a6 a7 a8 a9 a10 a11 a12 a13 a14 a15 a16 a17 a18 a19 a20 a21 a22 a23 a24 a25 a26 a27 a28) :
    (State.mk x.pending x.part a0 a1 a2 a3 a4 x.mem x.nor x.mram a5 a6 a7 a8 a9 a10 a11 a12 a13 a14 a15 a16 a17 a18 a19 a20 a21 a22 a23 a24 a25 a26 a27 a28).keep = x.keep :=
  keep_mk _ _ rfl rfl rfl rfl rfl

theorem keep_foldl {α : Type} (g : State → α → State) (l : List α) (s : State) (h : ∀ s x, (g s x).keep = s.keep) :
    (l.foldl g s).keep = s.keep := by
  induction l generalizing s with
  | nil => rfl
  | cons x r ih => rw [List.foldl_cons, ih, h]

theorem keep_foldl2 {α β : Type} (g : β × State → α → β × State) (l : List α) (p : β × State)
    (h : ∀ p x, (g p x).2.keep = p.2.keep) : (l.foldl g p).2.keep = p.2.keep := by
  induction l generalizing p with
  | nil => rfl
  | cons x r ih => rw [List.foldl_cons, ih, h]

theorem keep_foldl1 {α β : Type} (g : State × β → α → State × β) (l : List α) (p : State × β)
    (h : ∀ p x, (g p x).1.keep = p.1.keep) : (l.foldl g p).1.keep = p.1.keep := by
  induction l generalizing p with
  | nil => rfl
  | cons x r ih => rw [List.foldl_cons, ih, h]

theorem keep_foldl3 {α β γ : Type} (g : β × γ × State → α → β × γ × State) (l : List α) (p : β × γ × State)
    (h : ∀ p x, (g p x).2.2.keep = p.2.2.keep) : (l.foldl g p).2.2.keep = p.2.2.keep := by
  induction l generalizing p with
  | nil => rfl
  | cons x r ih => rw [List.foldl_cons, ih, h]

theorem keep_ite (c : Prop) [Decidable c] (a b : State) : (if c then a else b).keep = if c then a.keep else b.keep := by
  split <;> rfl

/-- A command leaves them alone. -/
def keeps (o : Host.Outcome State Fault Refusal) (s : State) : Prop := ∀ t, o = .next t → t.keep = s.keep

theorem keeps_next (t s : State) : keeps (.next t) s ↔ t.keep = s.keep :=
  ⟨fun h => h t rfl, fun h u e => by injection e with e; rw [← e]; exact h⟩

theorem wr_keep (s : State) (b : Nat) (f : Fld) (v : Nat) : (s.wr b f v).keep = s.keep := keep_mk _ _ rfl rfl rfl rfl rfl

theorem free_held : Guard.free.held = id := rfl
theorem free_rej : Guard.free.rej = id := rfl

end State

end Sys2Proof.Machine
end

