-- ==== Sys2Proof/Laws/FrameCore.lean ====
section
/-!
SUPPORT. The frame of the operations every block shares and the core commands: one lemma for each operation.
-/
namespace Sys2Proof.Machine

namespace State

theorem wrB_keep (s : State) (b : Nat) (f : Fld) (v : Bool) :
    (wrB s b f v).keep = s.keep := by
  unfold wrB
  simp only [wr_keep]

theorem incBy_keep (s : State) (b : Nat) (f : Fld) (d : Nat) :
    (incBy s b f d).keep = s.keep := by
  unfold incBy
  simp only [wr_keep]

theorem inc_keep (s : State) (b : Nat) (f : Fld) :
    (inc s b f).keep = s.keep := by
  unfold inc
  simp only [incBy_keep]

theorem incW_keep (s : State) (b : Nat) (f : Fld) :
    (incW s b f).keep = s.keep := by
  unfold incW
  simp only [wr_keep]

theorem takeS_keep (s : State) (b : Nat) (f : Fld) :
    (takeS s b f).keep = s.keep := keep_mk _ _ rfl rfl rfl rfl rfl

theorem wrBoth_keep (s : State) (b : Nat) (f : Fld) (v : Nat) :
    (wrBoth s b f v).keep = s.keep := keep_mk _ _ rfl rfl rfl rfl rfl

theorem cwr_keep (s : State) (c : Nat) (f : Fld) (v : Nat) :
    (cwr s c f v).keep = s.keep := keep_mk _ _ rfl rfl rfl rfl rfl

theorem cwrB_keep (s : State) (c : Nat) (f : Fld) (v : Bool) :
    (cwrB s c f v).keep = s.keep := by
  unfold cwrB
  simp only [cwr_keep]

theorem cinc_keep (s : State) (c : Nat) (f : Fld) :
    (cinc s c f).keep = s.keep := by
  unfold cinc
  simp only [cwr_keep]

theorem setLane_keep (s : State) (n : Nat) (x : Lane) :
    (setLane s n x).keep = s.keep := keep_mk _ _ rfl rfl rfl rfl rfl

theorem setCtx_keep (s : State) (c : Nat) (x : Ctx) :
    (setCtx s c x).keep = s.keep := keep_mk _ _ rfl rfl rfl rfl rfl

theorem setCell_keep (s : State) (c : Nat) (x : Cell) :
    (setCell s c x).keep = s.keep := keep_mk _ _ rfl rfl rfl rfl rfl

theorem setModul_keep (s : State) (k : Nat) (x : Modul) :
    (setModul s k x).keep = s.keep := keep_mk _ _ rfl rfl rfl rfl rfl

theorem setArm_keep (s : State) (k : Nat) (a : Nat) (x : ArmSt) :
    (setArm s k a x).keep = s.keep := by
  unfold setArm
  simp only [setModul_keep]

theorem modArm_keep (s : State) (k : Nat) (a : Nat) (f : ArmSt → ArmSt) :
    (modArm s k a f).keep = s.keep := by
  unfold modArm
  simp only [setArm_keep]

theorem setEst_keep (s : State) (k : Nat) (c : Nat) (x : CellEst) :
    (setEst s k c x).keep = s.keep := by
  unfold setEst
  simp only [setModul_keep]

theorem modEst_keep (s : State) (k : Nat) (c : Nat) (f : CellEst → CellEst) :
    (modEst s k c f).keep = s.keep := by
  unfold modEst
  simp only [setEst_keep]

theorem setAd_keep (s : State) (a : Nat) (x : AdSt) :
    (setAd s a x).keep = s.keep := keep_mk _ _ rfl rfl rfl rfl rfl

theorem modAd_keep (s : State) (a : Nat) (f : AdSt → AdSt) :
    (modAd s a f).keep = s.keep := by
  unfold modAd
  simp only [setAd_keep]

theorem setLaw_keep (s : State) (k : Nat) (x : LawSt) :
    (setLaw s k x).keep = s.keep := keep_mk _ _ rfl rfl rfl rfl rfl

theorem modLaw_keep (s : State) (k : Nat) (f : LawSt → LawSt) :
    (modLaw s k f).keep = s.keep := by
  unfold modLaw
  simp only [setLaw_keep]

theorem modDma_keep (s : State) (k : Nat) (c : Nat) (f : DmaCh → DmaCh) :
    (modDma s k c f).keep = s.keep := keep_mk _ _ rfl rfl rfl rfl rfl

theorem setAcq_keep (s : State) (k : Nat) (x : AcqSt) :
    (setAcq s k x).keep = s.keep := keep_mk _ _ rfl rfl rfl rfl rfl

theorem setCore_keep (s : State) (m : Nat) (x : Core) :
    (setCore s m x).keep = s.keep := keep_mk _ _ rfl rfl rfl rfl rfl

theorem setSch_keep (s : State) (k : Nat) (x : Sched) :
    (setSch s k x).keep = s.keep := keep_mk _ _ rfl rfl rfl rfl rfl

theorem reach_keep (s : State) (t : Nat) :
    (reach s t).keep = s.keep := by
  unfold reach
  simp only [keep_rec, keep_ite, ite_self]

theorem reachOfs_keep (s : State) (ns : Nat) :
    (reachOfs s ns).keep = s.keep := by
  unfold reachOfs
  simp only [reach_keep]

theorem freeBit_keep (s : State) :
    (freeBit s).2.keep = s.keep := by
  unfold freeBit
  simp only [keep_rec]

theorem freeWord_keep (s : State) :
    (freeWord s).2.keep = s.keep := by
  unfold freeWord
  simp only [keep_rec]

theorem fire_keep (s : State) (n : Nat) :
    (fire s n).keep = s.keep := by
  unfold fire
  simp only [keep_rec, keep_ite, ite_self]

theorem fireIf_keep (s : State) (b : Bool) (n : Nat) :
    (fireIf s b n).keep = s.keep := by
  unfold fireIf
  simp only [fire_keep, keep_ite, ite_self]

theorem fireK_keep (s : State) (k : Nat) (n : Nat) :
    (fireK s k n).keep = s.keep := by
  unfold fireK
  simp only [fire_keep]

theorem retire_keep (s : State) (w : Wr) (addr : Nat) :
    (retire s w addr).keep = s.keep := keep_mk _ _ rfl rfl rfl rfl rfl

theorem answer_keep (s : State) (mid : Nat) (addr : Nat) (v : Word) :
    (answer s mid addr v).keep = s.keep := keep_mk _ _ rfl rfl rfl rfl rfl

theorem syncCore_keep (s : State) (m : Nat) :
    (syncCore s m).keep = s.keep := by
  unfold syncCore
  simp only [wr_keep, keep_ite, ite_self]

theorem modCore_keep (s : State) (m : Nat) (f : Core → Core) :
    (modCore s m f).keep = s.keep := by
  unfold modCore
  simp only [setCore_keep]

theorem absentEvt_keep (s : State) (mid : Nat) (addr : Nat) (wr : Bool) (insn : Bool) :
    (absentEvt s mid addr wr insn).keep = s.keep := by
  unfold absentEvt
  simp only [wrB_keep, inc_keep, wr_keep]

theorem offEvt_keep (s : State) (mid : Nat) (addr : Nat) (wr : Bool) :
    (offEvt s mid addr wr).keep = s.keep := by
  unfold offEvt
  simp only [wrB_keep, wr_keep, fire_keep, keep_ite, ite_self]

theorem syncFz_keep (s : State) :
    (syncFz s).keep = s.keep := by
  unfold syncFz
  dsimp only
  (repeat' split) <;> simp only [wrB_keep, wr_keep]

theorem fzBit_keep (s : State) (m : Nat) (v : Bool) :
    (fzBit s m v).keep = s.keep := by
  unfold fzBit
  simp only [wr_keep]

theorem freeze_keep (s : State) (r : FzRec) :
    (freeze s r).keep = s.keep := by
  unfold freeze
  simp only [syncFz_keep, inc_keep, syncCore_keep, fire_keep, fzBit_keep, keep_rec, keep_ite, ite_self]

theorem unfreeze_keep (s : State) (m : Nat) :
    (unfreeze s m).keep = s.keep := by
  unfold unfreeze
  simp only [syncCore_keep, fzBit_keep, keep_rec, keep_ite, ite_self]

theorem fetchExl_keep (s : State) (m : Nat) :
    (fetchExl s m).keep = s.keep := by
  unfold fetchExl
  dsimp only
  (repeat' split) <;> simp only [setCore_keep, offEvt_keep, absentEvt_keep, freeze_keep]

theorem enterTrap_keep (s : State) (m : Nat) (cause : Word) (epc : Word) (eaddr : Word) :
    (enterTrap s m cause epc eaddr).keep = s.keep := by
  unfold enterTrap
  simp only [setCore_keep, fetchExl_keep]

theorem trap_keep (s : State) (m : Nat) (cause : Word) (epc : Word) (eaddr : Word) :
    (trap s m cause epc eaddr).keep = s.keep := by
  unfold trap
  simp only [setCore_keep, enterTrap_keep, freeze_keep, keep_ite, ite_self]

theorem fetchAt_keep (s : State) (m : Nat) :
    (fetchAt s m).keep = s.keep := by
  unfold fetchAt
  dsimp only
  (repeat' split) <;> simp only [offEvt_keep, enterTrap_keep, absentEvt_keep, fetchExl_keep, freeze_keep]

theorem goOn_keep (s : State) (m : Nat) (c : Core) :
    (goOn s m c).keep = s.keep := by
  unfold goOn
  simp only [fetchAt_keep, setCore_keep, keep_ite, ite_self]

theorem jumped_keep (s : State) (m : Nat) (c : Core) :
    (jumped s m c).keep = s.keep := by
  unfold jumped
  simp only [fetchAt_keep, setCore_keep]

theorem illegal_keep (s : State) (m : Nat) :
    (illegal s m).keep = s.keep := by
  unfold illegal
  simp only [trap_keep]

theorem privTrap_keep (s : State) (m : Nat) :
    (privTrap s m).keep = s.keep := by
  unfold privTrap
  simp only [trap_keep]

theorem alignTrap_keep (s : State) (m : Nat) (addr : Nat) (wr : Bool) :
    (alignTrap s m addr wr).keep = s.keep := by
  unfold alignTrap
  simp only [trap_keep]

theorem absentTrap_keep (s : State) (m : Nat) (addr : Nat) (wr : Bool) (insn : Bool) :
    (absentTrap s m addr wr insn).keep = s.keep := by
  unfold absentTrap
  simp only [setCore_keep, enterTrap_keep, absentEvt_keep, goOn_keep, keep_ite, ite_self]

theorem enqueue_keep (s : State) (k : Nat) (i : Nat) :
    (enqueue s k i).keep = s.keep := by
  unfold enqueue
  simp only [setSch_keep, wr_keep]

theorem dequeue_keep (s : State) (k : Nat) (i : Nat) :
    (dequeue s k i).keep = s.keep := by
  unfold dequeue
  simp only [setSch_keep, wr_keep]

theorem giveTask_keep (s : State) (k : Nat) (i : Nat) (m : Nat) (d : Nat) :
    (giveTask s k i m d).keep = s.keep := by
  unfold giveTask
  simp only [wr_keep, dequeue_keep, goOn_keep]

theorem serveSlot_keep (s : State) (k : Nat) (i : Nat) :
    (serveSlot s k i).keep = s.keep := by
  unfold serveSlot
  dsimp only
  (repeat' split) <;> simp only [setSch_keep, syncCore_keep, wr_keep, giveTask_keep, modCore_keep]

theorem activate_keep (s : State) (k : Nat) (i : Nat) :
    (activate s k i).keep = s.keep := by
  unfold activate
  dsimp only
  (repeat' split) <;> simp only [serveSlot_keep, inc_keep, fireK_keep, wr_keep, enqueue_keep]

theorem endTask_keep (s : State) (k : Nat) (i : Nat) :
    (endTask s k i).keep = s.keep := by
  unfold endTask
  simp only [serveSlot_keep, wr_keep, enqueue_keep, keep_ite, ite_self]

theorem acqOwe_keep (s : State) (k : Nat) (cls : Nat) (num : Nat) :
    (acqOwe s k cls num).keep = s.keep := by
  unfold acqOwe
  simp only [setAcq_keep, keep_ite, ite_self]

theorem evtK_keep (s : State) (k : Nat) (e : Nat) :
    (evtK s k e).keep = s.keep := by
  unfold evtK
  (try dsimp only)
  (repeat' split) <;> (first | rfl | simp (disch := (intros; (repeat' split) <;> simp only [activate_keep, acqOwe_keep, wr_keep, keep_rec, keep_ite, ite_self, implies_true, keep_foldl, keep_foldl2, id_eq])) only [acqOwe_keep, keep_foldl])

theorem evt_keep (s : State) (e : Nat) :
    (evt s e).keep = s.keep := by
  unfold evt
  simp only [evtK_keep]

theorem raiseBit_keep (s : State) (b : Nat) (ev : Fld) (en : Fld) (i : Nat) (k : Option Nat) (e : Nat) :
    (raiseBit s b ev en i k e).keep = s.keep := by
  unfold raiseBit
  dsimp only
  (repeat' split) <;> simp only [evtK_keep, wr_keep, evt_keep]

theorem acqEvt_keep (s : State) (k : Nat) (i : Nat) :
    (acqEvt s k i).keep = s.keep := by
  unfold acqEvt
  simp only [raiseBit_keep]

theorem acqPut_keep (s : State) (k : Nat) (r : AcqRec) :
    (acqPut s k r).keep = s.keep := by
  unfold acqPut
  simp only [setAcq_keep, keep_ite, ite_self]

theorem acqAssert_keep (s : State) (k : Nat) (b : Nat) (t : Nat) :
    (acqAssert s k b t).keep = s.keep := by
  unfold acqAssert
  simp only [acqPut_keep, acqEvt_keep, inc_keep, setAcq_keep, wr_keep, keep_ite, ite_self]

theorem acqEntry_keep (s : State) (k : Nat) (i : Nat) (v : Nat) (t : Nat) (always : Bool) :
    (acqEntry s k i v t always).keep = s.keep := by
  unfold acqEntry
  dsimp only
  (repeat' split) <;> simp only [acqAssert_keep, acqPut_keep, setAcq_keep, keep_ite, ite_self, implies_true, keep_foldl]

theorem acqDue_keep (s : State) (k : Nat) :
    (acqDue s k).keep = s.keep := by
  unfold acqDue
  dsimp only
  (repeat' split) <;> simp only [setAcq_keep, acqEntry_keep, implies_true, keep_foldl]

theorem acqObs_keep (s : State) (k : Nat) (cls : Nat) (mask : Nat) (idx : Nat) (v : Nat) :
    (acqObs s k cls mask idx v).keep = s.keep := by
  unfold acqObs
  dsimp only
  (repeat' split) <;> simp only [acqDue_keep, acqEntry_keep, implies_true, keep_foldl]

theorem acqClass_keep (s : State) (k : Nat) (cls : Nat) (f : Nat → Nat) :
    (acqClass s k cls f).keep = s.keep := by
  unfold acqClass
  dsimp only
  (repeat' split) <;> simp only [acqDue_keep, acqEntry_keep, implies_true, keep_foldl]

theorem almTake_keep (s : State) (r : Nat) (v : Int) (who : Nat) :
    (almTake s r v who).keep = s.keep := by
  unfold almTake
  simp only [inc_keep, fireIf_keep, keep_rec, keep_ite, ite_self]

theorem almObs_keep (s : State) (cls : Nat) (idx : Nat) (v : Int) (who : Nat) :
    (almObs s cls idx v who).keep = s.keep := by
  unfold almObs
  (try dsimp only)
  (repeat' split) <;> (first | rfl | simp (disch := (intros; (repeat' split) <;> simp only [almTake_keep, wr_keep, keep_rec, keep_ite, ite_self, implies_true, keep_foldl, keep_foldl2, id_eq])) only [keep_foldl])

theorem instr_keep (s : State) (m : Nat) (srcs : List Nat) (d : Nat) (legal : Bool) (f : Core → Core) :
    (instr s m srcs d legal f).keep = s.keep := by
  unfold instr
  simp only [setCore_keep, illegal_keep, goOn_keep, keep_ite, ite_self]

theorem alu3_keep (s : State) (m : Nat) (o : OpA) (sf : Bool) (legal : Bool) (f : Word → Word → AluRes) :
    (alu3 s m o sf legal f).keep = s.keep := by
  unfold alu3
  simp only [instr_keep]

theorem compare_keep (s : State) (m : Nat) (srcs : List Nat) (legal : Bool) (f : Core → AluRes) :
    (compare s m srcs legal f).keep = s.keep := by
  unfold compare
  simp only [instr_keep]

theorem immOp_keep (s : State) (m : Nat) (o : OpB) (legal : Bool) (f : Word → Word) :
    (immOp s m o legal f).keep = s.keep := by
  unfold immOp
  simp only [instr_keep]

theorem accOp_keep (s : State) (m : Nat) (srcs : List Nat) (acc : Nat) (legal : Bool) (f : Core → Int) :
    (accOp s m srcs acc legal f).keep = s.keep := by
  unfold accOp
  simp only [instr_keep]

theorem extract_keep (s : State) (m : Nat) (d : Nat) (legal : Bool) (f : Core → Int) :
    (extract s m d legal f).keep = s.keep := by
  unfold extract
  simp only [instr_keep]

theorem execAdd_keep (m : Nat) (o : OpA) (sf : Bool) (s : State) :
    keeps (execAdd m o sf s) s := by
  unfold execAdd
  rw [keeps_next]
  simp only [alu3_keep]

theorem execSub_keep (m : Nat) (o : OpA) (sf : Bool) (s : State) :
    keeps (execSub m o sf s) s := by
  unfold execSub
  rw [keeps_next]
  simp only [alu3_keep]

theorem execAnd_keep (m : Nat) (o : OpA) (sf : Bool) (s : State) :
    keeps (execAnd m o sf s) s := by
  unfold execAnd
  rw [keeps_next]
  simp only [alu3_keep]

theorem execOr_keep (m : Nat) (o : OpA) (sf : Bool) (s : State) :
    keeps (execOr m o sf s) s := by
  unfold execOr
  rw [keeps_next]
  simp only [alu3_keep]

theorem execXor_keep (m : Nat) (o : OpA) (sf : Bool) (s : State) :
    keeps (execXor m o sf s) s := by
  unfold execXor
  rw [keeps_next]
  simp only [alu3_keep]

theorem execAndn_keep (m : Nat) (o : OpA) (sf : Bool) (s : State) :
    keeps (execAndn m o sf s) s := by
  unfold execAndn
  rw [keeps_next]
  simp only [alu3_keep]

theorem execShl_keep (m : Nat) (o : OpA) (sf : Bool) (s : State) :
    keeps (execShl m o sf s) s := by
  unfold execShl
  rw [keeps_next]
  simp only [alu3_keep]

theorem execShr_keep (m : Nat) (o : OpA) (sf : Bool) (s : State) :
    keeps (execShr m o sf s) s := by
  unfold execShr
  rw [keeps_next]
  simp only [alu3_keep]

theorem execSar_keep (m : Nat) (o : OpA) (sf : Bool) (s : State) :
    keeps (execSar m o sf s) s := by
  unfold execSar
  rw [keeps_next]
  simp only [alu3_keep]

theorem execRor_keep (m : Nat) (o : OpA) (sf : Bool) (s : State) :
    keeps (execRor m o sf s) s := by
  unfold execRor
  rw [keeps_next]
  simp only [alu3_keep]

theorem execMul_keep (m : Nat) (o : OpA) (sf : Bool) (s : State) :
    keeps (execMul m o sf s) s := by
  unfold execMul
  rw [keeps_next]
  simp only [alu3_keep]

theorem execMulh_keep (m : Nat) (o : OpA) (sf : Bool) (s : State) :
    keeps (execMulh m o sf s) s := by
  unfold execMulh
  rw [keeps_next]
  simp only [alu3_keep]

theorem execMulhu_keep (m : Nat) (o : OpA) (sf : Bool) (s : State) :
    keeps (execMulhu m o sf s) s := by
  unfold execMulhu
  rw [keeps_next]
  simp only [alu3_keep]

theorem execSlt_keep (m : Nat) (o : OpA) (sf : Bool) (s : State) :
    keeps (execSlt m o sf s) s := by
  unfold execSlt
  rw [keeps_next]
  simp only [alu3_keep]

theorem execSltu_keep (m : Nat) (o : OpA) (sf : Bool) (s : State) :
    keeps (execSltu m o sf s) s := by
  unfold execSltu
  rw [keeps_next]
  simp only [alu3_keep]

theorem execMin_keep (m : Nat) (o : OpA) (sf : Bool) (s : State) :
    keeps (execMin m o sf s) s := by
  unfold execMin
  rw [keeps_next]
  simp only [alu3_keep]

theorem execMax_keep (m : Nat) (o : OpA) (sf : Bool) (s : State) :
    keeps (execMax m o sf s) s := by
  unfold execMax
  rw [keeps_next]
  simp only [alu3_keep]

theorem execAdds_keep (m : Nat) (o : OpA) (sf : Bool) (s : State) :
    keeps (execAdds m o sf s) s := by
  unfold execAdds
  rw [keeps_next]
  simp only [alu3_keep]

theorem execSubs_keep (m : Nat) (o : OpA) (sf : Bool) (s : State) :
    keeps (execSubs m o sf s) s := by
  unfold execSubs
  rw [keeps_next]
  simp only [alu3_keep]

theorem execAbss_keep (m : Nat) (o : OpA) (sf : Bool) (s : State) :
    keeps (execAbss m o sf s) s := by
  unfold execAbss
  rw [keeps_next]
  simp only [alu3_keep]

theorem execNegs_keep (m : Nat) (o : OpA) (sf : Bool) (s : State) :
    keeps (execNegs m o sf s) s := by
  unfold execNegs
  rw [keeps_next]
  simp only [alu3_keep]

theorem execCmp_keep (m : Nat) (o : OpA) (_sf : Bool) (s : State) :
    keeps (execCmp m o _sf s) s := by
  unfold execCmp
  rw [keeps_next]
  simp only [compare_keep]

theorem execAddi_keep (m : Nat) (o : OpB) (s : State) :
    keeps (execAddi m o s) s := by
  unfold execAddi
  rw [keeps_next]
  simp only [immOp_keep]

theorem execAndi_keep (m : Nat) (o : OpB) (s : State) :
    keeps (execAndi m o s) s := by
  unfold execAndi
  rw [keeps_next]
  simp only [immOp_keep]

theorem execOri_keep (m : Nat) (o : OpB) (s : State) :
    keeps (execOri m o s) s := by
  unfold execOri
  rw [keeps_next]
  simp only [immOp_keep]

theorem execXori_keep (m : Nat) (o : OpB) (s : State) :
    keeps (execXori m o s) s := by
  unfold execXori
  rw [keeps_next]
  simp only [immOp_keep]

theorem execLui_keep (m : Nat) (o : OpB) (s : State) :
    keeps (execLui m o s) s := by
  unfold execLui
  rw [keeps_next]
  simp only [immOp_keep]

theorem execShi_keep (m : Nat) (o : OpB) (s : State) :
    keeps (execShi m o s) s := by
  unfold execShi
  rw [keeps_next]
  simp only [immOp_keep]

theorem execCmpi_keep (m : Nat) (o : OpB) (s : State) :
    keeps (execCmpi m o s) s := by
  unfold execCmpi
  rw [keeps_next]
  simp only [compare_keep]

theorem execPmovToP_keep (m : Nat) (o : OpA) (s : State) :
    keeps (execPmovToP m o s) s := by
  unfold execPmovToP
  rw [keeps_next]
  simp only [instr_keep]

theorem execPmovToM_keep (m : Nat) (o : OpA) (s : State) :
    keeps (execPmovToM m o s) s := by
  unfold execPmovToM
  rw [keeps_next]
  simp only [instr_keep]

theorem execPmovFromP_keep (m : Nat) (o : OpA) (s : State) :
    keeps (execPmovFromP m o s) s := by
  unfold execPmovFromP
  rw [keeps_next]
  simp only [instr_keep]

theorem execPmovFromM_keep (m : Nat) (o : OpA) (s : State) :
    keeps (execPmovFromM m o s) s := by
  unfold execPmovFromM
  rw [keeps_next]
  simp only [instr_keep]

theorem execSetcb_keep (m : Nat) (o : OpA) (s : State) :
    keeps (execSetcb m o s) s := by
  unfold execSetcb
  rw [keeps_next]
  simp only [instr_keep]

theorem execPmovGetCb_keep (m : Nat) (o : OpA) (s : State) :
    keeps (execPmovGetCb m o s) s := by
  unfold execPmovGetCb
  rw [keeps_next]
  simp only [instr_keep]

theorem execPmovGetCl_keep (m : Nat) (o : OpA) (s : State) :
    keeps (execPmovGetCl m o s) s := by
  unfold execPmovGetCl
  rw [keeps_next]
  simp only [instr_keep]

theorem execMac_keep (m : Nat) (o : OpE) (fn : BitVec 9) (s : State) :
    keeps (execMac m o fn s) s := by
  unfold execMac
  rw [keeps_next]
  simp only [accOp_keep]

theorem execMsu_keep (m : Nat) (o : OpE) (fn : BitVec 9) (s : State) :
    keeps (execMsu m o fn s) s := by
  unfold execMsu
  rw [keeps_next]
  simp only [accOp_keep]

theorem execMpy_keep (m : Nat) (o : OpE) (fn : BitVec 9) (s : State) :
    keeps (execMpy m o fn s) s := by
  unfold execMpy
  rw [keeps_next]
  simp only [accOp_keep]

theorem execAclr_keep (m : Nat) (o : OpE) (s : State) :
    keeps (execAclr m o s) s := by
  unfold execAclr
  rw [keeps_next]
  simp only [instr_keep]

theorem execAmov_keep (m : Nat) (o : OpE) (s : State) :
    keeps (execAmov m o s) s := by
  unfold execAmov
  rw [keeps_next]
  simp only [instr_keep]

theorem execAneg_keep (m : Nat) (o : OpE) (s : State) :
    keeps (execAneg m o s) s := by
  unfold execAneg
  rw [keeps_next]
  simp only [accOp_keep]

theorem execAsh_keep (m : Nat) (o : OpE) (s : State) :
    keeps (execAsh m o s) s := by
  unfold execAsh
  rw [keeps_next]
  simp only [accOp_keep]

theorem execAshr_keep (m : Nat) (o : OpE) (s : State) :
    keeps (execAshr m o s) s := by
  unfold execAshr
  rw [keeps_next]
  simp only [accOp_keep]

theorem execAadd_keep (m : Nat) (o : OpE) (s : State) :
    keeps (execAadd m o s) s := by
  unfold execAadd
  rw [keeps_next]
  simp only [accOp_keep]

theorem execAldl_keep (m : Nat) (o : OpE) (s : State) :
    keeps (execAldl m o s) s := by
  unfold execAldl
  rw [keeps_next]
  simp only [instr_keep]

theorem execAldh_keep (m : Nat) (o : OpE) (s : State) :
    keeps (execAldh m o s) s := by
  unfold execAldh
  rw [keeps_next]
  simp only [instr_keep]

theorem execAldg_keep (m : Nat) (o : OpE) (s : State) :
    keeps (execAldg m o s) s := by
  unfold execAldg
  rw [keeps_next]
  simp only [instr_keep]

theorem execRndc_keep (m : Nat) (o : OpE) (s : State) :
    keeps (execRndc m o s) s := by
  unfold execRndc
  rw [keeps_next]
  simp only [extract_keep]

theorem execExtt_keep (m : Nat) (o : OpE) (s : State) :
    keeps (execExtt m o s) s := by
  unfold execExtt
  rw [keeps_next]
  simp only [extract_keep]

theorem execRdl_keep (m : Nat) (o : OpE) (s : State) :
    keeps (execRdl m o s) s := by
  unfold execRdl
  rw [keeps_next]
  simp only [instr_keep]

theorem execRdh_keep (m : Nat) (o : OpE) (s : State) :
    keeps (execRdh m o s) s := by
  unfold execRdh
  rw [keeps_next]
  simp only [instr_keep]

theorem execRdg_keep (m : Nat) (o : OpE) (s : State) :
    keeps (execRdg m o s) s := by
  unfold execRdg
  rw [keeps_next]
  simp only [instr_keep]

theorem execNorm_keep (m : Nat) (o : OpA) (s : State) :
    keeps (execNorm m o s) s := by
  unfold execNorm
  rw [keeps_next]
  simp only [instr_keep]

theorem execExpn_keep (m : Nat) (o : OpA) (s : State) :
    keeps (execExpn m o s) s := by
  unfold execExpn
  rw [keeps_next]
  simp only [instr_keep]

theorem execExpnAcc_keep (m : Nat) (o : OpA) (s : State) :
    keeps (execExpnAcc m o s) s := by
  unfold execExpnAcc
  rw [keeps_next]
  simp only [instr_keep]

theorem xipNote_keep (s : State) (l : Loc) :
    (xipNote s l).keep = s.keep := by
  unfold xipNote
  (try dsimp only)
  (repeat' split) <;> (first | rfl | simp (disch := (intros; (repeat' split) <;> simp only [wr_keep, fire_keep, keep_rec, keep_ite, ite_self, implies_true, keep_foldl, keep_foldl2, id_eq])) only [wr_keep, fire_keep])

theorem load_keep (s : State) (m : Nat) (legal : Bool) (src : Nat) (addr : Nat) (size : Nat) (sext : Bool) (dst : Nat) (upd : Core → Core) :
    (load s m legal src addr size sext dst upd).keep = s.keep := by
  unfold load
  dsimp only
  (repeat' split) <;> simp only [xipNote_keep, setCore_keep, offEvt_keep, alignTrap_keep, illegal_keep, absentTrap_keep, goOn_keep, freeze_keep]

theorem execLd_keep (m : Nat) (o : OpC) (s : State) :
    keeps (execLd m o s) s := by
  unfold execLd
  rw [keeps_next]
  simp only [load_keep]

theorem execLdu_keep (m : Nat) (o : OpC) (s : State) :
    keeps (execLdu m o s) s := by
  unfold execLdu
  rw [keeps_next]
  simp only [load_keep]

theorem execLdw_keep (m : Nat) (o : OpB) (s : State) :
    keeps (execLdw m o s) s := by
  unfold execLdw
  rw [keeps_next]
  simp only [load_keep]

theorem execBCond_keep (m : Nat) (o : OpD) (s : State) :
    keeps (execBCond m o s) s := by
  unfold execBCond
  rw [keeps_next]
  simp only [jumped_keep, goOn_keep, keep_ite, ite_self]

theorem execCallCond_keep (m : Nat) (o : OpD) (s : State) :
    keeps (execCallCond m o s) s := by
  unfold execCallCond
  rw [keeps_next]
  simp only [setCore_keep, jumped_keep, goOn_keep, keep_ite, ite_self]

theorem execJr_keep (m : Nat) (o : OpA) (s : State) :
    keeps (execJr m o s) s := by
  unfold execJr
  rw [keeps_next]
  simp only [setCore_keep, illegal_keep, jumped_keep, keep_ite, ite_self]

theorem execJrl_keep (m : Nat) (o : OpA) (s : State) :
    keeps (execJrl m o s) s := by
  unfold execJrl
  rw [keeps_next]
  simp only [setCore_keep, illegal_keep, jumped_keep, keep_ite, ite_self]

theorem setPend_keep (s : State) (m : Nat) (v : Word) :
    (setPend s m v).keep = s.keep := by
  unfold setPend
  simp only [wr_keep]

theorem wakeDb_keep (s : State) (m : Nat) :
    (wakeDb s m).keep = s.keep := by
  unfold wakeDb
  dsimp only
  (repeat' split) <;> simp only [syncCore_keep, wr_keep, goOn_keep, modCore_keep, setPend_keep]

theorem ring_keep (s : State) (m : Nat) (mask : Word) :
    (ring s m mask).keep = s.keep := by
  unfold ring
  simp only [setPend_keep, wakeDb_keep, keep_ite, ite_self]

theorem dropRing_keep (s : State) (k : Nat) :
    (dropRing s k).keep = s.keep := by
  unfold dropRing
  simp only [inc_keep, fireK_keep]

theorem chanRing_keep (s : State) (k : Nat) (m : Nat) (bit : Nat) :
    (chanRing s k m bit).keep = s.keep := by
  unfold chanRing
  simp only [ring_keep, dropRing_keep, keep_ite, ite_self]

theorem chanPut_keep (s : State) (k : Nat) (c : Nat) (mid : Nat) (sup : Bool) (word : Word) (epoch : Nat) :
    (chanPut s k c mid sup word epoch).2.keep = s.keep := by
  unfold chanPut
  dsimp only
  (repeat' split) <;> simp only [inc_keep, fireK_keep, wr_keep, chanRing_keep]

theorem chanGet_keep (s : State) (k : Nat) (c : Nat) (mid : Nat) (sup : Bool) :
    (chanGet s k c mid sup).2.keep = s.keep := by
  unfold chanGet
  dsimp only
  (repeat' split) <;> simp only [inc_keep, fireK_keep, wr_keep, chanRing_keep]

theorem answerLoad_keep (s : State) (m : Nat) (i : Nat) (v : BitVec 64) :
    (answerLoad s m i v).keep = s.keep := by
  unfold answerLoad
  simp only [modCore_keep]

theorem chanReach_keep (s : State) (m : Nat) (i : Nat) :
    (chanReach s m i).keep = s.keep := by
  unfold chanReach
  dsimp only
  (repeat' split) <;> simp only [chanGet_keep, chanPut_keep, answerLoad_keep]

theorem mbxIssue_keep (s : State) (m : Nat) (srcs : List Nat) (d : Nat) (legal : Bool) (a : Nat) (kind : Nat → Nat → LoadKind) :
    (mbxIssue s m srcs d legal a kind).keep = s.keep := by
  unfold mbxIssue
  simp only [offEvt_keep, setCore_keep, illegal_keep, absentTrap_keep, goOn_keep, keep_ite, ite_self]

theorem disableSlot_keep (s : State) (k : Nat) (i : Nat) :
    (disableSlot s k i).keep = s.keep := by
  unfold disableSlot
  simp only [wr_keep, dequeue_keep, keep_ite, ite_self]

theorem abandon_keep (s : State) (m : Nat) :
    (abandon s m).keep = s.keep := by
  unfold abandon
  dsimp only
  (repeat' split) <;> simp only [fireK_keep, wr_keep, endTask_keep, keep_ite, ite_self, implies_true, keep_foldl]

theorem execTaskPost_keep (m : Nat) (o : OpA) (s : State) :
    keeps (execTaskPost m o s) s := by
  unfold execTaskPost
  rw [keeps_next]
  simp only [setCore_keep, illegal_keep, activate_keep, goOn_keep, keep_ite, ite_self]

theorem execTaskGet_keep (m : Nat) (o : OpA) (s : State) :
    keeps (execTaskGet m o s) s := by
  unfold execTaskGet
  dsimp only
  rw [keeps_next]
  (repeat' split) <;> simp only [setSch_keep, setCore_keep, syncCore_keep, wr_keep, illegal_keep, giveTask_keep]

theorem execTaskDone_keep (m : Nat) (o : OpA) (s : State) :
    keeps (execTaskDone m o s) s := by
  unfold execTaskDone
  rw [keeps_next]
  simp only [setCore_keep, inc_keep, fireK_keep, wr_keep, illegal_keep, goOn_keep, endTask_keep, keep_ite, ite_self]

theorem execTaskDisable_keep (w : Wr) (k : Nat) (slot : Nat) (s : State) :
    keeps (execTaskDisable w k slot s) s := by
  unfold execTaskDisable
  rw [keeps_next]
  simp only [disableSlot_keep, retire_keep]

theorem execSchRaise_keep (w : Wr) (k : Nat) (evt : Nat) (s : State) :
    keeps (execSchRaise w k evt s) s := by
  unfold execSchRaise
  rw [keeps_next]
  simp only [evtK_keep, retire_keep]

theorem execMbxPut_keep (m : Nat) (o : OpA) (s : State) :
    keeps (execMbxPut m o s) s := by
  unfold execMbxPut
  rw [keeps_next]
  simp only [mbxIssue_keep]

theorem execMbxGet_keep (m : Nat) (o : OpA) (s : State) :
    keeps (execMbxGet m o s) s := by
  unfold execMbxGet
  rw [keeps_next]
  simp only [mbxIssue_keep]

theorem execMbxChannelPut_keep (m : Nat) (i : Nat) (s : State) :
    keeps (execMbxChannelPut m i s) s := by
  unfold execMbxChannelPut
  rw [keeps_next]
  simp only [chanReach_keep]

theorem execMbxChannelGet_keep (m : Nat) (i : Nat) (s : State) :
    keeps (execMbxChannelGet m i s) s := by
  unfold execMbxChannelGet
  rw [keeps_next]
  simp only [chanReach_keep]

theorem execChPutWrite_keep (w : Wr) (ch : Nat) (v : Word) (s : State) :
    keeps (execChPutWrite w ch v s) s := by
  unfold execChPutWrite
  rw [keeps_next]
  simp only [retire_keep, inc_keep, chanPut_keep, keep_ite, ite_self]

theorem execChGetRead_keep (w : Wr) (ch : Nat) (s : State) :
    keeps (execChGetRead w ch s) s := by
  unfold execChGetRead
  rw [keeps_next]
  simp only [chanGet_keep, answer_keep]

theorem execChBindWrite_keep (w : Wr) (ch : Nat) (v : Word) (s : State) :
    keeps (execChBindWrite w ch v s) s := by
  unfold execChBindWrite
  rw [keeps_next]
  simp only [retire_keep, wr_keep, keep_ite, ite_self]

theorem execBindLock_keep (w : Wr) (k : Nat) (s : State) :
    keeps (execBindLock w k s) s := by
  unfold execBindLock
  rw [keeps_next]
  simp only [wr_keep, retire_keep]

theorem execDbRing_keep (m : Nat) (o : OpA) (s : State) :
    keeps (execDbRing m o s) s := by
  unfold execDbRing
  rw [keeps_next]
  simp only [setCore_keep, illegal_keep, absentTrap_keep, goOn_keep, dropRing_keep, keep_rec, keep_ite, ite_self]

theorem execDoorbellSet_keep (m : Nat) (mask : Word) (s : State) :
    keeps (execDoorbellSet m mask s) s := by
  unfold execDoorbellSet
  rw [keeps_next]
  simp only [ring_keep, keep_rec, keep_ite, ite_self]

theorem execDbWait_keep (m : Nat) (o : OpA) (s : State) :
    keeps (execDbWait m o s) s := by
  unfold execDbWait
  rw [keeps_next]
  simp only [setCore_keep, fireK_keep, syncCore_keep, wr_keep, illegal_keep, goOn_keep, setPend_keep, keep_ite, ite_self]

theorem execDbPendWrite_keep (w : Wr) (m : Nat) (mask : Word) (s : State) :
    keeps (execDbPendWrite w m mask s) s := by
  unfold execDbPendWrite
  rw [keeps_next]
  simp only [retire_keep, ring_keep, keep_ite, ite_self]

theorem execDbClr_keep (w : Wr) (m : Nat) (mask : Word) (s : State) :
    keeps (execDbClr w m mask s) s := by
  unfold execDbClr
  rw [keeps_next]
  simp only [retire_keep, setPend_keep, keep_ite, ite_self]

theorem execDbMaskWrite_keep (w : Wr) (m : Nat) (v : Word) (s : State) :
    keeps (execDbMaskWrite w m v s) s := by
  unfold execDbMaskWrite
  rw [keeps_next]
  simp only [retire_keep, wr_keep, wakeDb_keep, keep_ite, ite_self]

theorem execSchedRamError_keep (k : Nat) (ue : Bool) (mbx : Bool) (i : Nat) (s : State) :
    keeps (execSchedRamError k ue mbx i s) s := by
  unfold execSchedRamError
  rw [keeps_next]
  simp only [disableSlot_keep, fireK_keep, wr_keep, keep_ite, ite_self]

theorem fence_keep (s : State) (m : Nat) (o : OpA) (f : Stall) (always : Bool) :
    (fence s m o f always).keep = s.keep := by
  unfold fence
  simp only [setCore_keep, illegal_keep, goOn_keep, keep_ite, ite_self]

theorem cycCommitGo_keep (s : State) (m : Nat) (n : Nat) (d : Nat) :
    (cycCommitGo s m n d).keep = s.keep := by
  unfold cycCommitGo
  simp only [goOn_keep, keep_rec]

theorem unblock_keep (s : State) (m : Nat) :
    (unblock s m).keep = s.keep := by
  unfold unblock
  dsimp only
  (repeat' split) <;> simp only [setSch_keep, wr_keep, modCore_keep]

theorem takeNmi_keep (s : State) (m : Nat) :
    (takeNmi s m).keep = s.keep := by
  unfold takeNmi
  dsimp only
  (repeat' split) <;> simp only [syncCore_keep, unblock_keep, jumped_keep]

theorem execFncR_keep (m : Nat) (o : OpA) (s : State) :
    keeps (execFncR m o s) s := by
  unfold execFncR
  rw [keeps_next]
  simp only [fence_keep]

theorem execFncW_keep (m : Nat) (o : OpA) (s : State) :
    keeps (execFncW m o s) s := by
  unfold execFncW
  rw [keeps_next]
  simp only [fence_keep]

theorem execFncRw_keep (m : Nat) (o : OpA) (s : State) :
    keeps (execFncRw m o s) s := by
  unfold execFncRw
  rw [keeps_next]
  simp only [fence_keep]

theorem execFncSys_keep (m : Nat) (o : OpA) (s : State) :
    keeps (execFncSys m o s) s := by
  unfold execFncSys
  rw [keeps_next]
  simp only [fence_keep]

theorem execFncCyc_keep (m : Nat) (o : OpA) (s : State) :
    keeps (execFncCyc m o s) s := by
  unfold execFncCyc
  rw [keeps_next]
  simp only [setCore_keep, illegal_keep, keep_ite, ite_self]

theorem execFncCycCommit_keep (m : Nat) (n : Nat) (s : State) :
    keeps (execFncCycCommit m n s) s := by
  unfold execFncCycCommit
  (try dsimp only)
  rw [keeps_next]
  (repeat' split) <;> (first | rfl | simp (disch := (intros; (repeat' split) <;> simp only [cycCommitGo_keep, wr_keep, keep_rec, keep_ite, ite_self, implies_true, keep_foldl, keep_foldl2, id_eq])) only [cycCommitGo_keep])

theorem execSrd_keep (m : Nat) (o : OpS) (s : State) :
    keeps (execSrd m o s) s := by
  unfold execSrd
  rw [keeps_next]
  simp only [setCore_keep, illegal_keep, goOn_keep, privTrap_keep, keep_ite, ite_self]

theorem execSwr_keep (m : Nat) (o : OpS) (s : State) :
    keeps (execSwr m o s) s := by
  unfold execSwr
  rw [keeps_next]
  simp only [setCore_keep, illegal_keep, jumped_keep, goOn_keep, privTrap_keep, keep_ite, ite_self]

theorem execTret_keep (m : Nat) (o : OpS) (s : State) :
    keeps (execTret m o s) s := by
  unfold execTret
  rw [keeps_next]
  simp only [illegal_keep, jumped_keep, privTrap_keep, keep_ite, ite_self]

theorem execNret_keep (m : Nat) (o : OpS) (s : State) :
    keeps (execNret m o s) s := by
  unfold execNret
  rw [keeps_next]
  simp only [setCore_keep, syncCore_keep, illegal_keep, jumped_keep, takeNmi_keep, privTrap_keep, keep_ite, ite_self]

theorem execSyscall_keep (m : Nat) (hi : BitVec 4) (imm : BitVec 16) (s : State) :
    keeps (execSyscall m hi imm s) s := by
  unfold execSyscall
  rw [keeps_next]
  simp only [setCore_keep, trap_keep, illegal_keep, keep_ite, ite_self]

theorem execBrk_keep (m : Nat) (o : OpS) (s : State) :
    keeps (execBrk m o s) s := by
  unfold execBrk
  rw [keeps_next]
  simp only [trap_keep, illegal_keep, keep_ite, ite_self]

theorem execFreezeQ_keep (m : Nat) (o : OpS) (s : State) :
    keeps (execFreezeQ m o s) s := by
  unfold execFreezeQ
  rw [keeps_next]
  simp only [setCore_keep, illegal_keep, goOn_keep, privTrap_keep, keep_ite, ite_self]

theorem execPwrHint_keep (m : Nat) (o : OpS) (s : State) :
    keeps (execPwrHint m o s) s := by
  unfold execPwrHint
  rw [keeps_next]
  simp only [setCore_keep, syncCore_keep, illegal_keep, goOn_keep, privTrap_keep, keep_ite, ite_self]

theorem execNmiEntry_keep (m : Nat) (src : Nat) (s : State) :
    keeps (execNmiEntry m src s) s := by
  unfold execNmiEntry
  rw [keeps_next]
  simp only [takeNmi_keep, modCore_keep, keep_rec, keep_ite, ite_self]

theorem execCoreLockstepDiff_keep (k : Nat) (q : Nat) (s : State) :
    keeps (execCoreLockstepDiff k q s) s := by
  unfold execCoreLockstepDiff
  rw [keeps_next]
  simp only [fireK_keep, modCore_keep, freeze_keep, keep_ite, ite_self]

theorem execTcmEccError_keep (m : Nat) (ue : Bool) (s : State) :
    keeps (execTcmEccError m ue s) s := by
  unfold execTcmEccError
  rw [keeps_next]
  simp only [freeWord_keep, inc_keep, fireK_keep, wr_keep, freeBit_keep, modCore_keep, freeze_keep, keep_ite, ite_self]

theorem execSramEccError_keep (k : Nat) (ue : Bool) (s : State) :
    keeps (execSramEccError k ue s) s := by
  unfold execSramEccError
  rw [keeps_next]
  simp only [fireK_keep, keep_ite, ite_self]

end State

end Sys2Proof.Machine
end

