-- ==== Sys2Proof/Laws/Core.lean ====
section
/-!
SUPPORT. What the operations that end an instruction can do: going on in sequence, jumping, freezing and trapping leave the
registers and flags that the instruction gave, every other core and every memory.
-/
namespace Sys2Proof.Machine

namespace State

@[simp] theorem fire_cores (s : State) (n : Nat) : (s.fire n).cores = s.cores := by unfold fire; split <;> rfl
@[simp] theorem fire_regs (s : State) (n : Nat) : (s.fire n).regs = s.regs := by unfold fire; split <;> rfl

theorem syncFz_cores (s : State) : s.syncFz.cores = s.cores := by
  unfold syncFz; dsimp only; split <;> simp

theorem syncCore_cores (s : State) (m : Nat) : (s.syncCore m).cores = s.cores := by
  unfold syncCore; dsimp only; split <;> simp

/-- A freeze leaves every core as it is. -/
theorem freeze_cores (s : State) (r : FzRec) : (s.freeze r).cores = s.cores := by
  unfold freeze
  split
  · rfl
  · dsimp only
    (repeat' split) <;> simp [syncFz_cores, syncCore_cores, fzBit]

theorem offEvt_cores (s : State) (mid a : Nat) (w : Bool) : (s.offEvt mid a w).cores = s.cores := by
  unfold offEvt; split <;> simp

theorem absentEvt_cores (s : State) (mid a : Nat) (w i : Bool) : (s.absentEvt mid a w i).cores = s.cores := by
  unfold absentEvt; simp

theorem core_of_cores {s t : State} (h : t.cores = s.cores) (n : Nat) : t.core n = s.core n := by unfold core; rw [h]

/-- `t` has the registers and flags of `s` on core `m`, and every other core of `s`. -/
def alike (s t : State) (m : Nat) : Prop := (t.core m).data = (s.core m).data ∧ ∀ n, n ≠ m → t.core n = s.core n

theorem alike_of_cores {s t : State} (m : Nat) (h : t.cores = s.cores) : alike s t m :=
  ⟨by rw [core_of_cores h], fun n _ => core_of_cores h n⟩

theorem alike_trans {s t u : State} {m : Nat} (h : alike s t m) (g : alike t u m) : alike s u m :=
  ⟨g.1.trans h.1, fun n hn => (g.2 n hn).trans (h.2 n hn)⟩

theorem alike_setCore (s : State) (m : Nat) (c : Core) (h : c.data = (s.core m).data) : alike s (s.setCore m c) m :=
  ⟨by rw [core_setCore]; exact h, fun n hn => core_setCore_ne s m n c hn⟩

theorem fetchExl_alike (s : State) (m : Nat) : alike s (s.fetchExl m) m := by
  unfold fetchExl
  dsimp only
  split
  · exact alike_of_cores m (freeze_cores _ _)
  · split
    · refine alike_trans (alike_of_cores m (absentEvt_cores s _ _ _ _)) (alike_setCore _ _ _ ?_)
      rw [core_of_cores (absentEvt_cores s _ _ _ _)]; rfl
    · exact alike_of_cores m (offEvt_cores _ _ _ _)
    · exact alike_of_cores m rfl

/-- Entering a trap leaves the registers and flags of its core. -/
theorem enterTrap_alike (s : State) (m : Nat) (cause epc eaddr : Word) : alike s (s.enterTrap m cause epc eaddr) m := by
  unfold enterTrap
  dsimp only
  refine alike_trans (t := s.setCore m _) ?_ (fetchExl_alike _ _)
  exact alike_setCore _ _ _ rfl

theorem trap_alike (s : State) (m : Nat) (cause epc eaddr : Word) : alike s (s.trap m cause epc eaddr) m := by
  unfold trap
  dsimp only
  split
  · refine alike_trans (t := s.setCore m _) ?_ (alike_of_cores m (freeze_cores _ _))
    exact alike_setCore _ _ _ rfl
  · exact enterTrap_alike _ _ _ _ _

theorem fetchAt_alike (s : State) (m : Nat) : alike s (s.fetchAt m) m := by
  unfold fetchAt
  dsimp only
  split
  · exact fetchExl_alike _ _
  · split
    · exact alike_of_cores m (freeze_cores _ _)
    · split
      · exact alike_trans (alike_of_cores m (absentEvt_cores s _ _ _ _)) (enterTrap_alike _ _ _ _ _)
      · exact alike_of_cores m (offEvt_cores _ _ _ _)
      · exact alike_of_cores m rfl

theorem goOn_alike (s : State) (m : Nat) (c : Core) : alike (s.setCore m c) (s.goOn m c) m := by
  unfold goOn
  dsimp only
  split
  · exact fetchAt_alike _ _
  · exact alike_of_cores m rfl

theorem keep_mem {s t : State} (h : t.keep = s.keep) : t.mem = s.mem ∧ t.nor = s.nor ∧ t.mram = s.mram := by
  rw [keep_def, keep_def] at h
  simp only [Prod.mk.injEq] at h
  exact h.2.2

/-- An instruction that goes on in sequence. -/
theorem goOn_ran (s : State) (m : Nat) (c : Core) : s.ran m c (s.goOn m c.done) := by
  have h := goOn_alike s m c.done
  have k := keep_mem (goOn_keep s m c.done)
  refine ⟨?_, fun n hn => ?_, k.1, k.2.1, k.2.2, fun hp => ?_⟩
  · rw [h.1, core_setCore]; rfl
  · rw [h.2 n hn, core_setCore_ne _ _ _ _ hn]
  · have e : s.goOn m c.done = s.setCore m c.done := by
      unfold goOn; exact if_neg hp
    rw [e, core_setCore]
    exact ⟨rfl, rfl⟩

/-- A fetch that meets nothing changes nothing. -/
theorem fetchAt_ok (s : State) (m : Nat) (h : s.fetchOk m (s.core m).pc = true) : s.fetchAt m = s := by
  unfold fetchOk at h
  dsimp only at h
  simp only [Bool.and_eq_true, Option.isNone_iff_eq_none, bne_iff_ne, ne_eq] at h
  obtain ⟨⟨h1, h2⟩, h3⟩ := h
  unfold fetchAt fetchExl
  dsimp only
  rw [h1]
  dsimp only
  split <;> split <;> first | rfl | contradiction

/-- An instruction that jumps. -/
theorem jumped_went (s : State) (m : Nat) (c : Core) (pc : Word) : s.went m c pc (s.jumped m (c.doneAt pc)) := by
  have h := fetchAt_alike (s.setCore m (c.doneAt pc)) m
  have k := keep_mem (jumped_keep s m (c.doneAt pc))
  refine ⟨?_, fun n hn => ?_, k.1, k.2.1, k.2.2, fun hp => ?_⟩
  · unfold jumped; rw [h.1, core_setCore]; rfl
  · unfold jumped; rw [h.2 n hn, core_setCore_ne _ _ _ _ hn]
  · unfold jumped
    refine fetchAt_ok _ _ ?_
    rw [core_setCore]; exact hp

theorem syncFz_frozen (s : State) : s.syncFz.frozen = s.frozen := by
  unfold syncFz; dsimp only; split <;> simp

theorem syncCore_frozen (s : State) (m : Nat) : (s.syncCore m).frozen = s.frozen := by
  unfold syncCore; dsimp only; split <;> simp

@[simp] theorem fire_frozen (s : State) (n : Nat) : (s.fire n).frozen = s.frozen := by unfold fire; split <;> rfl

/-- The master of a freeze record is frozen. -/
theorem freeze_isFrozen (s : State) (r : FzRec) : (s.freeze r).isFrozen r.mid = true := by
  by_cases h : s.isFrozen r.mid = true
  · unfold freeze; rw [if_pos h]; exact h
  · have e : (s.freeze r).frozen = Tab.put s.frozen r.mid r := by
      unfold freeze
      rw [if_neg h]
      dsimp only
      (repeat' split) <;> simp [syncFz_frozen, syncCore_frozen, fzBit]
    unfold isFrozen
    rw [e]
    generalize s.frozen = l
    clear e h
    induction l with
    | nil => simp [Tab.put]
    | cons x l ih =>
      obtain ⟨a, b⟩ := x
      unfold Tab.put
      split
      · simp
      · split
        · simp
        · simp only [List.any_cons, ih, Bool.or_true]

/-- A trap of a core (R216, R217). -/
theorem trap_trapped (s : State) (m : Nat) (cause epc eaddr : Word) :
    s.trapped m (s.core m) cause epc eaddr (s.trap m cause epc eaddr) := by
  have h := trap_alike s m cause epc eaddr
  have k := keep_mem (trap_keep s m cause epc eaddr)
  refine ⟨h.1, h.2, k.1, k.2.1, k.2.2, fun hx => ?_, fun hx => ?_⟩
  · unfold trap
    dsimp only
    rw [if_pos hx]
    exact freeze_isFrozen _ ⟨_, m, 4, false, false, _, true, _⟩
  · intro u hu
    have hx' : ¬ (s.core m).exl = true := by rw [hx]; exact Bool.false_ne_true
    have e : s.trap m cause epc eaddr = u.fetchExl m := by
      unfold trap
      exact if_neg hx'
    rw [e]
    have hu' : u.fetchOk m (u.core m).pc = true := by
      have : (u.core m).pc = (s.core m).tvec := by simp only [u, core_setCore]
      rw [this]; exact hu
    have hf := fetchAt_ok u m hu'
    have he : (u.core m).exl = true := by simp only [u, core_setCore]
    unfold fetchAt at hf
    dsimp only at hf
    rw [if_pos he] at hf
    exact hf

theorem ready_run {s : State} {m : Nat} {l : List Nat} (h : s.ready m l = true) : s.canRun m = true := by
  unfold ready at h
  simp only [Bool.and_eq_true] at h
  exact h.1

theorem ready_awaits {s : State} {m : Nat} {l : List Nat} (h : s.ready m l = true) {i : Nat} (hi : i ∈ l) :
    (s.core m).awaits i = false := by
  unfold ready at h
  simp only [Bool.and_eq_true] at h
  simpa using List.all_eq_true.1 h.2 i hi

/-- An instruction that only works on registers runs. -/
theorem instr_ran (s : State) (m : Nat) (srcs : List Nat) (d : Nat) (legal : Bool) (f : Core → Core)
    (h : s.ready m (d :: srcs) = true) (hl : legal = true) : s.ran m (f (s.core m)) (s.instr m srcs d legal f) := by
  unfold ready at h
  simp only [List.all_cons, Bool.and_eq_true, Bool.not_eq_true'] at h
  obtain ⟨h1, h2, h3⟩ := h
  unfold instr
  have h4 : srcs.any (s.core m).awaits = false := by
    rw [List.any_eq_false]
    intro x hx
    have := List.all_eq_true.1 h3 x hx
    simpa using this
  simp only [h1, hl, h2, h4, Bool.not_true, Bool.false_eq_true, if_false, Bool.or_self]
  exact goOn_ran s m (f (s.core m))

end State

end Sys2Proof.Machine
end

