-- ==== Sys2Proof/Laws/Aside.lean ====
section
/-!
SUPPORT. What a scheduler event, a freeze and a fetch leave alone: they touch the cores, the scheduler, the freeze unit and
the records of absent and switched-off accesses, and owe detections; nothing else of the package.
-/
namespace Sys2Proof.Machine

namespace State

/-- A field read after a field write. -/
theorem rd_wr (s : State) (b c : Nat) (f g : Fld) (v : Nat) :
    (s.wr b f v).rd c g = if g.key c = f.key b then v % 2 ^ f.wid % 2 ^ 32 else s.rd c g := by
  unfold rd
  rw [wr_regs]
  split
  · rename_i h
    unfold RegFile.get RegFile.set
    rw [h, RegFile.find_put_same]
    simp
  · rename_i h
    exact RegFile.get_set_ne _ _ _ _ _ _ h

/-- A cell register read after a cell register write. -/
theorem crd_cwr (s : State) (c d : Nat) (f g : Fld) (v : Nat) :
    (s.cwr c f v).crd d g = if g.key (cellB d) = f.key (cellB c) then v % 2 ^ f.wid % 2 ^ 32 else s.crd d g := by
  unfold crd cwr
  split
  · rename_i h
    unfold RegFile.get RegFile.set
    rw [h, RegFile.find_put_same]
    simp
  · rename_i h
    exact RegFile.get_set_ne _ _ _ _ _ _ h

@[simp] theorem rd_cwr (s : State) (c : Nat) (f : Fld) (v b : Nat) (g : Fld) : (s.cwr c f v).rd b g = s.rd b g := rfl
@[simp] theorem crd_wr (s : State) (c : Nat) (f : Fld) (v b : Nat) (g : Fld) : (s.wr b g v).crd c f = s.crd c f := rfl
@[simp] theorem rd_fire (s : State) (n b : Nat) (f : Fld) : (s.fire n).rd b f = s.rd b f := by unfold rd; rw [fire_regs]
@[simp] theorem rd_retire (s : State) (w : Wr) (a b : Nat) (f : Fld) : (s.retire w a).rd b f = s.rd b f := rfl
@[simp] theorem rd_answer (s : State) (m a : Nat) (v : Word) (b : Nat) (f : Fld) : (s.answer m a v).rd b f = s.rd b f := rfl

@[simp] theorem rd_setCore (s : State) (m : Nat) (x : Core) (b : Nat) (f : Fld) : (s.setCore m x).rd b f = s.rd b f := rfl
@[simp] theorem rd_setSch (s : State) (k : Nat) (x : Sched) (b : Nat) (f : Fld) : (s.setSch k x).rd b f = s.rd b f := rfl
@[simp] theorem rd_setLane (s : State) (n : Nat) (x : Lane) (b : Nat) (f : Fld) : (s.setLane n x).rd b f = s.rd b f := rfl
@[simp] theorem rd_setCtx (s : State) (n : Nat) (x : Ctx) (b : Nat) (f : Fld) : (s.setCtx n x).rd b f = s.rd b f := rfl
@[simp] theorem rd_setCell (s : State) (n : Nat) (x : Cell) (b : Nat) (f : Fld) : (s.setCell n x).rd b f = s.rd b f := rfl
@[simp] theorem rd_setModul (s : State) (k : Nat) (x : Modul) (b : Nat) (f : Fld) : (s.setModul k x).rd b f = s.rd b f := rfl
@[simp] theorem rd_setArm (s : State) (k a : Nat) (x : ArmSt) (b : Nat) (f : Fld) : (s.setArm k a x).rd b f = s.rd b f := rfl
@[simp] theorem rd_setEst (s : State) (k c : Nat) (x : CellEst) (b : Nat) (f : Fld) : (s.setEst k c x).rd b f = s.rd b f := rfl
@[simp] theorem rd_setAd (s : State) (a : Nat) (x : AdSt) (b : Nat) (f : Fld) : (s.setAd a x).rd b f = s.rd b f := rfl
@[simp] theorem rd_setLaw (s : State) (k : Nat) (x : LawSt) (b : Nat) (f : Fld) : (s.setLaw k x).rd b f = s.rd b f := rfl
@[simp] theorem rd_setAcq (s : State) (k : Nat) (x : AcqSt) (b : Nat) (f : Fld) : (s.setAcq k x).rd b f = s.rd b f := rfl
@[simp] theorem rd_modDma (s : State) (k c : Nat) (g : DmaCh → DmaCh) (b : Nat) (f : Fld) : (s.modDma k c g).rd b f = s.rd b f := rfl
@[simp] theorem rd_modArm (s : State) (k a : Nat) (g : ArmSt → ArmSt) (b : Nat) (f : Fld) : (s.modArm k a g).rd b f = s.rd b f := rfl
@[simp] theorem rd_modEst (s : State) (k c : Nat) (g : CellEst → CellEst) (b : Nat) (f : Fld) : (s.modEst k c g).rd b f = s.rd b f := rfl
@[simp] theorem rd_modAlm (s : State) (g : Almanac → Almanac) (b : Nat) (f : Fld) : (s.modAlm g).rd b f = s.rd b f := rfl
@[simp] theorem rd_modPwr (s : State) (g : PwrSt → PwrSt) (b : Nat) (f : Fld) : (s.modPwr g).rd b f = s.rd b f := rfl

/-- The register fields that a scheduler event, a doorbell, a freeze or a fetch can change, by word and lowest bit: a core's
STATE, the freeze unit's map and head record, the records of absent and switched-off accesses, the schedulers' slots and
counts, the doorbells. -/
def asideKey (a l : Nat) : Prop :=
  (0x20046000 ≤ a ∧ a < 0x20046200 ∧ a % 16 = 8 ∧ l = 0) ∨ (0x20047000 ≤ a ∧ a < 0x20047010) ∨
  (0x20047018 ≤ a ∧ a < 0x2004702C) ∨ (0x20060010 ≤ a ∧ a < 0x20060018) ∨ (0x20070018 ≤ a ∧ a < 0x20070020) ∨
  ((a / 0x1000000 = 0x30 ∨ a / 0x1000000 = 0x31) ∧
    ((a % 0x1000000 = 0 ∧ l = 0) ∨ a % 0x1000000 = 8 ∨ (a % 0x1000000 = 12 ∧ l = 0) ∨
     (0x2000 ≤ a % 0x1000000 ∧ a % 0x1000000 < 0x2400) ∨ (0x10004 ≤ a % 0x1000000 ∧ a % 0x1000000 < 0x10008) ∨
     (0x10800 ≤ a % 0x1000000 ∧ a % 0x1000000 < 0x10900)))

/-- The rest of the machine: what they never touch. -/
def rest (s : State) : State :=
  { s with regs := [], cores := [], fz := [], frozen := [], sched := [], acq := [], fresh := 0,
           fc := { s.fc with detect := [] } }

/-- `t` is `s` but for the cores, the schedulers, the doorbells, the freeze unit and detections under way. -/
def aside (s t : State) : Prop :=
  t.rest = s.rest ∧ (∀ n ∈ s.fc.detect, n ∈ t.fc.detect) ∧
  ∀ a l, ¬asideKey a l → l < 32 → t.regs.find (a * 32 + l) = s.regs.find (a * 32 + l)

theorem at_lsb {f : Fld} {i : Nat} (h : f.lsb < 32) : (f.at i).lsb < 32 := h

theorem aside_refl (s : State) : s.aside s := ⟨rfl, fun _ h => h, fun _ _ _ _ => rfl⟩

theorem aside_trans {s t u : State} (h : s.aside t) (k : t.aside u) : s.aside u :=
  ⟨k.1.trans h.1, fun n hn => k.2.1 n (h.2.1 n hn), fun a l h1 h2 => (k.2.2 a l h1 h2).trans (h.2.2 a l h1 h2)⟩

/-- A register outside keeps its value. -/
theorem aside_rd {s t : State} (h : s.aside t) (b : Nat) (f : Fld) (h1 : ¬asideKey (b + f.off) f.lsb) (h2 : f.lsb < 32) :
    t.rd b f = s.rd b f := by
  unfold rd RegFile.get Fld.key
  rw [h.2.2 _ _ h1 h2]

theorem aside_wr {s t : State} (h : s.aside t) (b : Nat) (f : Fld) (v : Nat) (h1 : asideKey (b + f.off) f.lsb)
    (h2 : f.lsb < 32) : s.aside (t.wr b f v) := by
  refine aside_trans h ⟨rfl, fun _ h => h, fun a l h3 h4 => ?_⟩
  refine RegFile.find_put_ne _ _ _ _ ?_
  unfold Fld.key
  intro e
  have h5 : a = b + f.off := by omega
  have h6 : l = f.lsb := by omega
  exact h3 (h5 ▸ h6 ▸ h1)

theorem fire_aside {s t : State} (h : s.aside t) (n : Nat) : s.aside (t.fire n) := by
  refine aside_trans h ?_
  unfold fire
  split
  · exact ⟨rfl, fun _ h => List.mem_append_left _ h, fun _ _ _ _ => rfl⟩
  · exact aside_refl _

theorem fireK_aside {s t : State} (h : s.aside t) (k n : Nat) : s.aside (t.fireK k n) := fire_aside h _

theorem setCore_aside {s t : State} (h : s.aside t) (m : Nat) (c : Core) : s.aside (t.setCore m c) :=
  aside_trans h ⟨rfl, fun _ h => h, fun _ _ _ _ => rfl⟩

theorem modCore_aside {s t : State} (h : s.aside t) (m : Nat) (f : Core → Core) : s.aside (t.modCore m f) :=
  aside_trans h ⟨rfl, fun _ h => h, fun _ _ _ _ => rfl⟩

theorem setSch_aside {s t : State} (h : s.aside t) (k : Nat) (q : Sched) : s.aside (t.setSch k q) :=
  aside_trans h ⟨rfl, fun _ h => h, fun _ _ _ _ => rfl⟩

theorem setAcq_aside {s t : State} (h : s.aside t) (k : Nat) (q : AcqSt) : s.aside (t.setAcq k q) :=
  aside_trans h ⟨rfl, fun _ h => h, fun _ _ _ _ => rfl⟩

theorem inc_aside {s t : State} (h : s.aside t) (b : Nat) (f : Fld) (h1 : asideKey (b + f.off) f.lsb) (h2 : f.lsb < 32) :
    s.aside (t.inc b f) := aside_wr h b f _ h1 h2

theorem core_key {m : Nat} (h : m < 32) : asideKey (coreB m + Cc.CORE_STAT.STATE.off) Cc.CORE_STAT.STATE.lsb := by
  unfold asideKey coreB Cc.CORE_STAT.STATE
  dsimp only
  omega

theorem syncCore_aside {s t : State} (h : s.aside t) (m : Nat) (hm : m < 32) : s.aside (t.syncCore m) := by
  unfold syncCore
  dsimp only
  split
  · rename_i h2
    simp only [Bool.and_eq_true, beq_iff_eq] at h2
    exact aside_wr (aside_wr h _ _ _ (core_key hm) (by decide)) _ _ _ (core_key (by omega)) (by decide)
  · exact aside_wr h _ _ _ (core_key hm) (by decide)

theorem syncFz_aside {s t : State} (h : s.aside t) : s.aside t.syncFz := by
  have k0 : ∀ f : Fld, (0x18 ≤ f.off ∧ f.off < 0x2C) → f.lsb < 32 → asideKey (fzB + f.off) f.lsb := by
    intro f h1 h2; unfold asideKey fzB; omega
  unfold syncFz
  dsimp only
  split
  · (repeat' refine aside_wr ?_ _ _ _ (k0 _ (by decide) (by decide)) (by decide)); exact h
  · simp only [wrB_eq]
    (repeat' refine aside_wr ?_ _ _ _ (k0 _ (by decide) (by decide)) (by decide)); exact h

theorem fzBit_aside {s t : State} (h : s.aside t) (m : Nat) (v : Bool) (hm : m < 128) : s.aside (t.fzBit m v) := by
  refine aside_wr h _ _ _ ?_ (at_lsb (by decide))
  unfold asideKey fzB Fld.at Fz.FZ_MAP.FROZEN
  dsimp only
  omega

theorem ite_aside {s t u : State} {p : Prop} [Decidable p] (h : s.aside t) (k : s.aside u) :
    s.aside (if p then t else u) := by split <;> assumption

theorem freeze_aside {s t : State} (h : s.aside t) (r : FzRec) (hm : r.mid < 128) : s.aside (t.freeze r) := by
  unfold freeze
  split
  · exact h
  · have h1 : s.aside { t with frozen := Tab.put t.frozen r.mid r } := aside_trans h ⟨rfl, fun _ h => h, fun _ _ _ _ => rfl⟩
    have h2 := fzBit_aside h1 r.mid true hm
    have h3 : s.aside (if r.mid < 32 then (fzBit { t with frozen := Tab.put t.frozen r.mid r } r.mid true).syncCore r.mid
        else fzBit { t with frozen := Tab.put t.frozen r.mid r } r.mid true) := by
      split
      · rename_i hr; exact syncCore_aside h2 _ hr
      · exact h2
    dsimp only
    generalize (if r.mid < 32 then (fzBit { t with frozen := Tab.put t.frozen r.mid r } r.mid true).syncCore r.mid
        else fzBit { t with frozen := Tab.put t.frozen r.mid r } r.mid true) = u at h3
    have h4 : s.aside (if u.fz.length < 8 then { u with fz := u.fz ++ [r] }.syncFz
        else (u.inc fzB Fz.FZ_CNT.LOST).fire 0x01A) := by
      split
      · exact syncFz_aside (aside_trans h3 ⟨rfl, fun _ h => h, fun _ _ _ _ => rfl⟩)
      · refine fire_aside (inc_aside h3 _ _ ?_ (by decide)) _
        unfold asideKey; decide
    exact ite_aside (fire_aside h4 _) (ite_aside (fire_aside h4 _) h4)

theorem absentEvt_aside {s t : State} (h : s.aside t) (mid a : Nat) (w i : Bool) : s.aside (t.absentEvt mid a w i) := by
  unfold absentEvt
  dsimp only
  simp only [wrB_eq]
  refine inc_aside ?_ _ _ (by unfold asideKey; decide) (by decide)
  (repeat' refine aside_wr ?_ _ _ _ (by unfold asideKey; decide) (by decide)); exact h

theorem offEvt_aside {s t : State} (h : s.aside t) (mid a : Nat) (w : Bool) : s.aside (t.offEvt mid a w) := by
  unfold offEvt
  split
  · exact h
  · simp only [wrB_eq]
    refine fire_aside ?_ _
    (repeat' refine aside_wr ?_ _ _ _ (by unfold asideKey; decide) (by decide)); exact h

theorem fetchExl_aside {s t : State} (h : s.aside t) (m : Nat) (hm : m < 32) : s.aside (t.fetchExl m) := by
  unfold fetchExl
  dsimp only
  split
  · exact freeze_aside h _ (by unfold fetchRec; dsimp only; omega)
  · split
    · exact setCore_aside (absentEvt_aside h _ _ _ _) _ _
    · exact offEvt_aside h _ _ _
    · exact h

theorem enterTrap_aside {s t : State} (h : s.aside t) (m : Nat) (c e a : Word) (hm : m < 32) :
    s.aside (t.enterTrap m c e a) := fetchExl_aside (setCore_aside h _ _) m hm

theorem fetchAt_aside {s t : State} (h : s.aside t) (m : Nat) (hm : m < 32) : s.aside (t.fetchAt m) := by
  unfold fetchAt
  dsimp only
  split
  · exact fetchExl_aside h m hm
  · split
    · exact freeze_aside h _ (by unfold fetchRec; dsimp only; omega)
    · split
      · exact enterTrap_aside (absentEvt_aside h _ _ _ _) m _ _ _ hm
      · exact offEvt_aside h _ _ _
      · exact h

theorem goOn_aside {s t : State} (h : s.aside t) (m : Nat) (c : Core) (hm : m < 32) : s.aside (t.goOn m c) := by
  unfold goOn
  dsimp only
  split
  · exact fetchAt_aside (setCore_aside h _ _) m hm
  · exact setCore_aside h _ _

theorem jumped_aside {s t : State} (h : s.aside t) (m : Nat) (c : Core) (hm : m < 32) : s.aside (t.jumped m c) :=
  fetchAt_aside (setCore_aside h _ _) m hm

/-! ## The scheduler -/

theorem sch_key {k : Nat} (hk : k < 2) (f : Fld) (h : f.off = 8 ∨ (f.off = 0 ∧ f.lsb = 0) ∨ (f.off = 12 ∧ f.lsb = 0)) :
    asideKey (schB k + f.off) f.lsb := by
  unfold asideKey schB kB
  have : k = 0 ∨ k = 1 := by omega
  rcases this with rfl | rfl <;> omega

theorem slot_key {k i : Nat} (hk : k < 2) (hi : i < 256) (f : Fld) (h : f.off = 0x2000) (h2 : f.stp = 4) :
    asideKey (schB k + (f.at i).off) (f.at i).lsb := by
  unfold asideKey schB kB Fld.at
  dsimp only
  rw [h, h2]
  have : k = 0 ∨ k = 1 := by omega
  rcases this with rfl | rfl <;> omega

theorem dequeue_aside {s t : State} (h : s.aside t) (k i : Nat) (hk : k < 2) : s.aside (t.dequeue k i) :=
  aside_wr (setSch_aside h _ _) _ _ _ (sch_key hk _ (by decide)) (by decide)

theorem enqueue_aside {s t : State} (h : s.aside t) (k i : Nat) (hk : k < 2) (hi : i < 256) : s.aside (t.enqueue k i) :=
  aside_wr (aside_wr (setSch_aside h _ _) _ _ _ (slot_key hk hi _ rfl rfl) (at_lsb (by decide))) _ _ _ (sch_key hk _ (by decide))
    (by decide)

theorem giveTask_aside {s t : State} (h : s.aside t) (k i m d : Nat) (hk : k < 2) (hi : i < 256) (hm : m < 32) :
    s.aside (t.giveTask k i m d) :=
  goOn_aside (aside_wr (aside_wr (dequeue_aside h k i hk) _ _ _ (slot_key hk hi _ rfl rfl) (at_lsb (by decide))) _ _ _
    (slot_key hk hi _ rfl rfl) (at_lsb (by decide))) m _ hm

theorem serveSlot_aside {s t : State} (h : s.aside t) (k i : Nat) (hk : k < 2) (hi : i < 256) : s.aside (t.serveSlot k i) := by
  unfold serveSlot
  split
  · exact h
  · rename_i m hf
    have hm : m < 32 := by
      have := List.find?_some hf
      unfold mayTake at this
      simp only [Bool.and_eq_true, decide_eq_true_eq] at this
      exact this.1.1
    split
    · exact h
    · dsimp only
      exact syncCore_aside (aside_wr (modCore_aside (giveTask_aside (setSch_aside h _ _) k i m _ hk hi hm) _ _) _ _ _
        (sch_key hk _ (by decide)) (by decide)) m hm

theorem activate_aside {s t : State} (h : s.aside t) (k i : Nat) (hk : k < 2) (hi : i < 256) : s.aside (t.activate k i) := by
  unfold activate
  dsimp only
  split
  · exact h
  · split
    · exact serveSlot_aside (enqueue_aside h k i hk hi) k i hk hi
    · exact aside_wr h _ _ _ (slot_key hk hi _ rfl rfl) (at_lsb (by decide))
    · exact fireK_aside (inc_aside (inc_aside h _ _ (slot_key hk hi _ rfl rfl) (at_lsb (by decide))) _ _ (sch_key hk _ (by decide))
        (by decide)) _ _

theorem endTask_aside {s t : State} (h : s.aside t) (k i : Nat) (hk : k < 2) (hi : i < 256) : s.aside (t.endTask k i) := by
  unfold endTask
  dsimp only
  split
  · split
    · exact serveSlot_aside (enqueue_aside h k i hk hi) k i hk hi
    · exact aside_wr (aside_wr h _ _ _ (slot_key hk hi _ rfl rfl) (at_lsb (by decide))) _ _ _ (slot_key hk hi _ rfl rfl) (at_lsb (by decide))
  · exact aside_wr h _ _ _ (slot_key hk hi _ rfl rfl) (at_lsb (by decide))

theorem foldl_aside {s : State} {α : Type} (l : List α) (f : State → α → State)
    (h : ∀ t x, x ∈ l → s.aside t → s.aside (f t x)) (t : State) (ht : s.aside t) : s.aside (l.foldl f t) := by
  induction l generalizing t with
  | nil => exact ht
  | cons x r ih =>
    exact ih (fun t y hy => h t y (List.mem_cons_of_mem _ hy)) _ (h t x List.mem_cons_self ht)

theorem acqOwe_aside {s t : State} (h : s.aside t) (k c n : Nat) : s.aside (t.acqOwe k c n) := by
  unfold acqOwe
  dsimp only
  exact ite_aside (setAcq_aside h _ _) h

/-- A scheduler event of one K-die. -/
theorem evtK_aside {s t : State} (h : s.aside t) (k e : Nat) (hk : k < 2) : s.aside (t.evtK k e) := by
  unfold evtK
  refine ite_aside (acqOwe_aside (foldl_aside _ _ (fun u i hi hu => ?_) _ h) _ _ _) h
  refine activate_aside hu k i hk ?_
  unfold bound at hi
  simp only [List.mem_filter, List.mem_range] at hi
  exact hi.1

/-- A scheduler event. -/
theorem evt_aside {s t : State} (h : s.aside t) (e : Nat) : s.aside (t.evt e) :=
  evtK_aside (evtK_aside h 0 e (by decide)) 1 e (by decide)

theorem aside_clk {s t : State} (h : s.aside t) : t.clk = s.clk := by
  have := congrArg State.clk h.1
  exact this

/-! ## Doorbells -/

theorem db_key {m : Nat} (hm : m < 32) (f : Fld) (h : 0x800 ≤ f.off ∧ f.off < 0x810) (h2 : f.stp = 16) :
    asideKey (mbxB (m / 16) + (f.at (m % 16)).off) (f.at (m % 16)).lsb := by
  unfold asideKey mbxB kB Fld.at
  dsimp only
  rw [h2]
  have : m / 16 = 0 ∨ m / 16 = 1 := by omega
  rcases this with h3 | h3 <;> rw [h3] <;> omega

theorem setPend_aside {s t : State} (h : s.aside t) (m : Nat) (v : Word) (hm : m < 32) : s.aside (t.setPend m v) :=
  aside_wr h _ _ _ (db_key hm _ (by decide) rfl) (at_lsb (by decide))

theorem wakeDb_aside {s t : State} (h : s.aside t) (m : Nat) (hm : m < 32) : s.aside (t.wakeDb m) := by
  unfold wakeDb
  dsimp only
  split
  · refine ite_aside h (syncCore_aside (goOn_aside (modCore_aside (aside_wr (setPend_aside h m _ hm) _ _ _
      (db_key hm _ (by decide) rfl) (at_lsb (by decide))) _ _) m _ hm) m hm)
  · exact h

/-! ## Detections -/

theorem aside_part {s t : State} (h : s.aside t) : t.part = s.part := by
  have := congrArg State.part h.1
  exact this

theorem aside_pwr {s t : State} (h : s.aside t) : t.pwr = s.pwr := by
  have := congrArg State.pwr h.1
  exact this

theorem aside_dieUp {s t : State} (h : s.aside t) (d : Nat) : t.dieUp d = s.dieUp d := by
  have h1 := aside_rd h pwrB Pwr.DIE_STAT.RDY (by unfold asideKey; decide) (by decide)
  have h2 := aside_rd h pwrB Pwr.DIE_STAT.BUSY (by unfold asideKey; decide) (by decide)
  unfold dieUp
  rw [h1, h2, aside_pwr h]
  unfold hasDie hasK hasL hasA
  rw [aside_part h]

theorem aside_canFire {s t : State} (h : s.aside t) (n : Nat) : t.canFire n = s.canFire n := by
  unfold canFire srcUp hasL
  rw [aside_pwr h, aside_part h]
  simp only [aside_dieUp h]

/-- A source that fires is on its way. -/
theorem fires_fire {s t : State} (h : s.aside t) (n : Nat) : s.fires (t.fire n) n := by
  intro hc
  rw [← aside_canFire h] at hc
  unfold fire
  rw [if_pos hc]
  exact List.mem_append_right _ (List.mem_singleton.2 rfl)

/-- A detection stays on its way. -/
theorem fires_mono {s t u : State} {n : Nat} (h : s.fires t n) (k : ∀ n ∈ t.fc.detect, n ∈ u.fc.detect) : s.fires u n :=
  fun hc => k n (h hc)

theorem fires_aside {s t u : State} {n : Nat} (h : s.fires t n) (k : t.aside u) : s.fires u n := fires_mono h k.2.1

/-- What decides whether a source can fire: the power state, the part, and which dies are up. -/
theorem canFire_congr {s u : State} (n : Nat) (h1 : u.pwr = s.pwr) (h2 : u.part = s.part)
    (h3 : u.rd pwrB Pwr.DIE_STAT.RDY = s.rd pwrB Pwr.DIE_STAT.RDY)
    (h4 : u.rd pwrB Pwr.DIE_STAT.BUSY = s.rd pwrB Pwr.DIE_STAT.BUSY) : u.canFire n = s.canFire n := by
  have hd : ∀ d, u.dieUp d = s.dieUp d := fun d => by unfold dieUp hasDie hasK hasL hasA; rw [h1, h2, h3, h4]
  unfold canFire srcUp hasL
  rw [h1, h2]
  simp only [hd]

/-- A source that fires after other changes is on its way. -/
theorem fires_of {s u : State} (n : Nat) (h : u.canFire n = s.canFire n) : s.fires (u.fire n) n := by
  intro hc
  unfold fire
  rw [if_pos (by rw [h]; exact hc)]
  exact List.mem_append_right _ (List.mem_singleton.2 rfl)

/-! ## Event registers (R106) -/

/-- Setting an event bit, with the scheduler event it may fire, leaves every other register alone. -/
theorem raiseBit_rd (s : State) (b : Nat) (ev en : Fld) (i : Nat) (k : Option Nat) (e c : Nat) (g : Fld)
    (hk : ∀ j, k = some j → j < 2) (hn : g.key c ≠ ev.key b) (ha : ¬asideKey (c + g.off) g.lsb) (hl : g.lsb < 32) :
    (s.raiseBit b ev en i k e).rd c g = s.rd c g := by
  unfold raiseBit
  dsimp only
  split
  · rfl
  · split
    · cases k with
      | none => exact (aside_rd (evt_aside (aside_refl _) e) c g ha hl).trans (rd_wr_ne _ _ _ _ _ _ hn)
      | some j => exact (aside_rd (evtK_aside (aside_refl _) j e (hk j rfl)) c g ha hl).trans (rd_wr_ne _ _ _ _ _ _ hn)
    · exact rd_wr_ne _ _ _ _ _ _ hn

/-- The bit is set afterwards. -/
theorem raiseBit_set (s : State) (b : Nat) (ev en : Fld) (i : Nat) (k : Option Nat) (e : Nat)
    (hk : ∀ j, k = some j → j < 2) (hw : ev.wid ≤ 32) (hi : i < ev.wid) (ha : ¬asideKey (b + ev.off) ev.lsb) (hl : ev.lsb < 32) :
    ((s.raiseBit b ev en i k e).rd b ev).testBit i = true := by
  have h1 : ((s.wr b ev (setBit (s.rd b ev) i)).rd b ev).testBit i = true := by
    rw [rd_wr_same _ _ _ _ hw, Nat.testBit_mod_two_pow]
    simp only [hi, decide_true, Bool.true_and]
    unfold setBit
    simp
  unfold raiseBit
  dsimp only
  split
  · assumption
  · split
    · cases k with
      | none => rw [aside_rd (evt_aside (aside_refl _) e) b ev ha hl]; exact h1
      | some j => rw [aside_rd (evtK_aside (aside_refl _) j e (hk j rfl)) b ev ha hl]; exact h1
    · exact h1

/-- Detections on their way stay so. -/
theorem raiseBit_fires {s t : State} {n : Nat} (h : s.fires t n) (b : Nat) (ev en : Fld) (i : Nat) (k : Option Nat) (e : Nat)
    (hk : ∀ j, k = some j → j < 2) : s.fires (t.raiseBit b ev en i k e) n := by
  have h1 : s.fires (t.wr b ev (setBit (t.rd b ev) i)) n := fires_mono h (fun _ h => h)
  unfold raiseBit
  dsimp only
  split
  · exact h
  · split
    · cases k with
      | none => exact fires_aside h1 (evt_aside (aside_refl _) e)
      | some j => exact fires_aside h1 (evtK_aside (aside_refl _) j e (hk j rfl))
    · exact h1

end State

end Sys2Proof.Machine
end

