-- ==== Sys2Proof/Laws/FrameLink.lean ====
section
/-!
SUPPORT. The frame of the cells, the modulator and the lanes: one lemma for each operation.
-/
namespace Sys2Proof.Machine

namespace State

theorem modCell_keep (s : State) (c : Nat) (f : Cell → Cell) :
    (modCell s c f).keep = s.keep := by
  unfold modCell
  simp only [setCell_keep]

theorem cellFlt_keep (s : State) (c : Nat) (i : Nat) :
    (cellFlt s c i).keep = s.keep := by
  unfold cellFlt
  simp only [cwr_keep]

theorem settle_keep (s : State) (c : Nat) :
    (settle s c).keep = s.keep := by
  unfold settle
  dsimp only
  (repeat' split) <;> simp only [setCell_keep]

theorem syncOut_keep (s : State) (c : Nat) :
    (syncOut s c).keep = s.keep := by
  unfold syncOut
  simp only [setCell_keep, cwrB_keep, cwr_keep]

theorem cellBlock_keep (s : State) (c : Nat) (cause : Nat) :
    (cellBlock s c cause).keep = s.keep := by
  unfold cellBlock
  simp only [modCell_keep, syncOut_keep, settle_keep, cwr_keep]

theorem setOcc_keep (s : State) (c : Nat) :
    (setOcc s c).keep = s.keep := by
  unfold setOcc
  simp only [cwr_keep]

theorem syncTact_keep (s : State) (c : Nat) :
    (syncTact s c).keep = s.keep := by
  unfold syncTact
  simp only [cwrB_keep]

theorem tripScan_keep (s : State) (c : Nat) :
    (tripScan s c).keep = s.keep := by
  unfold tripScan
  dsimp only
  (repeat' split) <;> simp only [cellBlock_keep, syncTact_keep, cwr_keep, cinc_keep, implies_true, keep_foldl]

theorem gsupCheck_keep (s : State) (c : Nat) :
    (gsupCheck s c).keep = s.keep := by
  unfold gsupCheck
  simp only [modCell_keep, cellBlock_keep, cellFlt_keep, syncOut_keep, keep_ite, ite_self]

theorem dropVolatile_keep (s : State) (c : Nat) (keep : List Nat) :
    (dropVolatile s c keep).keep = s.keep := keep_mk _ _ rfl rfl rfl rfl rfl

theorem fastStop_keep (s : State) (c : Nat) (after : CellPower) :
    (fastStop s c after).keep = s.keep := by
  unfold fastStop
  simp only [dropVolatile_keep, setCell_keep]

theorem tryStart_keep (s : State) (c : Nat) :
    (tryStart s c).keep = s.keep := by
  unfold tryStart
  simp only [setCell_keep, keep_ite, ite_self]

theorem afterReset_keep (s : State) (c : Nat) :
    (afterReset s c).keep = s.keep := by
  unfold afterReset
  simp only [gsupCheck_keep, tripScan_keep, syncOut_keep]

theorem cellSyncPair_keep (s : State) (c : Nat) :
    (cellSyncPair s c).keep = s.keep := by
  unfold cellSyncPair
  simp only [cwrB_keep]

theorem shadowTransfer_keep (s : State) (c : Nat) :
    (shadowTransfer s c).keep = s.keep := by
  unfold shadowTransfer
  simp only [setCell_keep, cellSyncPair_keep, cwr_keep, keep_ite, ite_self]

theorem forceTransfer_keep (s : State) (c : Nat) :
    (forceTransfer s c).keep = s.keep := by
  unfold forceTransfer
  simp only [setCell_keep, keep_ite, ite_self]

theorem pulse_keep (s : State) (c : Nat) :
    (pulse s c).keep = s.keep := by
  unfold pulse
  simp only [modCell_keep]

theorem startPeriod_keep (s : State) (c : Nat) :
    (startPeriod s c).keep = s.keep := by
  unfold startPeriod
  simp only [modCell_keep, forceTransfer_keep, pulse_keep, syncOut_keep, settle_keep]

theorem ackSeq_keep (s : State) (c : Nat) (e : CmdEntry) :
    (ackSeq s c e).keep = s.keep := by
  unfold ackSeq
  (try dsimp only)
  (repeat' split) <;> (first | rfl | simp (disch := (intros; (repeat' split) <;> simp only [cwr_keep, wr_keep, keep_rec, keep_ite, ite_self, implies_true, keep_foldl, keep_foldl2, id_eq])) only [cwr_keep])

theorem refuse_keep (s : State) (c : Nat) :
    (refuse s c).keep = s.keep := by
  unfold refuse
  simp only [modCell_keep]

theorem command_keep (s : State) (c : Nat) (e : CmdEntry) (op : Nat) (ok : State → Bool) (f : State → State) (g : State → State) (hf : ∀ x, (f x).keep = x.keep) (hg : ∀ x, (g x).keep = x.keep) :
    (command s c e op ok f g).keep = s.keep := by
  unfold command
  simp only [modCell_keep, refuse_keep, ackSeq_keep, hf, hg, keep_ite, ite_self]

theorem relatch_keep (s : State) (c : Nat) :
    (relatch s c).keep = s.keep := by
  unfold relatch
  simp only [cellFlt_keep, keep_ite, ite_self]

theorem cellCntClr_keep (s : State) (c : Nat) :
    (cellCntClr s c).keep = s.keep := by
  unfold cellCntClr
  dsimp only
  (repeat' split) <;> simp only [cwr_keep, implies_true, keep_foldl]

theorem bypfClear_keep (s : State) (c : Nat) (v : Nat) :
    (bypfClear s c v).keep = s.keep := by
  unfold bypfClear
  simp only [syncOut_keep, cwr_keep, keep_ite, ite_self]

theorem cellFldWrite_keep (s : State) (c : Nat) (runs : Bool) (f : Fld) (data : Nat) :
    (cellFldWrite s c runs f data).keep = s.keep := by
  unfold cellFldWrite
  dsimp only
  (repeat' split) <;> simp only [cellFlt_keep, cwr_keep]

theorem cellWrite_keep (s : State) (c : Nat) (a : Nat) (data : Nat) :
    (cellWrite s c a data).keep = s.keep := by
  unfold cellWrite
  dsimp only
  (repeat' split) <;> simp only [relatch_keep, modCell_keep, tripScan_keep, refuse_keep, gsupCheck_keep, cellFldWrite_keep, cellSyncPair_keep, cellCntClr_keep, bypfClear_keep, syncOut_keep, cwr_keep, implies_true, keep_foldl]

theorem blockFail_keep (s : State) (c : Nat) :
    (blockFail s c).keep = s.keep := by
  unfold blockFail
  simp only [modCell_keep]

theorem takeBlock_keep (s : State) (c : Nat) (b : Block) (ty : Nat) (bad : State → State) (f : State → State) (hbad : ∀ x, (bad x).keep = x.keep) (hf : ∀ x, (f x).keep = x.keep) :
    (takeBlock s c b ty bad f).keep = s.keep := by
  unfold takeBlock
  simp only [blockFail_keep, hbad, hf, keep_ite, ite_self]

theorem buffer_keep (s : State) (c : Nat) (e : CmdEntry) (margin : Int) :
    (buffer s c e margin).keep = s.keep := by
  unfold buffer
  simp only [setCell_keep, keep_ite, ite_self]

theorem cellSlot_keep (s : State) (c : Nat) (b : Block) (margin : Int) :
    (cellSlot s c b margin).keep = s.keep := by
  unfold cellSlot
  (try dsimp only)
  (repeat' split) <;> (first | rfl | simp (disch := (intros; (repeat' split) <;> simp only [buffer_keep, wr_keep, keep_rec, keep_ite, ite_self, implies_true, keep_foldl, keep_foldl2, id_eq])) only [buffer_keep])

theorem send_keep (s : State) (c : Nat) (b : BitVec 128) :
    (send s c b).keep = s.keep := by
  unfold send
  simp only [modCell_keep]

theorem markSent_keep (s : State) (c : Nat) (n : Nat) :
    (markSent s c n).keep = s.keep := by
  unfold markSent
  simp only [modCell_keep]

theorem execCellHdrAccept_keep (c : Nat) (b : Block) (s : State) :
    keeps (execCellHdrAccept c b s) s := by
  unfold execCellHdrAccept
  rw [keeps_next]
  simp only [setOcc_keep, cellBlock_keep, blockFail_keep, setCell_keep, syncOut_keep, keep_ite, ite_self]

theorem execCellCmdBlock_keep (c : Nat) (b : Block) (margin : Int) (s : State) :
    keeps (execCellCmdBlock c b margin s) s := by
  unfold execCellCmdBlock
  rw [keeps_next]
  simp only [modCell_keep, takeBlock_keep, cellSlot_keep, implies_true]

theorem execCellRptBlock_keep (c : Nat) (b : Block) (margin : Int) (s : State) :
    keeps (execCellRptBlock c b margin s) s := by
  unfold execCellRptBlock
  (try dsimp only)
  rw [keeps_next]
  (repeat' split) <;> (first | rfl | simp (disch := (intros; (repeat' split) <;> simp only [modCell_keep, takeBlock_keep, cellSlot_keep, wr_keep, keep_rec, keep_ite, ite_self, implies_true, keep_foldl, keep_foldl2, id_eq])) only [takeBlock_keep])

theorem execCellAcmd_keep (c : Nat) (b : Block) (margin : Int) (s : State) :
    keeps (execCellAcmd c b margin s) s := by
  unfold execCellAcmd
  (try dsimp only)
  rw [keeps_next]
  (repeat' split) <;> (first | rfl | simp (disch := (intros; (repeat' split) <;> simp only [takeBlock_keep, buffer_keep, wr_keep, keep_rec, keep_ite, ite_self, implies_true, keep_foldl, keep_foldl2, id_eq])) only [takeBlock_keep])

theorem execCellBcast_keep (c : Nat) (b : Block) (margin : Int) (s : State) :
    keeps (execCellBcast c b margin s) s := by
  unfold execCellBcast
  (try dsimp only)
  rw [keeps_next]
  (repeat' split) <;> (first | rfl | simp (disch := (intros; (repeat' split) <;> simp only [takeBlock_keep, buffer_keep, wr_keep, keep_rec, keep_ite, ite_self, implies_true, keep_foldl, keep_foldl2, id_eq])) only [takeBlock_keep])

theorem execCellMer_keep (c : Nat) (b : Block) (s : State) :
    keeps (execCellMer c b s) s := by
  unfold execCellMer
  (try dsimp only)
  rw [keeps_next]
  (repeat' split) <;> (first | rfl | simp (disch := (intros; (repeat' split) <;> simp only [modCell_keep, takeBlock_keep, wr_keep, keep_rec, keep_ite, ite_self, implies_true, keep_foldl, keep_foldl2, id_eq])) only [takeBlock_keep])

theorem execCellGrant_keep (c : Nat) (b : Block) (s : State) :
    keeps (execCellGrant c b s) s := by
  unfold execCellGrant
  dsimp only
  rw [keeps_next]
  (repeat' split) <;> simp (disch := (intros; (repeat' split) <;> simp only [modCell_keep, takeBlock_keep, wr_keep, keep_rec, keep_ite, ite_self, implies_true, keep_foldl, keep_foldl2, id_eq])) only [takeBlock_keep]

theorem execEnableTx_keep (c : Nat) (b : Block) (s : State) :
    keeps (execEnableTx c b s) s := by
  unfold execEnableTx
  rw [keeps_next]
  simp only [blockFail_keep, cwr_keep, keep_ite, ite_self]

theorem execOccult_keep (c : Nat) (byId : Bool) (b : Block) (s : State) :
    keeps (execOccult c byId b s) s := by
  unfold execOccult
  (try dsimp only)
  rw [keeps_next]
  (repeat' split) <;> (first | rfl | simp (disch := (intros; (repeat' split) <;> simp only [setOcc_keep, blockFail_keep, command_keep, wr_keep, keep_rec, keep_ite, ite_self, implies_true, keep_foldl, keep_foldl2, id_eq])) only [setOcc_keep, blockFail_keep, command_keep])

theorem execRelease_keep (c : Nat) (b : Block) (s : State) :
    keeps (execRelease c b s) s := by
  unfold execRelease
  rw [keeps_next]
  simp only [setOcc_keep, blockFail_keep, cwr_keep, keep_ite, ite_self]

theorem execEqset_keep (c : Nat) (b : Block) (s : State) :
    keeps (execEqset c b s) s := by
  unfold execEqset
  rw [keeps_next]
  simp only [blockFail_keep, cwr_keep, keep_ite, ite_self]

theorem execNop_keep (c : Nat) (e : CmdEntry) (s : State) :
    keeps (execNop c e s) s := by
  unfold execNop
  dsimp only
  rw [keeps_next]
  (repeat' split) <;> simp (disch := (intros; (repeat' split) <;> simp only [modCell_keep, refuse_keep, ackSeq_keep, command_keep, wr_keep, keep_rec, keep_ite, ite_self, implies_true, keep_foldl, keep_foldl2, id_eq])) only [modCell_keep, refuse_keep, ackSeq_keep, command_keep]

theorem execSetState_keep (c : Nat) (e : CmdEntry) (s : State) :
    keeps (execSetState c e s) s := by
  unfold execSetState
  dsimp only
  rw [keeps_next]
  (repeat' split) <;> simp (disch := (intros; (repeat' split) <;> simp only [modCell_keep, command_keep, syncOut_keep, settle_keep, cwr_keep, wr_keep, keep_rec, keep_ite, ite_self, implies_true, keep_foldl, keep_foldl2, id_eq])) only [command_keep]

theorem execSetPwm_keep (c : Nat) (e : CmdEntry) (s : State) :
    keeps (execSetPwm c e s) s := by
  unfold execSetPwm
  dsimp only
  rw [keeps_next]
  (repeat' split) <;> simp (disch := (intros; (repeat' split) <;> simp only [modCell_keep, startPeriod_keep, command_keep, cellSyncPair_keep, cwr_keep, wr_keep, keep_rec, keep_ite, ite_self, implies_true, keep_foldl, keep_foldl2, id_eq])) only [command_keep]

theorem execForce_keep (c : Nat) (e : CmdEntry) (s : State) :
    keeps (execForce c e s) s := by
  unfold execForce
  (try dsimp only)
  rw [keeps_next]
  (repeat' split) <;> (first | rfl | simp (disch := (intros; (repeat' split) <;> simp only [modCell_keep, command_keep, cwr_keep, wr_keep, keep_rec, keep_ite, ite_self, implies_true, keep_foldl, keep_foldl2, id_eq])) only [command_keep])

theorem execClearTrip_keep (c : Nat) (e : CmdEntry) (s : State) :
    keeps (execClearTrip c e s) s := by
  unfold execClearTrip
  dsimp only
  rw [keeps_next]
  (repeat' split) <;> simp (disch := (intros; (repeat' split) <;> simp only [command_keep, syncOut_keep, cwr_keep, wr_keep, keep_rec, keep_ite, ite_self, implies_true, keep_foldl, keep_foldl2, id_eq])) only [command_keep]

theorem execReadReg_keep (c : Nat) (e : CmdEntry) (s : State) :
    keeps (execReadReg c e s) s := by
  unfold execReadReg
  dsimp only
  rw [keeps_next]
  (repeat' split) <;> simp (disch := (intros; (repeat' split) <;> simp only [modCell_keep, command_keep, wr_keep, keep_rec, keep_ite, ite_self, implies_true, keep_foldl, keep_foldl2, id_eq])) only [command_keep]

theorem execWriteReg_keep (c : Nat) (e : CmdEntry) (s : State) :
    keeps (execWriteReg c e s) s := by
  unfold execWriteReg
  (try dsimp only)
  rw [keeps_next]
  (repeat' split) <;> (first | rfl | simp (disch := (intros; (repeat' split) <;> simp only [command_keep, cellWrite_keep, wr_keep, keep_rec, keep_ite, ite_self, implies_true, keep_foldl, keep_foldl2, id_eq])) only [command_keep])

theorem execCellClrcnt_keep (c : Nat) (s : State) :
    keeps (execCellClrcnt c s) s := by
  unfold execCellClrcnt
  rw [keeps_next]
  simp only [cellCntClr_keep, keep_ite, ite_self]

theorem execBypfClr_keep (c : Nat) (v : Half) (s : State) :
    keeps (execBypfClr c v s) s := by
  unfold execBypfClr
  rw [keeps_next]
  simp only [bypfClear_keep, keep_ite, ite_self]

theorem execSleep_keep (c : Nat) (e : CmdEntry) (s : State) :
    keeps (execSleep c e s) s := by
  unfold execSleep
  dsimp only
  rw [keeps_next]
  (repeat' split) <;> simp (disch := (intros; (repeat' split) <;> simp only [setOcc_keep, fastStop_keep, command_keep, cwr_keep, wr_keep, keep_rec, keep_ite, ite_self, implies_true, keep_foldl, keep_foldl2, id_eq])) only [command_keep]

theorem execBistStart_keep (c : Nat) (e : CmdEntry) (s : State) :
    keeps (execBistStart c e s) s := by
  unfold execBistStart
  dsimp only
  rw [keeps_next]
  (repeat' split) <;> simp (disch := (intros; (repeat' split) <;> simp only [modCell_keep, cellBlock_keep, command_keep, cwr_keep, wr_keep, keep_rec, keep_ite, ite_self, implies_true, keep_foldl, keep_foldl2, id_eq])) only [command_keep]

theorem execCellBistEnd_keep (c : Nat) (misr : BitVec 64) (golden : BitVec 64) (s : State) :
    keeps (execCellBistEnd c misr golden s) s := by
  unfold execCellBistEnd
  dsimp only
  rw [keeps_next]
  (repeat' split) <;> simp only [dropVolatile_keep, relatch_keep, modCell_keep, cwrB_keep, afterReset_keep, cwr_keep, implies_true, keep_foldl]

theorem execArmBypass_keep (c : Nat) (e : CmdEntry) (s : State) :
    keeps (execArmBypass c e s) s := by
  unfold execArmBypass
  (try dsimp only)
  rw [keeps_next]
  (repeat' split) <;> (first | rfl | simp (disch := (intros; (repeat' split) <;> simp only [modCell_keep, command_keep, cwr_keep, wr_keep, keep_rec, keep_ite, ite_self, implies_true, keep_foldl, keep_foldl2, id_eq])) only [command_keep])

theorem execFireBypass_keep (c : Nat) (e : CmdEntry) (s : State) :
    keeps (execFireBypass c e s) s := by
  unfold execFireBypass
  rw [keeps_next]
  simp only [modCell_keep, cellBlock_keep, command_keep, cwr_keep, implies_true]

theorem execBypassWindowExpiry_keep (c : Nat) (s : State) :
    keeps (execBypassWindowExpiry c s) s := by
  unfold execBypassWindowExpiry
  rw [keeps_next]
  simp only [cwr_keep, keep_ite, ite_self]

theorem execBypPulseEnd_keep (c : Nat) (s : State) :
    keeps (execBypPulseEnd c s) s := by
  unfold execBypPulseEnd
  rw [keeps_next]
  simp only [modCell_keep]

theorem execRange_keep (c : Nat) (s : State) :
    keeps (execRange c s) s := by
  unfold execRange
  dsimp only
  rw [keeps_next]
  (repeat' split) <;> simp only [send_keep]

theorem execCellReportTx_keep (c : Nat) (s : State) :
    keeps (execCellReportTx c s) s := by
  unfold execCellReportTx
  dsimp only
  rw [keeps_next]
  (repeat' split) <;> simp only [markSent_keep, send_keep]

theorem execCellRegrantTx_keep (c : Nat) (m : Nat) (s : State) :
    keeps (execCellRegrantTx c m s) s := by
  unfold execCellRegrantTx
  (try dsimp only)
  rw [keeps_next]
  (repeat' split) <;> (first | rfl | simp (disch := (intros; (repeat' split) <;> simp only [send_keep, wr_keep, keep_rec, keep_ite, ite_self, implies_true, keep_foldl, keep_foldl2, id_eq])) only [send_keep])

theorem execCellReportFreeze_keep (c : Nat) (s : State) :
    keeps (execCellReportFreeze c s) s := by
  unfold execCellReportFreeze
  rw [keeps_next]
  simp only [freeWord_keep, modCell_keep, keep_ite, ite_self]

theorem execCellConversion_keep (c : Nat) (idx : Nat) (va : Int) (vb : Int) (s : State) :
    keeps (execCellConversion c idx va vb s) s := by
  unfold execCellConversion
  dsimp only
  rw [keeps_next]
  (repeat' split) <;> simp only [modCell_keep, cellFlt_keep, cwrB_keep, cwr_keep]

theorem execCellCalSwitch_keep (c : Nat) (inRange : Bool) (s : State) :
    keeps (execCellCalSwitch c inRange s) s := by
  unfold execCellCalSwitch
  rw [keeps_next]
  simp only [cellFlt_keep, cwr_keep, keep_ite, ite_self]

theorem execCarrierPeriodStart_keep (c : Nat) (s : State) :
    keeps (execCarrierPeriodStart c s) s := by
  unfold execCarrierPeriodStart
  rw [keeps_next]
  simp only [startPeriod_keep, shadowTransfer_keep, keep_ite, ite_self]

theorem execCellAlignedBoundary_keep (c : Nat) (s : State) :
    keeps (execCellAlignedBoundary c s) s := by
  unfold execCellAlignedBoundary
  rw [keeps_next]
  simp only [modCell_keep, forceTransfer_keep, shadowTransfer_keep, pulse_keep, syncOut_keep, keep_ite, ite_self]

theorem execTripInput_keep (c : Nat) (i : Nat) (s : State) :
    keeps (execTripInput c i s) s := by
  unfold execTripInput
  rw [keeps_next]
  simp only [tripScan_keep, cwr_keep, keep_ite, ite_self]

theorem execTripInputInactive_keep (c : Nat) (i : Nat) (s : State) :
    keeps (execTripInputInactive c i s) s := by
  unfold execTripInputInactive
  rw [keeps_next]
  simp only [syncTact_keep, cwr_keep, keep_ite, ite_self]

theorem execGsupLow_keep (c : Nat) (s : State) :
    keeps (execGsupLow c s) s := by
  unfold execGsupLow
  rw [keeps_next]
  simp only [modCell_keep, gsupCheck_keep, keep_ite, ite_self]

theorem execGsupOkRestored_keep (c : Nat) (s : State) :
    keeps (execGsupOkRestored c s) s := by
  unfold execGsupOkRestored
  rw [keeps_next]
  simp only [modCell_keep, gsupCheck_keep, keep_ite, ite_self]

theorem execLossOfLight_keep (c : Nat) (s : State) :
    keeps (execLossOfLight c s) s := by
  unfold execLossOfLight
  rw [keeps_next]
  simp only [modCell_keep, cellBlock_keep, cellFlt_keep, cinc_keep, keep_ite, ite_self]

theorem execLolTimeout_keep (c : Nat) (s : State) :
    keeps (execLolTimeout c s) s := by
  unfold execLolTimeout
  rw [keeps_next]
  simp only [cellFlt_keep, cellBlock_keep, keep_ite, ite_self]

theorem execTxGuardViolation_keep (c : Nat) (s : State) :
    keeps (execTxGuardViolation c s) s := by
  unfold execTxGuardViolation
  rw [keeps_next]
  simp only [cellFlt_keep, setOcc_keep, cinc_keep, keep_ite, ite_self]

theorem execCellPllUnlock_keep (c : Nat) (s : State) :
    keeps (execCellPllUnlock c s) s := by
  unfold execCellPllUnlock
  rw [keeps_next]
  simp only [modCell_keep, cellBlock_keep, cellFlt_keep, keep_ite, ite_self]

theorem execCellParityError_keep (c : Nat) (s : State) :
    keeps (execCellParityError c s) s := by
  unfold execCellParityError
  rw [keeps_next]
  simp only [modCell_keep, cellBlock_keep, cellFlt_keep, keep_ite, ite_self]

theorem execCellDupmis_keep (c : Nat) (e : CmdEntry) (s : State) :
    keeps (execCellDupmis c e s) s := by
  unfold execCellDupmis
  rw [keeps_next]
  simp only [modCell_keep, cellBlock_keep, cellFlt_keep, keep_ite, ite_self]

theorem execCellOvertemp_keep (c : Nat) (s : State) :
    keeps (execCellOvertemp c s) s := by
  unfold execCellOvertemp
  rw [keeps_next]
  simp only [cellFlt_keep, keep_ite, ite_self]

theorem execVauxlow_keep (c : Nat) (s : State) :
    keeps (execVauxlow c s) s := by
  unfold execVauxlow
  rw [keeps_next]
  simp only [cellFlt_keep, keep_ite, ite_self]

theorem execNewtColdStart_keep (c : Nat) (s : State) :
    keeps (execNewtColdStart c s) s := by
  unfold execNewtColdStart
  rw [keeps_next]
  simp only [modCell_keep, tryStart_keep, cwr_keep, keep_rec, keep_ite, ite_self]

theorem execVauxOnRise_keep (c : Nat) (s : State) :
    keeps (execVauxOnRise c s) s := by
  unfold execVauxOnRise
  rw [keeps_next]
  simp only [tryStart_keep, modCell_keep]

theorem execWake_keep (c : Nat) (s : State) :
    keeps (execWake c s) s := by
  unfold execWake
  rw [keeps_next]
  simp only [tryStart_keep, cwr_keep, keep_ite, ite_self]

theorem execRegulatorsInRange_keep (c : Nat) (s : State) :
    keeps (execRegulatorsInRange c s) s := by
  unfold execRegulatorsInRange
  rw [keeps_next]
  simp only [dropVolatile_keep, modCell_keep, afterReset_keep, cinc_keep, keep_ite, ite_self]

theorem execVauxOffFall_keep (c : Nat) (s : State) :
    keeps (execVauxOffFall c s) s := by
  unfold execVauxOffFall
  rw [keeps_next]
  simp only [modCell_keep, fastStop_keep, keep_ite, ite_self]

theorem execNewtBrownout_keep (c : Nat) (s : State) :
    keeps (execNewtBrownout c s) s := by
  unfold execNewtBrownout
  rw [keeps_next]
  simp only [fastStop_keep]

theorem owe_keep (s : State) (k : Nat) (e : Nat) :
    (owe s k e).keep = s.keep := by
  unfold owe
  simp only [setModul_keep, keep_ite, ite_self]

theorem modRaise_keep (s : State) (k : Nat) (b : Nat) (ev : Fld) (en : Fld) (i : Nat) (e : Nat) :
    (modRaise s k b ev en i e).keep = s.keep := by
  unfold modRaise
  simp only [owe_keep, wr_keep, keep_ite, ite_self]

theorem armEvt_keep (s : State) (k : Nat) (a : Nat) (i : Nat) :
    (armEvt s k a i).keep = s.keep := by
  unfold armEvt
  simp only [modRaise_keep]

theorem modEvt_keep (s : State) (k : Nat) (i : Nat) :
    (modEvt s k i).keep = s.keep := by
  unfold modEvt
  simp only [modRaise_keep]

theorem flushEvts_keep (s : State) (k : Nat) :
    (flushEvts s k).keep = s.keep := by
  unfold flushEvts
  dsimp only
  (repeat' split) <;> simp only [evtK_keep, setModul_keep, implies_true, keep_foldl]

theorem syncMask_keep (s : State) (k : Nat) :
    (syncMask s k).keep = s.keep := by
  unfold syncMask
  simp only [wr_keep]

theorem setAmode_keep (s : State) (k : Nat) (a : Nat) (m : Nat) :
    (setAmode s k a m).keep = s.keep := by
  unfold setAmode
  simp only [wr_keep, syncMask_keep]

theorem blockArm_keep (s : State) (k : Nat) (a : Nat) :
    (blockArm s k a).keep = s.keep := by
  unfold blockArm
  simp only [setAmode_keep, wr_keep, modArm_keep, armEvt_keep, keep_ite, ite_self]

theorem armMode_keep (s : State) (k : Nat) (a : Nat) (spr : Bool) (edge : Bool) :
    (armMode s k a spr edge).keep = s.keep := by
  unfold armMode
  dsimp only
  (repeat' split) <;> simp only [setAmode_keep, wrB_keep, modEst_keep, wr_keep, modArm_keep, implies_true, keep_foldl]

theorem divFree_keep (s : State) (num : Int) (den : Int) :
    (divFree s num den).2.keep = s.keep := by
  unfold divFree
  dsimp only
  (repeat' split) <;> simp only [freeBit_keep]

theorem dvOf_keep (s : State) (k : Nat) (a : Nat) (c : Nat) (iv : IntervalState) (i0 : Int) (i1 : Int) :
    (dvOf s k a c iv i0 i1).2.keep = s.keep := by
  unfold dvOf
  simp only [divFree_keep]

theorem settleCell_keep (s : State) (k : Nat) (a : Nat) (c : Nat) (i2 : Int) (i1 : Int) (mark : Option Nat) :
    (settleCell s k a c i2 i1 mark).keep = s.keep := by
  unfold settleCell
  dsimp only
  (repeat' split) <;> simp only [dvOf_keep, divFree_keep, setEst_keep]

theorem predictCell_keep (s : State) (k : Nat) (a : Nat) (c : Nat) (i2 : Int) (i1 : Int) :
    (predictCell s k a c i2 i1).keep = s.keep := by
  unfold predictCell
  simp only [dvOf_keep, wr_keep, setEst_keep]

theorem exclude_keep (s : State) (k : Nat) (a : Nat) (c : Nat) :
    (exclude s k a c).keep = s.keep := by
  unfold exclude
  simp only [modEvt_keep, inc_keep, fireK_keep, wr_keep, keep_ite, ite_self]

theorem plausFault_keep (s : State) (k : Nat) (a : Nat) (c : Nat) :
    (plausFault s k a c).keep = s.keep := by
  unfold plausFault
  simp only [modEst_keep, wr_keep, exclude_keep, keep_ite, ite_self]

theorem reportFlags_keep (s : State) (k : Nat) (c : Nat) (r : BitVec 128) :
    (reportFlags s k c r).keep = s.keep := by
  unfold reportFlags
  simp only [modEvt_keep, modEst_keep, wr_keep, keep_ite, ite_self]

theorem learnK_keep (s : State) (k : Nat) (a : Nat) (c : Nat) (dvm : Int) (q : Int) :
    (learnK s k a c dvm q).keep = s.keep := by
  unfold learnK
  dsimp only
  (repeat' split) <;> simp only [divFree_keep, wr_keep]

theorem takeReport_keep (s : State) (k : Nat) (a : Nat) (c : Nat) (r : BitVec 128) (m : CycleMark) :
    (takeReport s k a c r m).keep = s.keep := by
  unfold takeReport
  extract_lets b va vb usable mis excused vm s1 s2 s3 e1 shift e' er cor e2 big s5 s6
  have h3 : s3.keep = s.keep := by
    simp only [s3, s2, s1, acqObs_keep, almObs_keep, modEst_keep, reportFlags_keep, vm, divFree_keep]
  have h6 : s6.keep = s.keep := by
    unfold s6; split <;> simp only [s5, wr_keep, learnK_keep, h3]
  (repeat' split) <;> simp only [setEst_keep, wr_keep, plausFault_keep, h3, h6]

theorem applyReport_keep (s : State) (k : Nat) (c : Nat) (r : BitVec 128) :
    (applyReport s k c r).keep = s.keep := by
  unfold applyReport
  extract_lets e
  clear_value e
  split
  · exact setEst_keep _ _ _ _
  · rw [keep_ite, setEst_keep, takeReport_keep, ite_self]

theorem goStale_keep (s : State) (k : Nat) (a : Nat) :
    (goStale s k a).keep = s.keep := by
  unfold goStale
  simp only [blockArm_keep, fireK_keep, wr_keep, modArm_keep, armEvt_keep, keep_ite, ite_self]

theorem reference_keep (s : State) (k : Nat) (a : Nat) :
    (reference s k a).2.keep = s.keep := by
  unfold reference
  simp only [inc_keep, setArm_keep, goStale_keep, keep_ite, ite_self]

theorem armCutoff_keep (s : State) (k : Nat) (a : Nat) :
    (armCutoff s k a).keep = s.keep := by
  unfold armCutoff
  dsimp only
  (repeat' split) <;> simp only [fireK_keep, setArm_keep, predictCell_keep, wr_keep, wrB_keep, modArm_keep, reference_keep, armEvt_keep, keep_ite, ite_self, implies_true, keep_foldl]

theorem moveHolder_keep (s : State) (k : Nat) (a : Nat) :
    (moveHolder s k a).keep = s.keep := by
  unfold moveHolder
  dsimp only
  (repeat' split) <;> simp only [fireK_keep, wr_keep, modArm_keep, armEvt_keep]

theorem armWords_keep (s : State) (k : Nat) (a : Nat) :
    (armWords s k a).keep = s.keep := by
  unfold armWords
  dsimp only
  (repeat' split) <;> simp only [setArm_keep, wr_keep, wrB_keep, moveHolder_keep, incBy_keep, keep_ite, ite_self, implies_true, keep_foldl]

theorem commit_keep (s : State) (k : Nat) (a : Nat) :
    (commit s k a).keep = s.keep := by
  unfold commit
  dsimp only
  (repeat' split) <;> simp only [modEst_keep, wr_keep, setArm_keep, keep_ite, ite_self, implies_true, keep_foldl]

theorem verdict_keep (s : State) (k : Nat) (a : Nat) :
    (verdict s k a).keep = s.keep := by
  unfold verdict
  simp only [commit_keep, inc_keep, blockArm_keep, fireK_keep, wr_keep, armEvt_keep, setArm_keep, keep_ite, ite_self]

theorem snapshot_keep (s : State) (k : Nat) (c : Nat) :
    (snapshot s k c).keep = s.keep := by
  unfold snapshot
  simp only [wrB_keep, modEvt_keep, wr_keep]

theorem snapDue_keep (s : State) (k : Nat) :
    (snapDue s k).keep = s.keep := by
  unfold snapDue
  dsimp only
  (repeat' split) <;> simp only [snapshot_keep, setModul_keep]

theorem ageClear_keep (s : State) (k : Nat) :
    (ageClear s k).keep = s.keep := by
  unfold ageClear
  simp only [modEst_keep, wr_keep, keep_ite, ite_self]

theorem pfxClear_keep (s : State) (k : Nat) (c : Nat) :
    (pfxClear s k c).keep = s.keep := by
  unfold pfxClear
  simp only [wr_keep]

theorem armCntClr_keep (s : State) (k : Nat) (a : Nat) :
    (armCntClr s k a).keep = s.keep := by
  unfold armCntClr
  simp only [wr_keep]

theorem modRej_keep (s : State) (k : Nat) (b : Nat) (f : Fld) :
    (modRej s k b f).keep = s.keep := by
  unfold modRej
  simp only [wr_keep, fireK_keep]

theorem heldSet_keep (s : State) (b : Nat) (f : Fld) (runs : Bool) (v : Nat) (rej : State → State) (hrej : ∀ x, (rej x).keep = x.keep) :
    (heldSet s b f runs v rej).keep = s.keep := by
  unfold heldSet
  simp only [wr_keep, hrej, keep_ite, ite_self]

theorem setEn_keep (s : State) (k : Nat) (b : Nat) (ev : Fld) (en : Fld) (v : Nat) (e : Nat) :
    (setEn s k b ev en v e).keep = s.keep := by
  unfold setEn
  simp only [owe_keep, wr_keep, keep_ite, ite_self]

theorem modGlobal_keep (s : State) (k : Nat) (off : Nat) (v : Nat) :
    (modGlobal s k off v).keep = s.keep := by
  unfold modGlobal
  dsimp only
  (repeat' split) <;> simp only [heldSet_keep, ageClear_keep, setEn_keep, modRej_keep, modEst_keep, wr_keep, setModul_keep, keep_ite, ite_self, implies_true, keep_foldl]

theorem modArmWrite_keep (s : State) (k : Nat) (a : Nat) (off : Nat) (v : Nat) :
    (modArmWrite s k a off v).keep = s.keep := by
  unfold modArmWrite
  dsimp only
  (repeat' split) <;> simp only [heldSet_keep, setEn_keep, modRej_keep, wrBoth_keep, wr_keep, modArm_keep, armCntClr_keep, keep_ite, ite_self, implies_true, keep_foldl]

theorem modTable_keep (s : State) (k : Nat) (c : Nat) (word : Nat) (v : Nat) :
    (modTable s k c word v).keep = s.keep := by
  unfold modTable
  simp only [pfxClear_keep, heldSet_keep, setModul_keep, wr_keep, modRej_keep, wrBoth_keep, keep_ite, ite_self, implies_true]

theorem modWrite_keep (s : State) (k : Nat) (off : Nat) (v : Nat) :
    (modWrite s k off v).keep = s.keep := by
  unfold modWrite
  simp only [modArmWrite_keep, modGlobal_keep, modTable_keep, keep_ite, ite_self]

theorem takeStaged_keep (s : State) (p : Staged → Bool) (n : Nat) :
    (takeStaged s p n).2.keep = s.keep := by
  unfold takeStaged
  dsimp only
  (repeat' split) <;> simp only [modCore_keep, keep_rec, keep_ite, ite_self, implies_true, keep_foldl]

theorem modCutoff_keep (s : State) (k : Nat) :
    (modCutoff s k).keep = s.keep := by
  unfold modCutoff
  extract_lets n st s1 s2 spr edge src3 s3 shadow cyc mark s4 lim m due s5 ids s6 
  have h1 : s1.keep = s.keep := by
    unfold s1; rw [keep_foldl _ _ _ (fun s x => modWrite_keep _ _ _ _)]; exact takeStaged_keep _ _ _
  split
  · unfold s2
    rw [flushEvts_keep, snapDue_keep, keep_foldl _ _ _ (fun s x => modArm_keep _ _ _ _), h1]
  have h3 : s3.keep = s.keep := by simp only [s3, setModul_keep, h1]
  have h4 : s4.keep = s.keep := by
    unfold s4; rw [← h3]
    refine keep_foldl _ _ _ (fun s x => ?_)
    extract_lets t1 slot i t2 y i1 i2
    have e1 : t1.keep = s.keep := by unfold t1; split <;> simp only [modArm_keep, armMode_keep]
    have e2 : t2.keep = s.keep := by simp only [t2, modArm_keep, e1]
    split
    · rw [keep_foldl _ _ _ (fun s x => settleCell_keep _ _ _ _ _ _ _), e2]
    · exact e2
  have h6 : s6.keep = s.keep := by
    unfold s6
    refine (keep_foldl _ _ _ (fun s x => ?_)).trans (by simp only [s5, setModul_keep, h4])
    dsimp only
    split
    · exact keep_foldl _ _ _ (fun s x => applyReport_keep _ _ _ _)
    · rfl
  refine (keep_foldl _ _ _ (fun s x => ?_)).trans h6
  dsimp only
  split
  · exact keep_foldl _ _ _ (fun s x => predictCell_keep _ _ _ _ _ _)
  · exact armCutoff_keep _ _ _

theorem rankDone_keep (s : State) (k : Nat) (glitch : List (Nat × Word)) :
    (rankDone s k glitch).keep = s.keep := by
  unfold rankDone
  dsimp only
  (repeat' split) <;> simp only [armWords_keep, setModul_keep, modArm_keep, implies_true, keep_foldl]

theorem checkPass_keep (s : State) (k : Nat) :
    (checkPass s k).keep = s.keep := by
  unfold checkPass
  dsimp only
  (repeat' split) <;> simp only [setModul_keep, flushEvts_keep, verdict_keep, snapDue_keep, implies_true, keep_foldl]

theorem missPass_keep (s : State) (k : Nat) :
    (missPass s k).keep = s.keep := by
  unfold missPass
  dsimp only
  (repeat' split) <;> simp only [commit_keep, setModul_keep, flushEvts_keep, fireK_keep, wr_keep, setArm_keep, implies_true, keep_foldl]

theorem trendEnd_keep (s : State) (k : Nat) :
    (trendEnd s k).keep = s.keep := by
  unfold trendEnd
  dsimp only
  (repeat' split) <;> simp only [modEvt_keep, wr_keep, setEst_keep, keep_ite, ite_self, implies_true, keep_foldl]

theorem modRam_keep (s : State) (k : Nat) (c : Nat) (ue : Bool) :
    (modRam s k c ue).keep = s.keep := by
  unfold modRam
  simp only [blockArm_keep, fireK_keep, wr_keep, keep_ite, ite_self]

theorem armsOff_keep (s : State) (k : Nat) :
    (armsOff s k).keep = s.keep := by
  unfold armsOff
  dsimp only
  (repeat' split) <;> simp only [setAmode_keep, modArm_keep, wrBoth_keep, implies_true, keep_foldl]

theorem modLane_keep (s : State) (ln : Nat) (f : Lane → Lane) :
    (modLane s ln f).keep = s.keep := by
  unfold modLane
  simp only [setLane_keep]

theorem modCtx_keep (s : State) (c : Nat) (f : Ctx → Ctx) :
    (modCtx s c f).keep = s.keep := by
  unfold modCtx
  simp only [setCtx_keep]

theorem laneEvt_keep (s : State) (ln : Nat) (i : Nat) :
    (laneEvt s ln i).keep = s.keep := by
  unfold laneEvt
  simp only [raiseBit_keep]

theorem laneFault_keep (s : State) (ln : Nat) (cause : Nat) :
    (laneFault s ln cause).keep = s.keep := by
  unfold laneFault
  simp only [wr_keep, fire_keep, keep_ite, ite_self]

theorem syncTx_keep (s : State) (ln : Nat) :
    (syncTx s ln).keep = s.keep := by
  unfold syncTx
  simp only [wrB_keep]

theorem syncAllTx_keep (s : State) :
    (syncAllTx s).keep = s.keep := by
  unfold syncAllTx
  (try dsimp only)
  (repeat' split) <;> (first | rfl | simp (disch := (intros; (repeat' split) <;> simp only [syncTx_keep, wr_keep, keep_rec, keep_ite, ite_self, implies_true, keep_foldl, keep_foldl2, id_eq])) only [keep_foldl])

theorem endScan_keep (s : State) (ln : Nat) :
    (endScan s ln).keep = s.keep := by
  unfold endScan
  (try dsimp only)
  (repeat' split) <;> (first | rfl | simp (disch := (intros; (repeat' split) <;> simp only [modLane_keep, wr_keep, keep_rec, keep_ite, ite_self, implies_true, keep_foldl, keep_foldl2, id_eq])) only [modLane_keep, wr_keep])

theorem reachOff_keep (s : State) (ln : Nat) :
    (reachOff s ln).keep = s.keep := by
  unfold reachOff
  simp only [modLane_keep, wr_keep, keep_ite, ite_self]

theorem setLstate_keep (s : State) (ln : Nat) (v : Nat) :
    (setLstate s ln v).keep = s.keep := by
  unfold setLstate
  simp only [reachOff_keep, syncTx_keep, wr_keep, keep_ite, ite_self]

theorem syncLanes_keep (s : State) :
    (syncLanes s).keep = s.keep := by
  unfold syncLanes
  (try dsimp only)
  (repeat' split) <;> (first | rfl | simp (disch := (intros; (repeat' split) <;> simp only [setLstate_keep, syncTx_keep, wr_keep, keep_rec, keep_ite, ite_self, implies_true, keep_foldl, keep_foldl2, id_eq])) only [keep_foldl])

theorem setCstate_keep (s : State) (c : Nat) (v : Nat) :
    (setCstate s c v).keep = s.keep := by
  unfold setCstate
  simp only [wr_keep, endScan_keep, modCtx_keep, keep_rec, keep_ite, ite_self]

theorem syncAcmd_keep (s : State) (c : Nat) :
    (syncAcmd s c).keep = s.keep := by
  unfold syncAcmd
  simp only [wrB_keep, wr_keep]

theorem flushCtx_keep (s : State) (c : Nat) :
    (flushCtx s c).keep = s.keep := by
  unfold flushCtx
  simp only [setCtx_keep, wr_keep, syncAcmd_keep, keep_ite, ite_self]

theorem maintAdd_keep (s : State) (ln : Nat) (o : MaintOp) :
    (maintAdd s ln o).keep = s.keep := by
  unfold maintAdd
  simp only [modLane_keep]

theorem occultId_keep (s : State) (c : Nat) (serial : BitVec 48) :
    (occultId s c serial).keep = s.keep := by
  unfold occultId
  simp only [maintAdd_keep]

theorem leaveCtx_keep (s : State) (c : Nat) :
    (leaveCtx s c).keep = s.keep := by
  unfold leaveCtx
  simp only [modLane_keep, wr_keep, modCtx_keep]

theorem startRanging_keep (s : State) (c : Nat) (gs : List Nat) (retried : Bool) :
    (startRanging s c gs retried).keep = s.keep := by
  unfold startRanging
  dsimp only
  (repeat' split) <;> simp only [setCstate_keep, leaveCtx_keep, modCtx_keep]

theorem rangeFail_keep (s : State) (c : Nat) (cause : Nat) :
    (rangeFail s c cause).keep = s.keep := by
  unfold rangeFail
  simp only [wr_keep, leaveCtx_keep, setCstate_keep, laneEvt_keep, occultId_keep]

theorem retryRanging_keep (s : State) (c : Nat) :
    (retryRanging s c).keep = s.keep := by
  unfold retryRanging
  (try dsimp only)
  (repeat' split) <;> (first | rfl | simp (disch := (intros; (repeat' split) <;> simp only [startRanging_keep, rangeFail_keep, wr_keep, keep_rec, keep_ite, ite_self, implies_true, keep_foldl, keep_foldl2, id_eq])) only [startRanging_keep, rangeFail_keep])

theorem setDdn_keep (s : State) (c : Nat) :
    (setDdn s c).keep = s.keep := by
  unfold setDdn
  simp only [divFree_keep, wr_keep]

theorem occultCtx_keep (s : State) (c : Nat) (entries : Bool) :
    (occultCtx s c entries).keep = s.keep := by
  unfold occultCtx
  simp only [setCstate_keep, modLane_keep, leaveCtx_keep, keep_ite, ite_self]

theorem degrade_keep (s : State) (c : Nat) :
    (degrade s c).keep = s.keep := by
  unfold degrade
  simp only [setCstate_keep, modLane_keep, wr_keep, laneEvt_keep, fire_keep, modCtx_keep, keep_ite, ite_self]

theorem cmdCntclr_keep (s : State) (c : Nat) :
    (cmdCntclr s c).keep = s.keep := by
  unfold cmdCntclr
  simp only [wr_keep]

theorem cmdRelease_keep (s : State) (c : Nat) :
    (cmdRelease s c).keep = s.keep := by
  unfold cmdRelease
  simp only [leaveCtx_keep, maintAdd_keep, setCstate_keep, flushCtx_keep, keep_ite, ite_self]

theorem cmdOccult_keep (s : State) (c : Nat) :
    (cmdOccult s c).keep = s.keep := by
  unfold cmdOccult
  simp only [occultCtx_keep]

theorem cmdEnable_keep (s : State) (c : Nat) :
    (cmdEnable s c).keep = s.keep := by
  unfold cmdEnable
  simp only [startRanging_keep, wr_keep, keep_ite, ite_self]

theorem cmdAssign_keep (s : State) (c : Nat) :
    (cmdAssign s c).keep = s.keep := by
  unfold cmdAssign
  simp only [setCstate_keep, keep_ite, ite_self]

theorem cellCmd_keep (s : State) (c : Nat) (v : Nat) :
    (cellCmd s c v).keep = s.keep := by
  unfold cellCmd
  simp only [cmdCntclr_keep, cmdOccult_keep, cmdEnable_keep, cmdRelease_keep, cmdAssign_keep, keep_ite, ite_self]

theorem acmdPush_keep (s : State) (c : Nat) (w : Word) :
    (acmdPush s c w).keep = s.keep := by
  unfold acmdPush
  simp only [setCtx_keep, wr_keep, syncAcmd_keep, keep_ite, ite_self]

theorem ctxHeld_keep (s : State) (c : Nat) :
    (ctxHeld s c).keep = s.keep := by
  unfold ctxHeld
  simp only [wr_keep, fire_keep]

theorem ctxWrite_keep (s : State) (c : Nat) (off : Nat) (v : Nat) :
    (ctxWrite s c off v).keep = s.keep := by
  unfold ctxWrite
  dsimp only
  (repeat' split) <;> simp only [heldSet_keep, wr_keep, ctxHeld_keep, acmdPush_keep, cellCmd_keep, modCtx_keep, keep_ite, ite_self, implies_true, keep_foldl]

theorem acmdResends_keep (s : State) (ln : Nat) (n : Nat) :
    (acmdResends s ln n).2.keep = s.keep := by
  unfold acmdResends
  dsimp only
  (repeat' split) <;> simp (disch := (intros; (repeat' split) <;> simp only [inc_keep, syncAcmd_keep, modCtx_keep, wr_keep, keep_rec, keep_ite, ite_self, implies_true, keep_foldl, keep_foldl2, id_eq])) only [keep_foldl2]

theorem acmdNew_keep (s : State) (ln : Nat) (n : Nat) :
    (acmdNew s ln n).2.keep = s.keep := by
  unfold acmdNew
  dsimp only
  (repeat' split) <;> simp (disch := (intros; (repeat' split) <;> simp only [modLane_keep, setCtx_keep, wr_keep, syncAcmd_keep, keep_rec, keep_ite, ite_self, implies_true, keep_foldl, keep_foldl2, id_eq])) only [keep_foldl2]

theorem buildAcmd_keep (s : State) (ln : Nat) (subn : Nat) :
    (buildAcmd s ln subn).2.keep = s.keep := by
  unfold buildAcmd
  simp only [acmdNew_keep, acmdResends_keep]

theorem meridianLane_keep (s : State) (ln : Nat) :
    (meridianLane s ln).keep = s.keep := by
  unfold meridianLane
  dsimp only
  (repeat' split) <;> simp (disch := (intros; (repeat' split) <;> simp only [modLane_keep, wr_keep, modCtx_keep, keep_rec, keep_ite, ite_self, implies_true, keep_foldl, keep_foldl2, id_eq])) only [modLane_keep, keep_foldl]

theorem buildMap_keep (s : State) (ln : Nat) :
    (buildMap s ln).2.2.keep = s.keep := by
  unfold buildMap
  extract_lets first eqd s1 pick rgAll ranging s2 now later s3 s4 s5 g m
  have h1 : s1.keep = s.keep := by unfold s1; clear_value eqd; cases eqd <;> simp only [modCtx_keep]
  have h2 : s2.keep = s.keep := by
    rw [← h1]; unfold s2; refine keep_foldl _ _ _ (fun s x => ?_); dsimp only; (repeat' split) <;> simp only [setCtx_keep]
  have h5 : s5.keep = s.keep := by
    unfold s5; rw [keep_foldl _ _ _ (fun s x => by simp only [wr_keep, modCtx_keep])]
    simp only [s4, s3, incBy_keep, modLane_keep, h2]
  simp only [modLane_keep, h5]

theorem maintSent_keep (s : State) (ln : Nat) (o : Option MaintOp) :
    (maintSent s ln o).keep = s.keep := by
  unfold maintSent
  dsimp only
  (repeat' split) <;> simp only [modLane_keep, modCtx_keep]

theorem clearCmdw_keep (s : State) (ln : Nat) :
    (clearCmdw s ln).keep = s.keep := by
  unfold clearCmdw
  dsimp only
  (repeat' split) <;> simp only [setCtx_keep, keep_ite, ite_self, implies_true, keep_foldl]

theorem buildFrame_keep (s : State) (ln : Nat) :
    (buildFrame s ln).keep = s.keep := by
  unfold buildFrame
  dsimp only
  (repeat' split) <;> simp (disch := (intros; (repeat' split) <;> simp only [meridianLane_keep, modLane_keep, wr_keep, buildMap_keep, buildAcmd_keep, maintSent_keep, clearCmdw_keep, keep_rec, keep_ite, ite_self, implies_true, keep_foldl, keep_foldl2, id_eq])) only [meridianLane_keep, modLane_keep, wr_keep, buildMap_keep, buildAcmd_keep, maintSent_keep, clearCmdw_keep]

theorem seeing_keep (s : State) (c : Nat) (fig : Nat) :
    (seeing s c fig).keep = s.keep := by
  unfold seeing
  simp only [wrB_keep, divFree_keep, wr_keep, laneEvt_keep, modCtx_keep, almObs_keep, keep_ite, ite_self]

theorem track_keep (s : State) (c : Nat) (err : Int) :
    (track s c err).keep = s.keep := by
  unfold track
  simp only [setCtx_keep, startRanging_keep, divFree_keep, setDdn_keep, wr_keep, maintAdd_keep, fire_keep, modCtx_keep, keep_ite, ite_self]

theorem ackReport_keep (s : State) (c : Nat) (r : BitVec 128) :
    (ackReport s c r).keep = s.keep := by
  unfold ackReport
  dsimp only
  (repeat' split) <;> simp only [setCtx_keep, wr_keep, syncAcmd_keep, laneEvt_keep, modCtx_keep]

theorem cellFault_keep (s : State) (c : Nat) (flt : Bool) :
    (cellFault s c flt).keep = s.keep := by
  unfold cellFault
  simp only [setCtx_keep, wr_keep, fireIf_keep]

theorem rxFail_keep (s : State) (c : Nat) (cyc : Nat) (regular : Bool) :
    (rxFail s c cyc regular).keep = s.keep := by
  unfold rxFail
  simp only [modLane_keep, inc_keep, setCtx_keep, retryRanging_keep, modCtx_keep, degrade_keep, keep_ite, ite_self]

theorem rxGood_keep (s : State) (c : Nat) (cyc : Nat) (at_ : Nat) (rx : BurstRx) (regular : Bool) :
    (rxGood s c cyc at_ rx regular).keep = s.keep := by
  unfold rxGood
  extract_lets ln b r s1 s2 full s3 s4 s5 s6 s7 s8 s9 s10 s11 gg s12
  have h1 : s1.keep = s.keep := by simp only [s1, inc_keep]
  have h2 : s2.keep = s.keep := by rw [← h1]; exact keep_foldl _ _ _ (fun s x => wr_keep _ _ _ _)
  have h3 : s3.keep = s.keep := by simp only [s3, wr_keep, h2]
  have h4 : s4.keep = s.keep := by unfold s4; split <;> simp only [laneEvt_keep, inc_keep, wr_keep, h3]
  have h5 : s5.keep = s.keep := by simp only [s5, incBy_keep, h4]
  have h6 : s6.keep = s.keep := by simp only [s6, seeing_keep, h5]
  have h7 : s7.keep = s.keep := by unfold s7; split <;> simp only [setModul_keep, h6]
  have h8 : s8.keep = s.keep := by simp only [s8, ackReport_keep, h7]
  have h9 : s9.keep = s.keep := by simp only [s9, modCtx_keep, h8]
  have h10 : s10.keep = s.keep := by simp only [s10, wr_keep, modLane_keep, h9]
  have h11 : s11.keep = s.keep := by simp only [s11, h10, track_keep]
  have h12 : s12.keep = s.keep := by
    unfold s12
    (repeat' split) <;> simp only [h10, h11, laneEvt_keep, modCtx_keep, setCstate_keep, retryRanging_keep]
  split
  · exact h7
  · rw [cellFault_keep, h12]

theorem babble_keep (s : State) (ln : Nat) (who : Option Nat) :
    (babble s ln who).keep = s.keep := by
  unfold babble
  dsimp only
  (repeat' split) <;> simp only [modLane_keep, inc_keep, occultCtx_keep, laneEvt_keep, fire_keep]

theorem scanBurst_keep (s : State) (ln : Nat) (sl : Nat) :
    (scanBurst s ln sl).keep = s.keep := by
  unfold scanBurst
  dsimp only
  (repeat' split) <;> simp only [modLane_keep, wr_keep]

theorem timerDdn_keep (s : State) :
    (timerDdn s).keep = s.keep := by
  unfold timerDdn
  dsimp only
  (repeat' split) <;> simp only [setCstate_keep, leaveCtx_keep, laneFault_keep, wr_keep, occultId_keep, keep_ite, ite_self, implies_true, keep_foldl]

theorem unmade_keep (s : State) (c : Nat) : (unmade s c).keep = s.keep := by
  unfold unmade
  simp only [wr_keep, modCtx_keep]

theorem restartCtx_keep (s : State) (c d : Nat) : (restartCtx s c d).keep = s.keep := by
  unfold restartCtx
  simp only [wr_keep, modCtx_keep]

theorem restartLane_keep (s : State) (ln last : Nat) : (restartLane s ln last).keep = s.keep := by
  unfold restartLane
  extract_lets d s0 x made back s1 s2
  split
  · simp only [s0, modLane_keep]
  · rw [keep_foldl _ _ _ (fun s sl => restartCtx_keep s _ _)]
    unfold s2
    rw [keep_foldl _ _ _ (fun s e => unmade_keep s _)]
    simp only [s1, s0, setLane_keep, modLane_keep]

theorem laneTaps_keep (s : State) (ln : Nat) :
    (laneTaps s ln).keep = s.keep := by
  unfold laneTaps
  dsimp only
  (repeat' split) <;> simp only [acqObs_keep, setAcq_keep, almObs_keep, keep_ite, ite_self, implies_true, keep_foldl]

theorem laneBuild_keep (s : State) (ln : Nat) :
    (laneBuild s ln).keep = s.keep := by
  unfold laneBuild
  dsimp only
  (repeat' split) <;> simp only [takeStaged_keep, missPass_keep, reachOfs_keep, ctxWrite_keep, laneTaps_keep, clearCmdw_keep, buildFrame_keep, implies_true, keep_foldl]

theorem frameStart_keep (s : State) (ln : Nat) :
    (frameStart s ln).keep = s.keep := by
  unfold frameStart
  simp only [setLane_keep, takeS_keep, reach_keep, keep_ite, ite_self]

theorem laneReport_keep (s : State) (ln : Nat) (slot : RxSlot) (rx : Option BurstRx) :
    (laneReport s ln slot rx).keep = s.keep := by
  unfold laneReport
  dsimp only
  (repeat' split) <;> simp only [scanBurst_keep, rxFail_keep, rxGood_keep, modLane_keep, babble_keep, reach_keep]

theorem laneRanging_keep (s : State) (ln : Nat) (rx : BurstRx) :
    (laneRanging s ln rx).keep = s.keep := by
  unfold laneRanging
  dsimp only
  (repeat' split) <;> simp only [modLane_keep, setDdn_keep, laneFault_keep, wr_keep, rangeFail_keep, modCtx_keep, occultId_keep]

theorem rangingDark_keep (s : State) (ln : Nat) :
    (rangingDark s ln).keep = s.keep := by
  unfold rangingDark
  dsimp only
  (repeat' split) <;> simp only [rangeFail_keep, modCtx_keep]

theorem ackwait_keep (s : State) (ln : Nat) (sl : Nat) :
    (ackwait s ln sl).keep = s.keep := by
  unfold ackwait
  dsimp only
  (repeat' split) <;> simp only [wr_keep, syncAcmd_keep, laneEvt_keep, fire_keep, modCtx_keep, degrade_keep]

theorem outOfGrant_keep (s : State) (ln : Nat) (who : Option (BitVec 128)) :
    (outOfGrant s ln who).keep = s.keep := by
  unfold outOfGrant
  simp only [babble_keep, keep_ite, ite_self]

theorem babbleAll_keep (s : State) (ln : Nat) :
    (babbleAll s ln).keep = s.keep := by
  unfold babbleAll
  dsimp only
  (repeat' split) <;> simp only [modLane_keep, occultCtx_keep, laneEvt_keep, fire_keep, implies_true, keep_foldl]

theorem babblePersist_keep (s : State) (ln : Nat) :
    (babblePersist s ln).keep = s.keep := by
  unfold babblePersist
  dsimp only
  (repeat' split) <;> simp only [laneFault_keep, setLane_keep, wr_keep]

theorem seeErr_keep (s : State) (ln : Nat) (sl : Nat) :
    (seeErr s ln sl).keep = s.keep := by
  unfold seeErr
  simp only [setCtx_keep, fire_keep, keep_ite, ite_self]

theorem rxlos_keep (s : State) (ln : Nat) :
    (rxlos s ln).keep = s.keep := by
  unfold rxlos
  simp only [laneFault_keep, keep_ite, ite_self]

theorem laneEnable_keep (s : State) (ln : Nat) :
    (laneEnable s ln).keep = s.keep := by
  unfold laneEnable
  simp only [wr_keep, setLstate_keep, keep_ite, ite_self]

theorem laneDisable_keep (s : State) (ln : Nat) :
    (laneDisable s ln).keep = s.keep := by
  unfold laneDisable
  dsimp only
  (repeat' split) <;> simp only [setCstate_keep, modLane_keep, leaveCtx_keep, wr_keep, setLstate_keep, flushCtx_keep, keep_ite, ite_self, implies_true, keep_foldl]

theorem laneDark_keep (s : State) (ln : Nat) :
    (laneDark s ln).keep = s.keep := by
  unfold laneDark
  dsimp only
  (repeat' split) <;> simp only [modLane_keep, wr_keep, setLstate_keep]

theorem laneWake_keep (s : State) (ln : Nat) :
    (laneWake s ln).keep = s.keep := by
  unfold laneWake
  simp only [modLane_keep, wr_keep, setLstate_keep, keep_ite, ite_self]

theorem laneLocked_keep (s : State) (ln : Nat) :
    (laneLocked s ln).keep = s.keep := by
  unfold laneLocked
  simp only [laneEvt_keep, setLstate_keep, keep_ite, ite_self]

theorem ldieUnlock_keep (s : State) (l : Nat) :
    (ldieUnlock s l).keep = s.keep := by
  unfold ldieUnlock
  dsimp only
  (repeat' split) <;> simp only [laneFault_keep, fire_keep, setLstate_keep, keep_ite, ite_self, implies_true, keep_foldl]

theorem laneCtl_keep (s : State) (ln : Nat) (v : Nat) :
    (laneCtl s ln v).keep = s.keep := by
  unfold laneCtl
  simp only [laneDark_keep, laneDisable_keep, laneEnable_keep, laneWake_keep, keep_ite, ite_self]

theorem bcastPush_keep (s : State) (ln : Nat) (v : Word) :
    (bcastPush s ln v).keep = s.keep := by
  unfold bcastPush
  simp only [setLane_keep, wr_keep, keep_ite, ite_self]

theorem laneCntClr_keep (s : State) (ln : Nat) :
    (laneCntClr s ln).keep = s.keep := by
  unfold laneCntClr
  (try dsimp only)
  (repeat' split) <;> (first | rfl | simp (disch := (intros; (repeat' split) <;> simp only [wr_keep, keep_rec, keep_ite, ite_self, implies_true, keep_foldl, keep_foldl2, id_eq])) only [keep_foldl])

theorem wakeStart_keep (s : State) (ln : Nat) :
    (wakeStart s ln).keep = s.keep := by
  unfold wakeStart
  simp only [wr_keep, keep_ite, ite_self]

theorem rsStart_keep (s : State) (ln : Nat) :
    (rsStart s ln).keep = s.keep := by
  unfold rsStart
  simp only [setLane_keep, wr_keep, endScan_keep, keep_ite, ite_self]

theorem rsDone_keep (s : State) (ln : Nat) (counts : List Nat) :
    (rsDone s ln counts).keep = s.keep := by
  unfold rsDone
  dsimp only
  (repeat' split) <;> simp only [modLane_keep, wr_keep, laneEvt_keep, implies_true, keep_foldl]

theorem ctxRam_keep (s : State) (ln : Nat) (sl : Nat) (ue : Bool) :
    (ctxRam s ln sl ue).keep = s.keep := by
  unfold ctxRam
  simp only [setCstate_keep, leaveCtx_keep, fire_keep, modCtx_keep, keep_ite, ite_self]

theorem framerBad_keep (s : State) (l : Nat) :
    (framerBad s l).keep = s.keep := by
  unfold framerBad
  dsimp only
  (repeat' split) <;> simp only [syncTx_keep, fire_keep, keep_rec, implies_true, keep_foldl]

theorem onCtx_keep (s : State) (ln : Nat) (sl : Nat) (f : Nat → State) (hf : ∀ x, (f x).keep = s.keep) :
    (onCtx s ln sl f).keep = s.keep := by
  unfold onCtx
  simp only [hf, keep_ite, ite_self]

theorem onLane_keep (s : State) (ln : Nat) (f : State → State) (hf : ∀ x, (f x).keep = x.keep) :
    (onLane s ln f).keep = s.keep := by
  unfold onLane
  simp only [hf, keep_ite, ite_self]

theorem execLaneBuildCutoff_keep (ln : Nat) (s : State) :
    keeps (execLaneBuildCutoff ln s) s := by
  unfold execLaneBuildCutoff
  rw [keeps_next]
  simp only [laneBuild_keep]

theorem execFrameStart_keep (ln : Nat) (s : State) :
    keeps (execFrameStart ln s) s := by
  unfold execFrameStart
  rw [keeps_next]
  simp only [frameStart_keep]

theorem execLaneReportRx_keep (ln : Nat) (slot : RxSlot) (rx : Option BurstRx) (s : State) :
    keeps (execLaneReportRx ln slot rx s) s := by
  unfold execLaneReportRx
  rw [keeps_next]
  simp only [laneReport_keep]

theorem execLaneRangingRx_keep (ln : Nat) (rx : BurstRx) (s : State) :
    keeps (execLaneRangingRx ln rx s) s := by
  unfold execLaneRangingRx
  rw [keeps_next]
  simp only [laneRanging_keep]

theorem execRangingNoBurst_keep (ln : Nat) (s : State) :
    keeps (execRangingNoBurst ln s) s := by
  unfold execRangingNoBurst
  rw [keeps_next]
  simp only [rangingDark_keep]

theorem execAckwaitExpiry_keep (ln : Nat) (sl : Nat) (s : State) :
    keeps (execAckwaitExpiry ln sl s) s := by
  unfold execAckwaitExpiry
  rw [keeps_next]
  simp only [onCtx_keep, ackwait_keep, implies_true]

theorem execOutOfGrantLight_keep (ln : Nat) (who : Option (BitVec 128)) (s : State) :
    keeps (execOutOfGrantLight ln who s) s := by
  unfold execOutOfGrantLight
  rw [keeps_next]
  simp only [outOfGrant_keep]

theorem execBabbleUnidentified_keep (ln : Nat) (s : State) :
    keeps (execBabbleUnidentified ln s) s := by
  unfold execBabbleUnidentified
  rw [keeps_next]
  simp only [babbleAll_keep]

theorem execBabblePersist_keep (ln : Nat) (s : State) :
    keeps (execBabblePersist ln s) s := by
  unfold execBabblePersist
  rw [keeps_next]
  simp only [babblePersist_keep]

theorem execSeeErrPersist_keep (ln : Nat) (sl : Nat) (s : State) :
    keeps (execSeeErrPersist ln sl s) s := by
  unfold execSeeErrPersist
  rw [keeps_next]
  simp only [onCtx_keep, seeErr_keep, implies_true]

theorem execRxlos_keep (ln : Nat) (s : State) :
    keeps (execRxlos ln s) s := by
  unfold execRxlos
  rw [keeps_next]
  simp only [rxlos_keep]

theorem execCellCmdAssign_keep (ln : Nat) (sl : Nat) (s : State) :
    keeps (execCellCmdAssign ln sl s) s := by
  unfold execCellCmdAssign
  rw [keeps_next]
  simp only [onCtx_keep, cmdAssign_keep, implies_true]

theorem execCellCmdEnable_keep (ln : Nat) (sl : Nat) (s : State) :
    keeps (execCellCmdEnable ln sl s) s := by
  unfold execCellCmdEnable
  rw [keeps_next]
  simp only [onCtx_keep, cmdEnable_keep, implies_true]

theorem execCellCmdOccult_keep (ln : Nat) (sl : Nat) (s : State) :
    keeps (execCellCmdOccult ln sl s) s := by
  unfold execCellCmdOccult
  rw [keeps_next]
  simp only [onCtx_keep, cmdOccult_keep, implies_true]

theorem execCellCmdRelease_keep (ln : Nat) (sl : Nat) (s : State) :
    keeps (execCellCmdRelease ln sl s) s := by
  unfold execCellCmdRelease
  rw [keeps_next]
  simp only [onCtx_keep, cmdRelease_keep, implies_true]

theorem execCellCmdCntclr_keep (ln : Nat) (sl : Nat) (s : State) :
    keeps (execCellCmdCntclr ln sl s) s := by
  unfold execCellCmdCntclr
  rw [keeps_next]
  simp only [onCtx_keep, cmdCntclr_keep, implies_true]

theorem execAcmdPush_keep (ln : Nat) (sl : Nat) (v : Word) (s : State) :
    keeps (execAcmdPush ln sl v s) s := by
  unfold execAcmdPush
  rw [keeps_next]
  simp only [onCtx_keep, acmdPush_keep, implies_true]

theorem execBcastPush_keep (w : Wr) (ln : Nat) (v : Word) (s : State) :
    keeps (execBcastPush w ln v s) s := by
  unfold execBcastPush
  rw [keeps_next]
  simp only [retire_keep, bcastPush_keep, onLane_keep, implies_true]

theorem execLaneCntClr_keep (w : Wr) (ln : Nat) (s : State) :
    keeps (execLaneCntClr w ln s) s := by
  unfold execLaneCntClr
  rw [keeps_next]
  simp only [retire_keep, laneCntClr_keep, onLane_keep, implies_true]

theorem execLaneEnSet_keep (w : Wr) (ln : Nat) (s : State) :
    keeps (execLaneEnSet w ln s) s := by
  unfold execLaneEnSet
  rw [keeps_next]
  simp only [retire_keep, laneEnable_keep, onLane_keep, implies_true]

theorem execLaneEnClear_keep (w : Wr) (ln : Nat) (s : State) :
    keeps (execLaneEnClear w ln s) s := by
  unfold execLaneEnClear
  rw [keeps_next]
  simp only [retire_keep, onLane_keep, laneDisable_keep, implies_true]

theorem execLaneDarkRequest_keep (w : Wr) (ln : Nat) (s : State) :
    keeps (execLaneDarkRequest w ln s) s := by
  unfold execLaneDarkRequest
  rw [keeps_next]
  simp only [laneDark_keep, retire_keep, onLane_keep, implies_true]

theorem execLaneWakeUp_keep (w : Wr) (ln : Nat) (s : State) :
    keeps (execLaneWakeUp w ln s) s := by
  unfold execLaneWakeUp
  rw [keeps_next]
  simp only [laneWake_keep, retire_keep, onLane_keep, implies_true]

theorem execLaneLocked_keep (ln : Nat) (s : State) :
    keeps (execLaneLocked ln s) s := by
  unfold execLaneLocked
  rw [keeps_next]
  simp only [onLane_keep, laneLocked_keep, implies_true]

theorem execLdiePllUnlock_keep (l : Nat) (s : State) :
    keeps (execLdiePllUnlock l s) s := by
  unfold execLdiePllUnlock
  rw [keeps_next]
  simp only [ldieUnlock_keep]

theorem execLaneTxflt_keep (ln : Nat) (s : State) :
    keeps (execLaneTxflt ln s) s := by
  unfold execLaneTxflt
  rw [keeps_next]
  simp only [wr_keep, onLane_keep, laneFault_keep, implies_true]

theorem execWakeStart_keep (w : Wr) (ln : Nat) (s : State) :
    keeps (execWakeStart w ln s) s := by
  unfold execWakeStart
  rw [keeps_next]
  simp only [wakeStart_keep, retire_keep, onLane_keep, implies_true]

theorem execWakeToneEnd_keep (ln : Nat) (s : State) :
    keeps (execWakeToneEnd ln s) s := by
  unfold execWakeToneEnd
  rw [keeps_next]
  simp only [wr_keep, onLane_keep, implies_true]

theorem execRsStart_keep (w : Wr) (ln : Nat) (s : State) :
    keeps (execRsStart w ln s) s := by
  unfold execRsStart
  rw [keeps_next]
  simp only [retire_keep, rsStart_keep, onLane_keep, implies_true]

theorem execRsAbort_keep (w : Wr) (ln : Nat) (s : State) :
    keeps (execRsAbort w ln s) s := by
  unfold execRsAbort
  rw [keeps_next]
  simp only [retire_keep, endScan_keep, onLane_keep, implies_true]

theorem execRsScanDone_keep (ln : Nat) (counts : List Nat) (s : State) :
    keeps (execRsScanDone ln counts s) s := by
  unfold execRsScanDone
  rw [keeps_next]
  simp only [rsDone_keep, onLane_keep, implies_true]

theorem execContextRamError_keep (ln : Nat) (sl : Nat) (ue : Bool) (s : State) :
    keeps (execContextRamError ln sl ue s) s := by
  unfold execContextRamError
  rw [keeps_next]
  simp only [onCtx_keep, ctxRam_keep, implies_true]

theorem execFramerMismatch_keep (l : Nat) (s : State) :
    keeps (execFramerMismatch l s) s := by
  unfold execFramerMismatch
  rw [keeps_next]
  simp only [framerBad_keep]

end State

end Sys2Proof.Machine
end

