-- ==== Sys2Proof/Laws/FrameUnits.lean ====
section
/-!
SUPPORT. The frame of the converter dies, the law engine, acquisition, the almanac, metering, DMA and Ethernet: one lemma for each operation.
-/
namespace Sys2Proof.Machine

namespace State

theorem onAd_keep (s : State) (a : Nat) (f : State → State) (hf : ∀ x, (f x).keep = x.keep) :
    (onAd s a f).keep = s.keep := by
  unfold onAd
  simp only [hf, keep_ite, ite_self]

theorem fireAd_keep (s : State) (a : Nat) (i : Nat) :
    (fireAd s a i).keep = s.keep := by
  unfold fireAd
  simp only [fire_keep]

theorem adEvt_keep (s : State) (a : Nat) (i : Nat) :
    (adEvt s a i).keep = s.keep := by
  unfold adEvt
  simp only [raiseBit_keep]

theorem seqEnable_keep (s : State) (a : Nat) (n : Nat) :
    (seqEnable s a n).keep = s.keep := by
  unfold seqEnable
  dsimp only
  (repeat' split) <;> simp only [wrB_keep, wr_keep, setAd_keep, keep_rec]

theorem convBegin_keep (s : State) (a : Nat) (n : Nat) (sel : Nat) (aln : Nat) (ridx : Nat) (urg : Bool) :
    (convBegin s a n sel aln ridx urg).keep = s.keep := by
  unfold convBegin
  simp only [modAd_keep]

theorem seqEntry_keep (s : State) (a : Nat) (n : Nat) :
    (seqEntry s a n).keep = s.keep := by
  unfold seqEntry
  simp only [wr_keep, convBegin_keep]

theorem seqStep_keep (s : State) (a : Nat) (n : Nat) :
    (seqStep s a n).keep = s.keep := by
  unfold seqStep
  dsimp only
  (repeat' split) <;> simp only [seqEnable_keep, inc_keep, adEvt_keep, seqEntry_keep, wr_keep, modAd_keep, convBegin_keep]

theorem seqBoundary_keep (s : State) (a : Nat) :
    (seqBoundary s a).keep = s.keep := by
  unfold seqBoundary
  dsimp only
  (repeat' split) <;> simp only [seqEnable_keep, wr_keep, modAd_keep, seqStep_keep, implies_true, keep_foldl]

theorem pairCompare_keep (s : State) (a : Nat) (o : ConvOut) :
    (pairCompare s a o).keep = s.keep := by
  unfold pairCompare
  dsimp only
  (repeat' split) <;> simp only [inc_keep, modAd_keep]

theorem adStore_keep (s : State) (a : Nat) (c : Conv) (code : Int) (ov : Bool) :
    (adStore s a c code ov).keep = s.keep := by
  unfold adStore
  simp only [wrB_keep, wr_keep, modAd_keep, keep_ite, ite_self]

theorem adTaps_keep (s : State) (a : Nat) :
    (adTaps s a).keep = s.keep := by
  unfold adTaps
  dsimp only
  (repeat' split) <;> simp only [acqObs_keep, almObs_keep, implies_true, keep_foldl]

theorem adcResult_keep (s : State) (a : Nat) (n : Nat) (vin : Int) :
    (adcResult s a n vin).keep = s.keep := by
  unfold adcResult
  dsimp only
  (repeat' split) <;> simp only [adStore_keep, adEvt_keep, reachOfs_keep, pairCompare_keep, adTaps_keep, evt_keep, modAd_keep]

theorem pairMis_keep (s : State) (a : Nat) (p : Nat) :
    (pairMis s a p).keep = s.keep := by
  unfold pairMis
  simp only [adEvt_keep, wr_keep, fireAd_keep, modAd_keep, keep_ite, ite_self]

theorem urgWrite_keep (s : State) (a : Nat) (n : Nat) (v : Word) :
    (urgWrite s a n v).keep = s.keep := by
  unfold urgWrite
  simp only [inc_keep, wr_keep, fireAd_keep, modAd_keep, keep_ite, ite_self]

theorem calMatch_keep (s : State) (a : Nat) (sum : Int) :
    (calMatch s a sum).keep = s.keep := by
  unfold calMatch
  simp only [adEvt_keep, wr_keep, fireAd_keep, modAd_keep, keep_ite, ite_self]

theorem calByte_keep (s : State) (d : Int) :
    (calByte s d).2.keep = s.keep := by
  unfold calByte
  dsimp only
  (repeat' split) <;> simp only [freeWord_keep]

theorem calDwell_keep (s : State) (a : Nat) (ofs : Int) (gain : Int) :
    (calDwell s a ofs gain).keep = s.keep := by
  unfold calDwell
  simp only [inc_keep, adEvt_keep, calByte_keep, wr_keep, fireAd_keep, modAd_keep, keep_ite, ite_self]

theorem adRamError_keep (s : State) (a : Nat) (ue : Bool) (n : Nat) (ridx : Option Nat) :
    (adRamError s a ue n ridx).keep = s.keep := by
  unfold adRamError
  dsimp only
  (repeat' split) <;> simp only [wr_keep, fireAd_keep, modAd_keep, wrBoth_keep, implies_true, keep_foldl]

theorem execAdcResult_keep (a : Nat) (n : Nat) (vin : Int) (s : State) :
    keeps (execAdcResult a n vin s) s := by
  unfold execAdcResult
  rw [keeps_next]
  simp only [onAd_keep, adcResult_keep, implies_true]

theorem execPairMismatch_keep (a : Nat) (p : Nat) (s : State) :
    keeps (execPairMismatch a p s) s := by
  unfold execPairMismatch
  rw [keeps_next]
  simp only [onAd_keep, pairMis_keep, implies_true]

theorem execUrgRequest_keep (w : Wr) (a : Nat) (n : Nat) (v : Word) (s : State) :
    keeps (execUrgRequest w a n v s) s := by
  unfold execUrgRequest
  rw [keeps_next]
  simp only [retire_keep, urgWrite_keep, onAd_keep, implies_true]

theorem execRefDiff_keep (a : Nat) (s : State) :
    keeps (execRefDiff a s) s := by
  unfold execRefDiff
  rw [keeps_next]
  simp only [wr_keep, onAd_keep, implies_true]

theorem execRefDiffEnd_keep (a : Nat) (s : State) :
    keeps (execRefDiffEnd a s) s := by
  unfold execRefDiffEnd
  rw [keeps_next]
  simp only [wr_keep, onAd_keep, implies_true]

theorem execReferr_keep (a : Nat) (s : State) :
    keeps (execReferr a s) s := by
  unfold execReferr
  rw [keeps_next]
  simp only [onAd_keep, adEvt_keep, wr_keep, fireAd_keep, keep_ite, ite_self, implies_true]

theorem execCalMatchEnd_keep (a : Nat) (sum64 : Int) (s : State) :
    keeps (execCalMatchEnd a sum64 s) s := by
  unfold execCalMatchEnd
  rw [keeps_next]
  simp only [calMatch_keep, onAd_keep, implies_true]

theorem execAdCntclr_keep (w : Wr) (a : Nat) (s : State) :
    keeps (execAdCntclr w a s) s := by
  unfold execAdCntclr
  rw [keeps_next]
  simp only [onAd_keep, retire_keep, wr_keep, implies_true]

theorem execAdieRamError_keep (a : Nat) (ue : Bool) (n : Nat) (ridx : Option Nat) (s : State) :
    keeps (execAdieRamError a ue n ridx s) s := by
  unfold execAdieRamError
  rw [keeps_next]
  simp only [adRamError_keep, onAd_keep, implies_true]

theorem execAdieOvertemp_keep (a : Nat) (s : State) :
    keeps (execAdieOvertemp a s) s := by
  unfold execAdieOvertemp
  rw [keeps_next]
  simp only [fireAd_keep, onAd_keep, implies_true]

theorem setSlot_keep (s : State) (k : Nat) (i : Nat) (v : Int) :
    (setSlot s k i v).keep = s.keep := by
  unfold setSlot
  simp only [wr_keep]

theorem setLawState_keep (s : State) (k : Nat) (j : Nat) (v : Int) :
    (setLawState s k j v).keep = s.keep := by
  unfold setLawState
  simp only [wr_keep]

theorem chEvt_keep (s : State) (k : Nat) (c : Nat) (i : Nat) :
    (chEvt s k c i).keep = s.keep := by
  unfold chEvt
  simp only [raiseBit_keep]

theorem lawEvt_keep (s : State) (k : Nat) (i : Nat) :
    (lawEvt s k i).keep = s.keep := by
  unfold lawEvt
  simp only [raiseBit_keep]

theorem lawExtract_keep (s : State) (k : Nat) (c : Nat) (v : Int) :
    (lawExtract s k c v).2.keep = s.keep := by
  unfold lawExtract
  dsimp only
  (repeat' split) <;> simp only [inc_keep, fireK_keep, wr_keep, chEvt_keep]

theorem lawExtractTo_keep (s : State) (k : Nat) (c : Nat) (j : Nat) (v : Int) :
    (lawExtractTo s k c j v).keep = s.keep := by
  unfold lawExtractTo
  simp only [setLawState_keep, lawExtract_keep]

theorem secPi_keep (s : State) (k : Nat) (ch : Nat) (cb : Nat) (opt : Nat) (e : Int) (b : Int) (c : Int) :
    (secPi s k ch cb opt e b c).2.keep = s.keep := by
  unfold secPi
  simp only [setLawState_keep, lawExtract_keep]

theorem secModel_keep (s : State) (k : Nat) (ch : Nat) (sec : Nat) (cb : Nat) (opt : Nat) (a : Int) (b : Int) (c : Int) :
    (secModel s k ch sec cb opt a b c).2.keep = s.keep := by
  unfold secModel
  dsimp only
  (repeat' split) <;> simp only [setLawState_keep, lawExtract_keep, modLaw_keep, wr_keep]

theorem secEval_keep (s : State) (k : Nat) (ch : Nat) (sec : Nat) (a : Int) (b : Int) (c : Int) :
    (secEval s k ch sec a b c).2.keep = s.keep := by
  unfold secEval
  dsimp only
  (repeat' split) <;> simp only [secModel_keep, setLawState_keep, lawExtract_keep, lawExtractTo_keep, secPi_keep]

theorem chanPass_keep (s : State) (k ch kind : Nat) : (chanPass s k ch kind).1.keep = s.keep := by
  unfold chanPass
  refine (keep_foldl1 _ _ _ (fun p x => ?_))
  dsimp only
  split
  · rfl
  · exact secEval_keep _ _ _ _ _ _ _

theorem lawPass_keep (s : State) (k : Nat) (kind : Nat) :
    (lawPass s k kind).keep = s.keep := by
  unfold lawPass
  dsimp only
  rw [keep_foldl _ _ _ (fun s x => setSlot_keep _ _ _ _)]
  exact keep_foldl1 _ _ _ (fun p x => chanPass_keep _ _ _ _)

theorem unprime_keep (s : State) (k : Nat) (ch : Nat) (p : Nat → Bool) :
    (unprime s k ch p).keep = s.keep := by
  unfold unprime
  dsimp only
  (repeat' split) <;> simp only [wr_keep, implies_true, keep_foldl]

theorem lawApply_keep (s : State) (k : Nat) (off : Nat) (v : Nat) :
    (lawApply s k off v).keep = s.keep := by
  unfold lawApply
  simp only [wr_keep, unprime_keep, keep_ite, ite_self]

theorem lawApplyAll_keep (s : State) (k : Nat) (l : List (Wr × Nat × Word)) :
    (lawApplyAll s k l).keep = s.keep := by
  unfold lawApplyAll
  (try dsimp only)
  (repeat' split) <;> (first | rfl | simp (disch := (intros; (repeat' split) <;> simp only [retire_keep, lawApply_keep, wr_keep, keep_rec, keep_ite, ite_self, implies_true, keep_foldl, keep_foldl2, id_eq])) only [keep_foldl])

theorem lawRipe_keep (s : State) (k : Nat) :
    (lawRipe s k).keep = s.keep := by
  unfold lawRipe
  simp only [setLaw_keep, lawApplyAll_keep]

theorem lawAll_keep (s : State) (k : Nat) :
    (lawAll s k).keep = s.keep := by
  unfold lawAll
  simp only [setLaw_keep, lawApplyAll_keep]

theorem fillEntry_keep (s : State) (k : Nat) (i : Nat) :
    (fillEntry s k i).keep = s.keep := by
  unfold fillEntry
  dsimp only
  (repeat' split) <;> simp only [setSlot_keep, divFree_keep, wr_keep]

theorem lawFill_keep (s : State) (k : Nat) :
    (lawFill s k).keep = s.keep := by
  unfold lawFill
  dsimp only
  (repeat' split) <;> simp only [reachOfs_keep, fillEntry_keep, modLaw_keep, wr_keep, lawAll_keep, implies_true, keep_foldl]

theorem lawFreeze_keep (s : State) (k : Nat) (r : FzRec) :
    (lawFreeze s k r).keep = s.keep := by
  unfold lawFreeze
  dsimp only
  (repeat' split) <;> simp only [modLaw_keep, wr_keep, lawEvt_keep, lawAll_keep, freeze_keep, implies_true, keep_foldl]

theorem lawFault_keep (s : State) (k : Nat) :
    (lawFault s k).keep = s.keep := by
  unfold lawFault
  simp only [lawFreeze_keep, freeWord_keep]

theorem exportDone_keep (s : State) (k : Nat) :
    (exportDone s k).keep = s.keep := by
  unfold exportDone
  (try dsimp only)
  (repeat' split) <;> (first | rfl | simp (disch := (intros; (repeat' split) <;> simp only [inc_keep, modLaw_keep, lawEvt_keep, wr_keep, keep_rec, keep_ite, ite_self, implies_true, keep_foldl, keep_foldl2, id_eq])) only [inc_keep, modLaw_keep, lawEvt_keep])

theorem lawMirror_keep (s : State) (k : Nat) :
    (lawMirror s k).keep = s.keep := by
  unfold lawMirror
  dsimp only
  (repeat' split) <;> simp only [wr_keep, keep_rec, keep_ite, ite_self, implies_true, keep_foldl]

theorem lawHand_keep (s : State) (k : Nat) (c : Nat) :
    (lawHand s k c).keep = s.keep := by
  unfold lawHand
  simp only [wr_keep, modArm_keep]

theorem lawTaps_keep (s : State) (k : Nat) :
    (lawTaps s k).keep = s.keep := by
  unfold lawTaps
  dsimp only
  (repeat' split) <;> simp only [almTake_keep, acqClass_keep, implies_true, keep_foldl]

theorem lawLeave_keep (s : State) (k : Nat) (pass : Nat) :
    (lawLeave s k pass).keep = s.keep := by
  unfold lawLeave
  simp only [modLaw_keep]

theorem plausEvt_keep (s : State) (k : Nat) (ch : Nat) (sec : Nat) :
    (plausEvt s k ch sec).keep = s.keep := by
  unfold plausEvt
  simp only [inc_keep, fireK_keep, setLaw_keep, wr_keep, chEvt_keep, keep_ite, ite_self]

theorem costShown_keep (s : State) (v : Nat) :
    (costShown s v).2.keep = s.keep := by
  unfold costShown
  dsimp only
  (repeat' split) <;> simp only [freeWord_keep]

theorem lawMask_keep (s : State) (k : Nat) :
    (lawMask s k).keep = s.keep := by
  unfold lawMask
  simp only [wr_keep]

theorem chanStart_keep (s : State) (k : Nat) (c : Nat) :
    (chanStart s k c).keep = s.keep := by
  unfold chanStart
  simp only [costShown_keep, lawMask_keep, fireK_keep, wr_keep, chEvt_keep, keep_rec, keep_ite, ite_self]

theorem lawMeridian_keep (s : State) (k : Nat) (first : Bool) :
    (lawMeridian s k first).keep = s.keep := by
  unfold lawMeridian
  dsimp only
  (repeat' split) <;> simp only [lawMask_keep, wr_keep, chanStart_keep, setLaw_keep, keep_rec, keep_ite, ite_self, implies_true, keep_foldl]

theorem lawStop_keep (s : State) (k : Nat) :
    (lawStop s k).keep = s.keep := by
  unfold lawStop
  (try dsimp only)
  (repeat' split) <;> (first | rfl | simp (disch := (intros; (repeat' split) <;> simp only [wr_keep, lawMask_keep, keep_rec, keep_ite, ite_self, implies_true, keep_foldl, keep_foldl2, id_eq])) only [lawMask_keep, keep_foldl])

theorem chHeld_keep (s : State) (k : Nat) (c : Nat) :
    (chHeld s k c).keep = s.keep := by
  unfold chHeld
  simp only [wr_keep, fireK_keep]

theorem chClrst_keep (s : State) (k : Nat) (c : Nat) :
    (chClrst s k c).keep = s.keep := by
  unfold chClrst
  (try dsimp only)
  (repeat' split) <;> (first | rfl | simp (disch := (intros; (repeat' split) <;> simp only [setLawState_keep, chHeld_keep, wr_keep, keep_rec, keep_ite, ite_self, implies_true, keep_foldl, keep_foldl2, id_eq])) only [chHeld_keep, keep_foldl])

theorem chClrplaus_keep (s : State) (k : Nat) (c : Nat) :
    (chClrplaus s k c).keep = s.keep := by
  unfold chClrplaus
  dsimp only
  (repeat' split) <;> simp only [wr_keep, implies_true, keep_foldl]

theorem svStale_keep (s : State) (k : Nat) (i : Nat) :
    (svStale s k i).keep = s.keep := by
  unfold svStale
  simp only [fireK_keep, wr_keep, lawEvt_keep, keep_ite, ite_self]

theorem onK_keep (s : State) (k : Nat) (f : State → State) (hf : ∀ x, (f x).keep = x.keep) :
    (onK s k f).keep = s.keep := by
  unfold onK
  simp only [hf, keep_ite, ite_self]

theorem execSvInputStale_keep (k : Nat) (i : Nat) (s : State) :
    keeps (execSvInputStale k i s) s := by
  unfold execSvInputStale
  rw [keeps_next]
  simp only [svStale_keep, onK_keep, implies_true]

theorem execModelPlausibility_keep (k : Nat) (ch : Nat) (sec : Nat) (s : State) :
    keeps (execModelPlausibility k ch sec s) s := by
  unfold execModelPlausibility
  rw [keeps_next]
  simp only [plausEvt_keep, onK_keep, implies_true]

theorem execLawDeferredWrite_keep (k : Nat) (s : State) :
    keeps (execLawDeferredWrite k s) s := by
  unfold execLawDeferredWrite
  rw [keeps_next]
  simp only [lawAll_keep, lawRipe_keep, onK_keep, keep_ite, ite_self, implies_true]

theorem execClrst_keep (w : Wr) (k : Nat) (ch : Nat) (s : State) :
    keeps (execClrst w k ch s) s := by
  unfold execClrst
  rw [keeps_next]
  simp only [retire_keep, onK_keep, chClrst_keep, keep_ite, ite_self, implies_true]

theorem execClrplaus_keep (w : Wr) (k : Nat) (ch : Nat) (s : State) :
    keeps (execClrplaus w k ch s) s := by
  unfold execClrplaus
  rw [keeps_next]
  simp only [retire_keep, onK_keep, chClrplaus_keep, keep_ite, ite_self, implies_true]

theorem execLawLockstepDiff_keep (k : Nat) (s : State) :
    keeps (execLawLockstepDiff k s) s := by
  unfold execLawLockstepDiff
  rw [keeps_next]
  simp only [onK_keep, lawFault_keep, fireK_keep, wr_keep, keep_ite, ite_self, implies_true]

theorem execLawRamError_keep (k : Nat) (ue : Bool) (s : State) :
    keeps (execLawRamError k ue s) s := by
  unfold execLawRamError
  rw [keeps_next]
  simp only [onK_keep, lawFault_keep, fireK_keep, wr_keep, keep_ite, ite_self, implies_true]

theorem execExportDone_keep (k : Nat) (s : State) :
    keeps (execExportDone k s) s := by
  unfold execExportDone
  rw [keeps_next]
  simp only [exportDone_keep, onK_keep, implies_true]

theorem onAcq_keep (s : State) (k : Nat) (f : State → State) (hf : ∀ x, (f x).keep = x.keep) :
    (onAcq s k f).keep = s.keep := by
  unfold onAcq
  simp only [hf, keep_ite, ite_self]

theorem setBase_keep (s : State) (k : Nat) (v : Nat) :
    (setBase s k v).keep = s.keep := by
  unfold setBase
  simp only [wr_keep, setAcq_keep]

theorem acqArm_keep (s : State) (k : Nat) :
    (acqArm s k).keep = s.keep := by
  unfold acqArm
  dsimp only
  (repeat' split) <;> simp (disch := (intros; (repeat' split) <;> simp only [setBase_keep, setAcq_keep, wr_keep, keep_rec, keep_ite, ite_self, implies_true, keep_foldl, keep_foldl2, id_eq])) only [setBase_keep, setAcq_keep, wr_keep, keep_foldl]

theorem acqOver_keep (s : State) (k : Nat) :
    (acqOver s k).keep = s.keep := by
  unfold acqOver
  simp only [wr_keep, setAcq_keep]

theorem acqBase_keep (s : State) (k : Nat) (j : Nat) :
    (acqBase s k j).keep = s.keep := by
  unfold acqBase
  simp only [setBase_keep, wr_keep, keep_ite, ite_self]

theorem acqGap_keep (s : State) (k : Nat) :
    (acqGap s k).keep = s.keep := by
  unfold acqGap
  simp only [acqPut_keep, acqEvt_keep, setAcq_keep, wr_keep, fire_keep, incBy_keep, keep_ite, ite_self]

theorem acqTime_keep (s : State) (k : Nat) :
    (acqTime s k).keep = s.keep := by
  unfold acqTime
  simp only [acqPut_keep, reach_keep, keep_ite, ite_self]

theorem acqPostEnd_keep (s : State) (k : Nat) :
    (acqPostEnd s k).keep = s.keep := by
  unfold acqPostEnd
  simp only [acqEvt_keep, acqOver_keep, reach_keep, keep_ite, ite_self]

theorem tcntRead_keep (s : State) (m : Nat) (k : Nat) (off : Nat) :
    (tcntRead s m k off).keep = s.keep := by
  unfold tcntRead
  dsimp only
  (repeat' split) <;> simp only [wr_keep, answer_keep]

theorem execAcqArm_keep (w : Wr) (k : Nat) (s : State) :
    keeps (execAcqArm w k s) s := by
  unfold execAcqArm
  rw [keeps_next]
  simp only [retire_keep, onAcq_keep, acqArm_keep, implies_true]

theorem execSwtrig_keep (w : Wr) (k : Nat) (s : State) :
    keeps (execSwtrig w k s) s := by
  unfold execSwtrig
  rw [keeps_next]
  simp only [acqAssert_keep, retire_keep, onAcq_keep, implies_true]

theorem execTrigInEdge_keep (i : Nat) (falling : Bool) (s : State) :
    keeps (execTrigInEdge i falling s) s := by
  unfold execTrigInEdge
  (try dsimp only)
  rw [keeps_next]
  (repeat' split) <;> (first | rfl | simp (disch := (intros; (repeat' split) <;> simp only [acqAssert_keep, onAcq_keep, wr_keep, keep_rec, keep_ite, ite_self, implies_true, keep_foldl, keep_foldl2, id_eq])) only [keep_foldl])

theorem execXtrigFall_keep (s : State) :
    keeps (execXtrigFall s) s := by
  unfold execXtrigFall
  (try dsimp only)
  rw [keeps_next]
  (repeat' split) <;> (first | rfl | simp (disch := (intros; (repeat' split) <;> simp only [acqAssert_keep, onAcq_keep, wr_keep, keep_rec, keep_ite, ite_self, implies_true, keep_foldl, keep_foldl2, id_eq])) only [keep_foldl])

theorem execXtrigRelease_keep (k : Nat) (s : State) :
    keeps (execXtrigRelease k s) s := by
  unfold execXtrigRelease
  rw [keeps_next]
  simp only [onAcq_keep, setAcq_keep, implies_true]

theorem execAcqTimeRecord_keep (k : Nat) (s : State) :
    keeps (execAcqTimeRecord k s) s := by
  unfold execAcqTimeRecord
  rw [keeps_next]
  simp only [onAcq_keep, acqTime_keep, implies_true]

theorem execAcqPostEnd_keep (k : Nat) (s : State) :
    keeps (execAcqPostEnd k s) s := by
  unfold execAcqPostEnd
  rw [keeps_next]
  simp only [onAcq_keep, acqPostEnd_keep, implies_true]

theorem execCaptureMemWrite_keep (w : Wr) (addr : Nat) (s : State) :
    keeps (execCaptureMemWrite w addr s) s := by
  unfold execCaptureMemWrite
  (try dsimp only)
  rw [keeps_next]
  (repeat' split) <;> (first | rfl | simp (disch := (intros; (repeat' split) <;> simp only [retire_keep, wr_keep, keep_rec, keep_ite, ite_self, implies_true, keep_foldl, keep_foldl2, id_eq])) only [retire_keep, wr_keep])

theorem execCaptureMemRead_keep (_m : Nat) (addr : Nat) (ce : Bool) (ue : Bool) (s : State) :
    keeps (execCaptureMemRead _m addr ce ue s) s := by
  unfold execCaptureMemRead
  dsimp only
  rw [keeps_next]
  (repeat' split) <;> simp only [wr_keep, fire_keep]

theorem execTcntLowRead_keep (m : Nat) (k : Nat) (off : Nat) (s : State) :
    keeps (execTcntLowRead m k off s) s := by
  unfold execTcntLowRead
  rw [keeps_next]
  simp only [tcntRead_keep, onAcq_keep, implies_true]

theorem setAlmRec_keep (s : State) (r : Nat) (x : AlmRec) :
    (setAlmRec s r x).keep = s.keep := keep_mk _ _ rfl rfl rfl rfl rfl

theorem modAlm_keep (s : State) (f : Almanac → Almanac) :
    (modAlm s f).keep = s.keep := keep_mk _ _ rfl rfl rfl rfl rfl

theorem almSyncBuf_keep (s : State) :
    (almSyncBuf s).keep = s.keep := by
  unfold almSyncBuf
  simp only [wr_keep]

theorem almEarly_keep (s : State) (r : Nat) :
    (almEarly s r).keep = s.keep := by
  unfold almEarly
  simp only [modAlm_keep, keep_ite, ite_self]

theorem almDirect_keep (s : State) (o : AlmObs) :
    (almDirect s o).keep = s.keep := by
  unfold almDirect
  simp only [setAlmRec_keep, almEarly_keep]

theorem almBuffer_keep (s : State) (o : AlmObs) :
    (almBuffer s o).keep = s.keep := by
  unfold almBuffer
  simp only [inc_keep, wr_keep, modAlm_keep, almSyncBuf_keep, fireIf_keep, keep_ite, ite_self]

theorem almApply_keep (s : State) :
    (almApply s).keep = s.keep := by
  unfold almApply
  dsimp only
  (repeat' split) <;> simp only [modAlm_keep, almDirect_keep, almBuffer_keep]

theorem almSyncFrz_keep (s : State) :
    (almSyncFrz s).keep = s.keep := by
  unfold almSyncFrz
  simp only [wrB_keep]

theorem almMerge_keep (s : State) :
    (almMerge s).keep = s.keep := by
  unfold almMerge
  dsimp only
  (repeat' split) <;> simp only [setAlmRec_keep, almEarly_keep, modAlm_keep, almSyncBuf_keep, almSyncFrz_keep, implies_true, keep_foldl]

theorem almClear_keep (s : State) (r : Nat) :
    (almClear s r).keep = s.keep := by
  unfold almClear
  simp only [setAlmRec_keep, modAlm_keep, almSyncBuf_keep]

theorem almPassEnd_keep (s : State) :
    (almPassEnd s).keep = s.keep := by
  unfold almPassEnd
  simp only [wr_keep, incW_keep, keep_ite, ite_self]

theorem almPass_keep (s : State) :
    (almPass s).keep = s.keep := by
  unfold almPass
  simp only [wr_keep, modAlm_keep, almPassEnd_keep, keep_ite, ite_self]

theorem almWrErr_keep (s : State) :
    (almWrErr s).keep = s.keep := by
  unfold almWrErr
  simp only [wr_keep, fire_keep]

theorem almFlush_keep (s : State) (fail : Bool) :
    (almFlush s fail).keep = s.keep := by
  unfold almFlush
  simp only [almMerge_keep, wr_keep, modAlm_keep, keep_ite, ite_self]

theorem almRestore_keep (s : State) (r : Nat) :
    (almRestore s r).2.keep = s.keep := by
  unfold almRestore
  dsimp only
  (repeat' split) <;> simp only [setAlmRec_keep]

theorem almRestoreAll_keep (s : State) :
    (almRestoreAll s).keep = s.keep := by
  unfold almRestoreAll
  dsimp only
  simp only [wr_keep]
  exact keep_foldl3 _ _ _ (fun p x => almRestore_keep _ _)

theorem execAlmanacApply_keep (s : State) :
    keeps (execAlmanacApply s) s := by
  unfold execAlmanacApply
  rw [keeps_next]
  simp only [almApply_keep]

theorem execAlmanacFreeze_keep (w : Wr) (s : State) :
    keeps (execAlmanacFreeze w s) s := by
  unfold execAlmanacFreeze
  rw [keeps_next]
  simp only [retire_keep, wr_keep, modAlm_keep, almSyncFrz_keep, keep_ite, ite_self]

theorem execAlmanacUnfreeze_keep (w : Wr) (s : State) :
    keeps (execAlmanacUnfreeze w s) s := by
  unfold execAlmanacUnfreeze
  rw [keeps_next]
  simp only [retire_keep, wr_keep, modAlm_keep, almSyncFrz_keep, keep_ite, ite_self]

theorem execAlmanacMergeDone_keep (s : State) :
    keeps (execAlmanacMergeDone s) s := by
  unfold execAlmanacMergeDone
  rw [keeps_next]
  simp only [almMerge_keep, modAlm_keep, almSyncFrz_keep, keep_ite, ite_self]

theorem execClrrec_keep (w : Wr) (s : State) :
    keeps (execClrrec w s) s := by
  unfold execClrrec
  rw [keeps_next]
  simp only [almClear_keep, retire_keep]

theorem execClrall_keep (w : Wr) (s : State) :
    keeps (execClrall w s) s := by
  unfold execClrall
  rw [keeps_next]
  simp only [retire_keep, modAlm_keep, almSyncBuf_keep]

theorem execRestore_keep (w : Wr) (s : State) :
    keeps (execRestore w s) s := by
  unfold execRestore
  rw [keeps_next]
  simp only [retire_keep, wr_keep, fire_keep, keep_ite, ite_self]

theorem execAlmanacRestoreDone_keep (s : State) :
    keeps (execAlmanacRestoreDone s) s := by
  unfold execAlmanacRestoreDone
  rw [keeps_next]
  simp only [almRestoreAll_keep, keep_ite, ite_self]

theorem execFlushnow_keep (w : Wr) (s : State) :
    keeps (execFlushnow w s) s := by
  unfold execFlushnow
  rw [keeps_next]
  simp only [almPass_keep, retire_keep]

theorem execAlmanacBgPass_keep (s : State) :
    keeps (execAlmanacBgPass s) s := by
  unfold execAlmanacBgPass
  rw [keeps_next]
  simp only [almPass_keep, keep_ite, ite_self]

theorem execAlmanacFullFlushDone_keep (s : State) :
    keeps (execAlmanacFullFlushDone s) s := by
  unfold execAlmanacFullFlushDone
  rw [keeps_next]
  simp only [wrB_keep, wr_keep, keep_ite, ite_self]

theorem execAlmanacTotalRead_keep (m : Nat) (s : State) :
    keeps (execAlmanacTotalRead m s) s := by
  unfold execAlmanacTotalRead
  rw [keeps_next]
  simp only [wr_keep, answer_keep, keep_ite, ite_self]

theorem execAlmCntclr_keep (w : Wr) (s : State) :
    keeps (execAlmCntclr w s) s := by
  unfold execAlmCntclr
  (try dsimp only)
  rw [keeps_next]
  (repeat' split) <;> (first | rfl | simp (disch := (intros; (repeat' split) <;> simp only [retire_keep, wr_keep, keep_rec, keep_ite, ite_self, implies_true, keep_foldl, keep_foldl2, id_eq])) only [retire_keep, keep_foldl])

theorem execAlmanacRamError_keep (r : Nat) (ue : Bool) (s : State) :
    keeps (execAlmanacRamError r ue s) s := by
  unfold execAlmanacRamError
  rw [keeps_next]
  simp only [almClear_keep, wr_keep, fire_keep, keep_ite, ite_self]

theorem modMtr_keep (s : State) (f : MtrSt → MtrSt) :
    (modMtr s f).keep = s.keep := keep_mk _ _ rfl rfl rfl rfl rfl

theorem modSec_keep (s : State) (f : SecSt → SecSt) :
    (modSec s f).keep = s.keep := keep_mk _ _ rfl rfl rfl rfl rfl

theorem syncCounting_keep (s : State) :
    (syncCounting s).keep = s.keep := by
  unfold syncCounting
  simp only [wrB_keep]

theorem mtrRej_keep (s : State) :
    (mtrRej s).keep = s.keep := by
  unfold mtrRej
  simp only [wr_keep, fire_keep]

theorem mtrHandback_keep (s : State) (a : Nat) (n : Nat) :
    (mtrHandback s a n).keep = s.keep := by
  unfold mtrHandback
  simp only [modMtr_keep, keep_ite, ite_self]

theorem mtrBody_keep (s : State) (kind : Nat) (flags : Nat) (x : MtrSpan) (esec : Nat) (ens : Nat) (cause : Nat) :
    (mtrBody s kind flags x esec ens cause).2.keep = s.keep := by
  unfold mtrBody
  simp only [divFree_keep]

theorem sigQueue_keep (s : State) (j : SigJob) :
    (sigQueue s j).keep = s.keep := by
  unfold sigQueue
  simp only [modSec_keep]

theorem issue_keep (s : State) (kind : Nat) (body : List Byte) :
    (issue s kind body).keep = s.keep := by
  unfold issue
  simp only [sigQueue_keep, modMtr_keep]

theorem mtrClose_keep (s : State) (flags : Nat) (sec : Nat) (ns : Nat) (begins : Nat) :
    (mtrClose s flags sec ns begins).keep = s.keep := by
  unfold mtrClose
  simp only [modMtr_keep, issue_keep, mtrBody_keep]

theorem mtrGap_keep (s : State) (flags : Nat) (sec : Nat) (ns : Nat) (esec : Nat) (ens : Nat) (cause : Nat) :
    (mtrGap s flags sec ns esec ens cause).keep = s.keep := by
  unfold mtrGap
  simp only [issue_keep, mtrBody_keep]

theorem mtrCapture_keep (s : State) :
    (mtrCapture s).keep = s.keep := by
  unfold mtrCapture
  simp only [sigQueue_keep, modMtr_keep, inc_keep, mtrBody_keep, fire_keep, keep_ite, ite_self]

theorem slotDone_keep (s : State) (ck : Option Nat) :
    (slotDone s ck).keep = s.keep := by
  unfold slotDone
  (try dsimp only)
  (repeat' split) <;> (first | rfl | simp (disch := (intros; (repeat' split) <;> simp only [modMtr_keep, fire_keep, wr_keep, keep_rec, keep_ite, ite_self, implies_true, keep_foldl, keep_foldl2, id_eq])) only [modMtr_keep, fire_keep])

theorem mtrPoint_keep (s : State) (samples : List MSample) :
    (mtrPoint s samples).keep = s.keep := by
  unfold mtrPoint
  simp only [inc_keep, divFree_keep, modMtr_keep, wr_keep, fireIf_keep, keep_ite, ite_self]

theorem mtrStart_keep (s : State) (fresh : Bool) :
    (mtrStart s fresh).keep = s.keep := by
  unfold mtrStart
  simp only [wr_keep, modMtr_keep, syncCounting_keep]

theorem mtrEnable_keep (s : State) (fresh : Bool) :
    (mtrEnable s fresh).keep = s.keep := by
  unfold mtrEnable
  simp only [modMtr_keep, mtrRej_keep, wr_keep, syncCounting_keep, mtrStart_keep, keep_ite, ite_self]

theorem mtrOff_keep (s : State) :
    (mtrOff s).keep = s.keep := by
  unfold mtrOff
  simp only [wr_keep, syncCounting_keep]

theorem mtrDisable_keep (s : State) :
    (mtrDisable s).keep = s.keep := by
  unfold mtrDisable
  simp only [mtrOff_keep, modMtr_keep, mtrCapture_keep, keep_ite, ite_self]

theorem mtrPairLeave_keep (s : State) :
    (mtrPairLeave s).keep = s.keep := by
  unfold mtrPairLeave
  simp only [modMtr_keep, mtrClose_keep, wr_keep, mtrCapture_keep, keep_ite, ite_self]

theorem mtrPairReturn_keep (s : State) :
    (mtrPairReturn s).keep = s.keep := by
  unfold mtrPairReturn
  simp only [mtrStart_keep, syncCounting_keep, keep_ite, ite_self]

theorem mtrTimeStep_keep (s : State) (t0 : State) :
    (mtrTimeStep s t0).keep = s.keep := by
  unfold mtrTimeStep
  simp only [modMtr_keep, mtrClose_keep, mtrGap_keep, keep_ite, ite_self]

theorem mtrFrom_keep (s : State) (b : List Byte) (flags : Nat) (cause : Nat) :
    (mtrFrom s b flags cause).keep = s.keep := by
  unfold mtrFrom
  simp only [modMtr_keep, issue_keep, mtrGap_keep, keep_ite, ite_self]

theorem mtrLowRead_keep (s : State) (m : Nat) (exp : Bool) :
    (mtrLowRead s m exp).keep = s.keep := by
  unfold mtrLowRead
  simp only [wr_keep, answer_keep, keep_ite, ite_self]

theorem execMeterPoint_keep (samples : List MSample) (s : State) :
    keeps (execMeterPoint samples s) s := by
  unfold execMeterPoint
  rw [keeps_next]
  simp only [mtrPoint_keep]

theorem execMeterIntervalClose_keep (s : State) :
    keeps (execMeterIntervalClose s) s := by
  unfold execMeterIntervalClose
  rw [keeps_next]
  simp only [mtrClose_keep, keep_ite, ite_self]

theorem execMeterEnable_keep (w : Wr) (fresh : Bool) (s : State) :
    keeps (execMeterEnable w fresh s) s := by
  unfold execMeterEnable
  rw [keeps_next]
  simp only [retire_keep, mtrEnable_keep]

theorem execMeterDisable_keep (w : Wr) (s : State) :
    keeps (execMeterDisable w s) s := by
  unfold execMeterDisable
  rw [keeps_next]
  simp only [retire_keep, mtrDisable_keep]

theorem execImportLowRead_keep (m : Nat) (exp : Bool) (s : State) :
    keeps (execImportLowRead m exp s) s := by
  unfold execImportLowRead
  rw [keeps_next]
  simp only [mtrLowRead_keep]

theorem takeRead_keep (s : State) (mid : Nat) (a : Nat) :
    (takeRead s mid a).2.keep = s.keep := by
  unfold takeRead
  dsimp only
  (repeat' split) <;> simp only [keep_rec]

theorem masterRead_keep (s : State) (mid : Nat) (a : Nat) (n : Nat) :
    (masterRead s mid a n).2.keep = s.keep := by
  unfold masterRead
  dsimp only
  (repeat' split) <;> simp (disch := (intros; (repeat' split) <;> simp only [xipNote_keep, freeWord_keep, takeRead_keep, wr_keep, keep_rec, keep_ite, ite_self, implies_true, keep_foldl, keep_foldl2, id_eq])) only [xipNote_keep, freeWord_keep, keep_foldl2]

theorem dchEvt_keep (s : State) (k : Nat) (c : Nat) (i : Nat) :
    (dchEvt s k c i).keep = s.keep := by
  unfold dchEvt
  simp only [raiseBit_keep]

theorem dSet_keep (s : State) (k : Nat) (c : Nat) (st : Nat) :
    (dSet s k c st).keep = s.keep := by
  unfold dSet
  simp only [wr_keep]

theorem dError_keep (s : State) (k : Nat) (c : Nat) (f : Fld) (src : Nat) :
    (dError s k c f src).keep = s.keep := by
  unfold dError
  simp only [wr_keep, fireK_keep, dchEvt_keep, dSet_keep]

theorem dFreeze_keep (s : State) (k : Nat) (c : Nat) (addr : Nat) (cause : Nat) (wr : Bool) :
    (dFreeze s k c addr cause wr).keep = s.keep := by
  unfold dFreeze
  simp only [dSet_keep, wr_keep, modDma_keep, dchEvt_keep, freeze_keep]

theorem dAbsent_keep (s : State) (k : Nat) (c : Nat) :
    (dAbsent s k c).keep = s.keep := by
  unfold dAbsent
  simp only [wr_keep, fireK_keep]

theorem dRead_keep (s : State) (k : Nat) (c : Nat) (a : Nat) (n : Nat) :
    (dRead s k c a n).2.keep = s.keep := by
  unfold dRead
  dsimp only
  (repeat' split) <;> simp only [dFreeze_keep, offEvt_keep, masterRead_keep, absentEvt_keep, dAbsent_keep]

theorem dLinkRead_keep (s : State) (k : Nat) (c : Nat) :
    (dLinkRead s k c).keep = s.keep := by
  unfold dLinkRead
  dsimp only
  (repeat' split) <;> simp only [dRead_keep, modDma_keep]

theorem dPause_keep (s : State) (k : Nat) (c : Nat) :
    (dPause s k c).keep = s.keep := by
  unfold dPause
  simp only [dSet_keep, modDma_keep, dchEvt_keep, keep_ite, ite_self]

theorem dAim_keep (s : State) (k : Nat) (c : Nat) (a : Nat) :
    (dAim s k c a).keep = s.keep := by
  unfold dAim
  simp only [dSet_keep, wr_keep, modDma_keep]

theorem dStart_keep (s : State) (k : Nat) (c : Nat) :
    (dStart s k c).keep = s.keep := by
  unfold dStart
  dsimp only
  (repeat' split) <;> simp only [dAim_keep, wr_keep, dPause_keep, implies_true, keep_foldl]

theorem dResume_keep (s : State) (k : Nat) (c : Nat) :
    (dResume s k c).keep = s.keep := by
  unfold dResume
  simp only [dSet_keep, dLinkRead_keep, wr_keep, keep_ite, ite_self]

theorem dAbort_keep (s : State) (k : Nat) (c : Nat) :
    (dAbort s k c).keep = s.keep := by
  unfold dAbort
  simp only [dSet_keep, modDma_keep, keep_ite, ite_self]

theorem dAppend_keep (s : State) (k : Nat) (c : Nat) :
    (dAppend s k c).keep = s.keep := by
  unfold dAppend
  (try dsimp only)
  (repeat' split) <;> (first | rfl | simp (disch := (intros; (repeat' split) <;> simp only [wr_keep, dLinkRead_keep, dSet_keep, keep_rec, keep_ite, ite_self, implies_true, keep_foldl, keep_foldl2, id_eq])) only [wr_keep, dLinkRead_keep, dSet_keep])

theorem dTakeDesc_keep (s : State) (k : Nat) (c : Nat) (v : Nat) :
    (dTakeDesc s k c v).keep = s.keep := by
  unfold dTakeDesc
  simp only [dError_keep, wr_keep, modDma_keep, keep_ite, ite_self]

theorem dLoaded_keep (s : State) (k : Nat) (c : Nat) :
    (dLoaded s k c).keep = s.keep := by
  unfold dLoaded
  dsimp only
  (repeat' split) <;> simp only [dTakeDesc_keep, dRead_keep]

theorem dAfter_keep (s : State) (k : Nat) (c : Nat) :
    (dAfter s k c).keep = s.keep := by
  unfold dAfter
  simp only [dSet_keep, keep_ite, ite_self]

theorem dDrained_keep (s : State) (k : Nat) (c : Nat) :
    (dDrained s k c).keep = s.keep := by
  unfold dDrained
  simp only [dSet_keep, inc_keep, dLinkRead_keep, dchEvt_keep, keep_ite, ite_self]

theorem dLink_keep (s : State) (k : Nat) (c : Nat) :
    (dLink s k c).keep = s.keep := by
  unfold dLink
  dsimp only
  (repeat' split) <;> simp only [dSet_keep, dAim_keep, dLinkRead_keep, wr_keep, modDma_keep, dchEvt_keep]

theorem dRamError_keep (s : State) (k : Nat) (ue : Bool) (chs : List Nat) :
    (dRamError s k ue chs).keep = s.keep := by
  unfold dRamError
  dsimp only
  (repeat' split) <;> simp only [dSet_keep, fireK_keep, wr_keep, dchEvt_keep, implies_true, keep_foldl]

theorem dTimeout_keep (s : State) (mid : Nat) :
    (dTimeout s mid).keep = s.keep := by
  unfold dTimeout
  simp only [wr_keep, fireK_keep]

theorem dRelease_keep (s : State) (mid : Nat) (reset : Bool) :
    (dRelease s mid reset).keep = s.keep := by
  unfold dRelease
  simp only [dResume_keep, dSet_keep, wr_keep, modDma_keep, keep_ite, ite_self]

theorem onDch_keep (s : State) (k : Nat) (c : Nat) (f : State → State) (hf : ∀ x, (f x).keep = x.keep) :
    (onDch s k c f).keep = s.keep := by
  unfold onDch
  simp only [onK_keep, hf, keep_ite, ite_self, implies_true]

theorem execDmaStart_keep (w : Wr) (k : Nat) (ch : Nat) (s : State) :
    keeps (execDmaStart w k ch s) s := by
  unfold execDmaStart
  rw [keeps_next]
  simp only [onDch_keep, retire_keep, dStart_keep, implies_true]

theorem execDmaPause_keep (w : Wr) (k : Nat) (ch : Nat) (s : State) :
    keeps (execDmaPause w k ch s) s := by
  unfold execDmaPause
  rw [keeps_next]
  simp only [retire_keep, onDch_keep, wr_keep, dPause_keep, implies_true]

theorem execDmaResume_keep (w : Wr) (k : Nat) (ch : Nat) (s : State) :
    keeps (execDmaResume w k ch s) s := by
  unfold execDmaResume
  rw [keeps_next]
  simp only [dResume_keep, retire_keep, onDch_keep, wr_keep, implies_true]

theorem execDmaAbort_keep (w : Wr) (k : Nat) (ch : Nat) (s : State) :
    keeps (execDmaAbort w k ch s) s := by
  unfold execDmaAbort
  rw [keeps_next]
  simp only [onDch_keep, retire_keep, dAbort_keep, implies_true]

theorem execDmaAppend_keep (w : Wr) (k : Nat) (ch : Nat) (s : State) :
    keeps (execDmaAppend w k ch s) s := by
  unfold execDmaAppend
  rw [keeps_next]
  simp only [onDch_keep, retire_keep, dAppend_keep, implies_true]

theorem execDmaDescLoaded_keep (k : Nat) (ch : Nat) (s : State) :
    keeps (execDmaDescLoaded k ch s) s := by
  unfold execDmaDescLoaded
  rw [keeps_next]
  simp only [onDch_keep, dLoaded_keep, implies_true]

theorem execDmaDrainDone_keep (k : Nat) (ch : Nat) (s : State) :
    keeps (execDmaDrainDone k ch s) s := by
  unfold execDmaDrainDone
  rw [keeps_next]
  simp only [onDch_keep, dDrained_keep, implies_true]

theorem execDmaLinkReturn_keep (k : Nat) (ch : Nat) (s : State) :
    keeps (execDmaLinkReturn k ch s) s := by
  unfold execDmaLinkReturn
  rw [keeps_next]
  simp only [onDch_keep, dLink_keep, implies_true]

theorem execDmaRamError_keep (k : Nat) (ue : Bool) (chs : List Nat) (s : State) :
    keeps (execDmaRamError k ue chs s) s := by
  unfold execDmaRamError
  rw [keeps_next]
  simp only [dRamError_keep, onK_keep, implies_true]

theorem modEth_keep (s : State) (f : EthSt → EthSt) :
    (modEth s f).keep = s.keep := keep_mk _ _ rfl rfl rfl rfl rfl

theorem timeStep_keep (s : State) (t : Nat) :
    (timeStep s t).keep = s.keep := keep_mk _ _ rfl rfl rfl rfl rfl

theorem vnEvt_keep (s : State) (i : Nat) :
    (vnEvt s i).keep = s.keep := by
  unfold vnEvt
  simp only [raiseBit_keep]

theorem timeCmd_keep (s : State) (set : Bool) (adj : Bool) :
    (timeCmd s set adj).keep = s.keep := by
  unfold timeCmd
  simp only [vnEvt_keep, wr_keep, fire_keep, timeStep_keep, keep_ite, ite_self]

theorem timeRead_keep (s : State) (m : Nat) :
    (timeRead s m).keep = s.keep := by
  unfold timeRead
  simp only [wr_keep, answer_keep]

theorem vnGo_keep (s : State) (st : Nat) :
    (vnGo s st).keep = s.keep := by
  unfold vnGo
  simp only [wr_keep]

theorem vnFreq_keep (s : State) (f : Int) :
    (vnFreq s f).keep = s.keep := by
  unfold vnFreq
  simp only [wr_keep, modEth_keep]

theorem vnUpdate_keep (s : State) (e : Int) :
    (vnUpdate s e).keep = s.keep := by
  unfold vnUpdate
  simp only [modEth_keep, vnFreq_keep]

theorem vnUse_keep (s : State) (e : Int) :
    (vnUse s e).keep = s.keep := by
  unfold vnUse
  simp only [almObs_keep, vnUpdate_keep]

theorem vnBeyond_keep (s : State) (path : Nat) :
    (vnBeyond s path).keep = s.keep := by
  unfold vnBeyond
  simp only [vnGo_keep, vnEvt_keep, wr_keep, modEth_keep, vnFreq_keep, fire_keep, keep_ite, ite_self]

theorem vnAccept_keep (s : State) (n : Nat) (paths : Nat) :
    (vnAccept s n paths).keep = s.keep := by
  unfold vnAccept
  simp only [vnGo_keep, vnEvt_keep, divFree_keep, wr_keep, modEth_keep]

theorem vnCheck_keep (s : State) :
    (vnCheck s).keep = s.keep := by
  unfold vnCheck
  simp only [vnAccept_keep, vnGo_keep, vnEvt_keep, modEth_keep, fire_keep, keep_ite, ite_self]

theorem vnPrimary_keep (s : State) (e : Int) (path : Option Nat) :
    (vnPrimary s e path).keep = s.keep := by
  unfold vnPrimary
  dsimp only
  (repeat' split) <;> simp only [vnBeyond_keep, vnGo_keep, wr_keep, modEth_keep, vnUse_keep, vnCheck_keep]

theorem vnSecondary_keep (s : State) (e : Int) :
    (vnSecondary s e).keep = s.keep := by
  unfold vnSecondary
  dsimp only
  (repeat' split) <;> simp only [modEth_keep, vnCheck_keep, vnUpdate_keep]

theorem syncIn_keep (s : State) (ts : Nat) (falling : Bool) :
    (syncIn s ts falling).keep = s.keep := by
  unfold syncIn
  simp only [vnPrimary_keep, evtK_keep, vnSecondary_keep, wr_keep, modEth_keep, keep_ite, ite_self]

theorem portEvt_keep (s : State) (e : Nat) (i : Nat) :
    (portEvt s e i).keep = s.keep := by
  unfold portEvt
  simp only [raiseBit_keep]

theorem stampOf_keep (s : State) (macTs : Nat) (lat : Int) (adj : Nat) :
    (stampOf s macTs lat adj).2.keep = s.keep := by
  unfold stampOf
  simp only [divFree_keep]

theorem ethRead_keep (s : State) (e : Nat) (a : Nat) (n : Nat) :
    (ethRead s e a n).2.keep = s.keep := by
  unfold ethRead
  dsimp only
  (repeat' split) <;> simp only [offEvt_keep, masterRead_keep, absentEvt_keep, freeze_keep]

theorem ethGet_keep (s : State) (e : Nat) (a : Nat) (n : Nat) (z4 : Nat) :
    (ethGet s e a n z4).2.keep = s.keep := by
  induction z4 generalizing s a n with
  | zero => rfl
  | succ f ih =>
    unfold ethGet
    dsimp only
    split
    · rfl
    · split
      · exact ethRead_keep _ _ _ _
      · dsimp only; rw [ih, ethRead_keep]

theorem prpFilter_keep (s : State) (e : Nat) (l : List Byte) :
    (prpFilter s e l).2.keep = s.keep := by
  unfold prpFilter
  dsimp only
  (repeat' split) <;> simp only [inc_keep, modEth_keep]

theorem txNext_keep (s : State) (e : Nat) (i : Nat) :
    (txNext s e i).keep = s.keep := by
  unfold txNext
  simp only [wr_keep, portEvt_keep]

theorem svFlag_keep (s : State) (i : Nat) (f : Fld) :
    (svFlag s i f).keep = s.keep := by
  unfold svFlag
  simp only [wr_keep, fire_keep]

theorem svFrame_keep (s : State) (i : Nat) (fr : SvFrame) :
    (svFrame s i fr).keep = s.keep := by
  unfold svFrame
  dsimp only
  (repeat' split) <;> simp only [inc_keep, svFlag_keep, wr_keep, modEth_keep, keep_ite, ite_self, implies_true, keep_foldl]

theorem onPort_keep (s : State) (e : Nat) (f : State → State) (hf : ∀ x, (f x).keep = x.keep) :
    (onPort s e f).keep = s.keep := by
  unfold onPort
  simp only [hf, keep_ite, ite_self]

theorem execTimeNsRead_keep (m : Nat) (s : State) :
    keeps (execTimeNsRead m s) s := by
  unfold execTimeNsRead
  rw [keeps_next]
  simp only [timeRead_keep]

theorem execVnPrimarySample_keep (w : Wr) (ofs : Word) (s : State) :
    keeps (execVnPrimarySample w ofs s) s := by
  unfold execVnPrimarySample
  rw [keeps_next]
  simp only [vnPrimary_keep, retire_keep, keep_ite, ite_self]

theorem execVnSecondarySample_keep (w : Wr) (ofs : Word) (s : State) :
    keeps (execVnSecondarySample w ofs s) s := by
  unfold execVnSecondarySample
  rw [keeps_next]
  simp only [retire_keep, vnSecondary_keep, keep_ite, ite_self]

theorem execVnRearm_keep (w : Wr) (s : State) :
    keeps (execVnRearm w s) s := by
  unfold execVnRearm
  rw [keeps_next]
  simp only [vnGo_keep, retire_keep, modEth_keep, keep_ite, ite_self]

theorem execVnDisable_keep (w : Wr) (s : State) :
    keeps (execVnDisable w s) s := by
  unfold execVnDisable
  rw [keeps_next]
  simp only [wr_keep, retire_keep, vnGo_keep]

theorem execVernierHoldover_keep (s : State) :
    keeps (execVernierHoldover s) s := by
  unfold execVernierHoldover
  rw [keeps_next]
  simp only [vnGo_keep, vnEvt_keep, fire_keep, vnFreq_keep, keep_ite, ite_self]

theorem execSyncInCapture_keep (ts : Nat) (falling : Bool) (s : State) :
    keeps (execSyncInCapture ts falling s) s := by
  unfold execSyncInCapture
  rw [keeps_next]
  simp only [syncIn_keep]

theorem execSiTsNsRead_keep (m : Nat) (s : State) :
    keeps (execSiTsNsRead m s) s := by
  unfold execSiTsNsRead
  rw [keeps_next]
  simp only [wr_keep, answer_keep]

theorem execSyncOutPulse_keep (s : State) :
    keeps (execSyncOutPulse s) s := by
  unfold execSyncOutPulse
  rw [keeps_next]
  simp only [modEth_keep, keep_ite, ite_self]

theorem execPortEnable_keep (w : Wr) (e : Nat) (s : State) :
    keeps (execPortEnable w e s) s := by
  unfold execPortEnable
  rw [keeps_next]
  simp only [retire_keep, onPort_keep, wr_keep, modEth_keep, keep_ite, ite_self, implies_true]

theorem execSvFrameReceived_keep (i : Nat) (fr : SvFrame) (s : State) :
    keeps (execSvFrameReceived i fr s) s := by
  unfold execSvFrameReceived
  rw [keeps_next]
  simp only [svFrame_keep]

theorem execTxKick_keep (w : Wr) (e : Nat) (s : State) :
    keeps (execTxKick w e s) s := by
  unfold execTxKick
  rw [keeps_next]
  simp only [retire_keep, onPort_keep, modEth_keep, implies_true]

theorem execPortCntClr_keep (w : Wr) (e : Nat) (s : State) :
    keeps (execPortCntClr w e s) s := by
  unfold execPortCntClr
  (try dsimp only)
  rw [keeps_next]
  (repeat' split) <;> (first | rfl | simp (disch := (intros; (repeat' split) <;> simp only [retire_keep, onPort_keep, wr_keep, keep_rec, keep_ite, ite_self, implies_true, keep_foldl, keep_foldl2, id_eq])) only [retire_keep, onPort_keep])

theorem execEthLinkLoss_keep (e : Nat) (s : State) :
    keeps (execEthLinkLoss e s) s := by
  unfold execEthLinkLoss
  rw [keeps_next]
  simp only [onPort_keep, wr_keep, portEvt_keep, fireIf_keep, keep_ite, ite_self, implies_true]

theorem execEthLinkUp_keep (e : Nat) (s : State) :
    keeps (execEthLinkUp e s) s := by
  unfold execEthLinkUp
  rw [keeps_next]
  simp only [onPort_keep, wr_keep, portEvt_keep, keep_ite, ite_self, implies_true]

theorem execPortRamError_keep (e : Nat) (ue : Bool) (s : State) :
    keeps (execPortRamError e ue s) s := by
  unfold execPortRamError
  rw [keeps_next]
  simp only [onPort_keep, fire_keep, implies_true]

end State

end Sys2Proof.Machine
end

