-- ==== Sys2Proof/Laws/FramePackage.lean ====
section
/-!
SUPPORT. The frame of the package blocks: freezing, the pair, resets, faults, safety, power, timers, the fabric and register writes: one lemma for each operation.
-/
namespace Sys2Proof.Machine

namespace State

theorem noPerm_keep (s : State) :
    (noPerm s).keep = s.keep := by
  unfold noPerm
  simp only [wr_keep]

theorem finishLoad_keep (s : State) (m : Nat) (i : Nat) (l : Load) (v : BitVec 64) :
    (finishLoad s m i l v).keep = s.keep := by
  unfold finishLoad
  simp only [modCore_keep]

theorem loadReturn_keep (s : State) (m : Nat) (i : Nat) (ue : Bool) :
    (loadReturn s m i ue).keep = s.keep := by
  unfold loadReturn
  dsimp only
  (repeat' split) <;> simp only [chanReach_keep, freeWord_keep, takeRead_keep, finishLoad_keep, modCore_keep, freeze_keep]

theorem resetOne_keep (s : State) (m : Nat) :
    (resetOne s m).keep = s.keep := by
  unfold resetOne
  dsimp only
  (repeat' split) <;> simp only [setSch_keep, unfreeze_keep, abandon_keep, chanReach_keep, setCore_keep, syncCore_keep, wr_keep, keep_rec, implies_true, keep_foldl]

theorem coreReset_keep (s : State) (m : Nat) :
    (coreReset s m).keep = s.keep := by
  unfold coreReset
  simp only [resetOne_keep, keep_rec, keep_ite, ite_self]

theorem bellsAtRelease_keep (s : State) (m : Nat) :
    (bellsAtRelease s m).keep = s.keep := by
  unfold bellsAtRelease
  dsimp only
  (repeat' split) <;> simp only [wr_keep, chanRing_keep, keep_ite, ite_self, implies_true, keep_foldl]

theorem releaseOne_keep (s : State) (m : Nat) :
    (releaseOne s m).keep = s.keep := by
  unfold releaseOne
  simp only [setCore_keep, wr_keep]

theorem coreRelease_keep (s : State) (m : Nat) :
    (coreRelease s m).keep = s.keep := by
  unfold coreRelease
  simp only [bellsAtRelease_keep, wrB_keep, syncCore_keep, fetchAt_keep, releaseOne_keep, keep_ite, ite_self]

theorem goAgain_keep (s : State) (m : Nat) (fetch : Bool) :
    (goAgain s m fetch).keep = s.keep := by
  unfold goAgain
  simp only [fetchAt_keep, takeNmi_keep, keep_ite, ite_self]

theorem actRetry_keep (s : State) (m : Nat) (r : FzRec) :
    ∀ t, actRetry s m r = some t → t.keep = s.keep := by
  intro t
  unfold actRetry
  split
  · split
    · simp
    · intro h; injection h with h; rw [← h, goAgain_keep, unfreeze_keep]
  · split
    · intro h; injection h with h; rw [← h, dRelease_keep, unfreeze_keep]
    · split
      · intro h; injection h with h; rw [← h, wr_keep, modLaw_keep, unfreeze_keep]
      · intro h; injection h with h; rw [← h, unfreeze_keep]

theorem actTrap_keep (s : State) (m : Nat) (r : FzRec) :
    ∀ t, actTrap s m r = some t → t.keep = s.keep := by
  intro t
  unfold actTrap
  split
  · dsimp only
    intro h; injection h with h; rw [← h, goAgain_keep, enterTrap_keep]; split <;> simp only [modCore_keep, unfreeze_keep]
  · intro h; cases h

theorem actReset_keep (s : State) (m : Nat) (z2 : FzRec) :
    ∀ t, actReset s m z2 = some t → t.keep = s.keep := by
  intro t
  unfold actReset
  split
  · intro h; injection h with h; rw [← h, coreReset_keep]
  · split
    · intro h; injection h with h; rw [← h, dRelease_keep, unfreeze_keep]
    · intro h; cases h

theorem release_keep (s : State) (w : Wr) (m : Nat) (act : State → Nat → FzRec → Option State) (ha : ∀ x m r t, act x m r = some t → t.keep = x.keep) :
    (release s w m act).keep = s.keep := by
  unfold release
  split
  · exact noPerm_keep _
  · split
    · exact wr_keep _ _ _ _
    · split
      · exact ha _ _ _ _ (by assumption)
      · exact wr_keep _ _ _ _

theorem execLoadDataReturn_keep (m : Nat) (i : Nat) (ue : Bool) (s : State) :
    keeps (execLoadDataReturn m i ue s) s := by
  unfold execLoadDataReturn
  rw [keeps_next]
  simp only [loadReturn_keep, keep_ite, ite_self]

theorem execReleaseRetry_keep (w : Wr) (m : Nat) (s : State) :
    keeps (execReleaseRetry w m s) s := by
  unfold execReleaseRetry
  rw [keeps_next, retire_keep]
  exact release_keep _ _ _ _ (fun x m r t => actRetry_keep x m r t)

theorem execReleaseTrap_keep (w : Wr) (m : Nat) (s : State) :
    keeps (execReleaseTrap w m s) s := by
  unfold execReleaseTrap
  rw [keeps_next, retire_keep]
  exact release_keep _ _ _ _ (fun x m r t => actTrap_keep x m r t)

theorem execReleaseReset_keep (w : Wr) (m : Nat) (s : State) :
    keeps (execReleaseReset w m s) s := by
  unfold execReleaseReset
  rw [keeps_next, retire_keep]
  exact release_keep _ _ _ _ (fun x m r t => actReset_keep x m r t)

theorem execFzPop_keep (w : Wr) (s : State) :
    keeps (execFzPop w s) s := by
  unfold execFzPop
  rw [keeps_next]
  simp only [retire_keep, syncFz_keep, keep_rec]

theorem execCoreReset_keep (w : Wr) (m : Nat) (s : State) :
    keeps (execCoreReset w m s) s := by
  unfold execCoreReset
  rw [keeps_next]
  simp only [retire_keep, coreReset_keep, noPerm_keep, keep_ite, ite_self]

theorem execCoreRelease_keep (w : Wr) (m : Nat) (s : State) :
    keeps (execCoreRelease w m s) s := by
  unfold execCoreRelease
  rw [keeps_next]
  simp only [retire_keep, coreRelease_keep, noPerm_keep, keep_ite, ite_self]

theorem modSaf_keep (s : State) (f : SafSt → SafSt) :
    (modSaf s f).keep = s.keep := keep_mk _ _ rfl rfl rfl rfl rfl

theorem sprRequest_keep (s : State) (cause : Nat) :
    (sprRequest s cause).keep = s.keep := by
  unfold sprRequest
  simp only [modSaf_keep, wr_keep, fire_keep, keep_ite, ite_self]

theorem srsRequest_keep (s : State) (cause : Nat) :
    (srsRequest s cause).keep = s.keep := by
  unfold srsRequest
  simp only [modSaf_keep, wr_keep, fire_keep, keep_ite, ite_self]

theorem pairOutLow_keep (s : State) :
    (pairOutLow s).keep = s.keep := by
  unfold pairOutLow
  simp only [syncAllTx_keep, keep_rec]

theorem aliveStop_keep (s : State) (cause : Nat) :
    (aliveStop s cause).keep = s.keep := by
  unfold aliveStop
  simp only [wr_keep, pairOutLow_keep, keep_rec, keep_ite, ite_self]

theorem modPair_keep (s : State) (f : PairSt → PairSt) :
    (modPair s f).keep = s.keep := keep_mk _ _ rfl rfl rfl rfl rfl

theorem pairEdge_keep (s : State) (key : Nat) (src : Nat) (b : Bool) :
    (pairEdge s key src b).keep = s.keep := by
  unfold pairEdge
  simp only [fire_keep, modPair_keep, keep_ite, ite_self]

theorem syncCfg_keep (s : State) :
    (syncCfg s).keep = s.keep := by
  unfold syncCfg
  simp only [wrB_keep]

theorem syncPair_keep (s : State) :
    (syncPair s).keep = s.keep := by
  unfold syncPair
  simp only [wrB_keep, pairEdge_keep, modPair_keep, keep_ite, ite_self]

theorem mirArrived_keep (s : State) :
    (mirArrived s).keep = s.keep := by
  unfold mirArrived
  simp only [freeWord_keep, wr_keep, keep_ite, ite_self]

theorem pairLast_keep (s : State) (cause : Nat) (t : Nat) :
    (pairLast s cause t).keep = s.keep := by
  unfold pairLast
  simp only [wr_keep]

theorem toStandby_keep (s : State) :
    (toStandby s).keep = s.keep := by
  unfold toStandby
  simp only [syncLanes_keep, wr_keep, mtrPairLeave_keep, modPair_keep, syncAllTx_keep, syncPair_keep, keep_ite, ite_self]

theorem pairFlatch_keep (s : State) :
    (pairFlatch s).keep = s.keep := by
  unfold pairFlatch
  simp only [modPair_keep, pairOutLow_keep, toStandby_keep, keep_ite, ite_self]

theorem takeQueues_keep (s : State) :
    (takeQueues s).keep = s.keep := by
  unfold takeQueues
  dsimp only
  (repeat' split) <;> simp only [modLane_keep, syncAcmd_keep, modCtx_keep, keep_ite, ite_self, implies_true, keep_foldl]

theorem takeArms_keep (s : State) :
    (takeArms s).keep = s.keep := by
  unfold takeArms
  dsimp only
  (repeat' split) <;> simp only [setModul_keep, wrBoth_keep, implies_true, keep_foldl]

theorem toActive_keep (s : State) (cause : Nat) :
    (toActive s cause).keep = s.keep := by
  unfold toActive
  simp only [sprRequest_keep, mtrPairReturn_keep, syncLanes_keep, inc_keep, wrB_keep, takeArms_keep, takeQueues_keep, wr_keep, syncPair_keep, fire_keep, modPair_keep, syncAllTx_keep, keep_ite, ite_self]

theorem entryDone_keep (s : State) :
    (entryDone s).keep = s.keep := by
  unfold entryDone
  dsimp only
  (repeat' split) <;> simp only [wr_keep, fire_keep, pairLast_keep, modPair_keep]

theorem announce_keep (s : State) (cause : Nat) :
    (announce s cause).keep = s.keep := by
  unfold announce
  simp only [wr_keep, modPair_keep]

theorem hoAbort_keep (s : State) :
    (hoAbort s).keep = s.keep := by
  unfold hoAbort
  simp only [wr_keep, fire_keep]

theorem sendEpoch_keep (s : State) :
    (sendEpoch s).keep = s.keep := by
  unfold sendEpoch
  simp only [modPair_keep, keep_ite, ite_self]

theorem sendPass_keep (s : State) (k : Nat) (before : List (Nat × Nat)) :
    (sendPass s k before).keep = s.keep := by
  unfold sendPass
  simp only [modPair_keep, keep_ite, ite_self]

theorem shadowHolder_keep (s : State) (k : Nat) (a : Nat) (cell : Nat) (hv : Bool) :
    (shadowHolder s k a cell hv).keep = s.keep := by
  unfold shadowHolder
  dsimp only
  (repeat' split) <;> simp only [wrB_keep, wr_keep]

theorem shadowState_keep (s : State) (c : Nat) (st : Nat) :
    (shadowState s c st).keep = s.keep := by
  unfold shadowState
  (try dsimp only)
  (repeat' split) <;> (first | rfl | simp (disch := (intros; (repeat' split) <;> simp only [wr_keep, keep_rec, keep_ite, ite_self, implies_true, keep_foldl, keep_foldl2, id_eq])) only [wr_keep])

theorem shadowRecord_keep (s : State) (r : PassRec) :
    (shadowRecord s r).keep = s.keep := by
  unfold shadowRecord
  dsimp only
  (repeat' split) <;> simp (disch := (intros; (repeat' split) <;> simp only [setAmode_keep, shadowHolder_keep, shadowState_keep, modArm_keep, wr_keep, keep_rec, keep_ite, ite_self, implies_true, keep_foldl, keep_foldl2, id_eq])) only [keep_foldl]

theorem shadowPass_keep (s : State) :
    (shadowPass s).keep = s.keep := by
  unfold shadowPass
  dsimp only
  (repeat' split) <;> simp (disch := (intros; (repeat' split) <;> simp only [modEst_keep, wr_keep, keep_rec, keep_ite, ite_self, implies_true, keep_foldl, keep_foldl2, id_eq])) only [keep_foldl]

theorem passLost_keep (s : State) :
    (passLost s).keep = s.keep := by
  unfold passLost
  simp only [inc_keep, wr_keep, fire_keep]

theorem passIn_keep (s : State) (r : PassRec) :
    (passIn s r).keep = s.keep := by
  unfold passIn
  simp only [passLost_keep, shadowRecord_keep, toStandby_keep, wr_keep, fire_keep, pairLast_keep, modPair_keep, shadowPass_keep, mirArrived_keep, syncPair_keep, keep_ite, ite_self]

theorem passGone_keep (s : State) :
    (passGone s).keep = s.keep := by
  unfold passGone
  simp only [passLost_keep, shadowPass_keep, syncPair_keep, keep_ite, ite_self]

theorem epochSlices_keep (s : State) (e : EpochRec) :
    (epochSlices s e).keep = s.keep := by
  unfold epochSlices
  dsimp only
  (repeat' split) <;> simp (disch := (intros; (repeat' split) <;> simp only [setCstate_keep, wrB_keep, modEst_keep, wr_keep, keep_rec, keep_ite, ite_self, implies_true, keep_foldl, keep_foldl2, id_eq])) only [keep_foldl]

theorem epochIn_keep (s : State) (e : EpochRec) :
    (epochIn s e).keep = s.keep := by
  unfold epochIn
  dsimp only
  (repeat' split) <;> simp (disch := (intros; (repeat' split) <;> simp only [inc_keep, fire_keep, setAmode_keep, shadowRecord_keep, epochSlices_keep, wr_keep, shadowHolder_keep, wrB_keep, modArm_keep, syncPair_keep, syncCfg_keep, modPair_keep, mirArrived_keep, keep_rec, keep_ite, ite_self, implies_true, keep_foldl, keep_foldl2, id_eq])) only [inc_keep, fire_keep, epochSlices_keep, wr_keep, wrB_keep, syncPair_keep, syncCfg_keep, modPair_keep, mirArrived_keep, keep_foldl]

theorem statusIn_keep (s : State) (r : StatusRec) (ofs : Int) :
    (statusIn s r ofs).keep = s.keep := by
  unfold statusIn
  simp only [syncCfg_keep, wrB_keep, wr_keep, announce_keep, modPair_keep, mirArrived_keep, syncPair_keep, keep_ite, ite_self]

theorem pairBoundary_keep (s : State) (mer : Bool) :
    (pairBoundary s mer).keep = s.keep := by
  unfold pairBoundary
  simp only [inc_keep, entryDone_keep, wr_keep, modPair_keep, syncPair_keep, keep_ite, ite_self]

theorem actInFall_keep (s : State) :
    (actInFall s).keep = s.keep := by
  unfold actInFall
  dsimp only
  (repeat' split) <;> simp only [wr_keep, syncAllTx_keep, toActive_keep]

theorem claim_keep (s : State) :
    (claim s).keep = s.keep := by
  unfold claim
  simp only [toActive_keep, keep_ite, ite_self]

theorem handRelease_keep (s : State) :
    (handRelease s).keep = s.keep := by
  unfold handRelease
  simp only [inc_keep, toStandby_keep, pairLast_keep, modPair_keep, keep_ite, ite_self]

theorem handCheck_keep (s : State) :
    (handCheck s).keep = s.keep := by
  unfold handCheck
  simp only [wr_keep, modPair_keep, hoAbort_keep, keep_ite, ite_self]

theorem cycSync_keep (s : State) :
    (cycSync s).keep = s.keep := by
  unfold cycSync
  dsimp only
  (repeat' split) <;> simp only [wr_keep, wrBoth_keep, keep_rec]

theorem drillFail_keep (s : State) :
    (drillFail s).keep = s.keep := by
  unfold drillFail
  simp only [wr_keep, fire_keep, modPair_keep, toActive_keep, keep_ite, ite_self]

theorem execPairEn_keep (w : Wr) (s : State) :
    keeps (execPairEn w s) s := by
  unfold execPairEn
  rw [keeps_next]
  simp only [retire_keep, wrB_keep, toStandby_keep, wr_keep, modPair_keep, keep_ite, ite_self]

theorem execPairActInFall_keep (s : State) :
    keeps (execPairActInFall s) s := by
  unfold execPairActInFall
  rw [keeps_next]
  simp only [actInFall_keep]

theorem execStartupClaim_keep (s : State) :
    keeps (execStartupClaim s) s := by
  unfold execStartupClaim
  rw [keeps_next]
  simp only [claim_keep]

theorem execPassRecordReceived_keep (r : PassRec) (s : State) :
    keeps (execPassRecordReceived r s) s := by
  unfold execPassRecordReceived
  rw [keeps_next]
  simp only [passIn_keep]

theorem execPassRecordMissing_keep (s : State) :
    keeps (execPassRecordMissing s) s := by
  unfold execPassRecordMissing
  rw [keeps_next]
  simp only [passGone_keep]

theorem execStatusRecordTx_keep (s : State) :
    keeps (execStatusRecordTx s) s := by
  unfold execStatusRecordTx
  rw [keeps_next]
  simp only [modPair_keep, syncPair_keep, keep_ite, ite_self]

theorem execStatusRecordReceived_keep (r : StatusRec) (gridOfs : Int) (s : State) :
    keeps (execStatusRecordReceived r gridOfs s) s := by
  unfold execStatusRecordReceived
  rw [keeps_next]
  simp only [statusIn_keep]

theorem execEpochReceived_keep (e : EpochRec) (s : State) :
    keeps (execEpochReceived e s) s := by
  unfold execEpochReceived
  rw [keeps_next]
  simp only [epochIn_keep]

theorem execMirrorLaneDown_keep (i : Nat) (s : State) :
    keeps (execMirrorLaneDown i s) s := by
  unfold execMirrorLaneDown
  rw [keeps_next]
  simp only [wr_keep, fire_keep, syncPair_keep, keep_ite, ite_self]

theorem execHandover_keep (w : Wr) (s : State) :
    keeps (execHandover w s) s := by
  unfold execHandover
  rw [keeps_next]
  simp only [retire_keep, announce_keep, keep_ite, ite_self]

theorem execDrill_keep (w : Wr) (s : State) :
    keeps (execDrill w s) s := by
  unfold execDrill
  rw [keeps_next]
  simp only [retire_keep, wr_keep, announce_keep, modPair_keep, keep_ite, ite_self]

theorem execCycsync_keep (w : Wr) (s : State) :
    keeps (execCycsync w s) s := by
  unfold execCycsync
  rw [keeps_next]
  simp only [retire_keep, cycSync_keep]

theorem execHandoverRelease_keep (s : State) :
    keeps (execHandoverRelease s) s := by
  unfold execHandoverRelease
  rw [keeps_next]
  simp only [handRelease_keep]

theorem execHandingPeerCheck_keep (s : State) :
    keeps (execHandingPeerCheck s) s := by
  unfold execHandingPeerCheck
  rw [keeps_next]
  simp only [handCheck_keep]

theorem execTakingTimeout_keep (s : State) :
    keeps (execTakingTimeout s) s := by
  unfold execTakingTimeout
  rw [keeps_next]
  simp only [wr_keep, syncPair_keep, hoAbort_keep, keep_ite, ite_self]

theorem execTakebackRequest_keep (s : State) :
    keeps (execTakebackRequest s) s := by
  unfold execTakebackRequest
  rw [keeps_next]
  simp only [modPair_keep, keep_ite, ite_self]

theorem execDrillReturn_keep (s : State) :
    keeps (execDrillReturn s) s := by
  unfold execDrillReturn
  rw [keeps_next]
  simp only [modPair_keep, keep_ite, ite_self]

theorem execDrillFail_keep (s : State) :
    keeps (execDrillFail s) s := by
  unfold execDrillFail
  rw [keeps_next]
  simp only [drillFail_keep]

theorem execPeerAliveEdge_keep (s : State) :
    keeps (execPeerAliveEdge s) s := by
  unfold execPeerAliveEdge
  rw [keeps_next]
  simp only [wr_keep]

theorem execPaliveTimeout_keep (s : State) :
    keeps (execPaliveTimeout s) s := by
  unfold execPaliveTimeout
  rw [keeps_next]
  simp only [wr_keep, fireIf_keep]

theorem execPairActInRise_keep (s : State) :
    keeps (execPairActInRise s) s := by
  unfold execPairActInRise
  rw [keeps_next]
  simp only [wr_keep, syncAllTx_keep]

theorem execPairActReadbackFail_keep (s : State) :
    keeps (execPairActReadbackFail s) s := by
  unfold execPairActReadbackFail
  rw [keeps_next]
  simp only [fire_keep]

theorem dropRange_keep (s : State) (lo : Nat) (hi : Nat) (keep : Nat → Bool) :
    (dropRange s lo hi keep).keep = s.keep := keep_mk _ _ rfl rfl rfl rfl rfl

theorem dropK_keep (s : State) (k : Nat) (j : Nat) :
    (dropK s k j).keep = s.keep := by
  unfold dropK
  simp only [dropRange_keep]

theorem unfreezeAll_keep (s : State) (ms : List Nat) :
    (unfreezeAll s ms).keep = s.keep := by
  unfold unfreezeAll
  (try dsimp only)
  (repeat' split) <;> (first | rfl | simp (disch := (intros; (repeat' split) <;> simp only [unfreeze_keep, wr_keep, keep_rec, keep_ite, ite_self, implies_true, keep_foldl, keep_foldl2, id_eq])) only [keep_foldl])

theorem resetDma_keep (s : State) (k : Nat) :
    (resetDma s k).keep = s.keep := by
  unfold resetDma
  simp only [unfreezeAll_keep, dropK_keep, keep_rec]

theorem resetLaw_keep (s : State) (k : Nat) :
    (resetLaw s k).keep = s.keep := by
  unfold resetLaw
  simp only [dropK_keep, unfreezeAll_keep, setLaw_keep]

theorem resetMod_keep (s : State) (k : Nat) :
    (resetMod s k).keep = s.keep := by
  unfold resetMod
  simp only [setModul_keep, dropK_keep]

theorem resetSch_keep (s : State) (k : Nat) :
    (resetSch s k).keep = s.keep := by
  unfold resetSch
  dsimp only
  (repeat' split) <;> simp (disch := (intros; (repeat' split) <;> simp only [setSch_keep, dropRange_keep, wr_keep, keep_rec, keep_ite, ite_self, implies_true, keep_foldl, keep_foldl2, id_eq])) only [setSch_keep, dropRange_keep, keep_foldl]

theorem resetAcq_keep (s : State) (k : Nat) :
    (resetAcq s k).keep = s.keep := by
  unfold resetAcq
  simp only [dropK_keep, setAcq_keep]

theorem resetLdie_keep (s : State) (l : Nat) :
    (resetLdie s l).keep = s.keep := by
  unfold resetLdie
  simp only [dropRange_keep, keep_rec]

theorem resetAdie_keep (s : State) (a : Nat) :
    (resetAdie s a).keep = s.keep := by
  unfold resetAdie
  simp only [dropRange_keep, keep_rec]

theorem resetEth_keep (s : State) :
    (resetEth s).keep = s.keep := by
  unfold resetEth
  simp only [unfreezeAll_keep, dropRange_keep, keep_rec]

theorem blockReset_keep (s : State) (b : Nat) :
    (blockReset s b).keep = s.keep := by
  unfold blockReset
  dsimp only
  (repeat' split) <;> simp only [resetOne_keep, resetLaw_keep, resetLdie_keep, resetDma_keep, resetMod_keep, resetAdie_keep, resetSch_keep, resetEth_keep, resetAcq_keep]

theorem modFc_keep (s : State) (f : Collector → Collector) :
    (modFc s f).keep = s.keep := keep_mk _ _ rfl rfl rfl rfl rfl

theorem syncFlog_keep (s : State) :
    (syncFlog s).keep = s.keep := by
  unfold syncFlog
  simp only [wrB_keep, wr_keep]

theorem logPut_keep (s : State) (n : Nat) (conseq : Bool) (inj : Bool) (esc : Bool) (mism : Bool) :
    (logPut s n conseq inj esc mism).keep = s.keep := by
  unfold logPut
  simp only [inc_keep, wr_keep, modFc_keep, syncFlog_keep, fire_keep, keep_ite, ite_self]

theorem setPendFs_keep (s : State) (n : Nat) (v : Bool) :
    (setPendFs s n v).keep = s.keep := by
  unfold setPendFs
  simp only [wrB_keep, wr_keep]

theorem reactNow_keep (s : State) :
    (reactNow s).keep = s.keep := by
  unfold reactNow
  simp only [modFc_keep, keep_ite, ite_self]

theorem irqReact_keep (s : State) (n : Nat) :
    (irqReact s n).keep = s.keep := by
  unfold irqReact
  simp only [modFc_keep, evt_keep, keep_ite, ite_self]

theorem nmiTo_keep (s : State) (n : Nat) (m : Nat) :
    (nmiTo s n m).keep = s.keep := by
  unfold nmiTo
  simp only [modFc_keep, keep_ite, ite_self]

theorem nmiReact_keep (s : State) (n : Nat) :
    (nmiReact s n).keep = s.keep := by
  unfold nmiReact
  dsimp only
  (repeat' split) <;> simp only [nmiTo_keep, implies_true, keep_foldl]

theorem blockStart_keep (s : State) (b : Nat) :
    (blockStart s b).keep = s.keep := by
  unfold blockStart
  simp only [modFc_keep, blockReset_keep]

theorem safeState_keep (s : State) (n : Nat) :
    (safeState s n).keep = s.keep := by
  unfold safeState
  simp only [sprRequest_keep, pairFlatch_keep, wr_keep, aliveStop_keep, mtrCapture_keep, almFlush_keep, keep_ite, ite_self]

theorem observeFiring_keep (s : State) (n : Nat) :
    (observeFiring s n).keep = s.keep := by
  unfold observeFiring
  simp only [acqOwe_keep]

theorem injChecked_keep (s : State) (tag : InjTag) :
    (injChecked s tag).keep = s.keep := by
  unfold injChecked
  (try dsimp only)
  (repeat' split) <;> (first | rfl | simp (disch := (intros; (repeat' split) <;> simp only [wr_keep, modFc_keep, fire_keep, keep_rec, keep_ite, ite_self, implies_true, keep_foldl, keep_foldl2, id_eq])) only [wr_keep, modFc_keep, fire_keep])

theorem blockDone_keep (s : State) (b : Nat) :
    (blockDone s b).keep = s.keep := by
  unfold blockDone
  simp only [modFc_keep, blockReset_keep, keep_ite, ite_self]

theorem aliveStart_keep (s : State) :
    (aliveStart s).keep = s.keep := by
  unfold aliveStart
  simp only [wr_keep, modFc_keep, keep_ite, ite_self]

theorem wdKick_keep (s : State) (v : Nat) :
    (wdKick s v).keep = s.keep := by
  unfold wdKick
  simp only [modFc_keep, keep_ite, ite_self]

theorem injArm_keep (s : State) (v : Nat) :
    (injArm s v).keep = s.keep := by
  unfold injArm
  simp only [wr_keep, modFc_keep, keep_ite, ite_self]

theorem collectorParity_keep (s : State) :
    (collectorParity s).keep = s.keep := by
  unfold collectorParity
  simp only [observeFiring_keep, logPut_keep, inc_keep, setPendFs_keep, safeState_keep, keep_ite, ite_self]

theorem safetyParity_keep (s : State) :
    (safetyParity s).keep = s.keep := by
  unfold safetyParity
  simp only [sprRequest_keep, fire_keep]

theorem execBlockResetDone_keep (blk : Nat) (s : State) :
    keeps (execBlockResetDone blk s) s := by
  unfold execBlockResetDone
  rw [keeps_next]
  simp only [blockDone_keep]

theorem execConseqWindowEnd_keep (blk : Nat) (s : State) :
    keeps (execConseqWindowEnd blk s) s := by
  unfold execConseqWindowEnd
  rw [keeps_next]
  simp only [modFc_keep]

theorem execEscalationWindowEnd_keep (blk : Nat) (s : State) :
    keeps (execEscalationWindowEnd blk s) s := by
  unfold execEscalationWindowEnd
  rw [keeps_next]
  simp only [modFc_keep]

theorem execFsPendClear_keep (w : Wr) (src : Nat) (s : State) :
    keeps (execFsPendClear w src s) s := by
  unfold execFsPendClear
  rw [keeps_next]
  simp only [setPendFs_keep, retire_keep, keep_ite, ite_self]

theorem execAliveEn_keep (w : Wr) (s : State) :
    keeps (execAliveEn w s) s := by
  unfold execAliveEn
  rw [keeps_next]
  simp only [retire_keep, aliveStart_keep]

theorem execAliveStop_keep (w : Wr) (s : State) :
    keeps (execAliveStop w s) s := by
  unfold execAliveStop
  rw [keeps_next]
  simp only [retire_keep, aliveStop_keep]

theorem execAliveHalfPeriod_keep (s : State) :
    keeps (execAliveHalfPeriod s) s := by
  unfold execAliveHalfPeriod
  rw [keeps_next]
  simp only [modFc_keep, keep_ite, ite_self]

theorem execAliveReadbackFail_keep (s : State) :
    keeps (execAliveReadbackFail s) s := by
  unfold execAliveReadbackFail
  rw [keeps_next]
  simp only [fire_keep]

theorem execFcLock_keep (w : Wr) (s : State) :
    keeps (execFcLock w s) s := by
  unfold execFcLock
  rw [keeps_next]
  simp only [wr_keep, retire_keep]

theorem execWden_keep (w : Wr) (s : State) :
    keeps (execWden w s) s := by
  unfold execWden
  rw [keeps_next]
  simp only [retire_keep, wr_keep, modFc_keep, keep_ite, ite_self]

theorem execWdKick_keep (w : Wr) (v : Word) (s : State) :
    keeps (execWdKick w v s) s := by
  unfold execWdKick
  rw [keeps_next]
  simp only [wdKick_keep, retire_keep]

theorem execWatchdogExpiry_keep (s : State) :
    keeps (execWatchdogExpiry s) s := by
  unfold execWatchdogExpiry
  rw [keeps_next]
  simp only [modFc_keep, fire_keep, keep_ite, ite_self]

theorem execFlogPop_keep (w : Wr) (s : State) :
    keeps (execFlogPop w s) s := by
  unfold execFlogPop
  rw [keeps_next]
  simp only [retire_keep, syncFlog_keep, modFc_keep]

theorem execFsClr_keep (w : Wr) (s : State) :
    keeps (execFsClr w s) s := by
  unfold execFsClr
  rw [keeps_next, retire_keep]
  refine keep_foldl _ _ _ (fun s n => ?_)
  split <;> simp only [wr_keep]

theorem execInjectionArm_keep (w : Wr) (v : Word) (s : State) :
    keeps (execInjectionArm w v s) s := by
  unfold execInjectionArm
  rw [keeps_next]
  simp only [injArm_keep, retire_keep]

theorem execInjectionTimeout_keep (s : State) :
    keeps (execInjectionTimeout s) s := by
  unfold execInjectionTimeout
  rw [keeps_next]
  simp only [wr_keep, modFc_keep, keep_ite, ite_self]

theorem execParityScrub_keep (safety : Bool) (err : Bool) (s : State) :
    keeps (execParityScrub safety err s) s := by
  unfold execParityScrub
  rw [keeps_next]
  simp only [collectorParity_keep, safetyParity_keep, keep_ite, ite_self]

theorem safNoPerm_keep (s : State) :
    (safNoPerm s).keep = s.keep := by
  unfold safNoPerm
  simp only [wr_keep, fire_keep]

theorem sprRelease_keep (s : State) (same : Bool) :
    (sprRelease s same).keep = s.keep := by
  unfold sprRelease
  simp only [modSaf_keep, wr_keep, fire_keep, syncPair_keep, keep_ite, ite_self]

theorem srsTap_keep (s : State) (k : Nat) :
    (srsTap s k).keep = s.keep := by
  unfold srsTap
  dsimp only
  (repeat' split) <;> simp only [modSaf_keep, wr_keep, fire_keep, keep_ite, ite_self, implies_true, keep_foldl]

theorem stopLow_keep (s : State) (b : Bool) :
    (stopLow s b).keep = s.keep := by
  unfold stopLow
  simp only [sprRequest_keep, modSaf_keep, wr_keep, fire_keep, keep_ite, ite_self]

theorem stopHigh_keep (s : State) (b : Bool) :
    (stopHigh s b).keep = s.keep := by
  unfold stopHigh
  simp only [modSaf_keep, wr_keep, keep_ite, ite_self]

theorem stopDrop_keep (s : State) :
    (stopDrop s).keep = s.keep := by
  unfold stopDrop
  simp only [modSaf_keep, wr_keep, keep_ite, ite_self]

theorem brkRise_keep (s : State) :
    (brkRise s).keep = s.keep := by
  unfold brkRise
  simp only [modSaf_keep, wr_keep, keep_ite, ite_self]

theorem degStop_keep (s : State) :
    (degStop s).keep = s.keep := by
  unfold degStop
  simp only [wr_keep, modSaf_keep]

theorem goDegraded_keep (s : State) :
    (goDegraded s).keep = s.keep := by
  unfold goDegraded
  simp only [modSaf_keep, wr_keep, fire_keep]

theorem netMiss_keep (s : State) :
    (netMiss s).keep = s.keep := by
  unfold netMiss
  simp only [modSaf_keep, goDegraded_keep, keep_ite, ite_self]

theorem missing_keep (s : State) (n : Nat) :
    (missing s n).keep = s.keep := by
  unfold missing
  simp only [netMiss_keep, incBy_keep, keep_ite, ite_self]

theorem netLost_keep (s : State) :
    (netLost s).keep = s.keep := by
  unfold netLost
  simp only [sprRequest_keep, degStop_keep, srsRequest_keep, wr_keep, fire_keep, keep_ite, ite_self]

theorem netMatch_keep (s : State) :
    (netMatch s).keep = s.keep := by
  unfold netMatch
  simp only [degStop_keep, modSaf_keep, wr_keep, keep_ite, ite_self]

theorem netMismatch_keep (s : State) :
    (netMismatch s).keep = s.keep := by
  unfold netMismatch
  simp only [sprRequest_keep, freeWord_keep, inc_keep, modSaf_keep, srsRequest_keep, fire_keep, keep_ite, ite_self]

theorem skipOne_keep (s : State) (lan : Nat) (seq : Nat) :
    (skipOne s lan seq).keep = s.keep := by
  unfold skipOne
  (try dsimp only)
  (repeat' split) <;> (first | rfl | simp (disch := (intros; (repeat' split) <;> simp only [modSaf_keep, missing_keep, wr_keep, keep_rec, keep_ite, ite_self, implies_true, keep_foldl, keep_foldl2, id_eq])) only [modSaf_keep, missing_keep])

theorem firstCopy_keep (s : State) (lan : Nat) (seq : Nat) (l : List Byte) :
    (firstCopy s lan seq l).keep = s.keep := by
  unfold firstCopy
  dsimp only
  (repeat' split) <;> simp only [sprRequest_keep, modSaf_keep, srsRequest_keep, wr_keep, implies_true, keep_foldl]

theorem secondCopy_keep (s : State) (c : SafeCopy) (l : List Byte) :
    (secondCopy s c l).keep = s.keep := by
  unfold secondCopy
  simp only [netMismatch_keep, netMatch_keep, modSaf_keep, missing_keep, keep_ite, ite_self]

theorem safetyFrame_keep (s : State) (lan : Nat) (bytes : List Byte) :
    (safetyFrame s lan bytes).keep = s.keep := by
  unfold safetyFrame
  dsimp only
  (repeat' split) <;> simp only [firstCopy_keep, goDegraded_keep, inc_keep, modSaf_keep, skipOne_keep, fire_keep, secondCopy_keep, implies_true, keep_foldl]

theorem copyMissing_keep (s : State) (lan : Nat) :
    (copyMissing s lan).keep = s.keep := by
  unfold copyMissing
  simp (disch := (intros; (repeat' split) <;> simp only [modSaf_keep, missing_keep, wr_keep, keep_rec, keep_ite, ite_self, implies_true, keep_foldl, keep_foldl2, id_eq])) only [keep_ite]
  (repeat' split) <;> simp (disch := (intros; (repeat' split) <;> simp only [modSaf_keep, missing_keep, wr_keep, keep_rec, keep_ite, ite_self, implies_true, keep_foldl, keep_foldl2, id_eq])) only [modSaf_keep, missing_keep]

theorem netWatchdog_keep (s : State) (a : Bool) (b : Bool) :
    (netWatchdog s a b).keep = s.keep := by
  unfold netWatchdog
  simp only [netMiss_keep, netLost_keep, keep_ite, ite_self]

theorem degLimit_keep (s : State) :
    (degLimit s).keep = s.keep := by
  unfold degLimit
  simp only [modSaf_keep, srsRequest_keep, fire_keep, keep_ite, ite_self]

theorem statusTx_keep (s : State) :
    (statusTx s).keep = s.keep := by
  unfold statusTx
  dsimp only
  (repeat' split) <;> simp only [modSaf_keep, modEth_keep, implies_true, keep_foldl]

theorem safArm_keep (s : State) :
    (safArm s).keep = s.keep := by
  unfold safArm
  simp only [wr_keep, fire_keep, syncPair_keep, keep_ite, ite_self]

theorem execSprReq_keep (w : Wr) (s : State) :
    keeps (execSprReq w s) s := by
  unfold execSprReq
  rw [keeps_next]
  simp only [sprRequest_keep, retire_keep, safNoPerm_keep, keep_ite, ite_self]

theorem execSprRel_keep (w : Wr) (sameCycle : Bool) (s : State) :
    keeps (execSprRel w sameCycle s) s := by
  unfold execSprRel
  rw [keeps_next]
  simp only [retire_keep, sprRelease_keep, safNoPerm_keep, keep_ite, ite_self]

theorem execSrsReq_keep (w : Wr) (s : State) :
    keeps (execSrsReq w s) s := by
  unfold execSrsReq
  rw [keeps_next]
  simp only [retire_keep, safNoPerm_keep, srsRequest_keep, keep_ite, ite_self]

theorem execSafetyArm_keep (w : Wr) (s : State) :
    keeps (execSafetyArm w s) s := by
  unfold execSafetyArm
  rw [keeps_next]
  simp only [retire_keep, safArm_keep]

theorem execSrsViolation_keep (s : State) :
    keeps (execSrsViolation s) s := by
  unfold execSrsViolation
  (try dsimp only)
  rw [keeps_next]
  (repeat' split) <;> (first | rfl | simp (disch := (intros; (repeat' split) <;> simp only [sprRequest_keep, wr_keep, fire_keep, keep_rec, keep_ite, ite_self, implies_true, keep_foldl, keep_foldl2, id_eq])) only [sprRequest_keep, wr_keep, fire_keep])

theorem execSrsRampEnd_keep (s : State) :
    keeps (execSrsRampEnd s) s := by
  unfold execSrsRampEnd
  rw [keeps_next]
  simp only [sprRequest_keep, keep_ite, ite_self]

theorem execSrsInputTimeout_keep (s : State) :
    keeps (execSrsInputTimeout s) s := by
  unfold execSrsInputTimeout
  rw [keeps_next]
  simp only [sprRequest_keep, fire_keep, keep_ite, ite_self]

theorem execStopInLow_keep (b : Bool) (s : State) :
    keeps (execStopInLow b s) s := by
  unfold execStopInLow
  rw [keeps_next]
  simp only [stopLow_keep]

theorem execStopInDiscrepancy_keep (s : State) :
    keeps (execStopInDiscrepancy s) s := by
  unfold execStopInDiscrepancy
  rw [keeps_next]
  simp only [modSaf_keep, wr_keep, fire_keep, keep_ite, ite_self]

theorem execStopInRestored_keep (b : Bool) (s : State) :
    keeps (execStopInRestored b s) s := by
  unfold execStopInRestored
  rw [keeps_next]
  simp only [stopHigh_keep]

theorem execStopOutDrop_keep (s : State) :
    keeps (execStopOutDrop s) s := by
  unfold execStopOutDrop
  rw [keeps_next]
  simp only [stopDrop_keep]

theorem execBrkTripRise_keep (s : State) :
    keeps (execBrkTripRise s) s := by
  unfold execBrkTripRise
  rw [keeps_next]
  simp only [brkRise_keep]

theorem execSafetyReadbackFail_keep (brk : Bool) (s : State) :
    keeps (execSafetyReadbackFail brk s) s := by
  unfold execSafetyReadbackFail
  rw [keeps_next]
  simp only [fire_keep]

theorem execSafetyFrameReceived_keep (lan : Nat) (bytes : List Byte) (s : State) :
    keeps (execSafetyFrameReceived lan bytes s) s := by
  unfold execSafetyFrameReceived
  rw [keeps_next]
  simp only [safetyFrame_keep]

theorem execSafetyCopyMissing_keep (lan : Nat) (s : State) :
    keeps (execSafetyCopyMissing lan s) s := by
  unfold execSafetyCopyMissing
  rw [keeps_next]
  simp only [copyMissing_keep]

theorem execSafetyNetWatchdog_keep (lanA : Bool) (lanB : Bool) (s : State) :
    keeps (execSafetyNetWatchdog lanA lanB s) s := by
  unfold execSafetyNetWatchdog
  rw [keeps_next]
  simp only [netWatchdog_keep]

theorem execDegLimitReached_keep (s : State) :
    keeps (execDegLimitReached s) s := by
  unfold execDegLimitReached
  rw [keeps_next]
  simp only [degLimit_keep]

theorem execSafetyStatusTx_keep (s : State) :
    keeps (execSafetyStatusTx s) s := by
  unfold execSafetyStatusTx
  rw [keeps_next]
  simp only [statusTx_keep]

theorem modPwr_keep (s : State) (f : PwrSt → PwrSt) :
    (modPwr s f).keep = s.keep := keep_mk _ _ rfl rfl rfl rfl rfl

theorem pwrRej_keep (s : State) (f : Fld) :
    (pwrRej s f).keep = s.keep := by
  unfold pwrRej
  simp only [wr_keep, fire_keep]

theorem dieBit_keep (s : State) (f : Fld) (d : Nat) (v : Bool) :
    (dieBit s f d v).keep = s.keep := by
  unfold dieBit
  simp only [wr_keep]

theorem syncLinks_keep (s : State) :
    (syncLinks s).keep = s.keep := by
  unfold syncLinks
  simp only [wr_keep]

theorem dieTurnOn_keep (s : State) (d : Nat) :
    (dieTurnOn s d).keep = s.keep := by
  unfold dieTurnOn
  simp only [dieBit_keep, keep_ite, ite_self]

theorem bistDone_keep (s : State) (misr : BitVec 64) (golden : BitVec 64) (us : Nat) :
    (bistDone s misr golden us).keep = s.keep := by
  unfold bistDone
  simp only [dieBit_keep, wr_keep, syncLinks_keep, fire_keep, keep_ite, ite_self]

theorem bootBist_keep (s : State) (failed : List Nat) :
    (bootBist s failed).keep = s.keep := by
  unfold bootBist
  simp only [wr_keep, safeState_keep, fire_keep, modPwr_keep, keep_ite, ite_self]

theorem pllUnlock_keep (s : State) (adie : Option Nat) :
    (pllUnlock s adie).keep = s.keep := by
  unfold pllUnlock
  dsimp only
  (repeat' split) <;> simp only [dieBit_keep, freeBit_keep, fire_keep]

theorem xsAbort_keep (s : State) :
    (xsAbort s).keep = s.keep := by
  unfold xsAbort
  dsimp only
  (repeat' split) <;> simp only [wr_keep, freeBit_keep, modPwr_keep]

theorem xsGo_keep (s : State) (w : Wr) (u : Nat) (op : Nat) :
    (xsGo s w u op).keep = s.keep := by
  unfold xsGo
  simp only [pwrRej_keep, noPerm_keep, wr_keep, modPwr_keep, keep_ite, ite_self]

theorem xsBufPut_keep (s : State) (u : Nat) (l : List Byte) :
    (xsBufPut s u l).keep = s.keep := by
  unfold xsBufPut
  dsimp only
  (repeat' split) <;> simp only [wr_keep, implies_true, keep_foldl]

theorem freeBytes_keep (s : State) (n : Nat) :
    (freeBytes s n).2.keep = s.keep := by
  unfold freeBytes
  simp only [keep_rec]

theorem tempJudge_keep (s : State) (d : Nat) (t : Int) (lim : Nat) (src : Nat) (told : List Nat) :
    (tempJudge s d t lim src told).2.keep = s.keep := by
  unfold tempJudge
  (try dsimp only)
  (repeat' split) <;> (first | rfl | simp (disch := (intros; (repeat' split) <;> simp only [fire_keep, wr_keep, keep_rec, keep_ite, ite_self, implies_true, keep_foldl, keep_foldl2, id_eq])) only [fire_keep])

theorem dieTemp_keep (s : State) (d : Nat) (t : Int) :
    (dieTemp s d t).keep = s.keep := by
  unfold dieTemp
  simp only [wr_keep, tempJudge_keep, modPwr_keep, keep_ite, ite_self]

theorem winSet_keep (s : State) (m : Nat) (w : Nat) (base : Nat) (limit : Nat) (attr : Nat) :
    (winSet s m w base limit attr).keep = s.keep := by
  unfold winSet
  simp only [wrB_keep, wr_keep]

theorem imgWindows_keep (s : State) (slot : Nat) :
    (imgWindows s slot).keep = s.keep := by
  unfold imgWindows
  dsimp only
  (repeat' split) <;> simp only [winSet_keep, keep_ite, ite_self, implies_true, keep_foldl]

theorem romStays_keep (s : State) (err : Nat) :
    (romStays s err).keep = s.keep := by
  unfold romStays
  simp only [wr_keep, winSet_keep, keep_ite, ite_self]

theorem attest_keep (s : State) :
    (attest s).keep = s.keep := by
  unfold attest
  simp only [sigQueue_keep, wr_keep, keep_ite, ite_self]

theorem secRej_keep (s : State) :
    (secRej s).keep = s.keep := by
  unfold secRej
  simp only [wr_keep, fire_keep]

theorem svnRaise_keep (s : State) (w : Wr) (key : Byte) :
    (svnRaise s w key).keep = s.keep := by
  unfold svnRaise
  simp only [noPerm_keep, wr_keep, secRej_keep, keep_ite, ite_self]

theorem revoke_keep (s : State) (w : Wr) (key : Byte) :
    (revoke s w key).keep = s.keep := by
  unfold revoke
  simp only [noPerm_keep, wr_keep, secRej_keep, keep_ite, ite_self]

theorem execAttest_keep (w : Wr) (s : State) :
    keeps (execAttest w s) s := by
  unfold execAttest
  rw [keeps_next]
  simp only [attest_keep, retire_keep]

theorem execSvnRaise_keep (w : Wr) (key : Byte) (s : State) :
    keeps (execSvnRaise w key s) s := by
  unfold execSvnRaise
  rw [keeps_next]
  simp only [retire_keep, svnRaise_keep]

theorem execRevoke_keep (w : Wr) (key : Byte) (s : State) :
    keeps (execRevoke w key s) s := by
  unfold execRevoke
  rw [keeps_next]
  simp only [retire_keep, revoke_keep]

theorem execBootBist_keep (failed : List Nat) (s : State) :
    keeps (execBootBist failed s) s := by
  unfold execBootBist
  rw [keeps_next]
  simp only [bootBist_keep]

theorem execRailFault_keep (s : State) :
    keeps (execRailFault s) s := by
  unfold execRailFault
  rw [keeps_next]
  simp only [fireIf_keep]

theorem execRefclkLoss_keep (s : State) :
    keeps (execRefclkLoss s) s := by
  unfold execRefclkLoss
  rw [keeps_next]
  simp only [wr_keep, fire_keep, keep_ite, ite_self]

theorem execPllUnlock_keep (adie : Option Nat) (s : State) :
    keeps (execPllUnlock adie s) s := by
  unfold execPllUnlock
  rw [keeps_next]
  simp only [pllUnlock_keep]

theorem execAdiePllRelock_keep (a : Nat) (s : State) :
    keeps (execAdiePllRelock a s) s := by
  unfold execAdiePllRelock
  rw [keeps_next]
  simp only [dieBit_keep, keep_ite, ite_self]

theorem execXtalStop_keep (s : State) :
    keeps (execXtalStop s) s := by
  unfold execXtalStop
  rw [keeps_next]
  simp only [wr_keep, fire_keep, modPwr_keep]

theorem execPwrfailRise_keep (s : State) :
    keeps (execPwrfailRise s) s := by
  unfold execPwrfailRise
  rw [keeps_next]
  simp only [wr_keep, fire_keep, keep_ite, ite_self]

theorem execDieOn_keep (w : Wr) (d : Nat) (s : State) :
    keeps (execDieOn w d s) s := by
  unfold execDieOn
  rw [keeps_next]
  simp only [dieTurnOn_keep, retire_keep, noPerm_keep, keep_ite, ite_self]

theorem execDieBistDone_keep (misr : BitVec 64) (golden : BitVec 64) (us : Nat) (s : State) :
    keeps (execDieBistDone misr golden us s) s := by
  unfold execDieBistDone
  rw [keeps_next]
  simp only [bistDone_keep]

theorem execXsRead_keep (w : Wr) (u : Nat) (s : State) :
    keeps (execXsRead w u s) s := by
  unfold execXsRead
  rw [keeps_next]
  simp only [retire_keep, xsGo_keep]

theorem execXsWrite_keep (w : Wr) (u : Nat) (s : State) :
    keeps (execXsWrite w u s) s := by
  unfold execXsWrite
  rw [keeps_next]
  simp only [retire_keep, xsGo_keep]

theorem execXsErase_keep (w : Wr) (u : Nat) (s : State) :
    keeps (execXsErase w u s) s := by
  unfold execXsErase
  rw [keeps_next]
  simp only [retire_keep, xsGo_keep]

theorem execXsStatus_keep (w : Wr) (u : Nat) (s : State) :
    keeps (execXsStatus w u s) s := by
  unfold execXsStatus
  rw [keeps_next]
  simp only [retire_keep, xsGo_keep]

theorem execDieTempUpdate_keep (temps : List Int) (s : State) :
    keeps (execDieTempUpdate temps s) s := by
  unfold execDieTempUpdate
  (try dsimp only)
  rw [keeps_next]
  (repeat' split) <;> (first | rfl | simp (disch := (intros; (repeat' split) <;> simp only [dieTemp_keep, wr_keep, keep_rec, keep_ite, ite_self, implies_true, keep_foldl, keep_foldl2, id_eq])) only [keep_foldl])

theorem execPerstNAssert_keep (s : State) :
    keeps (execPerstNAssert s) s := by
  unfold execPerstNAssert
  rw [keeps_next]
  simp only [modPwr_keep]

theorem execPerstNRelease_keep (s : State) :
    keeps (execPerstNRelease s) s := by
  unfold execPerstNRelease
  rw [keeps_next]
  simp only [modPwr_keep]

theorem setCycNum_keep (s : State) (c : Nat) :
    (setCycNum s c).keep = s.keep := by
  unfold setCycNum
  simp only [wr_keep, keep_rec]

theorem cycHeld_keep (s : State) :
    (cycHeld s).keep = s.keep := by
  unfold cycHeld
  simp only [wr_keep, fire_keep]

theorem cycRej_keep (s : State) :
    (cycRej s).keep = s.keep := by
  unfold cycRej
  simp only [wr_keep]

theorem cycFields_keep (s : State) (v : Nat) :
    (cycFields s v).keep = s.keep := by
  unfold cycFields
  simp only [cycRej_keep, wr_keep, cycHeld_keep, keep_ite, ite_self]

theorem cycCtl_keep (s : State) (v : Nat) :
    (cycCtl s v).keep = s.keep := by
  unfold cycCtl
  simp only [wr_keep, cycFields_keep]

theorem cycNumLo_keep (s : State) (v : Nat) :
    (cycNumLo s v).keep = s.keep := by
  unfold cycNumLo
  simp only [wr_keep, cycHeld_keep, keep_ite, ite_self]

theorem cycNumHi_keep (s : State) (v : Nat) :
    (cycNumHi s v).keep = s.keep := by
  unfold cycNumHi
  simp only [wr_keep, cycHeld_keep, keep_rec, keep_ite, ite_self]

theorem cycEvents_keep (s : State) (i : Nat) :
    (cycEvents s i).keep = s.keep := by
  unfold cycEvents
  simp only [evt_keep, keep_ite, ite_self]

theorem meridian_keep (s : State) (first : Bool) :
    (meridian s first).keep = s.keep := by
  unfold meridian
  dsimp only
  (repeat' split) <;> simp only [lawMeridian_keep, keep_rec, implies_true, keep_foldl]

theorem setSubframe_keep (s : State) (n : Nat) : (setSubframe s n).keep = s.keep := keep_mk _ _ rfl rfl rfl rfl rfl

theorem timerStart_keep (s : State) :
    (timerStart s).keep = s.keep := by
  unfold timerStart
  dsimp only
  (repeat' split) <;> simp only [meridian_keep, wr_keep, timerDdn_keep, setSubframe_keep, restartLane_keep, implies_true, keep_foldl]

theorem timerStop_keep (s : State) :
    (timerStop s).keep = s.keep := by
  unfold timerStop
  dsimp only
  (repeat' split) <;> simp only [setCycNum_keep, armsOff_keep, wr_keep, lawStop_keep, keep_rec, implies_true, keep_foldl]

theorem timerNext_keep (s : State) :
    (timerNext s).keep = s.keep := by
  unfold timerNext
  simp only [meridian_keep, setCycNum_keep, wr_keep, setSubframe_keep, keep_rec, keep_ite, ite_self]

theorem timerBoundary_keep (s : State) :
    (timerBoundary s).keep = s.keep := by
  unfold timerBoundary
  simp only [timerNext_keep, timerStart_keep, timerStop_keep, keep_rec, keep_ite, ite_self]

theorem modBoundary_keep (s : State) (k : Nat) :
    (modBoundary s k).keep = s.keep := by
  unfold modBoundary
  simp only [setModul_keep]

theorem boundary_keep (s : State) :
    (boundary s).keep = s.keep := by
  unfold boundary
  dsimp only
  (repeat' split) <;> simp only [seqBoundary_keep, timerBoundary_keep, pairBoundary_keep, cycEvents_keep, reach_keep, modBoundary_keep, keep_rec, implies_true, keep_foldl]

theorem slotsDone_keep (s : State) :
    (slotsDone s).keep = s.keep := by
  unfold slotsDone
  dsimp only
  (repeat' split) <;> simp only [evt_keep, reach_keep, keep_rec]

theorem onMod_keep (s : State) (k : Nat) (f : State → State) (hf : ∀ x, (f x).keep = x.keep) :
    (onMod s k f).keep = s.keep := by
  unfold onMod
  simp only [hf, keep_ite, ite_self]

theorem checked_keep (s : State) (k : Nat) :
    (checked s k).keep = s.keep := by
  unfold checked
  simp only [checkPass_keep, sendPass_keep, keep_ite, ite_self]

theorem dwellEnd_keep (s : State) (a : Nat) (ofs : Int) (gain : Int) :
    (dwellEnd s a ofs gain).keep = s.keep := by
  unfold dwellEnd
  simp only [calDwell_keep, mtrHandback_keep, keep_ite, ite_self]

theorem timeStepped_keep (s : State) (set : Bool) (adj : Bool) :
    (timeStepped s set adj).keep = s.keep := by
  unfold timeStepped
  simp only [timeCmd_keep, mtrTimeStep_keep, keep_ite, ite_self]

theorem execSubframeBoundary_keep (s : State) :
    keeps (execSubframeBoundary s) s := by
  unfold execSubframeBoundary
  rw [keeps_next]
  simp only [boundary_keep]

theorem execUpstreamSlotsDone_keep (s : State) :
    keeps (execUpstreamSlotsDone s) s := by
  unfold execUpstreamSlotsDone
  rw [keeps_next]
  simp only [slotsDone_keep]

theorem execCycleTimerEn_keep (w : Wr) (v : Word) (s : State) :
    keeps (execCycleTimerEn w v s) s := by
  unfold execCycleTimerEn
  rw [keeps_next]
  simp only [retire_keep, wr_keep, cycFields_keep]

theorem execCycleTimerStart_keep (s : State) :
    keeps (execCycleTimerStart s) s := by
  unfold execCycleTimerStart
  rw [keeps_next]
  simp only [boundary_keep, keep_ite, ite_self]

theorem execCycleTimerDis_keep (w : Wr) (s : State) :
    keeps (execCycleTimerDis w s) s := by
  unfold execCycleTimerDis
  rw [keeps_next]
  simp only [wr_keep, retire_keep]

theorem execCycleTimerStop_keep (s : State) :
    keeps (execCycleTimerStop s) s := by
  unfold execCycleTimerStop
  rw [keeps_next]
  simp only [boundary_keep, keep_ite, ite_self]

theorem execCycNumLoRead_keep (m : Nat) (s : State) :
    keeps (execCycNumLoRead m s) s := by
  unfold execCycNumLoRead
  rw [keeps_next]
  simp only [wr_keep, answer_keep]

theorem execModBuildCutoff_keep (k : Nat) (s : State) :
    keeps (execModBuildCutoff k s) s := by
  unfold execModBuildCutoff
  rw [keeps_next]
  simp only [onMod_keep, reachOfs_keep, modCutoff_keep, implies_true]

theorem execRankComplete_keep (k : Nat) (glitch : List (Nat × Word)) (s : State) :
    keeps (execRankComplete k glitch s) s := by
  unfold execRankComplete
  rw [keeps_next]
  simp only [onMod_keep, rankDone_keep, implies_true]

theorem execCheckerVerdict_keep (k : Nat) (s : State) :
    keeps (execCheckerVerdict k s) s := by
  unfold execCheckerVerdict
  rw [keeps_next]
  simp only [onMod_keep, checked_keep, implies_true]

theorem execRefstale_keep (k : Nat) (a : Nat) (s : State) :
    keeps (execRefstale k a s) s := by
  unfold execRefstale
  rw [keeps_next]
  simp only [onMod_keep, goStale_keep, keep_ite, ite_self, implies_true]

theorem execPlausibilityExclusion_keep (k : Nat) (c : Nat) (s : State) :
    keeps (execPlausibilityExclusion k c s) s := by
  unfold execPlausibilityExclusion
  rw [keeps_next]
  simp only [onMod_keep, exclude_keep, keep_ite, ite_self, implies_true]

theorem execTrendPeriodEnd_keep (k : Nat) (s : State) :
    keeps (execTrendPeriodEnd k s) s := by
  unfold execTrendPeriodEnd
  rw [keeps_next]
  simp only [onMod_keep, trendEnd_keep, implies_true]

theorem execArmCntclr_keep (w : Wr) (k : Nat) (a : Nat) (s : State) :
    keeps (execArmCntclr w k a s) s := by
  unfold execArmCntclr
  rw [keeps_next]
  simp only [retire_keep, armCntClr_keep, onMod_keep, keep_ite, ite_self, implies_true]

theorem execCvAgeClear_keep (w : Wr) (k : Nat) (s : State) :
    keeps (execCvAgeClear w k s) s := by
  unfold execCvAgeClear
  rw [keeps_next]
  simp only [onMod_keep, retire_keep, ageClear_keep, implies_true]

theorem execPfxClear_keep (w : Wr) (k : Nat) (c : Nat) (s : State) :
    keeps (execPfxClear w k c s) s := by
  unfold execPfxClear
  rw [keeps_next]
  simp only [pfxClear_keep, retire_keep, onMod_keep, keep_ite, ite_self, implies_true]

theorem execModRamError_keep (k : Nat) (c : Nat) (ue : Bool) (s : State) :
    keeps (execModRamError k c ue s) s := by
  unfold execModRamError
  rw [keeps_next]
  simp only [onMod_keep, modRam_keep, keep_ite, ite_self, implies_true]

theorem execLawInputFill_keep (k : Nat) (s : State) :
    keeps (execLawInputFill k s) s := by
  unfold execLawInputFill
  rw [keeps_next]
  simp only [lawFill_keep, srsTap_keep, keep_ite, ite_self]

theorem execCalDwellEnd_keep (a : Nat) (ofs : Int) (gain : Int) (s : State) :
    keeps (execCalDwellEnd a ofs gain s) s := by
  unfold execCalDwellEnd
  rw [keeps_next]
  simp only [dwellEnd_keep, onAd_keep, implies_true]

theorem execTimeSet_keep (w : Wr) (adj : Bool) (s : State) :
    keeps (execTimeSet w adj s) s := by
  unfold execTimeSet
  rw [keeps_next]
  simp only [retire_keep, timeStepped_keep]

theorem execTimeAdj_keep (w : Wr) (s : State) :
    keeps (execTimeAdj w s) s := by
  unfold execTimeAdj
  rw [keeps_next]
  simp only [retire_keep, timeStepped_keep]

theorem absentClr_keep (s : State) :
    (absentClr s).keep = s.keep := by
  unfold absentClr
  simp only [wr_keep]

theorem flitFail_keep (s : State) (i : Nat) :
    (flitFail s i).keep = s.keep := by
  unfold flitFail
  dsimp only
  (repeat' split) <;> simp only [inc_keep, freeBit_keep, fire_keep, syncLinks_keep, modPwr_keep, keep_rec]

theorem tmoRecord_keep (s : State) (mid : Nat) (addr : Nat) (wr : Bool) :
    (tmoRecord s mid addr wr).keep = s.keep := by
  unfold tmoRecord
  simp only [wrB_keep, inc_keep, wr_keep, fire_keep, keep_ite, ite_self]

theorem dropRead_keep (s : State) (mid : Nat) (addr : Nat) :
    (dropRead s mid addr).keep = s.keep := keep_mk _ _ rfl rfl rfl rfl rfl

theorem fabErrclr_keep (s : State) :
    (fabErrclr s).keep = s.keep := by
  unfold fabErrclr
  simp only [wr_keep]

theorem stage_keep (s : State) (w : Wr) (addr : Nat) (v : Word) :
    (stage s w addr v).keep = s.keep := by
  unfold stage
  dsimp only
  (repeat' split) <;> simp only [retire_keep, modCore_keep, keep_rec]

theorem commitAt_keep (s : State) (m : Nat) (n : Nat) (t : Target) :
    (commitAt s m n t).keep = s.keep := by
  unfold commitAt
  simp only [keep_rec]

theorem execCapq_keep (m : Nat) (o : OpS) (s : State) :
    keeps (execCapq m o s) s := by
  unfold execCapq
  rw [keeps_next]
  simp only [setCore_keep, illegal_keep, goOn_keep, keep_ite, ite_self]

theorem execAbsentClr_keep (w : Wr) (s : State) :
    keeps (execAbsentClr w s) s := by
  unfold execAbsentClr
  rw [keeps_next]
  simp only [retire_keep, absentClr_keep]

theorem execFlitCrcFail_keep (link : Nat) (s : State) :
    keeps (execFlitCrcFail link s) s := by
  unfold execFlitCrcFail
  rw [keeps_next]
  simp only [flitFail_keep]

theorem execFabErrclr_keep (w : Wr) (s : State) :
    keeps (execFabErrclr w s) s := by
  unfold execFabErrclr
  rw [keeps_next]
  simp only [fabErrclr_keep, retire_keep]

theorem execWindowTableEccError_keep (ue : Bool) (s : State) :
    keeps (execWindowTableEccError ue s) s := by
  unfold execWindowTableEccError
  rw [keeps_next]
  simp only [fire_keep]

theorem execCycleWriteLand_keep (m : Nat) (addr : Nat) (v : Word) (s : State) :
    keeps (execCycleWriteLand m addr v s) s := by
  unfold execCycleWriteLand
  rw [keeps_next]
  simp only [stage_keep, keep_ite, ite_self]

theorem execCycCommit_keep (m : Nat) (n : Nat) (t : Target) (s : State) :
    keeps (execCycCommit m n t s) s := by
  unfold execCycCommit
  rw [keeps_next]
  simp only [commitAt_keep, keep_ite, ite_self]

theorem putField_keep (s : State) (v : Nat) (g : Guard) (b : Nat) (f : Fld) :
    (putField s v g b f).keep = s.keep := by
  unfold putField
  dsimp only
  (repeat' split) <;> simp only [wr_keep]

theorem putWord_keep (s : State) (a : Nat) (v : Nat) (g : Guard) (hh : ∀ x, (g.held x).keep = x.keep) (hr : ∀ x, (g.rej x).keep = x.keep) :
    (putWord s a v g).keep = s.keep := by
  unfold putWord
  dsimp only
  (repeat' split) <;> simp only [putField_keep, hr, hh, keep_foldl, implies_true]

theorem putWord_free_keep (s : State) (a v : Nat) : (s.putWord a v Guard.free).keep = s.keep :=
  putWord_keep _ _ _ _ (fun _ => rfl) (fun _ => rfl)

theorem quiet_keep (s : State) (f : State → Ans) (hf : ∀ x, keeps (f x) x) :
    (quiet s f).keep = s.keep := by
  unfold quiet
  split
  · rename_i t h; exact (keep_rec _ _ _ _ _ _ _ _ _ _ _ _ _ _ _ _ _ _ _ _ _ _ _ _ _ _ _ _ _ _).trans ((hf _ t h).trans (keep_rec _ _ _ _ _ _ _ _ _ _ _ _ _ _ _ _ _ _ _ _ _ _ _ _ _ _ _ _ _ _))
  · rfl

theorem busLane_keep (s : State) (ln : Nat) (off : Nat) (v : Nat) :
    (busLane s ln off v).keep = s.keep := by
  unfold busLane
  dsimp only
  (repeat' split) <;> simp only [putWord_keep, rsStart_keep, wakeStart_keep, laneCtl_keep, bcastPush_keep, wr_keep, endScan_keep, evt_keep, fire_keep, laneCntClr_keep, free_rej, id_eq, implies_true, implies_true]

theorem lawFlag_keep (s : State) (k : Nat) (f : Fld) :
    (lawFlag s k f).keep = s.keep := by
  unfold lawFlag
  simp only [wr_keep, fireK_keep]

theorem busLch_keep (s : State) (k : Nat) (c : Nat) (off : Nat) (v : Nat) :
    (busLch s k c off v).keep = s.keep := by
  unfold busLch
  dsimp only
  (repeat' split) <;> simp only [putWord_keep, chClrst_keep, chClrplaus_keep, evtK_keep, modLaw_keep, chHeld_keep, free_rej, id_eq, implies_true, implies_true]

theorem busLaw_keep (s : State) (k : Nat) (off : Nat) (v : Nat) :
    (busLaw s k off v).keep = s.keep := by
  unfold busLaw
  dsimp only
  (repeat' split) <;> simp only [putWord_keep, lawApply_keep, evtK_keep, lawFlag_keep, busLch_keep, wr_keep, lawAll_keep, chHeld_keep, free_rej, id_eq, implies_true, implies_true]

theorem busCore_keep (s : State) (w : Wr) (m : Nat) (off : Nat) (v : Nat) :
    (busCore s w m off v).keep = s.keep := by
  unfold busCore
  dsimp only
  (repeat' split) <;> simp only [heldSet_keep, noPerm_keep, coreRelease_keep, wr_keep, coreReset_keep, putWord_free_keep, implies_true, implies_true]

theorem busFz_keep (s : State) (w : Wr) (off : Nat) (v : Nat) :
    (busFz s w off v).keep = s.keep := by
  unfold busFz
  dsimp only
  split
  · have h : ∀ n : Nat, ∀ x m r t, (match n with
      | 1 => State.actRetry
      | 2 => State.actTrap
      | 3 => State.actReset
      | _ => fun _ _ _ => none : State → Nat → FzRec → Option State) x m r = some t → t.keep = x.keep := by
      intro n
      split
      · exact fun x m r t => actRetry_keep x m r t
      · exact fun x m r t => actTrap_keep x m r t
      · exact fun x m r t => actReset_keep x m r t
      · intro x m r t h; cases h
    exact release_keep _ _ _ _ (h _)
  · split
    · exact (syncFz_keep _).trans (keep_rec _ _ _ _ _ _ _ _ _ _ _ _ _ _ _ _ _ _ _ _ _ _ _ _ _ _ _ _ _ _)
    · rfl
  · exact putWord_free_keep _ _ _

theorem busSlot_keep (s : State) (k : Nat) (i : Nat) (word : Nat) (v : Nat) :
    (busSlot s k i word v).keep = s.keep := by
  unfold busSlot
  simp only [putWord_keep, disableSlot_keep, fireK_keep, wr_keep, free_rej, id_eq, implies_true, keep_ite, ite_self, implies_true]

theorem busSch_keep (s : State) (k : Nat) (off : Nat) (v : Nat) :
    (busSch s k off v).keep = s.keep := by
  unfold busSch
  simp only [evtK_keep, busSlot_keep, putWord_free_keep, keep_ite, ite_self]

theorem busMbx_keep (s : State) (w : Wr) (k : Nat) (off : Nat) (v : Nat) :
    (busMbx s w k off v).keep = s.keep := by
  unfold busMbx
  dsimp only
  (repeat' split) <;> simp only [execChBindWrite_keep, execDbMaskWrite_keep, execChPutWrite_keep, execDbClr_keep, execDbPendWrite_keep, quiet_keep, putWord_free_keep, implies_true, implies_true]

theorem adFlag_keep (s : State) (a : Nat) (f : Fld) :
    (adFlag s a f).keep = s.keep := by
  unfold adFlag
  simp only [wr_keep, fireAd_keep]

theorem seqEnWrite_keep (s : State) (a : Nat) (n : Nat) (v : Bool) :
    (seqEnWrite s a n v).keep = s.keep := by
  unfold seqEnWrite
  simp only [wrB_keep, adFlag_keep, modAd_keep, keep_ite, ite_self]

theorem busAdie_keep (s : State) (w : Wr) (a : Nat) (off : Nat) (v : Nat) :
    (busAdie s w a off v).keep = s.keep := by
  unfold busAdie
  simp only [putWord_keep, adFlag_keep, quiet_keep, seqEnWrite_keep, execAdCntclr_keep, evt_keep, urgWrite_keep, free_rej, id_eq, implies_true, keep_ite, ite_self, implies_true]

theorem busDch_keep (s : State) (k : Nat) (c : Nat) (off : Nat) (v : Nat) :
    (busDch s k c off v).keep = s.keep := by
  unfold busDch
  dsimp only
  (repeat' split) <;> simp only [dResume_keep, putWord_keep, evtK_keep, fireK_keep, dStart_keep, wr_keep, dPause_keep, dAbort_keep, dAppend_keep, free_rej, id_eq, implies_true, implies_true]

theorem busDma_keep (s : State) (k : Nat) (off : Nat) (v : Nat) :
    (busDma s k off v).keep = s.keep := by
  unfold busDma
  simp only [busDch_keep, putWord_free_keep, keep_ite, ite_self]

theorem timeFlag_keep (s : State) (f : Fld) :
    (timeFlag s f).keep = s.keep := by
  unfold timeFlag
  simp only [wr_keep, fire_keep]

theorem busPort_keep (s : State) (w : Wr) (e : Nat) (off : Nat) (v : Nat) :
    (busPort s w e off v).keep = s.keep := by
  unfold busPort
  dsimp only
  (repeat' split) <;> simp only [putWord_keep, evtK_keep, execPortCntClr_keep, execTxKick_keep, wr_keep, quiet_keep, execPortEnable_keep, fire_keep, free_rej, id_eq, implies_true, implies_true]

theorem busVnCtl_keep (s : State) (w : Wr) (v : Nat) :
    (busVnCtl s w v).keep = s.keep := by
  unfold busVnCtl
  simp only [putWord_keep, execVnDisable_keep, quiet_keep, execVnRearm_keep, timeFlag_keep, implies_true, keep_ite, ite_self, implies_true]

theorem busEth_keep (s : State) (w : Wr) (off : Nat) (v : Nat) :
    (busEth s w off v).keep = s.keep := by
  unfold busEth
  dsimp only
  (repeat' split) <;> simp only [putWord_keep, busPort_keep, evtK_keep, busVnCtl_keep, wr_keep, quiet_keep, timeStepped_keep, execVnSecondarySample_keep, fire_keep, execVnPrimarySample_keep, timeFlag_keep, putWord_free_keep, free_held, free_rej, id_eq, implies_true, implies_true]

theorem busFsCfg_keep (s : State) (n : Nat) (v : Nat) :
    (busFsCfg s n v).keep = s.keep := by
  unfold busFsCfg
  dsimp only
  (repeat' split) <;> simp only [wr_keep, implies_true, keep_foldl]

theorem busFc_keep (s : State) (w : Wr) (off : Nat) (v : Nat) :
    (busFc s w off v).keep = s.keep := by
  unfold busFc
  dsimp only
  (repeat' split) <;> simp only [injArm_keep, execWden_keep, putWord_keep, busFsCfg_keep, wdKick_keep, execFlogPop_keep, wr_keep, setPendFs_keep, quiet_keep, execFcLock_keep, aliveStop_keep, execFsClr_keep, aliveStart_keep, putWord_free_keep, free_held, free_rej, id_eq, implies_true, keep_ite, ite_self, implies_true, keep_foldl]

theorem busSaf_keep (s : State) (w : Wr) (off : Nat) (v : Nat) :
    (busSaf s w off v).keep = s.keep := by
  unfold busSaf
  simp only [sprRequest_keep, putWord_keep, srsRequest_keep, safNoPerm_keep, wr_keep, safArm_keep, sprRelease_keep, fire_keep, implies_true, keep_ite, ite_self, implies_true]

theorem busPair_keep (s : State) (w : Wr) (off : Nat) (v : Nat) :
    (busPair s w off v).keep = s.keep := by
  unfold busPair
  simp only [putWord_keep, cycSync_keep, execDrill_keep, execHandover_keep, wr_keep, quiet_keep, execPairEn_keep, fire_keep, free_rej, id_eq, implies_true, keep_ite, ite_self, implies_true]

theorem recSet_keep (s : State) (r : Nat) (v : Bool) :
    (recSet s r v).keep = s.keep := by
  unfold recSet
  simp only [setAlmRec_keep, wrB_keep, modAlm_keep, keep_ite, ite_self]

theorem busAlmCtl_keep (s : State) (w : Wr) (v : Nat) :
    (busAlmCtl s w v).keep = s.keep := by
  unfold busAlmCtl
  simp only [execAlmanacUnfreeze_keep, execFlushnow_keep, execAlmanacFreeze_keep, execClrall_keep, execRestore_keep, wr_keep, quiet_keep, execClrrec_keep, keep_ite, ite_self, implies_true]

theorem busAlm_keep (s : State) (w : Wr) (off : Nat) (v : Nat) :
    (busAlm s w off v).keep = s.keep := by
  unfold busAlm
  extract_lets flag en r runs bad t
  have hf : ∀ f x, (flag f x).keep = x.keep := fun f x => by simp only [flag, fire_keep, wr_keep]
  have ht : t.keep = s.keep := putWord_keep _ _ _ _ (fun x => hf _ x) (fun x => hf _ x)
  split
  · split
    · rw [recSet_keep, ht]
    · exact ht
  · split
    · exact busAlmCtl_keep _ _ _
    · split
      · exact quiet_keep _ _ (fun x => execAlmCntclr_keep _ _)
      · rfl
    · exact putWord_keep _ _ _ _ (fun x => hf _ x) (fun x => rfl)

theorem busMtr_keep (s : State) (off : Nat) (v : Nat) :
    (busMtr s off v).keep = s.keep := by
  unfold busMtr
  simp only [putWord_keep, mtrRej_keep, wr_keep, mtrDisable_keep, fire_keep, mtrEnable_keep, implies_true, keep_ite, ite_self, implies_true]

theorem busCaps_keep (s : State) (off : Nat) (v : Nat) :
    (busCaps s off v).keep = s.keep := by
  unfold busCaps
  (try dsimp only)
  (repeat' split) <;> (first | rfl | simp (disch := (intros; (repeat' split) <;> simp only [putWord_keep, fabErrclr_keep, absentClr_keep, putWord_free_keep, free_held, free_rej, id_eq, implies_true, wr_keep, keep_rec, keep_ite, ite_self, implies_true, keep_foldl, keep_foldl2, id_eq])) only [fabErrclr_keep, absentClr_keep, putWord_free_keep])

theorem hostTold_keep (s : State) (abort : Bool) (data : Word) :
    (hostTold s abort data).keep = s.keep := keep_mk _ _ rfl rfl rfl rfl rfl

theorem nsTick_keep (s : State) :
    (nsTick s).keep = s.keep := by
  unfold nsTick
  simp only [keep_rec, keep_ite, ite_self]

end State

end Sys2Proof.Machine
end

