-- ==== Sys2Proof/Laws/FrameMemory.lean ====
section
/-!
SUPPORT. The operations that write a memory: they leave the queue and the part alone and keep every memory canonical.
-/
namespace Sys2Proof.Machine

namespace State

/-- `k` has the queue and the part of `r`, and sound memories if `r` has. -/
@[irreducible] def Fol (r k : Kept) : Prop :=
  k.1 = r.1 ∧ k.2.1 = r.2.1 ∧
    ((Memory.wf r.2.2.1 = true ∧ Memory.wf r.2.2.2.1 = true ∧ Memory.wf r.2.2.2.2 = true) →
      Memory.wf k.2.2.1 = true ∧ Memory.wf k.2.2.2.1 = true ∧ Memory.wf k.2.2.2.2 = true)

theorem fol_refl (k : Kept) : Fol k k := by
  unfold Fol; exact ⟨rfl, rfl, id⟩

theorem fol_ite (r) (c : Prop) [Decidable c] (a b : State) (ha : Fol r a.keep) (hb : Fol r b.keep) :
    Fol r (if c then a else b).keep := by split <;> assumption

theorem fol_mk (s t : State) (r) (h1 : t.pending = s.pending) (h2 : t.part = s.part)
    (h3 : Memory.wf s.mem = true → Memory.wf t.mem = true) (h4 : Memory.wf s.nor = true → Memory.wf t.nor = true)
    (h5 : Memory.wf s.mram = true → Memory.wf t.mram = true) (h : Fol r s.keep) : Fol r t.keep := by
  unfold Fol at *
  rw [keep_def] at *
  dsimp only at *
  rw [h1, h2]
  exact ⟨h.1, h.2.1, fun q => ⟨h3 (h.2.2 q).1, h4 (h.2.2 q).2.1, h5 (h.2.2 q).2.2⟩⟩

theorem fol_mem (r) (x : State) (m a0 a1 a2 a3 a4 a5 a6 a7 a8 a9 a10 a11 a12 a13 a14 a15 a16 a17 a18 a19 a20 a21 a22 a23 a24 a25 a26 a27 a28) (h : Fol r x.keep) (q : Memory.wf x.mem = true → Memory.wf m = true) :
    Fol r (State.mk x.pending x.part a0 a1 a2 a3 a4 m x.nor x.mram a5 a6 a7 a8 a9 a10 a11 a12 a13 a14 a15 a16 a17 a18 a19 a20 a21 a22 a23 a24 a25 a26 a27 a28).keep := fol_mk x _ r rfl rfl q id id h

theorem fol_nor (r) (x : State) (m a0 a1 a2 a3 a4 a5 a6 a7 a8 a9 a10 a11 a12 a13 a14 a15 a16 a17 a18 a19 a20 a21 a22 a23 a24 a25 a26 a27 a28) (h : Fol r x.keep) (q : Memory.wf x.nor = true → Memory.wf m = true) :
    Fol r (State.mk x.pending x.part a0 a1 a2 a3 a4 x.mem m x.mram a5 a6 a7 a8 a9 a10 a11 a12 a13 a14 a15 a16 a17 a18 a19 a20 a21 a22 a23 a24 a25 a26 a27 a28).keep := fol_mk x _ r rfl rfl id q id h

theorem fol_mram (r) (x : State) (m a0 a1 a2 a3 a4 a5 a6 a7 a8 a9 a10 a11 a12 a13 a14 a15 a16 a17 a18 a19 a20 a21 a22 a23 a24 a25 a26 a27 a28) (h : Fol r x.keep) (q : Memory.wf x.mram = true → Memory.wf m = true) :
    Fol r (State.mk x.pending x.part a0 a1 a2 a3 a4 x.mem x.nor m a5 a6 a7 a8 a9 a10 a11 a12 a13 a14 a15 a16 a17 a18 a19 a20 a21 a22 a23 a24 a25 a26 a27 a28).keep := fol_mk x _ r rfl rfl id id q h

theorem fol_foldl {α : Type} (r) (g : State → α → State) (l : List α) (s : State)
 (h : ∀ s x, Fol r s.keep → Fol r (g s x).keep) (hs : Fol r s.keep) : Fol r (l.foldl g s).keep := by
  induction l generalizing s with
  | nil => exact hs
  | cons x l ih => exact ih _ (h _ _ hs)

theorem fol_foldl2 {α β : Type} (r) (g : β × State → α → β × State) (l : List α) (p : β × State)
 (h : ∀ p x, Fol r p.2.keep → Fol r (g p x).2.keep) (hs : Fol r p.2.keep) : Fol r (l.foldl g p).2.keep := by
  induction l generalizing p with
  | nil => exact hs
  | cons x l ih => exact ih _ (h _ _ hs)

/-- A command's next state follows `r`. -/
def Fols (r : Kept) (o : Host.Outcome State Fault Refusal) : Prop :=
  ∀ t, o = .next t → Fol r t.keep

theorem fols_next (r) (t : State) : Fols r (.next t) ↔ Fol r t.keep :=
  ⟨fun h => h t rfl, fun h u e => by injection e with e; rw [← e]; exact h⟩

theorem fol_of_keep (r) (s t : State) (e : t.keep = s.keep) (h : Fol r s.keep) : Fol r t.keep := by rw [e]; exact h

theorem fol_fixed (s t : State) (h : Fol s.keep t.keep) : t.fixed = s.fixed ∧ (s.memOk = true → t.memOk = true) := by
  unfold Fol at h
  rw [keep_def, keep_def] at h
  obtain ⟨h1, h2, h3⟩ := h
  refine ⟨Prod.ext h1 h2, fun q => ?_⟩
  simp only [memOk, Bool.and_eq_true] at *
  exact ⟨⟨(h3 ⟨q.1.1, q.1.2, q.2⟩).1, (h3 ⟨q.1.1, q.1.2, q.2⟩).2.1⟩, (h3 ⟨q.1.1, q.1.2, q.2⟩).2.2⟩

variable (r : Kept)

theorem onK_fol (s : State) (k : Nat) (f : State → State) (hf : ∀ x, Fol r x.keep → Fol r (f x).keep) (h : Fol r s.keep) :
    Fol r (onK s k f).keep := by
  unfold onK; split
  · exact hf _ h
  · exact h
theorem onAcq_fol (s : State) (k : Nat) (f : State → State) (hf : ∀ x, Fol r x.keep → Fol r (f x).keep) (h : Fol r s.keep) :
    Fol r (onAcq s k f).keep := by
  unfold onAcq; split
  · exact hf _ h
  · exact h
theorem onDch_fol (s : State) (k c : Nat) (f : State → State) (hf : ∀ x, Fol r x.keep → Fol r (f x).keep) (h : Fol r s.keep) :
    Fol r (onDch s k c f).keep := by
  unfold onDch
  refine onK_fol r _ _ _ (fun x hx => ?_) h
  split
  · exact hf _ hx
  · exact hx
theorem putRam_fol (s : State) (l : Loc) (a v n : Nat) (h : Fol r s.keep) : Fol r (putRam s l a v n).keep := by
  unfold putRam
  refine fol_mk s _ r rfl rfl (fun q => ?_) id id h
  exact Memory.wf_foldl _ _ (fun m k h => Memory.wf_writeN n h) q
theorem xsDevPut_fol (s : State) (u a : Nat) (l : List Byte) (h : Fol r s.keep) : Fol r (xsDevPut s u a l).keep := by
  unfold xsDevPut
  split
  · exact fol_mk s _ r rfl rfl id (fun q => Memory.wf_writeBytes l q) id h
  · exact fol_mk s _ r rfl rfl id id (fun q => Memory.wf_writeBytes l q) h
theorem slotWrite_fol (s : State) (off : Nat) (l : List Byte) (ck : Option Nat) (err : Bool) (h : Fol r s.keep) :
    Fol r (slotWrite s off l ck err).keep := by
  unfold slotWrite
  split
  · simp only [modMtr_keep, fire_keep, wr_keep]; exact h
  · rw [slotDone_keep]; exact fol_mk s _ r rfl rfl id id (fun q => Memory.wf_writeBytes l q) h
theorem mtrPowerFail_fol (s : State) (h : Fol r s.keep) : Fol r (mtrPowerFail s).keep := by
  unfold mtrPowerFail
  dsimp only
  rw [syncCounting_keep, modMtr_keep]
  split
  · exact fol_mram r _ _ _ _ _ _ _ _ _ _ _ _ _ _ _ _ _ _ _ _ _ _ _ _ _ _ _ _ _ _ _ (by rw [mtrBody_keep]; exact h) (fun q => Memory.wf_writeBytes _ q)
  · exact h
theorem resetImage_fol (s : State) (held porst : Bool) (h : Fol r s.keep) : Fol r (resetImage s held porst).keep := by
  unfold resetImage
  exact fol_mem r s _ _ _ _ _ _ _ _ _ _ _ _ _ _ _ _ _ _ _ _ _ _ _ _ _ _ _ _ _ _ h (fun q => Memory.wf_filter _ q)
theorem aoClear_fol (s : State) (off : Bool) (h : Fol r s.keep) : Fol r (aoClear s off).keep := by
  unfold aoClear
  dsimp only
  rw [modPwr_keep]
  refine fol_mem r (resetImage _ true true) _ _ _ _ _ _ _ _ _ _ _ _ _ _ _ _ _ _ _ _ _ _ _ _ _ _ _ _ _ _ (resetImage_fol _ _ _ _ ?_) (fun _ => rfl)
  rw [keep_foldl _ _ _ (fun s x => wr_keep _ _ _ _)]; exact h
theorem dieReset_fol (s : State) (d : Nat) (h : Fol r s.keep) : Fol r (dieReset s d).keep := by
  unfold dieReset
  extract_lets t
  have ht : Fol r t.keep := by
    unfold t; rw [setModul_keep, keep_foldl _ _ _ (fun s x => blockReset_keep _ _)]; exact h
  clear_value t
  split
  · exact fol_mem r t _ _ _ _ _ _ _ _ _ _ _ _ _ _ _ _ _ _ _ _ _ _ _ _ _ _ _ _ _ _ ht (fun q => Memory.wf_filter _ q)
  · split <;> simp only [resetLdie_keep, resetAdie_keep, h]
theorem almPutImage_fol (s : State) (i : Nat) (h : Fol r s.keep) : Fol r (almPutImage s i).keep := by
  unfold almPutImage
  dsimp only
  rw [setAlmRec_keep]
  exact fol_mram r s _ _ _ _ _ _ _ _ _ _ _ _ _ _ _ _ _ _ _ _ _ _ _ _ _ _ _ _ _ _ h (fun q => Memory.wf_writeBytes _ q)
theorem acqStore_fol (s : State) (k : Nat) (a : AcqRec) (h : Fol r s.keep) : Fol r (acqStore s k a).keep := by
  unfold acqStore
  extract_lets b j n s1 x main s2 word s3 x2
  have h1 : Fol r s1.keep := by unfold s1; split <;> simp only [acqBase_keep, h]
  have h2 : Fol r s2.keep := by unfold s2; split <;> simp only [wr_keep, h1]
  have h3 : Fol r s3.keep := by
    unfold s3; clear_value word s2; exact fol_mem r s2 _ _ _ _ _ _ _ _ _ _ _ _ _ _ _ _ _ _ _ _ _ _ _ _ _ _ _ _ _ _ h2 (fun q => Memory.wf_writeN 8 q)
  simp only [wr_keep, setAcq_keep, h3]
theorem mtrSecond_fol (s : State) (h : Fol r s.keep) : Fol r (mtrSecond s).keep := by
  unfold mtrSecond
  extract_lets s1 s2
  have h1 : Fol r s1.keep := by
    refine fol_foldl r _ _ _ (fun s x h => ?_) (by rw [modMtr_keep]; exact h)
    rw [slotDone_keep]
    exact fol_mram r s _ _ _ _ _ _ _ _ _ _ _ _ _ _ _ _ _ _ _ _ _ _ _ _ _ _ _ _ _ _ h (fun q => Memory.wf_writeBytes _ q)
  unfold s2
  rw [mtrCapture_keep, keep_foldl _ _ _ (fun s x => sigQueue_keep _ _), modSec_keep]; exact h1
theorem almWritten_fol (s : State) (ok : Bool) (h : Fol r s.keep) : Fol r (almWritten s ok).keep := by
  unfold almWritten
  split
  · extract_lets t
    have ht : Fol r t.keep := by unfold t; rw [modAlm_keep]; exact h
    clear_value t
    split
    · rw [setAlmRec_keep]; exact fol_mram r t _ _ _ _ _ _ _ _ _ _ _ _ _ _ _ _ _ _ _ _ _ _ _ _ _ _ _ _ _ _ ht (fun q => Memory.wf_writeBytes _ q)
    · simp only [almWrErr_keep, ht]
  · dsimp only
    rw [almPassEnd_keep]
    split
    · exact almPutImage_fol _ _ _ (by simp only [inc_keep, modAlm_keep, h])
    · simp only [almWrErr_keep, inc_keep, modAlm_keep, h]
  · dsimp only
    rw [almPassEnd_keep]
    split
    · exact almPutImage_fol _ _ _ (by simp only [modAlm_keep, h])
    · simp only [almWrErr_keep, modAlm_keep, h]
  · exact h
theorem imgBoot_fol (s : State) (slot key : Nat) (h : Fol r s.keep) : Fol r (imgBoot s slot key).keep := by
  unfold imgBoot
  extract_lets msg cores segs hh ver svn s1 s2 s3 s4 s5 s6 s7 s8 s9
  have h4 : Fol r s4.keep := by
    unfold s4 s3 s2 s1
    rw [keep_foldl _ _ _ (fun s x => by split <;> simp only [wrB_keep]), keep_foldl _ _ _ (fun s x => wr_keep _ _ _ _),
      imgWindows_keep, resetOne_keep, resetOne_keep]
    exact h
  have h5 : Fol r s5.keep := by
    refine fol_foldl r _ _ _ (fun s x h => ?_) h4
    extract_lets m n twin
    refine fol_mem r s _ _ _ _ _ _ _ _ _ _ _ _ _ _ _ _ _ _ _ _ _ _ _ _ _ _ _ _ _ _ h (fun q => ?_)
    split
    · exact Memory.wf_writeBytes _ (Memory.wf_writeBytes _ q)
    · exact Memory.wf_writeBytes _ q
  have h6 : Fol r s6.keep := by
    unfold s6; clear_value s5; rw [keep_rec]; exact h5
  rw [coreRelease_keep, keep_foldl _ _ _ (fun s x => coreRelease_keep _ _)]
  unfold s9 s8 s7
  rw [modSec_keep, incW_keep, wr_keep, keep_foldl _ _ _ (fun s x => wr_keep _ _ _ _), wr_keep, wr_keep, wr_keep]
  exact h6
theorem mtrRestored_fol (s : State) (h : Fol r s.keep) : Fol r (mtrRestored s).keep := by
  unfold mtrRestored
  extract_lets base ck pf held tagOk s1 usePf erase next ends blank zero s2 s3
  have h1 : Fol r s1.keep := by unfold s1; split <;> simp only [fire_keep, wr_keep, h]
  have he : ∀ x, Fol r x.keep → Fol r (erase x).keep := fun x h => fol_mram r x _ _ _ _ _ _ _ _ _ _ _ _ _ _ _ _ _ _ _ _ _ _ _ _ _ _ _ _ _ _ h (fun q => Memory.wf_filter _ q)
  have hn : ∀ x, (ends x).keep = x.keep := fun x => by simp only [ends, syncCounting_keep, modMtr_keep, wr_keep]
  have h2 : Fol r s2.keep := by simp only [s2, zero, modMtr_keep, h1]
  have h3 : Fol r s3.keep := by simp only [s3, zero, mtrGap_keep, modMtr_keep, h1]
  clear_value erase ends s1 s2 s3 usePf blank ck
  split
  · exact h
  · split
    · extract_lets c
      clear_value c
      split
      · simp only [mtrOff_keep, mtrRej_keep, h1]
      · rw [hn]; apply he; split <;> simp only [mtrFrom_keep, h1]
    · split
      · simp only [hn, modMtr_keep, h2]
      · split
        · rw [hn]; apply he; simp only [modMtr_keep, h3]
        · simp only [mtrOff_keep, fire_keep, wr_keep, h1]

theorem store_fol (r : Kept) (s : State) (m : Nat) (legal : Bool) (srcs : List Nat) (addr : Nat) (size : Nat) (v : Nat) (upd : Core → Core) (h : Fol r s.keep) :
    Fol r (store s m legal srcs addr size v upd).keep := by
  unfold store
  (try dsimp only)
  (repeat' split) <;> simp only [setCore_keep, illegal_keep, goOn_keep, alignTrap_keep, freeze_keep, absentTrap_keep, offEvt_keep, putRam_fol, keep_rec, h]

theorem execSt_fol (r : Kept) (m : Nat) (o : OpC) (s : State) (h : Fol r s.keep) :
    Fols r (execSt m o s) := by
  unfold execSt
  (try dsimp only)
  rw [fols_next]
  (repeat' split) <;> simp only [store_fol, h]

theorem execStw_fol (r : Kept) (m : Nat) (o : OpB) (s : State) (h : Fol r s.keep) :
    Fols r (execStw m o s) := by
  unfold execStw
  (try dsimp only)
  rw [fols_next]
  (repeat' split) <;> simp only [store_fol, h]

theorem freeHeld_fol (r : Kept) (s : State) (m : Nat) (h : Fol r s.keep) :
    Fol r (freeHeld s m).keep := by
  unfold freeHeld
  extract_lets mine t
  have ht : Fol r t.keep := fol_foldl r _ _ _ (fun s x h => putRam_fol r _ _ _ _ _ h) h
  clear_value t
  rw [keep_rec]; exact ht

theorem execFenceRelease_fol (r : Kept) (m : Nat) (s : State) (h : Fol r s.keep) :
    Fols r (execFenceRelease m s) := by
  unfold execFenceRelease
  (try dsimp only)
  rw [fols_next]
  (repeat' split) <;> simp only [goOn_keep, freeHeld_fol, h]

theorem portWrite_fol (r : Kept) (s : State) (mid : Nat) (addr : Nat) (size : Nat) (v : Nat) (h : Fol r s.keep) :
    Fol r (portWrite s mid addr size v).keep := by
  unfold portWrite
  (try dsimp only)
  (repeat' split) <;> simp only [putRam_fol, keep_rec, h]

theorem masterWrite_fol (r : Kept) (s : State) (mid : Nat) (addr : Nat) (size : Nat) (v : Nat) (h : Fol r s.keep) :
    Fol r (masterWrite s mid addr size v).keep := by
  unfold masterWrite
  (try dsimp only)
  (repeat' split) <;> simp only [absentEvt_keep, offEvt_keep, portWrite_fol, h]

theorem exportWord_fol (r : Kept) (s : State) (k : Nat) (addr : Nat) (v : Nat) (h : Fol r s.keep) :
    Fol r (exportWord s k addr v).2.keep := by
  unfold exportWord
  (try dsimp only)
  (repeat' split) <;> simp only [lawFreeze_keep, wr_keep, fireK_keep, modLaw_keep, masterWrite_fol, wr_keep, h]

theorem lawExport_fol (r : Kept) (s : State) (k : Nat) (kind : Nat) (h : Fol r s.keep) :
    Fol r (lawExport s k kind).keep := by
  unfold lawExport
  extract_lets b cnt a0 first t
  have ht : Fol r t.keep := by simp only [t, modLaw_keep, h]
  split
  · exact h
  · split
    · simp only [inc_keep, wr_keep, h]
    · refine fol_foldl2 r _ _ _ (fun p x hp => ?_) ht
      split
      · exact exportWord_fol r _ _ _ _ hp
      · exact hp

theorem exportTrailer_fol (r : Kept) (s : State) (k : Nat) (h : Fol r s.keep) :
    Fol r (exportTrailer s k).keep := by
  unfold exportTrailer
  (try dsimp only)
  (repeat' split) <;> simp only [modLaw_keep, exportWord_fol, h]

theorem fastEnd_fol (r : Kept) (s : State) (k : Nat) (h : Fol r s.keep) :
    Fol r (fastEnd s k).keep := by
  unfold fastEnd
  (try dsimp only)
  (repeat' split) <;> simp (disch := (intros; (repeat' split) <;> simp only [evtK_keep, lawTaps_keep, lawLeave_keep, lawMirror_keep, lawPass_keep, lawHand_keep, reachOfs_keep, lawExport_fol, wr_keep, keep_rec, keep_ite, ite_self, implies_true, id_eq, h, keep_foldl, keep_foldl2, *])) only [lawExport_fol, h]

theorem slowEnd_fol (r : Kept) (s : State) (k : Nat) (h : Fol r s.keep) :
    Fol r (slowEnd s k).keep := by
  unfold slowEnd
  (try dsimp only)
  (repeat' split) <;> simp only [evtK_keep, lawLeave_keep, lawMirror_keep, lawPass_keep, lawRipe_keep, lawExport_fol, h]

theorem execFastPassEnd_fol (r : Kept) (k : Nat) (s : State) (h : Fol r s.keep) :
    Fols r (execFastPassEnd k s) := by
  unfold execFastPassEnd
  rw [fols_next]
  exact onK_fol r _ _ _ (fun x hx => fastEnd_fol r _ _ hx) h

theorem execExportTrailer_fol (r : Kept) (k : Nat) (s : State) (h : Fol r s.keep) :
    Fols r (execExportTrailer k s) := by
  unfold execExportTrailer
  rw [fols_next]
  exact onK_fol r _ _ _ (fun x hx => exportTrailer_fol r _ _ hx) h

theorem acqWrite_fol (r : Kept) (s : State) (k : Nat) (h : Fol r s.keep) :
    Fol r (acqWrite s k).keep := by
  unfold acqWrite
  (try dsimp only)
  (repeat' split) <;> simp only [acqDue_keep, setAcq_keep, acqGap_keep, wr_keep, acqOver_keep, acqEvt_keep, acqStore_fol, wr_keep, h]

theorem acqFlush_fol (r : Kept) (s : State) (k : Nat) (t : Nat) (z3 : Nat) (h : Fol r s.keep) :
    Fol r (acqFlush s k t z3).keep := by
  induction z3 generalizing s with
  | zero => exact h
  | succ n ih =>
    unfold acqFlush
    split
    · split
      · exact ih _ (acqWrite_fol r _ _ h)
      · exact h
    · exact h

theorem acqStop_fol (r : Kept) (s : State) (k : Nat) (h : Fol r s.keep) :
    Fol r (acqStop s k).keep := by
  unfold acqStop
  (try dsimp only)
  (repeat' split) <;> simp only [acqDue_keep, acqOver_keep, acqFlush_fol, h]

theorem execAcqStop_fol (r : Kept) (w : Wr) (k : Nat) (s : State) (h : Fol r s.keep) :
    Fols r (execAcqStop w k s) := by
  unfold execAcqStop
  rw [fols_next, retire_keep]
  exact onAcq_fol r _ _ _ (fun x hx => acqStop_fol r _ _ hx) h

theorem execAcqRecordWrite_fol (r : Kept) (k : Nat) (s : State) (h : Fol r s.keep) :
    Fols r (execAcqRecordWrite k s) := by
  unfold execAcqRecordWrite
  rw [fols_next]
  exact onAcq_fol r _ _ _ (fun x hx => acqWrite_fol r _ _ hx) h

theorem execAlmanacImageWritten_fol (r : Kept) (ok : Bool) (s : State) (h : Fol r s.keep) :
    Fols r (execAlmanacImageWritten ok s) := by
  unfold execAlmanacImageWritten
  (try dsimp only)
  rw [fols_next]
  (repeat' split) <;> simp only [almWritten_fol, h]

theorem signed_fol (r : Kept) (s : State) (ok1 : Bool) (ok2 : Bool) (err : Bool) (h : Fol r s.keep) :
    Fol r (signed s ok1 ok2 err).keep := by
  unfold signed
  (try dsimp only)
  (repeat' split) <;> simp only [modMtr_keep, fire_keep, wrB_keep, modSec_keep, wr_keep, slotWrite_fol, wr_keep, keep_rec, h]

theorem execSigningDone_fol (r : Kept) (ok1 : Bool) (ok2 : Bool) (mramErr : Bool) (s : State) (h : Fol r s.keep) :
    Fols r (execSigningDone ok1 ok2 mramErr s) := by
  unfold execSigningDone
  (try dsimp only)
  rw [fols_next]
  (repeat' split) <;> simp only [signed_fol, h]

theorem execMeterCheckpoint_fol (r : Kept) (s : State) (h : Fol r s.keep) :
    Fols r (execMeterCheckpoint s) := by
  unfold execMeterCheckpoint
  (try dsimp only)
  rw [fols_next]
  (repeat' split) <;> simp only [mtrSecond_fol, h]

theorem execMeterRestoreDone_fol (r : Kept) (s : State) (h : Fol r s.keep) :
    Fols r (execMeterRestoreDone s) := by
  unfold execMeterRestoreDone
  (try dsimp only)
  rw [fols_next]
  (repeat' split) <;> simp only [mtrRestored_fol, h]

theorem dWrite_fol (r : Kept) (s : State) (k : Nat) (c : Nat) (a : Nat) (n : Nat) (v : Nat) (h : Fol r s.keep) :
    Fol r (dWrite s k c a n v).keep := by
  unfold dWrite
  (try dsimp only)
  (repeat' split) <;> simp only [absentEvt_keep, dAbsent_keep, masterWrite_fol, h]

theorem dCopy_fol (r : Kept) (s : State) (k : Nat) (c : Nat) (src : Nat) (dst : Nat) (n : Nat) (h : Fol r s.keep) :
    Fol r (dCopy s k c src dst n).2.keep := by
  unfold dCopy
  (try dsimp only)
  (repeat' split) <;> simp only [dFreeze_keep, dRead_keep, dWrite_fol, h]

theorem dCopyAll_fol (r : Kept) (s : State) (k : Nat) (c : Nat) (src : Nat) (dst : Nat) (n : Nat) (z6 : Nat) (h : Fol r s.keep) :
    Fol r (dCopyAll s k c src dst n z6).2.keep := by
  induction z6 generalizing s src dst n with
  | zero => exact h
  | succ f ih =>
    unfold dCopyAll
    split
    · exact h
    · dsimp only
      split
      · exact ih _ _ _ _ (dCopy_fol r _ _ _ _ _ _ h)
      · exact dCopy_fol r _ _ _ _ _ _ h

theorem dLinear_fol (r : Kept) (s : State) (k : Nat) (c : Nat) (h : Fol r s.keep) :
    Fol r (dLinear s k c).keep := by
  unfold dLinear
  (try dsimp only)
  (repeat' split) <;> simp only [dAfter_keep, wr_keep, dCopy_fol, wr_keep, h]

theorem dElement_fol (r : Kept) (s : State) (k : Nat) (c : Nat) (o : Nat) (h : Fol r s.keep) :
    Fol r (dElement s k c o).keep := by
  unfold dElement
  (try dsimp only)
  (repeat' split) <;> simp only [dError_keep, dAfter_keep, wr_keep, dCopyAll_fol, wr_keep, h]

theorem dIndex_fol (r : Kept) (s : State) (k : Nat) (c : Nat) (h : Fol r s.keep) :
    Fol r (dIndex s k c).keep := by
  unfold dIndex
  (try dsimp only)
  (repeat' split) <;> simp only [dRead_keep, dElement_fol, h]

theorem dReturn_fol (r : Kept) (s : State) (k : Nat) (c : Nat) (ue : Bool) (h : Fol r s.keep) :
    Fol r (dReturn s k c ue).keep := by
  unfold dReturn
  (try dsimp only)
  (repeat' split) <;> simp only [dError_keep, dIndex_fol, dLinear_fol, h]

theorem dZeroRead_fol (r : Kept) (s : State) (k : Nat) (c : Nat) (addr : Nat) (h : Fol r s.keep) :
    Fol r (dZeroRead s k c addr).keep := by
  unfold dZeroRead
  (try dsimp only)
  (repeat' split) <;> simp only [modDma_keep, dTakeDesc_keep, dAfter_keep, wr_keep, dElement_fol, dWrite_fol, wr_keep, h]

theorem execDmaReadReturn_fol (r : Kept) (k : Nat) (ch : Nat) (ue : Bool) (s : State) (h : Fol r s.keep) :
    Fols r (execDmaReadReturn k ch ue s) := by
  unfold execDmaReadReturn
  rw [fols_next]
  exact onDch_fol r _ _ _ _ (fun x hx => dReturn_fol r _ _ _ _ hx) h

theorem ethWrite_fol (r : Kept) (s : State) (e : Nat) (a : Nat) (n : Nat) (v : Nat) (h : Fol r s.keep) :
    Fol r (ethWrite s e a n v).2.keep := by
  unfold ethWrite
  (try dsimp only)
  (repeat' split) <;> simp only [freeze_keep, masterWrite_fol, h]

theorem ethPut_fol (r : Kept) (s : State) (e : Nat) (a : Nat) (l : List Byte) (z4 : Nat) (h : Fol r s.keep) :
    Fol r (ethPut s e a l z4).2.keep := by
  induction z4 generalizing s a l with
  | zero => exact h
  | succ f ih =>
    unfold ethPut
    split
    · exact h
    · dsimp only
      split
      · exact ih _ _ _ (ethWrite_fol r _ _ _ _ _ h)
      · exact ethWrite_fol r _ _ _ _ _ h

theorem handBack_fol (r : Kept) (s : State) (e : Nat) (a : Nat) (w0 : Nat) (w1 : Nat) (w2 : Nat) (w3 : Nat) (h : Fol r s.keep) :
    Fol r (handBack s e a w0 w1 w2 w3).2.keep := by
  unfold handBack
  refine fol_foldl2 r _ _ _ (fun p x hp => ?_) h
  split
  · exact ethWrite_fol r _ _ _ _ _ hp
  · exact hp

theorem rxRing_fol (r : Kept) (s : State) (e : Nat) (l : List Byte) (t : Nat) (h : Fol r s.keep) :
    Fol r (rxRing s e l t).keep := by
  unfold rxRing
  (try dsimp only)
  (repeat' split) <;> simp only [ethRead_keep, inc_keep, wr_keep, portEvt_keep, handBack_fol, ethPut_fol, wr_keep, h]

theorem frameIn_fol (r : Kept) (s : State) (e : Nat) (fr : EthFrame) (h : Fol r s.keep) :
    Fol r (frameIn s e fr).keep := by
  unfold frameIn
  (try dsimp only)
  (repeat' split) <;> simp only [prpFilter_keep, inc_keep, stampOf_keep, rxRing_fol, h]

theorem sendFrame_fol (r : Kept) (s : State) (e : Nat) (i : Nat) (a : Nat) (w0 : Nat) (w1 : Nat) (l : List Byte) (macTs : Nat) (h : Fol r s.keep) :
    Fol r (sendFrame s e i a w0 w1 l macTs).keep := by
  unfold sendFrame
  (try dsimp only)
  (repeat' split) <;> simp only [txNext_keep, modEth_keep, inc_keep, stampOf_keep, handBack_fol, h]

theorem frameOut_fol (r : Kept) (s : State) (e : Nat) (macTs : Nat) (h : Fol r s.keep) :
    Fol r (frameOut s e macTs).keep := by
  unfold frameOut
  extract_lets b i a q s1
  have h1 : Fol r s1.keep := by unfold s1 q; rw [ethRead_keep]; exact h
  have h2 : Fol r q.2.keep := h1
  clear_value s1 q
  split
  · exact h
  · split
    · exact h2
    · extract_lets w0 w1 len t u v x
      have ht : Fol r t.2.keep := handBack_fol r _ _ _ _ _ _ _ h1
      clear_value t
      split
      · rw [modEth_keep]; exact h1
      · split
        · split <;> simp only [txNext_keep, ht]
        · have hu : Fol r u.2.keep := by unfold u; rw [ethGet_keep]; exact h1
          have hv : Fol r v.keep := hu
          have hx : Fol r x.2.keep := handBack_fol r _ _ _ _ _ _ _ hv
          clear_value x v u
          split
          · exact hu
          · split
            · split <;> simp only [txNext_keep, hx]
            · exact sendFrame_fol r _ _ _ _ _ _ _ _ hv

theorem execFrameReceived_fol (r : Kept) (e : Nat) (fr : EthFrame) (s : State) (h : Fol r s.keep) :
    Fols r (execFrameReceived e fr s) := by
  unfold execFrameReceived
  (try dsimp only)
  rw [fols_next]
  (repeat' split) <;> simp only [frameIn_fol, h]

theorem execFrameTransmitted_fol (r : Kept) (e : Nat) (macTs : Nat) (s : State) (h : Fol r s.keep) :
    Fols r (execFrameTransmitted e macTs s) := by
  unfold execFrameTransmitted
  (try dsimp only)
  rw [fols_next]
  (repeat' split) <;> simp only [frameOut_fol, h]

theorem chipReset_fol (r : Kept) (s : State) (rc : Nat) (src : Option (Nat × Bool)) (h : Fol r s.keep) :
    Fol r (chipReset s rc src).keep := by
  unfold chipReset
  (try dsimp only)
  (repeat' split) <;> simp only [wrB_keep, aliveStop_keep, wr_keep, resetImage_fol, wr_keep, h]

theorem resetEnd_fol (r : Kept) (s : State) (h : Fol r s.keep) :
    Fol r (resetEnd s).keep := by
  unfold resetEnd
  (try dsimp only)
  (repeat' split) <;> simp only [fireIf_keep, resetImage_fol, h]

theorem react_fol (r : Kept) (s : State) (n : Nat) (cls : SrcClass) (esc : Bool) (h : Fol r s.keep) :
    Fol r (react s n cls esc).keep := by
  unfold react
  (try dsimp only)
  (repeat' split) <;> simp only [reactNow_keep, nmiReact_keep, aliveStop_keep, safeState_keep, blockStart_keep, irqReact_keep, chipReset_fol, h]

theorem firing_fol (r : Kept) (s : State) (n : Nat) (tag : InjTag) (cls : SrcClass) (h : Fol r s.keep) :
    Fol r (firing s n tag cls).keep := by
  unfold firing
  extract_lets s1 s2 inj mism s3 s4 s5 limited rep esc s6 s7
  have h3 : Fol r s3.keep := by unfold s3 s2 s1; split <;> simp only [inc_keep, injChecked_keep, modFc_keep, wr_keep, h]
  have h5 : Fol r s5.keep := by unfold s5 s4; split <;> simp only [sprRequest_keep, observeFiring_keep, h3]
  have h7 : Fol r s7.keep := by unfold s7 s6; split <;> simp only [wr_keep, logPut_keep, setPendFs_keep, h5]
  clear_value s5 s7 limited rep esc
  (repeat' split) <;> simp only [logPut_keep, wr_keep, irqReact_keep, reactNow_keep, h5, h7, react_fol]

theorem faultFiring_fol (r : Kept) (s : State) (n : Nat) (tag : InjTag) (h : Fol r s.keep) :
    Fol r (faultFiring s n tag).keep := by
  unfold faultFiring
  (try dsimp only)
  (repeat' split) <;> simp only [firing_fol, h]

theorem execFaultFiring_fol (r : Kept) (src : Nat) (tag : InjTag) (s : State) (h : Fol r s.keep) :
    Fols r (execFaultFiring src tag s) := by
  unfold execFaultFiring
  (try dsimp only)
  rw [fols_next]
  (repeat' split) <;> simp only [faultFiring_fol, h]

theorem dieStop_fol (r : Kept) (s : State) (d : Nat) (h : Fol r s.keep) :
    Fol r (dieStop s d).keep := by
  unfold dieStop
  (try dsimp only)
  (repeat' split) <;> simp only [wr_keep, modPwr_keep, dieBit_keep, dieReset_fol, wr_keep, h]

theorem dieTurnOff_fol (r : Kept) (s : State) (d : Nat) (h : Fol r s.keep) :
    Fol r (dieTurnOff s d).keep := by
  unfold dieTurnOff
  (try dsimp only)
  (repeat' split) <;> simp only [syncLinks_keep, dieBit_keep, pwrRej_keep, dieStop_fol, h]

theorem dieIsReady_fol (r : Kept) (s : State) (d : Nat) (h : Fol r s.keep) :
    Fol r (dieIsReady s d).keep := by
  unfold dieIsReady
  (try dsimp only)
  (repeat' split) <;> simp only [syncLinks_keep, dieBit_keep, dieReset_fol, h]

theorem bistStart_fol (r : Kept) (s : State) (h : Fol r s.keep) :
    Fol r (bistStart s).keep := by
  unfold bistStart
  (try dsimp only)
  (repeat' split) <;> simp only [syncLinks_keep, fire_keep, wr_keep, dieBit_keep, dieStop_fol, wr_keep, h]

theorem powerFail_fol (r : Kept) (s : State) (h : Fol r s.keep) :
    Fol r (powerFail s).keep := by
  unfold powerFail
  (try dsimp only)
  (repeat' split) <;> simp only [fire_keep, wr_keep, almFlush_keep, xsAbort_keep, mtrPowerFail_fol, wr_keep, h]

theorem xsDone_fol (r : Kept) (s : State) (u : Nat) (err : Bool) (h : Fol r s.keep) :
    Fol r (xsDone s u err).keep := by
  unfold xsDone
  (try dsimp only)
  (repeat' split) <;> simp only [xsBufPut_keep, fire_keep, freeBytes_keep, wr_keep, modPwr_keep, xsDevPut_fol, wr_keep, h]

theorem bootRom_fol (r : Kept) (s : State) (h : Fol r s.keep) :
    Fol r (bootRom s).keep := by
  unfold bootRom
  (try dsimp only)
  (repeat' split) <;> simp only [freeBit_keep, syncLinks_keep, wrB_keep, wr_keep, modSec_keep, romStays_keep, imgBoot_fol, wr_keep, h]

theorem romRecover_fol (r : Kept) (s : State) (h : Fol r s.keep) :
    Fol r (romRecover s).keep := by
  unfold romRecover
  (try dsimp only)
  (repeat' split) <;> simp only [romStays_keep, imgBoot_fol, h]

theorem chipRst_fol (r : Kept) (s : State) (w : Wr) (key : Byte) (h : Fol r s.keep) :
    Fol r (chipRst s w key).keep := by
  unfold chipRst
  (try dsimp only)
  (repeat' split) <;> simp only [noPerm_keep, pwrRej_keep, chipReset_fol, h]

theorem execRecover_fol (r : Kept) (w : Wr) (s : State) (h : Fol r s.keep) :
    Fols r (execRecover w s) := by
  unfold execRecover
  (try dsimp only)
  rw [fols_next]
  (repeat' split) <;> simp only [retire_keep, romRecover_fol, h]

theorem execBootRomRun_fol (r : Kept) (s : State) (h : Fol r s.keep) :
    Fols r (execBootRomRun s) := by
  unfold execBootRomRun
  (try dsimp only)
  rw [fols_next]
  (repeat' split) <;> simp only [bootRom_fol, h]

theorem execPorstAssert_fol (r : Kept) (s : State) (h : Fol r s.keep) :
    Fols r (execPorstAssert s) := by
  unfold execPorstAssert
  (try dsimp only)
  rw [fols_next]
  (repeat' split) <;> simp only [chipReset_fol, h]

theorem execPorstRelease_fol (r : Kept) (pref : Bool) (s : State) (h : Fol r s.keep) :
    Fols r (execPorstRelease pref s) := by
  unfold execPorstRelease
  (try dsimp only)
  rw [fols_next]
  (repeat' split) <;> simp only [wrB_keep, resetEnd_fol, h]

theorem execChipRst_fol (r : Kept) (w : Wr) (key : Byte) (s : State) (h : Fol r s.keep) :
    Fols r (execChipRst w key s) := by
  unfold execChipRst
  (try dsimp only)
  rw [fols_next]
  (repeat' split) <;> simp only [retire_keep, chipRst_fol, h]

theorem execInternalResetEnd_fol (r : Kept) (s : State) (h : Fol r s.keep) :
    Fols r (execInternalResetEnd s) := by
  unfold execInternalResetEnd
  (try dsimp only)
  rw [fols_next]
  (repeat' split) <;> simp only [resetEnd_fol, h]

theorem execAoPowerOn_fol (r : Kept) (s : State) (h : Fol r s.keep) :
    Fols r (execAoPowerOn s) := by
  unfold execAoPowerOn
  (try dsimp only)
  rw [fols_next]
  (repeat' split) <;> simp only [aoClear_fol, h]

theorem execAoPowerLoss_fol (r : Kept) (s : State) (h : Fol r s.keep) :
    Fols r (execAoPowerLoss s) := by
  unfold execAoPowerLoss
  (try dsimp only)
  rw [fols_next]
  (repeat' split) <;> simp only [aoClear_fol, h]

theorem execPwrfailRecognised_fol (r : Kept) (s : State) (h : Fol r s.keep) :
    Fols r (execPwrfailRecognised s) := by
  unfold execPwrfailRecognised
  (try dsimp only)
  rw [fols_next]
  (repeat' split) <;> simp only [powerFail_fol, h]

theorem execDieOff_fol (r : Kept) (w : Wr) (d : Nat) (s : State) (h : Fol r s.keep) :
    Fols r (execDieOff w d s) := by
  unfold execDieOff
  (try dsimp only)
  rw [fols_next]
  (repeat' split) <;> simp only [noPerm_keep, retire_keep, dieTurnOff_fol, h]

theorem execDieReady_fol (r : Kept) (d : Nat) (s : State) (h : Fol r s.keep) :
    Fols r (execDieReady d s) := by
  unfold execDieReady
  (try dsimp only)
  rw [fols_next]
  (repeat' split) <;> simp only [dieIsReady_fol, h]

theorem execDieBistStart_fol (r : Kept) (w : Wr) (s : State) (h : Fol r s.keep) :
    Fols r (execDieBistStart w s) := by
  unfold execDieBistStart
  (try dsimp only)
  rw [fols_next]
  (repeat' split) <;> simp only [retire_keep, bistStart_fol, h]

theorem execXsTransferDone_fol (r : Kept) (u : Nat) (err : Bool) (s : State) (h : Fol r s.keep) :
    Fols r (execXsTransferDone u err s) := by
  unfold execXsTransferDone
  (try dsimp only)
  rw [fols_next]
  (repeat' split) <;> simp only [xsDone_fol, h]

theorem slowDone_fol (r : Kept) (s : State) (k : Nat) (h : Fol r s.keep) :
    Fol r (slowDone s k).keep := by
  unfold slowDone
  (try dsimp only)
  (repeat' split) <;> simp only [sendEpoch_keep, slowEnd_fol, h]

theorem execSlowPassEnd_fol (r : Kept) (k : Nat) (s : State) (h : Fol r s.keep) :
    Fols r (execSlowPassEnd k s) := by
  unfold execSlowPassEnd
  rw [fols_next]
  exact onK_fol r _ _ _ (fun x hx => slowDone_fol r _ _ hx) h

theorem timeout_fol (r : Kept) (s : State) (m : Nat) (addr : Nat) (wr : Bool) (h : Fol r s.keep) :
    Fol r (timeout s m addr wr).keep := by
  unfold timeout
  (try dsimp only)
  (repeat' split) <;> simp only [finishLoad_keep, dTimeout_keep, dropRead_keep, tmoRecord_keep, dZeroRead_fol, keep_rec, h]

theorem execFabricTimeout_fol (r : Kept) (m : Nat) (wr : Bool) (addr : Nat) (s : State) (h : Fol r s.keep) :
    Fols r (execFabricTimeout m wr addr s) := by
  unfold execFabricTimeout
  (try dsimp only)
  rw [fols_next]
  (repeat' split) <;> simp only [timeout_fol, h]

theorem busAcq_fol (r : Kept) (s : State) (k : Nat) (off : Nat) (v : Nat) (h : Fol r s.keep) :
    Fol r (busAcq s k off v).keep := by
  unfold busAcq
  (try dsimp only)
  (repeat' split) <;> simp only [evtK_keep, acqArm_keep, fire_keep, wr_keep, acqAssert_keep, putWord_keep, acqStop_fol, wr_keep, implies_true, h]

theorem busSec_fol (r : Kept) (s : State) (w : Wr) (off : Nat) (v : Nat) (h : Fol r s.keep) :
    Fol r (busSec s w off v).keep := by
  unfold busSec
  (try dsimp only)
  (repeat' split) <;> simp only [revoke_keep, svnRaise_keep, attest_keep, putWord_free_keep, romRecover_fol, h]

theorem busDieCtl_fol (r : Kept) (s : State) (w : Wr) (v : Nat) (h : Fol r s.keep) :
    Fol r (busDieCtl s w v).keep := by
  unfold busDieCtl
  split
  · rw [noPerm_keep]; exact h
  · refine fol_foldl r _ _ _ (fun s x h => ?_) h
    split
    · rw [dieTurnOn_keep]; exact h
    · exact dieTurnOff_fol r _ _ h

theorem busPwr_fol (r : Kept) (s : State) (w : Wr) (off : Nat) (v : Nat) (h : Fol r s.keep) :
    Fol r (busPwr s w off v).keep := by
  unfold busPwr
  (try dsimp only)
  (repeat' split) <;> simp only [xsGo_keep, cycNumLo_keep, cycCtl_keep, cycNumHi_keep, pwrRej_keep, putWord_keep, putWord_free_keep, busDieCtl_fol, chipRst_fol, implies_true, h]

theorem busBist_fol (r : Kept) (s : State) (off : Nat) (v : Nat) (h : Fol r s.keep) :
    Fol r (busBist s off v).keep := by
  unfold busBist
  (try dsimp only)
  (repeat' split) <;> simp only [pwrRej_keep, putWord_keep, bistStart_fol, implies_true, h]

theorem busK_fol (r : Kept) (s : State) (w : Wr) (k : Nat) (j : Nat) (off : Nat) (v : Nat) (h : Fol r s.keep) :
    Fol r (busK s w k j off v).keep := by
  unfold busK
  (try dsimp only)
  (repeat' split) <;> simp only [busDma_keep, busSch_keep, busMbx_keep, busEth_keep, busLaw_keep, busAcq_fol, h]

theorem busWrite_fol (r : Kept) (s : State) (w : Wr) (a : Nat) (v : Nat) (h : Fol r s.keep) :
    Fol r (busWrite s w a v).keep := by
  unfold busWrite
  (repeat' with_reducible apply fol_ite) <;> with_reducible first
    | exact h
    | exact busSec_fol r _ _ _ _ h
    | exact busPwr_fol r _ _ _ _ h
    | exact busBist_fol r _ _ _ h
    | exact busK_fol r _ _ _ _ _ _ h
    | simp only [busCaps_keep, busAlm_keep, busFz_keep, busLane_keep, busAdie_keep, busPair_keep, busMtr_keep, busCore_keep,
      busSaf_keep, busFc_keep, putWord_free_keep, h]

theorem land_fol (r : Kept) (s : State) (w : Wr) (a : Nat) (v : Word) (h : Fol r s.keep) :
    Fol r (land s w a v).keep := by
  unfold land
  (try dsimp only)
  (repeat' split) <;> simp only [retire_keep, stage_keep, execCaptureMemWrite_keep, absentEvt_keep, modLaw_keep, offEvt_keep, quiet_keep, busWrite_fol, implies_true, h]

theorem hostRequest_fol (r : Kept) (s : State) (wr : Bool) (a : Nat) (v : Word) (h : Fol r s.keep) :
    Fol r (hostRequest s wr a v).keep := by
  unfold hostRequest
  (try dsimp only)
  (repeat' split) <;> simp only [freeze_keep, masterRead_keep, absentEvt_keep, offEvt_keep, hostTold_keep, portWrite_fol, h]

theorem execRegisterWrite_fol (r : Kept) (w : Wr) (addr : Nat) (v : Word) (s : State) (h : Fol r s.keep) :
    Fols r (execRegisterWrite w addr v s) := by
  unfold execRegisterWrite
  (try dsimp only)
  rw [fols_next]
  (repeat' split) <;> simp only [land_fol, h]

theorem execPcieHostRequest_fol (r : Kept) (wr : Bool) (addr : Nat) (v : Word) (s : State) (h : Fol r s.keep) :
    Fols r (execPcieHostRequest wr addr v s) := by
  unfold execPcieHostRequest
  (try dsimp only)
  rw [fols_next]
  (repeat' split) <;> simp only [hostRequest_fol, h]

end State

end Sys2Proof.Machine
end

