-- ==== Sys2Proof/Laws/Cores.lean ====
section
/-!
SUPPORT. What the shared operations of the cores do, said once for the statements about the instructions: how an
instruction completes, what a load, a store, a task and a fence leave, and the traps.
-/
namespace Sys2Proof.Laws
open Sys2Proof Sys2Proof.Machine Sys2Proof.Machine.State
theorem aluRow_of (mk : Nat → OpA → Bool → Instr) (f : Word → Word → Word) (cv : Word → Word → Option Bool × Option Bool)
    (sat : Word → Word → Bool) (F : Word → Word → AluRes) (he : ∀ m o sf s, exec (mk m o sf) s = .next (s.alu3 m o sf true F))
    (hF : ∀ a b, F a b = ⟨f a b, (cv a b).1, (cv a b).2, sat a b⟩) : aluRow mk f cv sat := by
  intro m o sf s h
  refine ⟨_, he m o sf s, ?_⟩
  have k := instr_ran s m [o.a.toNat, o.b.toNat] o.d.toNat true (fun c =>
    let r := F (c.rg o.a.toNat) (c.rg o.b.toNat)
    { c.wg o.d.toNat r.val with flags := (if sf then c.flags.ofRes r else c.flags).addSat r.sat }) h rfl
  unfold alu3
  dsimp only at k ⊢
  simp only [hF] at k ⊢
  cases sf <;> exact k
theorem ovf_eq (x : Int) : overflow x = decide (x < -2 ^ 31 ∨ 2 ^ 31 ≤ x) := by unfold overflow; rw [Bool.decide_or]
theorem clamp_eq (x : Int) : sat32 x = BitVec.ofInt 32 (if x < -2 ^ 31 then -2 ^ 31 else if 2 ^ 31 - 1 < x then 2 ^ 31 - 1 else x) := rfl
theorem immRow_of (mk : Nat → OpB → Instr) (legal : OpB → Prop) (f : Word → BitVec 16 → Word) (L : OpB → Bool) (F : OpB → Word → Word)
    (he : ∀ m o s, exec (mk m o) s = .next (s.immOp m o (L o) (F o))) (hL : ∀ o, legal o → L o = true) (hF : ∀ o a, legal o → F o a = f a o.imm) :
    immRow mk legal f := by
  intro m o s h hl
  refine ⟨_, he m o s, ?_⟩
  have k := instr_ran s m [o.a.toNat] o.d.toNat (L o) (fun c => c.wg o.d.toNat (F o (c.rg o.a.toNat))) h (hL o hl)
  rw [← hF _ _ hl]; exact k
theorem regRow_of {α : Type} (mk : Nat → α → Instr) (legal : α → Prop) (regs : α → List Nat) (f : α → Core → Core) (L : α → Bool) (D : α → Nat) (S : α → List Nat)
    (he : ∀ m o s, exec (mk m o) s = .next (s.instr m (S o) (D o) (L o) (f o))) (hL : ∀ o, legal o → L o = true)
    (hr : ∀ o (s : State) m, s.ready m (regs o) = true → s.ready m (D o :: S o) = true) : regRow mk legal regs f := by
  intro m o s h hl
  exact ⟨_, he m o s, instr_ran s m (S o) (D o) (L o) (f o) (hr o s m h) (hL o hl)⟩
theorem ready0 (s : State) (m : Nat) (l : List Nat) (h : s.ready m l = true) : s.ready m (0 :: l) = true := by
  unfold ready at *; simpa [Core.awaits] using h
theorem ovf72 (x : Int) : over72 x = decide (x < -2 ^ 71 ∨ 2 ^ 71 ≤ x) := by unfold over72; rw [Bool.decide_or]
theorem accRow {α : Type} (mk : Nat → α → Instr) (legal : α → Prop) (regs : α → List Nat) (A : α → Nat) (X : α → Core → Int) (L : α → Bool)
    (he : ∀ m o s, exec (mk m o) s = .next (s.accOp m (regs o) (A o) (L o) (X o))) (hL : ∀ o, legal o → L o = true) :
    regRow mk legal regs (fun o c => accSet c (A o) (X o c)) := by
  intro m o s h hl
  refine ⟨_, he m o s, ?_⟩
  have k := instr_ran s m (regs o) 0 (L o) (fun c => { c.wa (A o) (sat72 (X o c)) with flags := c.flags.addSat (over72 (X o c)) }) (ready0 _ _ _ h) (hL o hl)
  unfold accOp
  simp only [ovf72] at k ⊢
  exact k
theorem extRow (mk : Nat → OpE → Instr) (X : OpE → Core → Int)
    (he : ∀ m o s, exec (mk m o) s = .next (s.extract m o.a.toNat (o.b == 0) (X o))) :
    regRow mk (fun o => o.b = 0) (fun o => [o.a.toNat]) (fun o c => { c.wg o.a.toNat (sat32 (X o c)) with
    flags := { c.flags with sat := c.flags.sat || decide (X o c < -2 ^ 31 ∨ 2 ^ 31 ≤ X o c) } }) := by
  intro m o s h hl
  refine ⟨_, he m o s, ?_⟩
  have k := instr_ran s m [] o.a.toNat (o.b == 0) (fun c => { c.wg o.a.toNat (sat32 (X o c)) with flags := c.flags.addSat (overflow (X o c)) }) h (by simp [hl])
  unfold State.extract
  simp only [ovf_eq] at k ⊢
  exact k
theorem condEq (f : Flags) (c : BitVec 4) : Machine.condHolds f c =
    (if c.toNat = 0 then f.z else if c.toNat = 1 then !f.z else if c.toNat = 2 then f.c else if c.toNat = 3 then !f.c else if c.toNat = 4 then f.n
    else if c.toNat = 5 then !f.n else if c.toNat = 6 then f.v else if c.toNat = 7 then !f.v else if c.toNat = 8 then f.c && !f.z
    else if c.toNat = 9 then !f.c || f.z else if c.toNat = 10 then f.n == f.v else if c.toNat = 11 then f.n != f.v
    else if c.toNat = 12 then !f.z && f.n == f.v else if c.toNat = 13 then f.z || f.n != f.v else if c.toNat = 14 then true else f.sat) := by
  unfold Machine.condHolds
  revert c; intro c
  have : c.toNat < 16 := c.isLt
  generalize c.toNat = n at *
  interval_cases n <;> rfl
theorem ill (s : State) (m : Nat) : s.trapped m (s.core m) 1 (s.core m).pc (s.core m).pc (s.illegal m) := trap_trapped _ _ _ _ _
theorem prvt (s : State) (m : Nat) : s.trapped m (s.core m) 2 (s.core m).pc (s.core m).pc (s.privTrap m) := trap_trapped _ _ _ _ _
theorem instr_ill (s : State) (m : Nat) (srcs d legal f) (h : s.canRun m = true) (hl : legal = false) :
    s.instr m srcs d legal f = s.illegal m := by
  unfold instr; simp only [h, hl, Bool.not_true, Bool.not_false, Bool.false_eq_true, if_false, if_true]
theorem srd_ran (s : State) (m : Nat) (r : BitVec 5) (sr : BitVec 10) (h : s.ready m [r.toNat] = true) (hp : (s.core m).prv = true)
    (h1 : sr.toNat < 18) (h2 : sr.toNat ≠ 14) : gives (exec (.srd m ⟨r, 0, sr⟩) s) (s.ran m ((s.core m).wg r.toNat (s.srRead m sr.toNat))) := by
  refine ⟨_, rfl, ?_⟩
  have hq : decide (18 ≤ sr.toNat) = false := by simp; omega
  dsimp only
  simp only [ready_run h, hp, hq, h2, ready_awaits h (List.mem_singleton.2 rfl), Bool.not_true, Bool.false_and, Bool.false_eq_true, if_false, beq_self_eq_true, Bool.or_self]
  exact goOn_ran _ _ _
theorem swr_ran (s : State) (m : Nat) (r : BitVec 5) (sr : BitVec 10) (h : s.ready m [r.toNat] = true) (hp : (s.core m).prv = true)
    (h1 : sr.toNat < 18) (h2 : sr.toNat ≠ 0) : gives (exec (.swr m ⟨r, 0, sr⟩) s) (s.ran m (srWrite (s.core m) sr.toNat ((s.core m).rg r.toNat))) := by
  refine ⟨_, rfl, ?_⟩
  have hq : decide (18 ≤ sr.toNat) = false := by simp; omega
  dsimp only
  simp only [ready_run h, hp, hq, h2, ready_awaits h (List.mem_singleton.2 rfl), Bool.not_true, Bool.false_and, Bool.false_eq_true, if_false, beq_self_eq_true, Bool.or_self]
  exact goOn_ran _ _ _
theorem xipNote_of (s : State) (l : Loc) (h : ∀ o, l ≠ .xip o) : s.xipNote l = s := by
  unfold xipNote; split
  · exact absurd rfl (h _)
  · rfl
theorem memKey_loc {l : Loc} {a k : Nat} (h : memKey l a = some k) : l = .sram ∨ (∃ n o, l = .tcm n o) ∨ ∃ n, l = .cap n := by
  unfold memKey at h; cases l <;> simp at h ⊢
theorem load_ran (s : State) (m k addr size dst src : Nat) (sext : Bool) (upd : Core → Core) 
    (hr : s.canRun m = true) (w1 : (s.core m).awaits src = false) (w2 : (s.core m).awaits dst = false) (w3 : size = 8 → (s.core m).awaits (dst + 1) = false)
    (ha : addr % size = 0) (hn : addr < 0x20000000 ∨ 0x60000000 ≤ addr) (hk : memKey (s.locate (some m) addr) addr = some k)
    (hv : s.violation (s.accMid m) (s.core m).prv (s.locate (some m) addr) addr size .rd = none)
    (ho : s.isOrdered (s.accMid m) addr size = false) (hl : (s.core m).loads.length < 8) :
    s.ran m (upd { s.core m with loads := (s.core m).loads ++ [⟨.mem, addr, size, sext, dst, (s.core m).prv,
         some (BitVec.ofNat 64 (Mem.readN (s.ramFor (s.accMid m)) k size)), false, (s.core m).pc.toNat⟩] })
      (s.load m true src addr size sext dst upd) := by
  unfold State.load
  dsimp only
  have w : ((s.core m).awaits src || (s.core m).awaits dst || (size == 8 && (s.core m).awaits (dst + 1))) = false := by
    rw [w1, w2]
    by_cases h8 : size = 8
    · simp [w3 h8]
    · simp [h8]
  rw [if_neg (by simp [hr]), if_neg (by simp), if_neg (by rw [w]; decide), if_neg (by omega), hv]
  have hd : s.loadNow (s.accMid m) addr size (s.locate (some m) addr) = some (BitVec.ofNat 64 (Mem.readN (s.ramFor (s.accMid m)) k size)) := by
    unfold loadNow
    rcases memKey_loc hk with h | ⟨n, o, h⟩ | ⟨n, h⟩ <;> rw [h] at hk ⊢ <;> dsimp only <;> rw [hk]
  have hx : s.xipNote (s.locate (some m) addr) = s := by
    apply xipNote_of
    intro o h
    rcases memKey_loc hk with h' | ⟨n, o', h'⟩ | ⟨n, h'⟩ <;> rw [h] at h' <;> cases h'
  have tail : (if (s.isOrdered (s.accMid m) addr size && s.orderedOut m (s.accMid m)) = true then s.setCore m ((s.core m).wait .ordered)
        else if 8 ≤ (s.core m).loads.length then s.setCore m ((s.core m).wait .loads)
        else (s.xipNote (s.locate (some m) addr)).goOn m (upd { s.core m with loads := (s.core m).loads ++ [⟨.mem, addr, size, sext, dst, (s.core m).prv, s.loadNow (s.accMid m) addr size (s.locate (some m) addr), s.isOrdered (s.accMid m) addr size, (s.core m).pc.toNat⟩] }).done)
      = s.goOn m (upd { s.core m with loads := (s.core m).loads ++ [⟨.mem, addr, size, sext, dst, (s.core m).prv,
         some (BitVec.ofNat 64 (Mem.readN (s.ramFor (s.accMid m)) k size)), false, (s.core m).pc.toNat⟩] }).done := by
    rw [if_neg (by simp [ho]), if_neg (by omega), hx, hd, ho]
  dsimp only
  rcases memKey_loc hk with h | ⟨n, o, h⟩ | ⟨n, h⟩ <;> rw [h] at tail ⊢ <;> dsimp only <;> rw [tail] <;> exact goOn_ran _ _ _
theorem ext4 (l : Load) (v : BitVec 64) (h : l.size = 4) : (extended l v).setWidth 32 = v.setWidth 32 := by
  apply BitVec.eq_of_toNat_eq
  have := v.isLt
  unfold extended
  dsimp only
  rw [h]
  split <;> simp <;> omega
theorem extS (l : Load) (v : BitVec 64) (k : Nat) (hk : k < 32) (hk0 : 0 < k) (h : 8 * l.size = k) : (extended l v).setWidth 32 =
   if l.sext then (v.setWidth k).signExtend 32 else (v.setWidth k).setWidth 32 := by
  apply BitVec.eq_of_toNat_eq
  have := v.isLt
  unfold extended
  dsimp only
  rw [h]
  have hp : 2 ^ k < 2 ^ 32 := Nat.pow_lt_pow_right (by decide) hk
  have hm : v.toNat % 2 ^ k < 2 ^ k := Nat.mod_lt _ (Nat.pow_pos (by decide))
  have hb : (v.setWidth k).msb = (v.toNat % 2 ^ k).testBit (k - 1) := by
    rw [BitVec.msb_eq_getLsbD_last, BitVec.getLsbD, BitVec.toNat_setWidth]
  cases hs : l.sext
  · simp
  · simp only [Bool.true_and, if_true]
    rw [BitVec.toNat_signExtend, hb]
    split
    · simp only [BitVec.toNat_setWidth, BitVec.toNat_ofNat]; omega
    · simp only [BitVec.toNat_setWidth, BitVec.toNat_ofNat]; omega
theorem ext8 (l : Load) (v : BitVec 64) (h : l.size = 8) : extended l v = v := by
  apply BitVec.eq_of_toNat_eq
  have := v.isLt
  unfold extended
  dsimp only
  rw [h]
  split <;> simp <;> omega
theorem chanReach_some (s : State) (m i : Nat) (l : Load) (v : BitVec 64) (h : (s.core m).loads[i]? = some l) (hv : l.val = some v) :
    s.chanReach m i = s := by
  unfold chanReach; rw [h]; dsimp only; rw [hv]; rfl
theorem storeKeys_foldl_out (l : List Nat) (m : List Host.Cell) (v n a : Nat) (h : ∀ k ∈ l, a < k ∨ k + n ≤ a) :
    Mem.read (l.foldl (fun r k => Mem.writeN r k v n) m) a = Mem.read m a := by
  induction l generalizing m with
  | nil => rfl
  | cons x r ih =>
    rw [List.foldl_cons, ih _ (fun k hk => h k (List.mem_cons_of_mem _ hk))]
    exact Mem.read_writeN_out n (h x (List.mem_cons_self))
theorem store_common (s : State) (m addr size v : Nat) (srcs : List Nat) (upd : Core → Core) (hr : s.ready m srcs = true) (ha : addr % size = 0)
    (hn : (addr < 0x20000000 ∨ 0x60000000 ≤ addr) ∨ size = 4)
    (hv : s.violation (s.accMid m) (s.core m).prv (s.locate (some m) addr) addr size .wr = none)
    (ho : s.isOrdered (s.accMid m) addr size = false) (hl : s.locate (some m) addr ≠ .absent) (hl2 : s.locate (some m) addr ≠ .off) :
    s.store m true srcs addr size v upd =
      (if s.locate (some m) addr = .reg ∨ (s.locate (some m) addr).isCap ∨ s.heldBySys m (s.locate (some m) addr) then
          if 8 ≤ (s.fab.flight.filter (fun f => f.mid == s.accMid m)).length then s.setCore m ((s.core m).wait .stores)
          else if s.accMid m < 32 && (match cycTarget addr with | some t => decide (32 ≤ s.stagedCount (s.accMid m) t) | none => false) then
            s.setCore m ((s.core m).wait .staging)
          else
            ({ s with fab := { s.fab with flight := s.fab.flight ++ [(⟨s.accMid m, (s.core m).prv, addr, BitVec.ofNat 32 v, size, false⟩ : Flight)] } }).goOn m (countCyc (upd (s.core m)) (s.accMid m) addr).done
        else (s.putRam (s.locate (some m) addr) addr v size).goOn m (upd (s.core m)).done) := by
  unfold State.store
  dsimp only
  have h4 : srcs.any (s.core m).awaits = false := by
    rw [List.any_eq_false]; intro x hx; rw [ready_awaits hr hx]; decide
  rw [if_neg (by simp [ready_run hr]), if_neg (by simp), if_neg (by rw [h4]; decide), if_neg (by omega), hv, ho]
  dsimp only
  split
  · contradiction
  · contradiction
  · rw [if_neg (by simp)] <;> rfl
theorem putRam_core (s : State) (l : Loc) (a v n k : Nat) : (s.putRam l a v n).core k = s.core k := rfl
theorem store_ram (s : State) (m addr size v : Nat) (srcs : List Nat) (upd : Core → Core) (hw : s.memOk = true) (hr : s.ready m srcs = true) (ha : addr % size = 0)
    (hn : addr < 0x20000000 ∨ 0x60000000 ≤ addr)
    (hv : s.violation (s.accMid m) (s.core m).prv (s.locate (some m) addr) addr size .wr = none)
    (ho : s.isOrdered (s.accMid m) addr size = false) (hl : s.locate (some m) addr = .sram ∨ ∃ n off, s.locate (some m) addr = .tcm n off)
    (hs : s.heldBySys m (s.locate (some m) addr) = false) :
    (fun t : State => (t.core m).data = (upd (s.core m)).data ∧ (∀ n, n ≠ m → t.core n = s.core n) ∧ t.nor = s.nor ∧ t.mram = s.mram ∧
           (∀ a, (∀ k ∈ s.storeKeys (s.locate (some m) addr) addr, a < k ∨ k + size ≤ a) → Mem.read t.mem a = Mem.read s.mem a) ∧
           (∀ k, s.storeKeys (s.locate (some m) addr) addr = [k] → ∀ j, j < size → Mem.read t.mem (k + j) = BitVec.ofNat 8 (v / 256 ^ j)))
    (s.store m true srcs addr size v upd) := by
  have hna : s.locate (some m) addr ≠ .absent := by rcases hl with h | ⟨n, o, h⟩ <;> rw [h] <;> simp
  have hno : s.locate (some m) addr ≠ .off := by rcases hl with h | ⟨n, o, h⟩ <;> rw [h] <;> simp
  rw [store_common s m addr size v srcs upd hr ha (Or.inl hn) hv ho hna hno]
  have hc : ¬ (s.locate (some m) addr = .reg ∨ (s.locate (some m) addr).isCap = true ∨ s.heldBySys m (s.locate (some m) addr) = true) := by
    rw [hs]
    rcases hl with h | ⟨n, o, h⟩ <;> rw [h] <;> simp [Loc.isCap]
  rw [if_neg hc]
  have g := goOn_ran (s.putRam (s.locate (some m) addr) addr v size) m (upd (s.core m))
  refine ⟨g.1, g.2.1, g.2.2.2.1, g.2.2.2.2.1, fun a h => ?_, fun k hk j hj => ?_⟩
  · rw [g.2.2.1]; exact storeKeys_foldl_out _ _ _ _ _ h
  · rw [g.2.2.1]
    unfold putRam
    rw [hk]
    simp only [memOk, Bool.and_eq_true] at hw
    exact Mem.read_writeN_in size hw.1.1 hj
theorem store_reg (s : State) (m addr size v : Nat) (srcs : List Nat) (upd : Core → Core) (hr : s.ready m srcs = true) (ha : addr % size = 0)
    (hv : s.violation (s.accMid m) (s.core m).prv (s.locate (some m) addr) addr size .wr = none)
    (ho : s.isOrdered (s.accMid m) addr size = false) (hl : s.locate (some m) addr = .reg) (h4 : size = 4) (hc : cycTarget addr = none)
    (hf : (s.fab.flight.filter (fun f => f.mid == s.accMid m)).length < 8) (hp : ((upd (s.core m)).pc + 4).toNat % 4096 ≠ 0) :
    (fun t : State => t.fab.flight = s.fab.flight ++ [⟨s.accMid m, (s.core m).prv, addr, BitVec.ofNat 32 v, 4, false⟩] ∧
           t.regs = s.regs ∧ t.mem = s.mem ∧ (t.core m).data = (upd (s.core m)).data)
    (s.store m true srcs addr size v upd) := by
  rw [store_common s m addr size v srcs upd hr ha (Or.inr h4) hv ho (by rw [hl]; simp) (by rw [hl]; simp)]
  rw [if_pos (Or.inl hl), if_neg (by omega), hc, if_neg (by simp)]
  have e : countCyc (upd (s.core m)) (s.accMid m) addr = upd (s.core m) := by unfold countCyc; rw [hc]; simp
  rw [e, h4]
  unfold goOn
  dsimp only
  have hq : (upd (s.core m)).done.pc = (upd (s.core m)).pc + 4 := rfl
  rw [hq, if_neg hp]
  exact ⟨rfl, rfl, rfl, by rw [core_setCore]; rfl⟩
theorem pointC_pc (c : Core) (o : OpC) : (pointC c o).pc = c.pc := by
  unfold pointC; dsimp only; split <;> rfl
theorem mem2 {a b x : Nat} (h : x ∈ [a, b]) : x = a ∨ x = b := by simpa using h
theorem ready_sub {s : State} {m : Nat} {l k : List Nat} (h : s.ready m l = true) (hs : ∀ x ∈ k, x ∈ l) : s.ready m k = true := by
  unfold ready at *
  simp only [Bool.and_eq_true, List.all_eq_true] at *
  exact ⟨h.1, fun x hx => h.2 x (hs x hx)⟩
theorem stSrcs (s : State) (m : Nat) (o : OpC) (h : s.ready m [o.d.toNat, o.d.toNat + 1] = true) :
    s.ready m (if o.sz = 3 then [o.d.toNat, o.d.toNat + 1] else [o.d.toNat]) = true := by
  refine ready_sub h ?_
  intro x hx
  split at hx <;> simp at hx ⊢ <;> omega
theorem alignT (s : State) (m a : Nat) : s.trapped m (s.core m) 0x003 (s.core m).pc (BitVec.ofNat 32 a) (s.alignTrap m a false) := trap_trapped _ _ _ _ _
theorem alignW (s : State) (m a : Nat) : s.trapped m (s.core m) 0x403 (s.core m).pc (BitVec.ofNat 32 a) (s.alignTrap m a true) := trap_trapped _ _ _ _ _
theorem fire_fab (s : State) (n : Nat) : (s.fire n).fab = s.fab := by unfold fire; split <;> rfl
theorem syncFz_fab (s : State) : s.syncFz.fab = s.fab := by unfold syncFz; dsimp only; split <;> simp
theorem syncCore_fab (s : State) (m : Nat) : (s.syncCore m).fab = s.fab := by unfold syncCore; dsimp only; split <;> rfl
theorem fab_ite {p : Prop} [Decidable p] (a b : State) : (if p then a else b).fab = if p then a.fab else b.fab := by split <;> rfl
theorem freeze_fab (s : State) (r : FzRec) : (s.freeze r).fab = s.fab := by
  unfold freeze
  simp only [fab_ite, fire_fab, syncFz_fab, syncCore_fab, inc_eq, wr_fab, fzBit, ite_self]
theorem fetchExl_fab (s : State) (m : Nat) : (s.fetchExl m).fab = s.fab := by
  unfold fetchExl absentEvt offEvt
  dsimp only
  (repeat' split) <;> simp [freeze_fab, fire_fab]
theorem fetchAt_fab (s : State) (m : Nat) : (s.fetchAt m).fab = s.fab := by
  unfold fetchAt enterTrap absentEvt offEvt
  dsimp only
  (repeat' split) <;> simp [freeze_fab, fetchExl_fab, fire_fab]
theorem goOn_fab (s : State) (m : Nat) (c : Core) : (s.goOn m c).fab = s.fab := by
  unfold goOn
  dsimp only
  split <;> simp [fetchAt_fab]
theorem fence_ran (s : State) (m : Nat) (o : OpA) (f : Stall) (hd : o.d = 0) (ha : o.a = 0) (hb : o.b = 0) (hr : s.ready m [] = true)
    (hf : s.fenceMet m f = true) : s.ran m (s.core m) (s.fence m o f false) := by
  unfold fence
  rw [if_neg (by simp [ready_run hr]), if_neg (by simp [hd, ha, hb]), if_pos (by simp [hf])]
  exact goOn_ran _ _ _
theorem fence_wait (s : State) (m : Nat) (o : OpA) (f : Stall) (al : Bool) (hd : o.d = 0) (ha : o.a = 0) (hb : o.b = 0) (hr : s.ready m [] = true)
    (hf : s.fenceMet m f = false ∨ al = true) : s.fence m o f al = s.setCore m { s.core m with stall := some f } := by
  unfold fence
  rw [if_neg (by simp [ready_run hr]), if_neg (by simp [hd, ha, hb]), if_neg (by rcases hf with h | h <;> simp [h])]
  rfl
theorem syncCore_core (s : State) (m n : Nat) : (s.syncCore m).core n = s.core n := core_of_cores (syncCore_cores s m) n
theorem unblock_core (s : State) (m : Nat) : (s.unblock m).core m = { s.core m with blockedIn := none, stall := none } ∧
    (∀ n, n ≠ m → (s.unblock m).core n = s.core n) ∧ (s.unblock m).mem = s.mem := by
  have key : ∀ u : State, u.cores = s.cores → u.mem = s.mem → (u.modCore m (fun c => { c with blockedIn := none, stall := none })).core m = { s.core m with blockedIn := none, stall := none } ∧
    (∀ n, n ≠ m → (u.modCore m (fun c => { c with blockedIn := none, stall := none })).core n = s.core n) ∧ (u.modCore m (fun c => { c with blockedIn := none, stall := none })).mem = s.mem := by
    intro u hu hm
    simp only [modCore_eq]
    refine ⟨by rw [core_setCore, core_of_cores hu], fun n hn => by rw [core_setCore_ne _ _ _ _ hn, core_of_cores hu], hm⟩
  unfold unblock
  dsimp only
  split
  · exact key _ rfl rfl
  · exact key _ rfl rfl
  · exact key _ rfl rfl
def nmiRegs (c : Core) := (c.nepc, c.nstatus, c.ncause, c.nmil)
theorem syncFz_keepz (s : State) (m : Nat) : (s.syncFz).isFrozen m = s.isFrozen m := by unfold isFrozen; rw [syncFz_frozen]
theorem mem_frozen_fire (s : State) (n m : Nat) : (s.fire n).isFrozen m = s.isFrozen m := by unfold isFrozen; rw [fire_frozen]
theorem lead_lt (s : State) {m : Nat} (h : m < 32) : s.lead m < 32 := by unfold lead; split <;> omega
theorem unfreeze_aside {s t : State} (h : s.aside t) (m : Nat) (hm : m < 32) : s.aside (t.unfreeze m) := by
  unfold unfreeze
  dsimp only
  rw [if_pos hm]
  have h1 : s.aside { t with frozen := Tab.drop t.frozen (fun a => a == m) } := aside_trans h ⟨rfl, fun _ h => h, fun _ _ _ _ => rfl⟩
  exact syncCore_aside (fzBit_aside h1 m false (by omega)) m hm
theorem abandon_aside {s t : State} (h : s.aside t) (m : Nat) (hm : m < 32) : s.aside (t.abandon m) := by
  unfold abandon
  dsimp only
  refine foldl_aside _ _ (fun u i hi hu => ?_) _ h
  have hi' : i < 256 := by simpa using hi
  have hk : m / 16 < 2 := by omega
  refine ite_aside (endTask_aside (fireK_aside (aside_wr hu _ _ _ (slot_key hk hi' _ rfl rfl) (at_lsb (by decide))) _ _) _ i hk hi') hu
theorem rst_out (m : Nat) (hm : m < 32) : ¬asideKey (coreB m + Cc.CORE_CTL.RST.off) Cc.CORE_CTL.RST.lsb := by
  unfold asideKey coreB Cc.CORE_CTL.RST; dsimp only; omega
theorem epoch_out (m : Nat) (hm : m < 32) : ¬asideKey (coreB m + Cc.CORE_STAT.EPOCH.off) Cc.CORE_STAT.EPOCH.lsb := by
  unfold asideKey coreB Cc.CORE_STAT.EPOCH; dsimp only; omega
theorem resetOne_rst (s : State) (m : Nat) (hm : m < 32) : (s.resetOne m).rd (coreB m) Cc.CORE_CTL.RST = 1 := by
  unfold resetOne
  dsimp only
  generalize hu : State.wr _ (coreB m) Cc.CORE_CTL.RST 1 = u
  have h1 : u.rd (coreB m) Cc.CORE_CTL.RST = 1 := by rw [← hu, rd_wr_same _ _ _ _ (by decide)]; rfl
  rw [← h1]
  exact aside_rd (syncCore_aside (abandon_aside (unfreeze_aside (aside_refl u) m hm) m hm) m hm) _ _ (rst_out m hm) (by decide)
theorem coreReset_rst (s : State) (m : Nat) (hm : m < 32) (hk : s.hasK (m / 16) = true) (hp : s.rd (coreB (m / 2 * 2)) Cc.CORE_CTL.PAIRED = 0) :
    (s.coreReset m).inRst m = true := by
  have hb : s.on (coreB (m / 2 * 2)) Cc.CORE_CTL.PAIRED = false := by unfold on; rw [hp]; rfl
  unfold coreReset
  rw [if_neg (by simp [hk]; omega)]
  dsimp only
  rw [hb]
  have h1 := resetOne_rst s m hm
  have h2 : ∀ u : State, u.rd (coreB m) Cc.CORE_CTL.RST = 1 → u.inRst m = true := fun u hu => by unfold inRst on; rw [hu]; rfl
  simp only [Bool.false_eq_true, Bool.false_and, if_false]
  generalize s.resetOne m = u at h1
  split
  · exact h2 _ h1
  · exact h2 _ h1
def shown (m e : Nat) (u : State) : Prop := u.rd (coreB m) Cc.CORE_CTL.RST = 0 ∧ u.rd (coreB m) Cc.CORE_STAT.EPOCH = e
theorem shown_aside {m e : Nat} {u v : State} (hm : m < 32) (h : shown m e u) (k : u.aside v) : shown m e v :=
  ⟨(aside_rd k _ _ (rst_out m hm) (by decide)).trans h.1, (aside_rd k _ _ (epoch_out m hm) (by decide)).trans h.2⟩
theorem shown_wr {m e : Nat} {u : State} (hm : m < 32) (h : shown m e u) (k : Nat) (f : Fld) (v : Nat) : shown m e (u.wr (mbxB k) f v) := by
  refine ⟨(rd_wr_ne _ _ _ _ _ _ ?_).trans h.1, (rd_wr_ne _ _ _ _ _ _ ?_).trans h.2⟩ <;>
    simp only [Fld.key, Cc.CORE_CTL.RST, Cc.CORE_STAT.EPOCH, mbxB, kB, coreB] <;> omega
theorem chanRing_shown {m e : Nat} {u : State} (hm : m < 32) (h : shown m e u) (k n b : Nat) : shown m e (u.chanRing k n b) := by
  unfold chanRing ring dropRing
  split
  · rename_i hn
    have hl := lead_lt u hn
    dsimp only
    split
    · exact shown_aside hm h (wakeDb_aside (setPend_aside (aside_refl u) _ _ hl) _ hl)
    · exact h
  · exact shown_aside hm (shown_wr hm h k _ _) (fireK_aside (aside_refl _) _ _)
theorem foldl_shown {m e : Nat} {α : Type} (l : List α) (f : State → α → State) (h : ∀ t x, shown m e t → shown m e (f t x)) (t : State) (ht : shown m e t) :
    shown m e (l.foldl f t) := by
  induction l generalizing t with
  | nil => exact ht
  | cons x r ih => exact ih _ (h t x ht)
theorem bells_shown {m e : Nat} {u : State} (hm : m < 32) (h : shown m e u) (n : Nat) : shown m e (u.bellsAtRelease n) := by
  unfold bellsAtRelease
  dsimp only
  refine foldl_shown _ _ (fun t k ht => foldl_shown _ _ (fun t c ht => ?_) _ ht) _ (shown_wr hm (shown_wr hm h _ _ _) _ _ _)
  split
  · exact shown_wr hm (chanRing_shown hm ht _ _ _) _ _ _
  · exact ht
theorem coreRelease_shown (s : State) (m : Nat) (hm : m < 32) (hd : s.dieUp (m / 16) = true) (hr : s.inRst m = true) (hp : s.rd (coreB (m / 2 * 2)) Cc.CORE_CTL.PAIRED = 0) :
    shown m ((s.rd (coreB m) Cc.CORE_STAT.EPOCH + 1) % 256) (s.coreRelease m) := by
  have hb : s.on (coreB (m / 2 * 2)) Cc.CORE_CTL.PAIRED = false := by unfold on; rw [hp]; rfl
  unfold coreRelease
  rw [if_neg (by simp [hd, hr]; omega)]
  dsimp only
  rw [hb]
  simp only [Bool.false_eq_true, Bool.false_and, if_false, Bool.not_false, Bool.or_true, if_true]
  generalize hu : ((s.wrB (coreB (m / 2 * 2)) Cc.CORE_STAT.PAIRACT false).wrB (coreB (m / 2 * 2 + 1)) Cc.CORE_STAT.PAIRACT false) = u
  have he : u.rd (coreB m) Cc.CORE_STAT.EPOCH = s.rd (coreB m) Cc.CORE_STAT.EPOCH := by
    rw [← hu, wrB_eq, wrB_eq, rd_wr_ne, rd_wr_ne] <;> simp only [Fld.key, Cc.CORE_STAT.PAIRACT, Cc.CORE_STAT.EPOCH, coreB] <;> omega
  have h0 : shown m ((s.rd (coreB m) Cc.CORE_STAT.EPOCH + 1) % 256) (u.releaseOne m) := by
    unfold releaseOne shown
    dsimp only
    simp only [rd_setCore]
    constructor
    · rw [rd_wr_ne, rd_wr_same _ _ _ _ (by decide)]; rfl
      simp only [Fld.key, Cc.CORE_CTL.RST, Cc.CORE_STAT.EPOCH]; omega
    · rw [rd_wr_same _ _ _ _ (by decide), he]; rfl
  exact shown_aside hm (bells_shown hm h0 m) (syncCore_aside (fetchAt_aside (aside_refl _) m hm) m hm)
theorem release_frozen {s : State} {w : Wr} {m : Nat} {act} {r : FzRec} (hw : privileged w = true) (h : s.frozen.find? (fun e => e.1 == m) = some (m, r)) :
    s.release w m act = match act s m r with | some t => t | none => s.wr fzB Fz.FZ_RSTAT.BADACT 1 := by
  unfold release
  rw [if_neg (by simp [hw]), h] <;> rfl
theorem retire_frozen (s : State) (w : Wr) (a : Nat) : (s.retire w a).frozen = s.frozen := rfl
theorem retire_cores (s : State) (w : Wr) (a : Nat) : (s.retire w a).cores = s.cores := rfl
theorem retire_mem (s : State) (w : Wr) (a : Nat) : (s.retire w a).mem = s.mem := rfl
theorem retire_core (s : State) (w : Wr) (a n : Nat) : (s.retire w a).core n = s.core n := rfl
theorem retire_fz (s : State) (w : Wr) (a n : Nat) : (s.retire w a).isFrozen n = s.isFrozen n := rfl
theorem retire_rst (s : State) (w : Wr) (a n : Nat) : (s.retire w a).inRst n = s.inRst n := rfl
theorem unfreeze_facts (s : State) (m : Nat) (hm : m < 32) : (s.unfreeze m).isFrozen m = false ∧ (s.unfreeze m).cores = s.cores ∧ (s.unfreeze m).mem = s.mem := by
  unfold unfreeze
  dsimp only
  rw [if_pos hm]
  refine ⟨?_, by rw [syncCore_cores]; rfl, (keep_mem (syncCore_keep _ _)).1.trans rfl⟩
  unfold isFrozen
  rw [syncCore_frozen]
  show (Tab.drop s.frozen (fun a => a == m)).any (fun e => e.1 == m) = false
  unfold Tab.drop
  simp
theorem noPermFacts (s : State) : s.noPerm.rd fzB Fz.FZ_RSTAT.NOPERM = 1 ∧ s.noPerm.cores = s.cores ∧ s.noPerm.frozen = s.frozen ∧ s.noPerm.mem = s.mem :=
  ⟨by unfold noPerm; rw [rd_wr_same _ _ _ _ (by decide)]; rfl, rfl, rfl, rfl⟩
theorem fetchExl_core (s : State) (m : Nat) : ∃ pc ic, (s.fetchExl m).core m = { s.core m with pc := pc, icnt := ic } := by
  unfold fetchExl
  dsimp only
  split
  · exact ⟨(s.core m).pc, (s.core m).icnt, core_of_cores (freeze_cores _ _) m⟩
  · split
    · exact ⟨_, _, core_setCore _ _ _⟩
    · exact ⟨(s.core m).pc, (s.core m).icnt, core_of_cores (offEvt_cores _ _ _ _) m⟩
    · exact ⟨(s.core m).pc, (s.core m).icnt, rfl⟩
theorem syncFz_depth (s : State) : s.syncFz.fz = s.fz ∧ s.syncFz.rd fzB Fz.FZ_CNT.DEPTH = s.fz.length % 16 := by
  have k : ∀ (u : State) (f : Fld) (v : Nat), f.off ≠ 0x18 → f.lsb < 32 → (u.wr fzB f v).rd fzB Fz.FZ_CNT.DEPTH = u.rd fzB Fz.FZ_CNT.DEPTH := by
    intro u f v h1 h2
    refine rd_wr_ne _ _ _ _ _ _ ?_
    simp only [Fld.key, Fz.FZ_CNT.DEPTH]
    omega
  unfold syncFz
  dsimp only
  split <;> constructor
  · simp only [wr_fz]
  · (repeat rw [k _ _ _ (by decide) (by decide)]); rw [rd_wr_same _ _ _ _ (by decide)]; rfl
  · simp only [wrB_eq, wr_fz]
  · simp only [wrB_eq]; (repeat rw [k _ _ _ (by decide) (by decide)]); rw [rd_wr_same _ _ _ _ (by decide)]; rfl
theorem goOn_seq (s : State) (m : Nat) (c : Core) (h : c.pc.toNat % 4096 ≠ 0) : s.goOn m c = s.setCore m c := by
  unfold goOn; dsimp only; rw [if_neg h]
theorem serve_none (s : State) (k i : Nat) (h : (s.sch k).blocked = []) : s.serveSlot k i = s := by
  unfold serveSlot; rw [h]; rfl
theorem enqueue_facts (s : State) (k i : Nat) (hk : k < 2) (hi : i < 256) (h : (s.sch k).blocked = []) :
    let t := (s.enqueue k i).serveSlot k i
    t.rd (schB k) (Sch.TASK_STAT.STATE.at i) = 1 ∧ (t.sch k).ready = (s.sch k).ready ++ [i] ∧ t.cores = s.cores := by
  have h1 : ((s.enqueue k i).sch k) = { s.sch k with ready := (s.sch k).ready ++ [i] } := by
    show (s.setSch k _).sch k = _
    rw [sch_setSch]
  dsimp only
  rw [serve_none _ _ _ (by rw [h1]; exact h)]
  refine ⟨?_, by rw [h1], rfl⟩
  unfold enqueue
  dsimp only
  simp (disch := first | decide | (simp only [Fld.key, Fld.at, ne_eq, Sch.SCH_STAT.NREADY, Sch.TASK_STAT.STATE, schB, kB]; omega) | omega | (intro _ h; cases h; decide)) only [rd_wr_same, rd_wr_ne, rd_fire, rd_retire, rd_answer, rd_setCore, rd_setSch, rd_setLane, rd_setCtx, rd_setCell, rd_setModul, rd_setArm, rd_setEst, rd_setAd, rd_setLaw, rd_setAcq, rd_modDma, rd_modArm, rd_modEst, rd_modAlm, rd_modPwr, rd_cwr, crd_wr, inc_eq, incBy_eq, incW_eq, wrB_eq, State.fireK, modCore_eq, modLane_eq, modCtx_eq, modAd_eq, modLaw_eq, raiseBit_rd]
  rfl
theorem setCore_sch (s : State) (m k : Nat) (c : Core) : (s.setCore m c).sch k = s.sch k := rfl
theorem mod_min (x n w : Nat) (h : n < 2 ^ w) : min x n % 2 ^ w = min x n := Nat.mod_eq_of_lt (by omega)
theorem dis_facts (s : State) (k i : Nat) (hk : k < 2) (hi : i < 256) :
    let t := s.disableSlot k i
    t.rd (schB k) (Sch.TASK_CFG.EN.at i) = 0 ∧
       (s.rd (schB k) (Sch.TASK_STAT.STATE.at i) = 1 → t.rd (schB k) (Sch.TASK_STAT.STATE.at i) = 0 ∧ t.rd (schB k) (Sch.TASK_STAT.DROPPED.at i) = 1 ∧
         (t.sch k).ready = (s.sch k).ready.filter (fun j => j != i)) ∧
       (s.rd (schB k) (Sch.TASK_STAT.STATE.at i) ≠ 1 → t.rd (schB k) (Sch.TASK_STAT.STATE.at i) = s.rd (schB k) (Sch.TASK_STAT.STATE.at i)) := by
  have h1 : (s.wr (schB k) (Sch.TASK_CFG.EN.at i) 0).rd (schB k) (Sch.TASK_STAT.STATE.at i) = s.rd (schB k) (Sch.TASK_STAT.STATE.at i) := by simp (disch := first | decide | (simp only [Fld.key, Fld.at, ne_eq, Sch.TASK_CFG.EN, Sch.TASK_STAT.STATE, schB, kB]; omega) | omega | (intro _ h; cases h; decide)) only [rd_wr_same, rd_wr_ne, rd_fire, rd_retire, rd_answer, rd_setCore, rd_setSch, rd_setLane, rd_setCtx, rd_setCell, rd_setModul, rd_setArm, rd_setEst, rd_setAd, rd_setLaw, rd_setAcq, rd_modDma, rd_modArm, rd_modEst, rd_modAlm, rd_modPwr, rd_cwr, crd_wr, inc_eq, incBy_eq, incW_eq, wrB_eq, State.fireK, modCore_eq, modLane_eq, modCtx_eq, modAd_eq, modLaw_eq, raiseBit_rd]
  dsimp only
  unfold disableSlot
  dsimp only
  rw [h1]
  by_cases h : s.rd (schB k) (Sch.TASK_STAT.STATE.at i) = 1
  · rw [if_pos h]
    unfold dequeue
    dsimp only
    refine ⟨by simp (disch := first | decide | (simp only [Fld.key, Fld.at, ne_eq, Sch.SCH_STAT.NREADY, Sch.TASK_CFG.EN, Sch.TASK_STAT.DROPPED, Sch.TASK_STAT.STATE, schB, kB]; omega) | omega | (intro _ h; cases h; decide)) only [rd_wr_same, rd_wr_ne, rd_fire, rd_retire, rd_answer, rd_setCore, rd_setSch, rd_setLane, rd_setCtx, rd_setCell, rd_setModul, rd_setArm, rd_setEst, rd_setAd, rd_setLaw, rd_setAcq, rd_modDma, rd_modArm, rd_modEst, rd_modAlm, rd_modPwr, rd_cwr, crd_wr, inc_eq, incBy_eq, incW_eq, wrB_eq, State.fireK, modCore_eq, modLane_eq, modCtx_eq, modAd_eq, modLaw_eq, raiseBit_rd]; rfl, fun _ => ⟨by simp (disch := first | decide | (simp only [Fld.key, Fld.at, ne_eq, Sch.SCH_STAT.NREADY, Sch.TASK_CFG.EN, Sch.TASK_STAT.DROPPED, Sch.TASK_STAT.STATE, schB, kB]; omega) | omega | (intro _ h; cases h; decide)) only [rd_wr_same, rd_wr_ne, rd_fire, rd_retire, rd_answer, rd_setCore, rd_setSch, rd_setLane, rd_setCtx, rd_setCell, rd_setModul, rd_setArm, rd_setEst, rd_setAd, rd_setLaw, rd_setAcq, rd_modDma, rd_modArm, rd_modEst, rd_modAlm, rd_modPwr, rd_cwr, crd_wr, inc_eq, incBy_eq, incW_eq, wrB_eq, State.fireK, modCore_eq, modLane_eq, modCtx_eq, modAd_eq, modLaw_eq, raiseBit_rd]; rfl, by simp (disch := first | decide | (simp only [Fld.key, Fld.at, ne_eq, Sch.SCH_STAT.NREADY, Sch.TASK_CFG.EN, Sch.TASK_STAT.DROPPED, Sch.TASK_STAT.STATE, schB, kB]; omega) | omega | (intro _ h; cases h; decide)) only [rd_wr_same, rd_wr_ne, rd_fire, rd_retire, rd_answer, rd_setCore, rd_setSch, rd_setLane, rd_setCtx, rd_setCell, rd_setModul, rd_setArm, rd_setEst, rd_setAd, rd_setLaw, rd_setAcq, rd_modDma, rd_modArm, rd_modEst, rd_modAlm, rd_modPwr, rd_cwr, crd_wr, inc_eq, incBy_eq, incW_eq, wrB_eq, State.fireK, modCore_eq, modLane_eq, modCtx_eq, modAd_eq, modLaw_eq, raiseBit_rd]; rfl, ?_⟩, fun g => absurd h g⟩
    show ((setSch _ k _).sch k).ready = _
    rw [sch_setSch]
    rfl
  · rw [if_neg h]
    exact ⟨by simp (disch := first | decide | (simp only [Fld.key, Fld.at, ne_eq, Sch.TASK_CFG.EN, schB, kB]; omega) | omega | (intro _ h; cases h; decide)) only [rd_wr_same, rd_wr_ne, rd_fire, rd_retire, rd_answer, rd_setCore, rd_setSch, rd_setLane, rd_setCtx, rd_setCell, rd_setModul, rd_setArm, rd_setEst, rd_setAd, rd_setLaw, rd_setAcq, rd_modDma, rd_modArm, rd_modEst, rd_modAlm, rd_modPwr, rd_cwr, crd_wr, inc_eq, incBy_eq, incW_eq, wrB_eq, State.fireK, modCore_eq, modLane_eq, modCtx_eq, modAd_eq, modLaw_eq, raiseBit_rd]; rfl, fun g => absurd g h, fun _ => h1⟩
theorem acqOwe_facts (s : State) (k c n : Nat) : (s.acqOwe k c n).regs = s.regs ∧ (s.acqOwe k c n).cores = s.cores ∧ (s.acqOwe k c n).sched = s.sched := by
  unfold acqOwe; dsimp only; split <;> exact ⟨rfl, rfl, rfl⟩
theorem answerLoad_facts (s : State) (m i : Nat) (v : BitVec 64) (l : Load) (h : (s.core m).loads[i]? = some l) :
    ((s.answerLoad m i v).core m).loads[i]? = some { l with val := some v } ∧ (s.answerLoad m i v).regs = s.regs := by
  unfold answerLoad
  rw [modCore_eq, core_setCore]
  refine ⟨?_, rfl⟩
  dsimp only
  rw [List.getElem?_modify, h]
  simp
theorem reach_put (s : State) (m i : Nat) (l : Load) (k c : Nat) (v : Word) (e : Nat) (hl : (s.core m).loads[i]? = some l) (hv : l.val = none) (hk : l.kind = .put k c v e) :
    s.chanReach m i = (s.chanPut k c (s.accMid m) l.sup v e).2.answerLoad m i (BitVec.ofNat 64 (s.chanPut k c (s.accMid m) l.sup v e).1) := by
  unfold chanReach
  rw [hl]
  dsimp only
  rw [if_neg (by rw [hv]; decide), hk]
theorem reach_get (s : State) (m i : Nat) (l : Load) (k c : Nat) (hl : (s.core m).loads[i]? = some l) (hv : l.val = none) (hk : l.kind = .get k c) :
    s.chanReach m i = (s.chanGet k c (s.accMid m) l.sup).2.answerLoad m i ((s.chanGet k c (s.accMid m) l.sup).1.setWidth 64) := by
  unfold chanReach
  rw [hl]
  dsimp only
  rw [if_neg (by rw [hv]; decide), hk]
theorem wake_none (s : State) (m : Nat) (h : (s.core m).blockedIn = none) : s.wakeDb m = s := by unfold wakeDb; dsimp only; rw [h]
theorem fire_cores_seq (s : State) (m k n : Nat) (c : Core) (h : c.pc.toNat % 4096 ≠ 0) : (s.fireK k n).goOn m c = (s.fireK k n).setCore m c := goOn_seq _ _ _ h
end Sys2Proof.Laws
end

