-- ==== Sys2Proof/Laws/Units.lean ====
section
/-!
SUPPORT. What the shared operations of the fabric, the timer, the modulator, the adie, the law and the acquisition units do.
-/
namespace Sys2Proof.Laws
open Sys2Proof Sys2Proof.Machine Sys2Proof.Machine.State
theorem km {s t : State} (h : t.keep = s.keep) : t.mem = s.mem ∧ t.nor = s.nor ∧ t.mram = s.mram := keep_mem h
theorem kp {s t : State} (h : t.keep = s.keep) : t.pending = s.pending := by
  rw [keep_def, keep_def] at h; exact (Prod.mk.inj h).1
theorem tmo_facts (v : State) (mid addr : Nat) (wr : Bool) :
    v.fires (v.tmoRecord mid addr wr) 0x011 ∧ (v.tmoRecord mid addr wr).fab = v.fab ∧ (v.tmoRecord mid addr wr).cores = v.cores ∧
    (v.tmoRecord mid addr wr).rd capsB Fab.FAB_STAT.TMO_CNT = min (v.rd capsB Fab.FAB_STAT.TMO_CNT + 1) 65535 ∧
    (v.tmoRecord mid addr wr).rd capsB Fab.FAB_ERR_INFO.VALID ≠ 0 ∧
    (v.rd capsB Fab.FAB_ERR_INFO.VALID = 0 → (v.tmoRecord mid addr wr).rd capsB Fab.FAB_ERR_ADDR.ADDR = addr % 2 ^ 32) := by
  unfold tmoRecord on
  dsimp only
  by_cases h : v.rd capsB Fab.FAB_ERR_INFO.VALID = 0
  · have h' : (v.rd capsB Fab.FAB_ERR_INFO.VALID != 0) = false := by rw [h]; rfl
    rw [h', if_neg (by decide)]
    refine ⟨fires_of _ (canFire_congr _ rfl rfl (by simp (disch := first | decide | (simp only [Fld.key, Fld.at, ne_eq, Fab.FAB_ERR_ADDR.ADDR, Fab.FAB_ERR_INFO.MID, Fab.FAB_ERR_INFO.VALID, Fab.FAB_ERR_INFO.WR, Fab.FAB_STAT.TMO_CNT, Pwr.DIE_STAT.RDY, capsB, pwrB]; omega) | omega | (intro _ h; cases h; decide)) only [rd_wr_same, rd_wr_ne, rd_fire, rd_retire, rd_answer, rd_setCore, rd_setSch, rd_setLane, rd_setCtx, rd_setCell, rd_setModul, rd_setArm, rd_setEst, rd_setAd, rd_setLaw, rd_setAcq, rd_modDma, rd_modArm, rd_modEst, rd_modAlm, rd_modPwr, rd_cwr, crd_wr, inc_eq, incBy_eq, incW_eq, wrB_eq, State.fireK, modCore_eq, modLane_eq, modCtx_eq, modAd_eq, modLaw_eq, raiseBit_rd]) (by simp (disch := first | decide | (simp only [Fld.key, Fld.at, ne_eq, Fab.FAB_ERR_ADDR.ADDR, Fab.FAB_ERR_INFO.MID, Fab.FAB_ERR_INFO.VALID, Fab.FAB_ERR_INFO.WR, Fab.FAB_STAT.TMO_CNT, Pwr.DIE_STAT.BUSY, capsB, pwrB]; omega) | omega | (intro _ h; cases h; decide)) only [rd_wr_same, rd_wr_ne, rd_fire, rd_retire, rd_answer, rd_setCore, rd_setSch, rd_setLane, rd_setCtx, rd_setCell, rd_setModul, rd_setArm, rd_setEst, rd_setAd, rd_setLaw, rd_setAcq, rd_modDma, rd_modArm, rd_modEst, rd_modAlm, rd_modPwr, rd_cwr, crd_wr, inc_eq, incBy_eq, incW_eq, wrB_eq, State.fireK, modCore_eq, modLane_eq, modCtx_eq, modAd_eq, modLaw_eq, raiseBit_rd])), ?_, ?_, ?_, ?_, fun _ => ?_⟩
    · rw [fire_fab]; simp
    · rw [fire_cores]; simp
    · simp (disch := first | decide | (simp only [Fld.key, Fld.at, ne_eq, Fab.FAB_ERR_ADDR.ADDR, Fab.FAB_ERR_INFO.MID, Fab.FAB_ERR_INFO.VALID, Fab.FAB_ERR_INFO.WR, Fab.FAB_STAT.TMO_CNT, capsB]; omega) | omega | (intro _ h; cases h; decide)) only [rd_wr_same, rd_wr_ne, rd_fire, rd_retire, rd_answer, rd_setCore, rd_setSch, rd_setLane, rd_setCtx, rd_setCell, rd_setModul, rd_setArm, rd_setEst, rd_setAd, rd_setLaw, rd_setAcq, rd_modDma, rd_modArm, rd_modEst, rd_modAlm, rd_modPwr, rd_cwr, crd_wr, inc_eq, incBy_eq, incW_eq, wrB_eq, State.fireK, modCore_eq, modLane_eq, modCtx_eq, modAd_eq, modLaw_eq, raiseBit_rd]; exact mod_min _ _ 16 (by decide)
    · simp (disch := first | decide | (simp only [Fld.key, Fld.at, ne_eq, Fab.FAB_ERR_ADDR.ADDR, Fab.FAB_ERR_INFO.MID, Fab.FAB_ERR_INFO.VALID, Fab.FAB_ERR_INFO.WR, Fab.FAB_STAT.TMO_CNT, capsB]; omega) | omega | (intro _ h; cases h; decide)) only [rd_wr_same, rd_wr_ne, rd_fire, rd_retire, rd_answer, rd_setCore, rd_setSch, rd_setLane, rd_setCtx, rd_setCell, rd_setModul, rd_setArm, rd_setEst, rd_setAd, rd_setLaw, rd_setAcq, rd_modDma, rd_modArm, rd_modEst, rd_modAlm, rd_modPwr, rd_cwr, crd_wr, inc_eq, incBy_eq, incW_eq, wrB_eq, State.fireK, modCore_eq, modLane_eq, modCtx_eq, modAd_eq, modLaw_eq, raiseBit_rd]; decide
    · simp (disch := first | decide | (simp only [Fld.key, Fld.at, ne_eq, Fab.FAB_ERR_ADDR.ADDR, Fab.FAB_ERR_INFO.MID, Fab.FAB_ERR_INFO.VALID, Fab.FAB_ERR_INFO.WR, Fab.FAB_STAT.TMO_CNT, capsB]; omega) | omega | (intro _ h; cases h; decide)) only [rd_wr_same, rd_wr_ne, rd_fire, rd_retire, rd_answer, rd_setCore, rd_setSch, rd_setLane, rd_setCtx, rd_setCell, rd_setModul, rd_setArm, rd_setEst, rd_setAd, rd_setLaw, rd_setAcq, rd_modDma, rd_modArm, rd_modEst, rd_modAlm, rd_modPwr, rd_cwr, crd_wr, inc_eq, incBy_eq, incW_eq, wrB_eq, State.fireK, modCore_eq, modLane_eq, modCtx_eq, modAd_eq, modLaw_eq, raiseBit_rd]; rfl
  · have h' : (v.rd capsB Fab.FAB_ERR_INFO.VALID != 0) = true := by simpa using h
    rw [h', if_pos rfl]
    refine ⟨fires_of _ (canFire_congr _ rfl rfl (by simp (disch := first | decide | (simp only [Fld.key, Fld.at, ne_eq, Fab.FAB_STAT.TMO_CNT, Pwr.DIE_STAT.RDY, capsB, pwrB]; omega) | omega | (intro _ h; cases h; decide)) only [rd_wr_same, rd_wr_ne, rd_fire, rd_retire, rd_answer, rd_setCore, rd_setSch, rd_setLane, rd_setCtx, rd_setCell, rd_setModul, rd_setArm, rd_setEst, rd_setAd, rd_setLaw, rd_setAcq, rd_modDma, rd_modArm, rd_modEst, rd_modAlm, rd_modPwr, rd_cwr, crd_wr, inc_eq, incBy_eq, incW_eq, wrB_eq, State.fireK, modCore_eq, modLane_eq, modCtx_eq, modAd_eq, modLaw_eq, raiseBit_rd]) (by simp (disch := first | decide | (simp only [Fld.key, Fld.at, ne_eq, Fab.FAB_STAT.TMO_CNT, Pwr.DIE_STAT.BUSY, capsB, pwrB]; omega) | omega | (intro _ h; cases h; decide)) only [rd_wr_same, rd_wr_ne, rd_fire, rd_retire, rd_answer, rd_setCore, rd_setSch, rd_setLane, rd_setCtx, rd_setCell, rd_setModul, rd_setArm, rd_setEst, rd_setAd, rd_setLaw, rd_setAcq, rd_modDma, rd_modArm, rd_modEst, rd_modAlm, rd_modPwr, rd_cwr, crd_wr, inc_eq, incBy_eq, incW_eq, wrB_eq, State.fireK, modCore_eq, modLane_eq, modCtx_eq, modAd_eq, modLaw_eq, raiseBit_rd])), ?_, ?_, ?_, ?_, fun h2 => absurd h2 h⟩
    · rw [fire_fab]; simp
    · rw [fire_cores]; simp
    · simp (disch := first | decide | (simp only [Fld.key, Fld.at, ne_eq, Fab.FAB_STAT.TMO_CNT, capsB]; omega) | omega | (intro _ h; cases h; decide)) only [rd_wr_same, rd_wr_ne, rd_fire, rd_retire, rd_answer, rd_setCore, rd_setSch, rd_setLane, rd_setCtx, rd_setCell, rd_setModul, rd_setArm, rd_setEst, rd_setAd, rd_setLaw, rd_setAcq, rd_modDma, rd_modArm, rd_modEst, rd_modAlm, rd_modPwr, rd_cwr, crd_wr, inc_eq, incBy_eq, incW_eq, wrB_eq, State.fireK, modCore_eq, modLane_eq, modCtx_eq, modAd_eq, modLaw_eq, raiseBit_rd]; exact mod_min _ _ 16 (by decide)
    · simp (disch := first | decide | (simp only [Fld.key, Fld.at, ne_eq, Fab.FAB_ERR_INFO.VALID, Fab.FAB_STAT.TMO_CNT, capsB]; omega) | omega | (intro _ h; cases h; decide)) only [rd_wr_same, rd_wr_ne, rd_fire, rd_retire, rd_answer, rd_setCore, rd_setSch, rd_setLane, rd_setCtx, rd_setCell, rd_setModul, rd_setArm, rd_setEst, rd_setAd, rd_setLaw, rd_setAcq, rd_modDma, rd_modArm, rd_modEst, rd_modAlm, rd_modPwr, rd_cwr, crd_wr, inc_eq, incBy_eq, incW_eq, wrB_eq, State.fireK, modCore_eq, modLane_eq, modCtx_eq, modAd_eq, modLaw_eq, raiseBit_rd]; exact h
theorem fires_congr {s u t : State} {n : Nat} (h : u.fires t n) (k : u.canFire n = s.canFire n) : s.fires t n := fun hc => h (k.trans hc)
theorem onMod_up {s : State} {k : Nat} (hk : k < 2) (hd : s.dieUp k = true) (f : State → State) : s.onMod k f = f s := by
  unfold onMod; rw [if_pos (by simp [hk, hd])]
theorem owe_rd (s : State) (k e b : Nat) (f : Fld) : (s.owe k e).rd b f = s.rd b f := by unfold owe; dsimp only; split <;> rfl
theorem owe_same (s : State) (k e : Nat) : (s.owe k e).pwr = s.pwr ∧ (s.owe k e).part = s.part := by unfold owe; dsimp only; split <;> exact ⟨rfl, rfl⟩
theorem modRaise_rd (s : State) (k b : Nat) (ev en : Fld) (i e c : Nat) (g : Fld) (hn : g.key c ≠ ev.key b) : (s.modRaise k b ev en i e).rd c g = s.rd c g := by
  unfold modRaise
  dsimp only
  split
  · rfl
  · split
    · rw [owe_rd]; exact rd_wr_ne _ _ _ _ _ _ hn
    · exact rd_wr_ne _ _ _ _ _ _ hn
theorem modRaise_same (s : State) (k b : Nat) (ev en : Fld) (i e : Nat) : (s.modRaise k b ev en i e).pwr = s.pwr ∧ (s.modRaise k b ev en i e).part = s.part := by
  unfold modRaise
  dsimp only
  split
  · exact ⟨rfl, rfl⟩
  · split
    · exact owe_same _ _ _
    · exact ⟨rfl, rfl⟩
theorem est_setEst (s : State) (k c : Nat) (x : CellEst) : (s.setEst k c x).est k c = x := by unfold est setEst; rw [modul_setModul]; exact Tab.get_put_same _ _ _ _
theorem arm_setArm (s : State) (k a : Nat) (x : ArmSt) : (s.setArm k a x).arm k a = x := by unfold arm setArm; rw [modul_setModul]; exact Tab.get_put_same _ _ _ _
theorem owe_arm (s : State) (k e a : Nat) : (s.owe k e).arm k a = s.arm k a := by
  unfold owe; dsimp only; split
  · rfl
  · unfold arm; rw [modul_setModul]
theorem modRaise_arm (s : State) (k b : Nat) (ev en : Fld) (i e a : Nat) : (s.modRaise k b ev en i e).arm k a = s.arm k a := by
  unfold modRaise; dsimp only; split
  · rfl
  · split
    · rw [owe_arm]; rfl
    · rfl
theorem est_wr (s : State) (b : Nat) (f : Fld) (v k c : Nat) : (s.wr b f v).est k c = s.est k c := rfl
theorem est_retire (s : State) (w : Wr) (a k c : Nat) : (s.retire w a).est k c = s.est k c := rfl
theorem arm_wr (s : State) (b : Nat) (f : Fld) (v k c : Nat) : (s.wr b f v).arm k c = s.arm k c := rfl
theorem armClr_facts (s : State) (k a : Nat) : (s.armCntClr k a).rd (armB k a) Arm.ARM_CNT0.REFMISS = 0 ∧ (s.armCntClr k a).rd (armB k a) Arm.ARM_CNT0.DWELLV = 0 ∧
    (s.armCntClr k a).rd (armB k a) Arm.ARM_CNT1.CHKCNT = 0 ∧ (s.armCntClr k a).rd (armB k a) Arm.ARM_CNT1.PFXCNT = 0 := by
  unfold armCntClr
  dsimp only
  refine ⟨?_, ?_, ?_, ?_⟩ <;> (simp (disch := first | decide | (simp only [Fld.key, Fld.at, ne_eq, Arm.ARM_CNT0.DWELLV, Arm.ARM_CNT0.REFMISS, Arm.ARM_CNT1.CHKCNT, Arm.ARM_CNT1.PFXCNT, armB, kB]; omega) | omega | (intro _ h; cases h; decide)) only [rd_wr_same, rd_wr_ne, rd_fire, rd_retire, rd_answer, rd_setCore, rd_setSch, rd_setLane, rd_setCtx, rd_setCell, rd_setModul, rd_setArm, rd_setEst, rd_setAd, rd_setLaw, rd_setAcq, rd_modDma, rd_modArm, rd_modEst, rd_modAlm, rd_modPwr, rd_cwr, crd_wr, inc_eq, incBy_eq, incW_eq, wrB_eq, State.fireK, modCore_eq, modLane_eq, modCtx_eq, modAd_eq, modLaw_eq, raiseBit_rd]; rfl)
theorem setBit_test (v i w : Nat) (h : i < w) : (setBit v i % 2 ^ w).testBit i = true := by
  rw [Nat.testBit_mod_two_pow]
  simp only [h, decide_true, Bool.true_and]
  unfold setBit
  simp
theorem onAd_up {s : State} {a : Nat} (h : s.adUp a = true) (f : State → State) : s.onAd a f = f s := by unfold onAd; rw [if_pos h]
theorem onK_up {s : State} {k : Nat} (hk : k < 2) (h : s.dieUp k = true) (f : State → State) : s.onK k f = f s := by unfold onK; rw [if_pos (by simp [hk, h])]
theorem adEvt_set (s : State) (a i : Nat) (ha : a < 2) (hi : i < 7) : ((s.adEvt a i).rd (adB a) Ad.AD_EVT.EVT).testBit i = true := by
  unfold adEvt
  refine raiseBit_set _ _ _ _ _ _ _ (fun j h => by cases h) (by decide) hi ?_ (by decide)
  (simp only [asideKey, Fld.at, Ad.AD_EVT.EVT, adB]; omega)
theorem raise_same (s : State) (b : Nat) (ev en : Fld) (i : Nat) (k : Option Nat) (e : Nat) (hk : ∀ j, k = some j → j < 2) :
    (s.raiseBit b ev en i k e).pwr = s.pwr ∧ (s.raiseBit b ev en i k e).part = s.part := by
  unfold raiseBit
  dsimp only
  split
  · exact ⟨rfl, rfl⟩
  · split
    · cases k with
      | none => exact ⟨(aside_pwr (evt_aside (aside_refl _) e)).trans rfl, (aside_part (evt_aside (aside_refl _) e)).trans rfl⟩
      | some j => exact ⟨(aside_pwr (evtK_aside (aside_refl _) j e (hk j rfl))).trans rfl, (aside_part (evtK_aside (aside_refl _) j e (hk j rfl))).trans rfl⟩
    · exact ⟨rfl, rfl⟩
theorem wr_canFire (s : State) (b : Nat) (f : Fld) (v n : Nat) (h1 : Pwr.DIE_STAT.RDY.key pwrB ≠ f.key b) (h2 : Pwr.DIE_STAT.BUSY.key pwrB ≠ f.key b) : (s.wr b f v).canFire n = s.canFire n :=
  canFire_congr _ rfl rfl (rd_wr_ne _ _ _ _ _ _ h1) (rd_wr_ne _ _ _ _ _ _ h2)
theorem fire_canFire (s : State) (m n : Nat) : (s.fire m).canFire n = s.canFire n := aside_canFire (fire_aside (aside_refl s) m) n
theorem adEvt_mono (s : State) (a i : Nat) : ∀ n ∈ s.fc.detect, n ∈ (s.adEvt a i).fc.detect := fun n hn => by
  have := raiseBit_fires (s := s) (t := s) (n := n) (fun _ => hn) (adB a) Ad.AD_EVT.EVT Ad.AD_EVTEN.EN i none (0x81 + 8 * a) (fun j h => by cases h)
  unfold adEvt raiseBit
  dsimp only
  split
  · exact hn
  · split
    · exact (evt_aside (aside_refl _) _).2.1 n hn
    · exact hn
theorem kx {o : Host.Outcome State Fault Refusal} {t s : State} (h : keeps o s) (e : o = .next t) : t.mem = s.mem ∧ t.nor = s.nor ∧ t.mram = s.mram ∧ t.pending = s.pending :=
  ⟨(km (h t e)).1, (km (h t e)).2.1, (km (h t e)).2.2, kp (h t e)⟩
theorem raise_canFire (s : State) (b : Nat) (ev en : Fld) (i : Nat) (k : Option Nat) (e n : Nat) (hk : ∀ j, k = some j → j < 2)
    (h1 : Pwr.DIE_STAT.RDY.key pwrB ≠ ev.key b) (h2 : Pwr.DIE_STAT.BUSY.key pwrB ≠ ev.key b) : (s.raiseBit b ev en i k e).canFire n = s.canFire n := by
  have h := raise_same s b ev en i k e hk
  refine canFire_congr _ h.1 h.2 (raiseBit_rd _ _ _ _ _ _ _ _ _ hk h1 ?_ (by decide)) (raiseBit_rd _ _ _ _ _ _ _ _ _ hk h2 ?_ (by decide)) <;> (simp only [asideKey, Fld.at, Pwr.DIE_STAT.BUSY, Pwr.DIE_STAT.RDY, pwrB]; omega)
theorem onDch_up {s : State} {k c : Nat} (hk : k < 2) (hc : c < 16) (h : s.dieUp k = true) (f : State → State) : s.onDch k c f = f s := by
  unfold onDch; rw [onK_up hk h, if_pos hc]
theorem dSet_st (s : State) (k c v : Nat) (hk : k < 2) (hc : c < 16) (hv : v < 8) : (s.dSet k c v).rd (dchB k c) Dch.CH_STAT.STATE = v := by
  unfold dSet; dsimp only; simp (disch := first | decide | (simp only [Fld.key, Fld.at, ne_eq, Dch.CH_STAT.STATE, Dma.DMA_ACT.RUN, dchB, dmaB, kB]; omega) | omega | (intro _ h; cases h; decide)) only [rd_wr_same, rd_wr_ne, rd_fire, rd_retire, rd_answer, rd_setCore, rd_setSch, rd_setLane, rd_setCtx, rd_setCell, rd_setModul, rd_setArm, rd_setEst, rd_setAd, rd_setLaw, rd_setAcq, rd_modDma, rd_modArm, rd_modEst, rd_modAlm, rd_modPwr, rd_cwr, crd_wr, inc_eq, incBy_eq, incW_eq, wrB_eq, State.fireK, modCore_eq, modLane_eq, modCtx_eq, modAd_eq, modLaw_eq, raiseBit_rd]; exact Nat.mod_eq_of_lt hv
theorem dSet_rd (s : State) (k c v b : Nat) (f : Fld) (h1 : f.key b ≠ Dch.CH_STAT.STATE.key (dchB k c)) (h2 : f.key b ≠ Dma.DMA_ACT.RUN.key (dmaB k)) : (s.dSet k c v).rd b f = s.rd b f := by
  unfold dSet; dsimp only; rw [rd_wr_ne _ _ _ _ _ _ h2, rd_wr_ne _ _ _ _ _ _ h1]
theorem dSet_canFire (s : State) (k c v n : Nat) (hk : k < 2) (hc : c < 16) : (s.dSet k c v).canFire n = s.canFire n :=
  canFire_congr _ rfl rfl (dSet_rd _ _ _ _ _ _ (by (simp only [Fld.key, Fld.at, ne_eq, Dch.CH_STAT.STATE, Pwr.DIE_STAT.RDY, dchB, pwrB, kB]; omega)) (by (simp only [Fld.key, Fld.at, ne_eq, Dma.DMA_ACT.RUN, Pwr.DIE_STAT.RDY, dmaB, pwrB, kB]; omega))) (dSet_rd _ _ _ _ _ _ (by (simp only [Fld.key, Fld.at, ne_eq, Dch.CH_STAT.STATE, Pwr.DIE_STAT.BUSY, dchB, pwrB, kB]; omega)) (by (simp only [Fld.key, Fld.at, ne_eq, Dma.DMA_ACT.RUN, Pwr.DIE_STAT.BUSY, dmaB, pwrB, kB]; omega)))
theorem dchEvt_canFire (s : State) (k c i n : Nat) (hk : k < 2) (hc : c < 16) : (s.dchEvt k c i).canFire n = s.canFire n := by
  unfold dchEvt; exact raise_canFire _ _ _ _ _ _ _ _ (fun j h => by cases h; exact hk) (by (simp only [Fld.key, Fld.at, ne_eq, Dch.CH_EVT.EVT, Pwr.DIE_STAT.RDY, dchB, pwrB, kB]; omega)) (by (simp only [Fld.key, Fld.at, ne_eq, Dch.CH_EVT.EVT, Pwr.DIE_STAT.BUSY, dchB, pwrB, kB]; omega))
theorem dchEvt_set (s : State) (k c i : Nat) (hk : k < 2) (hc : c < 16) (hi : i < 4) : ((s.dchEvt k c i).rd (dchB k c) Dch.CH_EVT.EVT).testBit i = true := by
  unfold dchEvt
  refine raiseBit_set _ _ _ _ _ _ _ (fun j h => by cases h; exact hk) (by decide) hi ?_ (by decide)
  (simp only [asideKey, Fld.at, Dch.CH_EVT.EVT, dchB, kB]; omega)
theorem dma_modDma (s : State) (k c : Nat) (g : DmaCh → DmaCh) : (s.modDma k c g).dma k c = g (s.dma k c) := by
  unfold modDma dma; exact Tab.get_put_same _ _ _ _
theorem dRuns_eq (s : State) (k c : Nat) : s.dRuns k c = (s.dState k c != 0 && s.dState k c != 6) := rfl
theorem onAcq_up {s : State} {k : Nat} (hk : k < 2) (hq : s.part.q = true) (h : s.dieUp k = true) (f : State → State) : s.onAcq k f = f s := by
  unfold onAcq; rw [if_pos (by simp [hk, h, hq])]
theorem acqEvt_set (s : State) (k i : Nat) (hk : k < 2) (hi : i < 4) : ((s.acqEvt k i).rd (acqB k) Acq.ACQ_EVT.EVT).testBit i = true := by
  unfold acqEvt
  refine raiseBit_set _ _ _ _ _ _ _ (fun j h => by cases h; exact hk) (by decide) hi ?_ (by decide)
  (simp only [asideKey, Fld.at, Acq.ACQ_EVT.EVT, acqB, kB]; omega)
theorem acqPut_rd (s : State) (k : Nat) (r : AcqRec) (b : Nat) (f : Fld) : (s.acqPut k r).rd b f = s.rd b f := by
  unfold acqPut; dsimp only; split <;> rfl
theorem acqRuns_false {s : State} {k : Nat} (hq : s.part.q = true) (h : s.acqRuns k = false) : s.rd (acqB k) Acq.ACQ_STAT.STATE ≠ 1 ∧ s.rd (acqB k) Acq.ACQ_STAT.STATE ≠ 2 := by
  unfold acqRuns at h
  rw [hq] at h
  simpa using h
theorem assert_off {s : State} {k b t : Nat} (h : s.acqRuns k = false) : s.acqAssert k b t = s := by
  unfold acqAssert; dsimp only; rw [if_pos (by simp [h])]
theorem acqRuns_iff {s : State} {k : Nat} (hq : s.part.q = true) : s.acqRuns k = true ↔ (s.rd (acqB k) Acq.ACQ_STAT.STATE = 1 ∨ s.rd (acqB k) Acq.ACQ_STAT.STATE = 2) := by
  unfold acqRuns; rw [hq]; simp
theorem port_raise (s : State) (e i : Nat) (he : e < 4) (hi : i < 4) : ((s.portEvt e i).rd (portB e) Port.PORT_EVT.EVT).testBit i = true := by
  unfold portEvt
  refine raiseBit_set _ _ _ _ _ _ _ (fun j h => by cases h; decide) (by decide) hi ?_ (by decide)
  (simp only [asideKey, Fld.at, Port.PORT_EVT.EVT, portB]; omega)
theorem vn_raise (s : State) (i : Nat) (hi : i < 5) : ((s.vnEvt i).rd ethB Eth.VN_EVT.EVT).testBit i = true := by
  unfold vnEvt
  refine raiseBit_set _ _ _ _ _ _ _ (fun j h => by cases h; decide) (by decide) hi ?_ (by decide)
  (simp only [asideKey, Fld.at, Eth.VN_EVT.EVT, ethB]; omega)
theorem raise_clk (s : State) (b : Nat) (ev en : Fld) (i : Nat) (k : Option Nat) (e : Nat) (hk : ∀ j, k = some j → j < 2) :
    (s.raiseBit b ev en i k e).clk = s.clk := by
  unfold raiseBit
  dsimp only
  split
  · rfl
  · split
    · cases k with
      | none => exact (aside_clk (evt_aside (aside_refl _) e)).trans rfl
      | some j => exact (aside_clk (evtK_aside (aside_refl _) j e (hk j rfl))).trans rfl
    · rfl
theorem fire_clk (s : State) (n : Nat) : (s.fire n).clk = s.clk := by unfold fire; split <;> rfl
theorem rd_modEth (s : State) (g : EthSt → EthSt) (b : Nat) (f : Fld) : (s.modEth g).rd b f = s.rd b f := rfl
theorem rd_port_wr (s : State) (e : Nat) (f g : Fld) (v : Nat) (h : f.key (portB e) ≠ g.key (portB e)) : (s.wr (portB e) f v).rd (portB e) g = s.rd (portB e) g := rd_wr_ne _ _ _ _ _ _ (Ne.symm h)
theorem onPort_up (s : State) (e : Nat) (he : e < 4) (f : State → State) : s.onPort e f = f s := by unfold onPort; rw [if_pos he]
theorem on_iff (s : State) (b : Nat) (f : Fld) : s.on b f = true ↔ s.rd b f ≠ 0 := by unfold on; simp
theorem fireIf_rd (s : State) (c : Bool) (n b : Nat) (f : Fld) : (s.fireIf c n).rd b f = s.rd b f := by
  unfold fireIf; split
  · exact rd_fire _ _ _ _
  · rfl
theorem rearm_regs (s : State) : ((s.modEth (fun x => { x with vnRef := true, vnSteps := 0 })).vnGo 1).eth.vnRef = true := rfl
end Sys2Proof.Laws
end

