-- ==== Sys2Proof/Laws/Lanes.lean ====
section
/-!
SUPPORT. What the shared operations of the lanes do: a state transition, an event, a burst, a context.
-/
namespace Sys2Proof.Laws
open Sys2Proof Sys2Proof.Machine Sys2Proof.Machine.State
theorem onLane_up {s : State} {ln : Nat} (h : s.laneUp ln = true) (f : State → State) : s.onLane ln f = f s := by unfold onLane; rw [if_pos h]
theorem onCtx_up {s : State} {ln sl : Nat} (h : s.laneUp ln = true) (hs : sl < 96) (f : Nat → State) : s.onCtx ln sl f = f (ln * 96 + sl) := by unfold onCtx; rw [if_pos (by simp [h, hs])]
theorem rd_ite (c : Prop) [Decidable c] (x y : State) (b : Nat) (f : Fld) : (if c then x else y).rd b f = if c then x.rd b f else y.rd b f := by split <;> rfl
theorem syncTx_rd (s : State) (ln b : Nat) (f : Fld) (h : f.key b ≠ Lane.LANE_STAT.TXEN.key (laneB ln)) : (s.syncTx ln).rd b f = s.rd b f := by
  unfold syncTx; rw [wrB_eq]; exact rd_wr_ne _ _ _ _ _ _ h
theorem reachOff_rd (s : State) (ln b : Nat) (f : Fld) (h1 : f.key b ≠ Lane.LANE_STAT.LSTATE.key (laneB ln)) (h2 : f.key b ≠ Lane.LANE_CTL.DARK.key (laneB ln))
    (h3 : f.key b ≠ Lane.LANE_STAT.DARK_REJ.key (laneB ln)) : (s.reachOff ln).rd b f = s.rd b f := by
  unfold reachOff; dsimp only
  split
  · split
    · rw [rd_wr_ne _ _ _ _ _ _ h2, rd_wr_ne _ _ _ _ _ _ h1, modLane_eq, rd_setLane, rd_wr_ne _ _ _ _ _ _ h1]
    · rw [rd_wr_ne _ _ _ _ _ _ h2, rd_wr_ne _ _ _ _ _ _ h3, modLane_eq, rd_setLane, rd_wr_ne _ _ _ _ _ _ h1]
  · rw [rd_wr_ne _ _ _ _ _ _ h2, rd_wr_ne _ _ _ _ _ _ h1]
theorem setLstate_rd (s : State) (ln v b : Nat) (f : Fld) (h1 : f.key b ≠ Lane.LANE_STAT.LSTATE.key (laneB ln)) (h2 : f.key b ≠ Lane.LANE_CTL.DARK.key (laneB ln))
    (h3 : f.key b ≠ Lane.LANE_STAT.DARK_REJ.key (laneB ln)) (h4 : f.key b ≠ Lane.WAKE_CTL.BUSY.key (laneB ln)) (h5 : f.key b ≠ Lane.LANE_STAT.TXEN.key (laneB ln)) :
    (s.setLstate ln v).rd b f = s.rd b f := by
  unfold setLstate; dsimp only
  rw [syncTx_rd _ _ _ _ h5]
  split
  · rw [reachOff_rd _ _ _ _ h1 h2 h3]; split
    · exact rd_wr_ne _ _ _ _ _ _ h4
    · rfl
  · rw [rd_wr_ne _ _ _ _ _ _ h1]; split
    · exact rd_wr_ne _ _ _ _ _ _ h4
    · rfl
theorem lstate_syncTx (s : State) (ln : Nat) : (s.syncTx ln).rd (laneB ln) Lane.LANE_STAT.LSTATE = s.rd (laneB ln) Lane.LANE_STAT.LSTATE := syncTx_rd _ _ _ _ (by (simp only [Fld.key, Fld.at, ne_eq, Lane.LANE_STAT.LSTATE, Lane.LANE_STAT.TXEN, laneB]; omega))
theorem setLstate_to (s : State) (ln v : Nat) (h : v ≠ 2) (h8 : v < 8) : (s.setLstate ln v).rd (laneB ln) Lane.LANE_STAT.LSTATE = v := by
  unfold setLstate; dsimp only
  rw [lstate_syncTx, if_neg h]
  simp (disch := first | decide | (simp only [Fld.key, Fld.at, ne_eq, Lane.LANE_STAT.LSTATE, Lane.WAKE_CTL.BUSY, laneB]; omega) | omega | (intro _ h; cases h; decide)) only [rd_wr_same, rd_wr_ne, rd_fire, rd_retire, rd_answer, rd_setCore, rd_setSch, rd_setLane, rd_setCtx, rd_setCell, rd_setModul, rd_setArm, rd_setEst, rd_setAd, rd_setLaw, rd_setAcq, rd_modDma, rd_modArm, rd_modEst, rd_modAlm, rd_modPwr, rd_cwr, crd_wr, inc_eq, incBy_eq, incW_eq, wrB_eq, State.fireK, modCore_eq, modLane_eq, modCtx_eq, modAd_eq, modLaw_eq, raiseBit_rd]; exact Nat.mod_eq_of_lt h8
theorem reachOff_lst (u : State) (ln : Nat) : (u.reachOff ln).rd (laneB ln) Lane.LANE_STAT.LSTATE = 0 ∨ (u.reachOff ln).rd (laneB ln) Lane.LANE_STAT.LSTATE = 2 := by
  unfold reachOff; dsimp only
  have e : (u.wr (laneB ln) Lane.LANE_STAT.LSTATE 2).rd (laneB ln) Lane.LANE_STAT.LSTATE = 2 := by simp (disch := first | decide | (simp only [Fld.key, Fld.at, ne_eq, Lane.LANE_STAT.LSTATE, laneB]; omega) | omega | (intro _ h; cases h; decide)) only [rd_wr_same, rd_wr_ne, rd_fire, rd_retire, rd_answer, rd_setCore, rd_setSch, rd_setLane, rd_setCtx, rd_setCell, rd_setModul, rd_setArm, rd_setEst, rd_setAd, rd_setLaw, rd_setAcq, rd_modDma, rd_modArm, rd_modEst, rd_modAlm, rd_modPwr, rd_cwr, crd_wr, inc_eq, incBy_eq, incW_eq, wrB_eq, State.fireK, modCore_eq, modLane_eq, modCtx_eq, modAd_eq, modLaw_eq, raiseBit_rd]; rfl
  generalize u.wr (laneB ln) Lane.LANE_STAT.LSTATE 2 = x at *
  split
  · split
    · left; simp (disch := first | decide | (simp only [Fld.key, Fld.at, ne_eq, Lane.LANE_CTL.DARK, Lane.LANE_STAT.LSTATE, laneB]; omega) | omega | (intro _ h; cases h; decide)) only [rd_wr_same, rd_wr_ne, rd_fire, rd_retire, rd_answer, rd_setCore, rd_setSch, rd_setLane, rd_setCtx, rd_setCell, rd_setModul, rd_setArm, rd_setEst, rd_setAd, rd_setLaw, rd_setAcq, rd_modDma, rd_modArm, rd_modEst, rd_modAlm, rd_modPwr, rd_cwr, crd_wr, inc_eq, incBy_eq, incW_eq, wrB_eq, State.fireK, modCore_eq, modLane_eq, modCtx_eq, modAd_eq, modLaw_eq, raiseBit_rd]; rfl
    · right; simp (disch := first | decide | (simp only [Fld.key, Fld.at, ne_eq, Lane.LANE_CTL.DARK, Lane.LANE_STAT.DARK_REJ, Lane.LANE_STAT.LSTATE, laneB]; omega) | omega | (intro _ h; cases h; decide)) only [rd_wr_same, rd_wr_ne, rd_fire, rd_retire, rd_answer, rd_setCore, rd_setSch, rd_setLane, rd_setCtx, rd_setCell, rd_setModul, rd_setArm, rd_setEst, rd_setAd, rd_setLaw, rd_setAcq, rd_modDma, rd_modArm, rd_modEst, rd_modAlm, rd_modPwr, rd_cwr, crd_wr, inc_eq, incBy_eq, incW_eq, wrB_eq, State.fireK, modCore_eq, modLane_eq, modCtx_eq, modAd_eq, modLaw_eq, raiseBit_rd]; exact e
  · right; simp (disch := first | decide | (simp only [Fld.key, Fld.at, ne_eq, Lane.LANE_CTL.DARK, Lane.LANE_STAT.LSTATE, laneB]; omega) | omega | (intro _ h; cases h; decide)) only [rd_wr_same, rd_wr_ne, rd_fire, rd_retire, rd_answer, rd_setCore, rd_setSch, rd_setLane, rd_setCtx, rd_setCell, rd_setModul, rd_setArm, rd_setEst, rd_setAd, rd_setLaw, rd_setAcq, rd_modDma, rd_modArm, rd_modEst, rd_modAlm, rd_modPwr, rd_cwr, crd_wr, inc_eq, incBy_eq, incW_eq, wrB_eq, State.fireK, modCore_eq, modLane_eq, modCtx_eq, modAd_eq, modLaw_eq, raiseBit_rd]; exact e
theorem reachOff_lst2 (u : State) (ln : Nat) (h : (u.lane ln).darkHeld = false) : (u.reachOff ln).rd (laneB ln) Lane.LANE_STAT.LSTATE = 2 := by
  unfold reachOff; dsimp only
  rw [if_neg (by show ¬ (u.lane ln).darkHeld = true; rw [h]; decide)]
  simp (disch := first | decide | (simp only [Fld.key, Fld.at, ne_eq, Lane.LANE_CTL.DARK, Lane.LANE_STAT.LSTATE, laneB]; omega) | omega | (intro _ h; cases h; decide)) only [rd_wr_same, rd_wr_ne, rd_fire, rd_retire, rd_answer, rd_setCore, rd_setSch, rd_setLane, rd_setCtx, rd_setCell, rd_setModul, rd_setArm, rd_setEst, rd_setAd, rd_setLaw, rd_setAcq, rd_modDma, rd_modArm, rd_modEst, rd_modAlm, rd_modPwr, rd_cwr, crd_wr, inc_eq, incBy_eq, incW_eq, wrB_eq, State.fireK, modCore_eq, modLane_eq, modCtx_eq, modAd_eq, modLaw_eq, raiseBit_rd]; rfl
theorem setLstate_off (s : State) (ln : Nat) (h : (s.lane ln).darkHeld = false) : (s.setLstate ln 2).rd (laneB ln) Lane.LANE_STAT.LSTATE = 2 := by
  unfold setLstate; dsimp only
  rw [lstate_syncTx, if_pos rfl]
  refine reachOff_lst2 _ _ ?_
  split
  · exact h
  · exact h
theorem setLstate_off2 (s : State) (ln : Nat) : (s.setLstate ln 2).rd (laneB ln) Lane.LANE_STAT.LSTATE = 0 ∨ (s.setLstate ln 2).rd (laneB ln) Lane.LANE_STAT.LSTATE = 2 := by
  unfold setLstate; dsimp only
  rw [lstate_syncTx, if_pos rfl]
  exact reachOff_lst _ _
theorem runState_lt (s : State) (ln : Nat) : s.runState ln ≠ 2 ∧ s.runState ln < 8 := by
  unfold runState; repeat' split
  all_goals omega
theorem laneEvt_set (s : State) (ln i : Nat) (hl : ln < 64) (hi : i < 12) : ((s.laneEvt ln i).rd (laneB ln) Lane.LANE_EVT.EVT).testBit i = true := by
  unfold laneEvt
  refine raiseBit_set _ _ _ _ _ _ _ (fun j h => by cases h) (by decide) hi ?_ (by decide)
  (simp only [asideKey, Fld.at, Lane.LANE_EVT.EVT, laneB]; omega)
theorem laneFault_set (s : State) (ln i : Nat) (hi : i < 5) : ((s.laneFault ln i).rd (laneB ln) Lane.LANE_FLT.CAUSE).testBit i = true := by
  unfold laneFault
  rw [rd_fire, rd_wr_same _ _ _ _ (by decide)]; exact setBit_test _ _ _ hi
theorem laneFault_rd (s : State) (ln i b : Nat) (f : Fld) (h : f.key b ≠ Lane.LANE_FLT.CAUSE.key (laneB ln)) : (s.laneFault ln i).rd b f = s.rd b f := by
  unfold laneFault
  rw [rd_fire, rd_wr_ne _ _ _ _ _ _ h]
theorem syncTx_off (s : State) (ln : Nat) (h : s.lstate ln ≠ 3) : (s.syncTx ln).rd (laneB ln) Lane.LANE_STAT.TXEN = 0 := by
  unfold syncTx; rw [wrB_eq]; simp (disch := first | decide | (simp only [Fld.key, Fld.at, ne_eq, Lane.LANE_STAT.TXEN, laneB]; omega) | omega | (intro _ h; cases h; decide)) only [rd_wr_same, rd_wr_ne, rd_fire, rd_retire, rd_answer, rd_setCore, rd_setSch, rd_setLane, rd_setCtx, rd_setCell, rd_setModul, rd_setArm, rd_setEst, rd_setAd, rd_setLaw, rd_setAcq, rd_modDma, rd_modArm, rd_modEst, rd_modAlm, rd_modPwr, rd_cwr, crd_wr, inc_eq, incBy_eq, incW_eq, wrB_eq, State.fireK, modCore_eq, modLane_eq, modCtx_eq, modAd_eq, modLaw_eq, raiseBit_rd]
  have : (s.lstate ln == 3) = false := by simpa using h
  rw [this]; rfl
theorem setLstate_tx (s : State) (ln : Nat) : (s.setLstate ln 2).rd (laneB ln) Lane.LANE_STAT.TXEN = 0 := by
  have h := setLstate_off2 s ln
  unfold setLstate at h ⊢; dsimp only at h ⊢
  rw [lstate_syncTx] at h
  refine syncTx_off _ _ ?_
  unfold lstate at *
  intro h3; rw [h3] at h; omega
theorem setLane_lane (s : State) (ln : Nat) (x : Lane) : (s.setLane ln x).lane ln = x := by unfold setLane lane; rw [Tab.get_put_same]
theorem wr_lane (s : State) (b : Nat) (f : Fld) (v ln : Nat) : (s.wr b f v).lane ln = s.lane ln := rfl
theorem retire_lane (s : State) (w : Wr) (a ln : Nat) : (s.retire w a).lane ln = s.lane ln := rfl
theorem fire_lane (s : State) (n ln : Nat) : (s.fire n).lane ln = s.lane ln := by unfold fire; split <;> rfl
theorem syncTx_lane (s : State) (n ln : Nat) : (s.syncTx n).lane ln = s.lane ln := rfl
theorem setLstate_lane (s : State) (n v ln : Nat) (h : v ≠ 2 ∨ (s.lane n).darkHeld = false) : (s.setLstate n v).lane ln = s.lane ln := by
  unfold setLstate; dsimp only
  rw [syncTx_lane]
  split
  · rename_i h2
    have hd : (s.lane n).darkHeld = false := by rcases h with h | h; exact absurd h2 h; exact h
    unfold reachOff; dsimp only
    rw [if_neg]
    · split <;> rfl
    · have : ((if s.lstate n = 3 ∧ v ≠ 3 then s.wr (laneB n) Lane.WAKE_CTL.BUSY 0 else s).wr (laneB n) Lane.LANE_STAT.LSTATE 2).lane n = s.lane n := by split <;> rfl
      rw [this, hd]; decide
  · split <;> rfl
theorem raise_proj {α : Type} (p : State → α) (hp : ∀ t u : State, t.aside u → p u = p t) (hw : ∀ (t : State) b f v, p (t.wr b f v) = p t) (s : State) (b : Nat) (ev en : Fld) (i : Nat) (k : Option Nat) (e : Nat) (hk : ∀ j, k = some j → j < 2) : p (s.raiseBit b ev en i k e) = p s := by
  unfold raiseBit
  dsimp only
  split
  · rfl
  · split
    · cases k with
      | none => exact (hp _ _ (evt_aside (aside_refl _) e)).trans (hw _ _ _ _)
      | some j => exact (hp _ _ (evtK_aside (aside_refl _) j e (hk j rfl))).trans (hw _ _ _ _)
    · exact hw _ _ _ _
theorem laneEvt_lane (s : State) (n i ln : Nat) : (s.laneEvt n i).lane ln = s.lane ln :=
  raise_proj (fun t => t.lane ln) (fun _ _ h => by have := congrArg (fun x : State => x.lane ln) h.1; exact this) (fun _ _ _ _ => rfl) _ _ _ _ _ _ _ (fun j h => by cases h)
theorem laneEvt_ctx (s : State) (n i c : Nat) : (s.laneEvt n i).ctx c = s.ctx c :=
  raise_proj (fun t => t.ctx c) (fun _ _ h => by have := congrArg (fun x : State => x.ctx c) h.1; exact this) (fun _ _ _ _ => rfl) _ _ _ _ _ _ _ (fun j h => by cases h)
theorem endScan_rd (s : State) (ln b : Nat) (f : Fld) (h1 : f.key b ≠ Lane.RS_STAT.BUSY.key (laneB ln)) (h2 : f.key b ≠ Lane.RS_STAT.ABORTED.key (laneB ln)) : (s.endScan ln).rd b f = s.rd b f := by
  unfold endScan; split
  · rw [rd_wr_ne _ _ _ _ _ _ h2, rd_wr_ne _ _ _ _ _ _ h1]; rfl
  · rfl
theorem setCstate_rd (s : State) (c v b : Nat) (f : Fld) (h0 : f.key b ≠ Ctx.CELL_STAT.CSTATE.key (ctxB c)) (h1 : f.key b ≠ Lane.RS_STAT.BUSY.key (laneB (c / 96))) (h2 : f.key b ≠ Lane.RS_STAT.ABORTED.key (laneB (c / 96)))
    (h3 : f.key b ≠ Lane.LANE_STAT.NENABLED.key (laneB (c / 96))) : (s.setCstate c v).rd b f = s.rd b f := by
  unfold setCstate; extract_lets ln old s0 n s1 sc s2 s3
  have e0 : s0.rd b f = s.rd b f := rd_wr_ne _ _ _ _ _ _ h0
  have e1 : s1.rd b f = s.rd b f := by
    unfold s1
    split
    · rw [rd_wr_ne _ _ _ _ _ _ h3, e0]
    · split
      · rw [rd_wr_ne _ _ _ _ _ _ h3, e0]
      · exact e0
  have e2 : s2.rd b f = s.rd b f := by
    unfold s2; split
    · rw [endScan_rd _ _ _ _ h1 h2, e1]
    · exact e1
  have e3 : s3.rd b f = s.rd b f := by
    unfold s3; split
    · exact e2
    · exact e2
  split
  · exact e3
  · exact e3
theorem foldl_rd {α : Type} (g : State → α → State) (l : List α) (s : State) (b : Nat) (f : Fld) (h : ∀ s x, (g s x).rd b f = s.rd b f) : (l.foldl g s).rd b f = s.rd b f := by
  induction l generalizing s with
  | nil => rfl
  | cons x r ih => rw [List.foldl_cons, ih, h]
theorem foldl_proj {α β : Type} (p : State → β) (g : State → α → State) (l : List α) (s : State) (h : ∀ s x, p (g s x) = p s) : p (l.foldl g s) = p s := by
  induction l generalizing s with
  | nil => rfl
  | cons x r ih => rw [List.foldl_cons, ih, h]
def lk (ln b : Nat) (f : Fld) : Prop := (b + f.off) % 0x1000000 < 0x10000 ∧ 0x40000000 ≤ b + f.off ∧ b + f.off < 0x44000000 ∧ f.lsb < 32 ∧
  f.key b ≠ Lane.RS_STAT.BUSY.key (laneB ln) ∧ f.key b ≠ Lane.RS_STAT.ABORTED.key (laneB ln) ∧ f.key b ≠ Lane.LANE_STAT.NENABLED.key (laneB ln)
theorem ctxB_rng (ln sl : Nat) (hl : ln < 64) (hs : sl < 96) : ctxB (ln * 96 + sl) = 0x40100000 + (ln / 16) * 0x1000000 + (ln % 16) * 0x6000 + sl * 0x100 := by
  unfold ctxB
  have : (ln * 96 + sl) / 96 = ln := by omega
  have h2 : (ln * 96 + sl) % 96 = sl := by omega
  rw [this, h2]
theorem lk_ctx {ln b : Nat} {f : Fld} (h : lk ln b f) (l2 sl : Nat) (hl : l2 < 64) (hs : sl < 96) (g : Fld) (hg : g.off < 0x100) (hg2 : g.lsb < 32) : f.key b ≠ g.key (ctxB (l2 * 96 + sl)) := by
  rw [ctxB_rng l2 sl hl hs]
  unfold lk at h
  unfold Fld.key
  have := h.1; have := h.2.2.2.1
  intro h9
  have h10 : b + f.off = 0x1000000 * (0x40 + l2 / 16) + (0x100000 + (l2 % 16) * 0x6000 + sl * 0x100 + g.off) := by omega
  have h11 : (b + f.off) % 0x1000000 = 0x100000 + (l2 % 16) * 0x6000 + sl * 0x100 + g.off := by
    rw [h10, Nat.mul_add_mod]; exact Nat.mod_eq_of_lt (by omega)
  omega
theorem flushCtx_lk {ln b : Nat} {f : Fld} (h : lk ln b f) (s : State) (sl : Nat) (hl : ln < 64) (hs : sl < 96) : (s.flushCtx (ln * 96 + sl)).rd b f = s.rd b f := by
  have k := fun g hg hg2 => lk_ctx h ln sl hl hs g hg hg2
  have : ∀ u : State, (u.syncAcmd (ln * 96 + sl)).rd b f = u.rd b f := fun u => by
    unfold syncAcmd; dsimp only
    rw [wrB_eq, rd_wr_ne _ _ _ _ _ _ (k _ (by decide) (by decide)), rd_wr_ne _ _ _ _ _ _ (k _ (by decide) (by decide)), rd_wr_ne _ _ _ _ _ _ (k _ (by decide) (by decide))]
  unfold flushCtx; dsimp only
  split
  · rw [rd_wr_ne _ _ _ _ _ _ (k _ (by decide) (by decide)), this]; rfl
  · rw [this]; rfl
theorem leaveCtx_lk {ln b : Nat} {f : Fld} (h : lk ln b f) (s : State) (sl : Nat) (hl : ln < 64) (hs : sl < 96) : (s.leaveCtx (ln * 96 + sl)).rd b f = s.rd b f := by
  have k := fun g hg hg2 => lk_ctx h ln sl hl hs g hg hg2
  unfold leaveCtx; dsimp only
  rw [modLane_eq, rd_setLane, rd_wr_ne _ _ _ _ _ _ (k _ (by decide) (by decide))]; rfl
theorem setCstate_lk {ln b : Nat} {f : Fld} (h : lk ln b f) (s : State) (sl v : Nat) (hl : ln < 64) (hs : sl < 96) : (s.setCstate (ln * 96 + sl) v).rd b f = s.rd b f := by
  have e : (ln * 96 + sl) / 96 = ln := by omega
  refine setCstate_rd _ _ _ _ _ (lk_ctx h ln sl hl hs _ (by decide) (by decide)) ?_ ?_ ?_ <;> rw [e]
  · exact h.2.2.2.2.1
  · exact h.2.2.2.2.2.1
  · exact h.2.2.2.2.2.2
theorem foldl_mem {α : Type} (P : State → Prop) (g : State → α → State) (l : List α) (s : State) (h0 : P s) (h : ∀ s x, x ∈ l → P s → P (g s x)) : P (l.foldl g s) := by
  induction l generalizing s with
  | nil => exact h0
  | cons x r ih => rw [List.foldl_cons]; exact ih _ (h s x (List.mem_cons_self ..) h0) (fun s y hy => h s y (List.mem_cons_of_mem _ hy))
theorem setLstate_rd' (s : State) (ln v b : Nat) (f : Fld) (hv : v ≠ 2) (h1 : f.key b ≠ Lane.LANE_STAT.LSTATE.key (laneB ln))
    (h4 : f.key b ≠ Lane.WAKE_CTL.BUSY.key (laneB ln)) (h5 : f.key b ≠ Lane.LANE_STAT.TXEN.key (laneB ln)) :
    (s.setLstate ln v).rd b f = s.rd b f := by
  unfold setLstate; dsimp only
  rw [syncTx_rd _ _ _ _ h5, if_neg hv, rd_wr_ne _ _ _ _ _ _ h1]; split
  · exact rd_wr_ne _ _ _ _ _ _ h4
  · rfl
theorem setLane_lane_ne (s : State) (n ln : Nat) (x : Lane) (h : n ≠ ln) : (s.setLane n x).lane ln = s.lane ln := by
  unfold setLane lane; dsimp only; rw [Tab.get_put_ne _ _ _ _ _ (Ne.symm h)]
theorem setCtx_lane (s : State) (c ln : Nat) (x : Ctx) : (s.setCtx c x).lane ln = s.lane ln := rfl
theorem flushCtx_lane (s : State) (c ln : Nat) : (s.flushCtx c).lane ln = s.lane ln := by
  have : ∀ (u : State), (u.syncAcmd c).lane ln = u.lane ln := fun u => rfl
  unfold flushCtx; dsimp only; split <;> rfl
theorem leaveCtx_held (s : State) (ln sl : Nat) (hs : sl < 96) : ((s.leaveCtx (ln * 96 + sl)).lane ln).darkHeld = (s.lane ln).darkHeld := by
  have e : (ln * 96 + sl) / 96 = ln := by omega
  unfold leaveCtx; dsimp only; rw [modLane_eq, e, setLane_lane]; rfl
theorem setCstate_held (s : State) (ln sl v : Nat) (hs : sl < 96) : ((s.setCstate (ln * 96 + sl) v).lane ln).darkHeld = (s.lane ln).darkHeld := by
  have e : (ln * 96 + sl) / 96 = ln := by omega
  have es : ∀ u : State, ((u.endScan ln).lane ln).darkHeld = (u.lane ln).darkHeld := fun u => by
    unfold endScan; split
    · rw [wr_lane, wr_lane, modLane_eq, setLane_lane]
    · rfl
  unfold setCstate; extract_lets l0 old s0 n s1 sc s2 s3
  have hl0 : l0 = ln := e
  have e1 : s1.lane ln = s.lane ln := by unfold s1; split; rfl; split <;> rfl
  have e2 : (s2.lane ln).darkHeld = (s.lane ln).darkHeld := by
    unfold s2; split
    · rw [hl0, es, e1]
    · rw [e1]
  have e3 : (s3.lane ln).darkHeld = (s.lane ln).darkHeld := by
    unfold s3; split
    · exact e2
    · exact e2
  split
  · exact e3
  · exact e3
theorem lk_lane (ln : Nat) (hl : ln < 64) (f : Fld) (ho : f.off < 0x1000) (hf : f.lsb < 32) (h1 : f.key 0 ≠ Lane.RS_STAT.BUSY.key 0) (h2 : f.key 0 ≠ Lane.RS_STAT.ABORTED.key 0) (h3 : f.key 0 ≠ Lane.LANE_STAT.NENABLED.key 0) : lk ln (laneB ln) f := by
  unfold lk
  unfold Fld.key at *
  have hb : laneB ln = 0x1000000 * (0x40 + ln / 16) + (ln % 16) * 0x1000 := by unfold laneB; omega
  have hm : (laneB ln + f.off) % 0x1000000 = (ln % 16) * 0x1000 + f.off := by
    rw [hb, Nat.add_assoc, Nat.mul_add_mod]; exact Nat.mod_eq_of_lt (by omega)
  refine ⟨by omega, by omega, by omega, hf, ?_, ?_, ?_⟩ <;> omega
theorem rsDone_rd (s : State) (ln : Nat) (l : List Nat) (at_ : Nat → Nat) (b : Nat) (f : Fld) (h : ∀ w, f.key b ≠ (Lane.RS_MAP.COUNT.at w).key (laneB ln)) :
    (l.foldl (fun (s : State) w => s.wr (laneB ln) (Lane.RS_MAP.COUNT.at w) (at_ (2 * w) + 65536 * at_ (2 * w + 1))) s).rd b f = s.rd b f :=
  foldl_rd _ _ _ _ _ (fun u x => rd_wr_ne _ _ _ _ _ _ (h x))
theorem foldl_each {α : Type} (I Q : State → Prop) (g : State → α → State) (j : α) (l : List α) (s : State) (hj : j ∈ l) (h0 : I s) (hI : ∀ u x, x ∈ l → I u → I (g u x))
    (h1 : ∀ u, I u → Q (g u j)) (h2 : ∀ u x, x ∈ l → I u → Q u → Q (g u x)) : Q (l.foldl g s) := by
  induction l generalizing s with
  | nil => cases hj
  | cons x r ih =>
    rw [List.foldl_cons]
    by_cases hr : j ∈ r
    · exact ih _ hr (hI _ _ (List.mem_cons_self ..) h0) (fun u y hy => hI u y (List.mem_cons_of_mem _ hy)) (fun u y hy => h2 u y (List.mem_cons_of_mem _ hy))
    · have hx : j = x := by rcases List.mem_cons.1 hj with h | h; exact h; exact absurd h hr
      subst hx
      exact (foldl_mem (fun u => I u ∧ Q u) g r _ ⟨hI _ _ (List.mem_cons_self ..) h0, h1 _ h0⟩
        (fun u y hy hu => ⟨hI u y (List.mem_cons_of_mem _ hy) hu.1, h2 u y (List.mem_cons_of_mem _ hy) hu.1 hu.2⟩)).2
theorem cstateF (s : State) (c : Nat) : s.cstate c = s.rd (ctxB c) Ctx.CELL_STAT.CSTATE := rfl
theorem flushCtx_rd (s : State) (c b : Nat) (f : Fld) (h : f.key b / 32 ≠ ctxB c + 0x24) : (s.flushCtx c).rd b f = s.rd b f := by
  have k : ∀ g : Fld, g.off = 0x24 → g.lsb < 32 → f.key b ≠ g.key (ctxB c) := fun g h1 h2 h3 => h (by rw [h3]; unfold Fld.key; omega)
  have : ∀ u : State, (u.syncAcmd c).rd b f = u.rd b f := fun u => by
    unfold syncAcmd; dsimp only
    rw [wrB_eq, rd_wr_ne _ _ _ _ _ _ (k _ (by decide) (by decide)), rd_wr_ne _ _ _ _ _ _ (k _ (by decide) (by decide)), rd_wr_ne _ _ _ _ _ _ (k _ (by decide) (by decide))]
  unfold flushCtx; dsimp only
  split
  · rw [rd_wr_ne _ _ _ _ _ _ (k _ (by decide) (by decide)), this]; rfl
  · rw [this]; rfl
theorem leaveCtx_rd (s : State) (c b : Nat) (f : Fld) (h : f.key b ≠ Ctx.CELL_STAT.RGCNT.key (ctxB c)) : (s.leaveCtx c).rd b f = s.rd b f := by
  unfold leaveCtx; dsimp only; rw [modLane_eq, rd_setLane, rd_wr_ne _ _ _ _ _ _ h]; rfl
theorem endScan_cst (s : State) (ln c : Nat) (hl : ln < 64) (hc : c < 6144) : (s.endScan ln).cstate c = s.cstate c := by
  unfold cstate; exact endScan_rd _ _ _ _ (by (simp only [Fld.key, Fld.at, ne_eq, Ctx.CELL_STAT.CSTATE, Lane.RS_STAT.BUSY, ctxB, laneB]; omega)) (by (simp only [Fld.key, Fld.at, ne_eq, Ctx.CELL_STAT.CSTATE, Lane.RS_STAT.ABORTED, ctxB, laneB]; omega))
theorem setCstate_to (s : State) (c v : Nat) (hc : c < 6144) (hv : v < 8) : (s.setCstate c v).cstate c = v := by
  unfold setCstate; extract_lets ln old s0 n s1 sc s2 s3
  have e0 : s0.cstate c = v := by unfold s0 cstate; simp (disch := first | decide | (simp only [Fld.key, Fld.at, ne_eq, Ctx.CELL_STAT.CSTATE, ctxB]; omega) | omega | (intro _ h; cases h; decide)) only [rd_wr_same, rd_wr_ne, rd_fire, rd_retire, rd_answer, rd_setCore, rd_setSch, rd_setLane, rd_setCtx, rd_setCell, rd_setModul, rd_setArm, rd_setEst, rd_setAd, rd_setLaw, rd_setAcq, rd_modDma, rd_modArm, rd_modEst, rd_modAlm, rd_modPwr, rd_cwr, crd_wr, inc_eq, incBy_eq, incW_eq, wrB_eq, State.fireK, modCore_eq, modLane_eq, modCtx_eq, modAd_eq, modLaw_eq, raiseBit_rd]; exact Nat.mod_eq_of_lt hv
  have e1 : s1.cstate c = v := by
    unfold s1; split
    · rw [← e0]; unfold cstate; exact rd_wr_ne _ _ _ _ _ _ (by unfold ln; (simp only [Fld.key, Fld.at, ne_eq, Ctx.CELL_STAT.CSTATE, Lane.LANE_STAT.NENABLED, ctxB, laneB]; omega))
    · split
      · rw [← e0]; unfold cstate; exact rd_wr_ne _ _ _ _ _ _ (by unfold ln; (simp only [Fld.key, Fld.at, ne_eq, Ctx.CELL_STAT.CSTATE, Lane.LANE_STAT.NENABLED, ctxB, laneB]; omega))
      · exact e0
  have e2 : s2.cstate c = v := by
    unfold s2; split
    · rw [endScan_cst _ _ _ (by unfold ln; omega) hc, e1]
    · exact e1
  have e3 : s3.cstate c = v := by
    unfold s3; split
    · exact e2
    · exact e2
  split
  · exact e3
  · exact e3
theorem startRanging_cst (s : State) (c : Nat) (gs : List Nat) (r : Bool) (hc : c < 6144) : (s.startRanging c gs r).cstate c = 2 := by
  unfold startRanging; dsimp only
  split
  · exact setCstate_to _ _ _ hc (by decide)
  · exact setCstate_to _ _ _ hc (by decide)
theorem enabledSt_iff (v : Nat) : enabledSt v = true ↔ v = 2 ∨ v = 3 ∨ v = 4 := by unfold enabledSt; simp [or_assoc]
theorem setCtx_ctx (s : State) (c : Nat) (x : Ctx) : (s.setCtx c x).ctx c = x := by unfold setCtx ctx; rw [Tab.get_put_same]
theorem setCstate_ctx (s : State) (c v : Nat) (h : v ≠ 3) : (s.setCstate c v).ctx c = s.ctx c := by
  have es : ∀ (u : State) (ln : Nat), (u.endScan ln).ctx c = u.ctx c := fun u ln => by unfold endScan; split <;> rfl
  unfold setCstate; extract_lets ln old s0 n s1 sc s2 s3
  have e1 : s1.ctx c = s.ctx c := by unfold s1; split; rfl; split <;> rfl
  have e2 : s2.ctx c = s.ctx c := by unfold s2; split; rw [es, e1]; exact e1
  have e3 : s3.ctx c = s.ctx c := by unfold s3; rw [if_neg (by omega)]; exact e2
  split
  · exact e3
  · exact e3
theorem fire_cst (s : State) (n c : Nat) : (s.fire n).cstate c = s.cstate c := rd_fire _ _ _ _
theorem syncAcmd_rd (s : State) (c b : Nat) (f : Fld) (h : f.key b / 32 ≠ ctxB c + 0x24) : (s.syncAcmd c).rd b f = s.rd b f := by
  have k : ∀ g : Fld, g.off = 0x24 → g.lsb < 32 → f.key b ≠ g.key (ctxB c) := fun g h1 h2 h3 => h (by rw [h3]; unfold Fld.key; omega)
  unfold syncAcmd; dsimp only
  rw [wrB_eq, rd_wr_ne _ _ _ _ _ _ (k _ (by decide) (by decide)), rd_wr_ne _ _ _ _ _ _ (k _ (by decide) (by decide)), rd_wr_ne _ _ _ _ _ _ (k _ (by decide) (by decide))]
theorem syncAcmd_ctx (s : State) (c d : Nat) : (s.syncAcmd c).ctx d = s.ctx d := rfl
theorem ctx_key (c d : Nat) (f g : Fld) (hf : f.off < 0x100) (hf2 : f.lsb < 32) (hg2 : g.lsb < 32) (h : f.off ≠ g.off) (hc : c = d) : f.key (ctxB c) / 32 ≠ ctxB d + g.off := by
  subst hc; unfold Fld.key; omega
theorem fire_ctx (u : State) (n c : Nat) : (u.fire n).ctx c = u.ctx c := by unfold fire; split <;> rfl
end Sys2Proof.Laws
end

