-- ==== Sys2Proof/Laws/Cells.lean ====
section
/-!
SUPPORT. What the shared operations of the cells do: a block, a boundary, a report, a fault.
-/
namespace Sys2Proof.Laws
open Sys2Proof Sys2Proof.Machine Sys2Proof.Machine.State
theorem crd_setCell (s : State) (c : Nat) (x : Cell) (d : Nat) (f : Fld) : (s.setCell c x).crd d f = s.crd d f := rfl
theorem crd_modCell (s : State) (c : Nat) (g : Cell → Cell) (d : Nat) (f : Fld) : (s.modCell c g).crd d f = s.crd d f := rfl
theorem cinc_eq (s : State) (c : Nat) (f : Fld) : s.cinc c f = s.cwr c f (min (s.crd c f + 1) f.top) := rfl
theorem crd_free (s : State) (d : Nat) (f : Fld) : (s.freeWord.2).crd d f = s.crd d f := rfl
theorem setCell_cell (s : State) (c : Nat) (x : Cell) : (s.setCell c x).cell c = x := by unfold setCell cell; rw [Tab.get_put_same]
theorem modCell_cell (s : State) (c : Nat) (g : Cell → Cell) : (s.modCell c g).cell c = g (s.cell c) := setCell_cell _ _ _
theorem cwr_cell (s : State) (c : Nat) (f : Fld) (v d : Nat) : (s.cwr c f v).cell d = s.cell d := rfl
theorem con_iff (s : State) (c : Nat) (f : Fld) : s.con c f = true ↔ s.crd c f ≠ 0 := by unfold con; simp
theorem settle_crd (s : State) (c d : Nat) (f : Fld) : (s.settle c).crd d f = s.crd d f := by
  unfold settle; dsimp only; split
  · split <;> rfl
  · rfl
theorem settle_carrier (s : State) (c : Nat) : ((s.settle c).cell c).carrier = (s.cell c).carrier := by
  unfold settle; dsimp only; split
  · split
    · rw [setCell_cell]; rfl
    · rfl
  · rfl
theorem settle_same (s : State) (c : Nat) : ((s.settle c).cell c).blk = (s.cell c).blk ∧ ((s.settle c).cell c).power = (s.cell c).power ∧ ((s.settle c).cell c).txOff = (s.cell c).txOff ∧
    ((s.settle c).cell c).waiting = (s.cell c).waiting ∧ ((s.settle c).cell c).gsup = (s.cell c).gsup ∧ ((s.settle c).cell c).byp = (s.cell c).byp ∧ ((s.settle c).cell c).badcmd = (s.cell c).badcmd ∧
    ((s.settle c).cell c).sub = (s.cell c).sub ∧ ((s.settle c).cell c).ofs = (s.cell c).ofs ∧ ((s.settle c).cell c).pwmc = (s.cell c).pwmc := by
  unfold settle; dsimp only; split
  · split
    · rw [setCell_cell]; exact ⟨rfl, rfl, rfl, rfl, rfl, rfl, rfl, rfl, rfl, rfl⟩
    · exact ⟨rfl, rfl, rfl, rfl, rfl, rfl, rfl, rfl, rfl, rfl⟩
  · exact ⟨rfl, rfl, rfl, rfl, rfl, rfl, rfl, rfl, rfl, rfl⟩
theorem syncOut_crd (s : State) (c d : Nat) (f : Fld) (h1 : f.key (cellB d) ≠ Cell.CSTAT.OSTATE.key (cellB c)) (h2 : f.key (cellB d) ≠ Cell.CSTAT.PWMRUN.key (cellB c)) (h3 : f.key (cellB d) ≠ Cell.CSTAT.FORCED.key (cellB c)) :
    (s.syncOut c).crd d f = s.crd d f := by
  unfold syncOut; dsimp only
  rw [cwrB_eq, cwrB_eq, crd_cwr_ne _ _ _ _ _ _ h3, crd_cwr_ne _ _ _ _ _ _ h2, crd_cwr_ne _ _ _ _ _ _ h1]; rfl
theorem syncOut_cell (s : State) (c : Nat) : (s.syncOut c).cell c = showAt (s.cell c) (s.dt c) s.clk.ct (s.wantAt c s.clk.ct) := by
  unfold syncOut; dsimp only
  rw [cwrB_eq, cwrB_eq, cwr_cell, cwr_cell, cwr_cell, setCell_cell]
theorem syncOut_same (s : State) (c : Nat) : ((s.syncOut c).cell c).blk = (s.cell c).blk ∧ ((s.syncOut c).cell c).power = (s.cell c).power ∧ ((s.syncOut c).cell c).txOff = (s.cell c).txOff ∧
    ((s.syncOut c).cell c).waiting = (s.cell c).waiting ∧ ((s.syncOut c).cell c).gsup = (s.cell c).gsup ∧ ((s.syncOut c).cell c).byp = (s.cell c).byp ∧ ((s.syncOut c).cell c).badcmd = (s.cell c).badcmd ∧
    ((s.syncOut c).cell c).sub = (s.cell c).sub ∧ ((s.syncOut c).cell c).ofs = (s.cell c).ofs ∧ ((s.syncOut c).cell c).pwmc = (s.cell c).pwmc := by
  rw [syncOut_cell]; exact ⟨rfl, rfl, rfl, rfl, rfl, rfl, rfl, rfl, rfl, rfl⟩
theorem blocked_pat (s : State) (c : Nat) (h : s.blocked c = true) : ((s.syncOut c).cell c).pat = 0 := by
  rw [syncOut_cell]; show s.wantAt c _ = 0
  unfold wantAt; dsimp only; rw [if_pos h]
theorem cellBlock_crd (s : State) (c v d : Nat) (f : Fld) (h1 : f.key (cellB d) ≠ Cell.CSTAT.OSTATE.key (cellB c)) (h2 : f.key (cellB d) ≠ Cell.CSTAT.PWMRUN.key (cellB c)) (h3 : f.key (cellB d) ≠ Cell.CSTAT.FORCED.key (cellB c))
    (h4 : f.key (cellB d) ≠ Cell.CSTAT.STATE.key (cellB c)) (h5 : f.key (cellB d) ≠ Cell.CSTAT.BLKCAUSE.key (cellB c)) : (s.cellBlock c v).crd d f = s.crd d f := by
  unfold cellBlock; dsimp only
  rw [syncOut_crd _ _ _ _ h1 h2 h3, crd_cwr_ne _ _ _ _ _ _ h5, crd_cwr_ne _ _ _ _ _ _ h4, crd_modCell, settle_crd]
theorem cellBlock_state (s : State) (c v : Nat) (hv : v < 8) : (s.cellBlock c v).crd c Cell.CSTAT.STATE = 3 ∧ (s.cellBlock c v).crd c Cell.CSTAT.BLKCAUSE = v ∧ ((s.cellBlock c v).cell c).carrier = none := by
  unfold cellBlock; dsimp only
  refine ⟨?_, ?_, ?_⟩
  · rw [syncOut_crd _ _ _ _ (by (simp only [Fld.key, Fld.at, ne_eq, Cell.CSTAT.OSTATE, Cell.CSTAT.STATE, cellB]; omega)) (by (simp only [Fld.key, Fld.at, ne_eq, Cell.CSTAT.PWMRUN, Cell.CSTAT.STATE, cellB]; omega)) (by (simp only [Fld.key, Fld.at, ne_eq, Cell.CSTAT.FORCED, Cell.CSTAT.STATE, cellB]; omega))]; simp (disch := first | decide | (simp only [Fld.key, Fld.at, ne_eq, Cell.CSTAT.BLKCAUSE, Cell.CSTAT.STATE]; omega) | omega | (intro _ h; cases h; decide)) only [crd_cwr_same, crd_cwr_ne, crd_setCell, crd_modCell, cinc_eq, cwrB_eq]; rfl
  · rw [syncOut_crd _ _ _ _ (by (simp only [Fld.key, Fld.at, ne_eq, Cell.CSTAT.BLKCAUSE, Cell.CSTAT.OSTATE, cellB]; omega)) (by (simp only [Fld.key, Fld.at, ne_eq, Cell.CSTAT.BLKCAUSE, Cell.CSTAT.PWMRUN, cellB]; omega)) (by (simp only [Fld.key, Fld.at, ne_eq, Cell.CSTAT.BLKCAUSE, Cell.CSTAT.FORCED, cellB]; omega))]; simp (disch := first | decide | (simp only [Fld.key, Fld.at, ne_eq, Cell.CSTAT.BLKCAUSE, Cell.CSTAT.STATE]; omega) | omega | (intro _ h; cases h; decide)) only [crd_cwr_same, crd_cwr_ne, crd_setCell, crd_modCell, cinc_eq, cwrB_eq]; exact Nat.mod_eq_of_lt hv
  · rw [syncOut_cell]; show (State.cell _ c).carrier = none
    rw [cwr_cell, cwr_cell, modCell_cell]
theorem cellBlock_same (s : State) (c v : Nat) : ((s.cellBlock c v).cell c).blk = (s.cell c).blk ∧ ((s.cellBlock c v).cell c).power = (s.cell c).power ∧ ((s.cellBlock c v).cell c).txOff = (s.cell c).txOff ∧
    ((s.cellBlock c v).cell c).waiting = (s.cell c).waiting ∧ ((s.cellBlock c v).cell c).gsup = (s.cell c).gsup ∧ ((s.cellBlock c v).cell c).byp = (s.cell c).byp ∧ ((s.cellBlock c v).cell c).badcmd = (s.cell c).badcmd ∧
    ((s.cellBlock c v).cell c).sub = (s.cell c).sub ∧ ((s.cellBlock c v).cell c).ofs = (s.cell c).ofs ∧ ((s.cellBlock c v).cell c).pwmc = (s.cell c).pwmc := by
  have h := syncOut_same ((((s.settle c).modCell c (fun x => { x with carrier := none })).cwr c Cell.CSTAT.STATE 3).cwr c Cell.CSTAT.BLKCAUSE v) c
  have h2 := settle_same s c
  unfold cellBlock; dsimp only
  rw [cwr_cell, cwr_cell, modCell_cell] at h
  dsimp only at h
  exact ⟨h.1.trans h2.1, h.2.1.trans h2.2.1, h.2.2.1.trans h2.2.2.1, h.2.2.2.1.trans h2.2.2.2.1, h.2.2.2.2.1.trans h2.2.2.2.2.1, h.2.2.2.2.2.1.trans h2.2.2.2.2.2.1, h.2.2.2.2.2.2.1.trans h2.2.2.2.2.2.2.1, h.2.2.2.2.2.2.2.1.trans h2.2.2.2.2.2.2.2.1, h.2.2.2.2.2.2.2.2.1.trans h2.2.2.2.2.2.2.2.2.1, h.2.2.2.2.2.2.2.2.2.trans h2.2.2.2.2.2.2.2.2.2⟩
theorem cellBlock_pat (s : State) (c v : Nat) (h : s.blocked c = true) : ((s.cellBlock c v).cell c).pat = 0 := by
  unfold cellBlock; dsimp only
  refine blocked_pat _ _ ?_
  unfold blocked at h ⊢
  have h2 := (settle_same s c).1
  have e : ((((s.settle c).modCell c (fun x => { x with carrier := none })).cwr c Cell.CSTAT.STATE 3).cwr c Cell.CSTAT.BLKCAUSE v).cell c = { (s.settle c).cell c with carrier := none } := by
    rw [cwr_cell, cwr_cell, modCell_cell]
  have e2 : ((((s.settle c).modCell c (fun x => { x with carrier := none })).cwr c Cell.CSTAT.STATE 3).cwr c Cell.CSTAT.BLKCAUSE v).con c Cell.CSTAT.BYPF = s.con c Cell.CSTAT.BYPF := by
    unfold con; simp (disch := first | decide | (simp only [Fld.key, Fld.at, ne_eq, Cell.CSTAT.BLKCAUSE, Cell.CSTAT.BYPF, Cell.CSTAT.STATE]; omega) | omega | (intro _ h; cases h; decide)) only [crd_cwr_same, crd_cwr_ne, crd_setCell, crd_modCell, cinc_eq, cwrB_eq]; rw [settle_crd]
  dsimp only at h ⊢
  rw [e, e2]; dsimp only; rw [h2]; exact h
theorem cellFlt_set (s : State) (c i : Nat) (hi : i < 13) : ((s.cellFlt c i).crd c Cell.FLT_STAT.CAUSE).testBit i = true := by
  unfold cellFlt; rw [crd_cwr_same _ _ _ _ (by decide)]; exact setBit_test _ _ _ hi
theorem cellFlt_crd (s : State) (c i d : Nat) (f : Fld) (h : f.key (cellB d) ≠ Cell.FLT_STAT.CAUSE.key (cellB c)) : (s.cellFlt c i).crd d f = s.crd d f := crd_cwr_ne _ _ _ _ _ _ h
theorem ackSeq_crd (s : State) (c : Nat) (e : CmdEntry) (f : Fld) (h1 : f.key (cellB c) ≠ Cell.LASTSEQ.SEQ.key (cellB c)) (h2 : f.key (cellB c) ≠ Cell.LASTSEQ.SEQV.key (cellB c)) : (s.ackSeq c e).crd c f = s.crd c f := by
  unfold ackSeq; split
  · rw [crd_cwr_ne _ _ _ _ _ _ h2, crd_cwr_ne _ _ _ _ _ _ h1]
  · rfl
theorem ackSeq_cell (s : State) (c : Nat) (e : CmdEntry) : (s.ackSeq c e).cell c = s.cell c := by unfold ackSeq; split <;> rfl
theorem ackSeq_clk (s : State) (c : Nat) (e : CmdEntry) : (s.ackSeq c e).clk = s.clk := by unfold ackSeq; split <;> rfl
def tailed (s : State) (c : Nat) : State := s.setCell c { s.cell c with waiting := (s.cell c).waiting.tail }
theorem tailed_cregs (s : State) (c : Nat) (e : CmdEntry) : ((tailed s c).ackSeq c e).cregs = (s.ackSeq c e).cregs := by
  unfold ackSeq; split <;> rfl
theorem cmd_skip (s : State) (c : Nat) (e : CmdEntry) (op : Nat) (ok : State → Bool) (f g : State → State) (h : s.nextWord c ≠ some e) : s.command c e op ok f g = s := by
  unfold command; rw [if_neg (by simp [h])]
theorem cmd_run (s : State) (c : Nat) (e : CmdEntry) (op : Nat) (ok : State → Bool) (f g : State → State) (h : s.nextWord c = some e) (ho : cmdOp e.word = op)
    (hl : s.cellLinked c = true) (hd : s.duplicate c e = false) (hb : s.crd c Cell.BIST_STAT.BUSY = 0) :
    s.command c e op ok f g = if opValid op e.place && ok ((tailed s c).ackSeq c e) then f ((tailed s c).ackSeq c e) else (g ((tailed s c).ackSeq c e)).refuse c := by
  unfold command; rw [if_pos (by simp [h, ho])]
  dsimp only
  have e1 : s.modCell c (fun x => { x with waiting := x.waiting.tail }) = tailed s c := rfl
  rw [e1]
  have hl2 : (tailed s c).cellLinked c = true := by unfold cellLinked tailed at *; rw [setCell_cell]; exact hl
  have hd2 : (tailed s c).duplicate c e = false := hd
  rw [hl2, hd2]
  simp only [Bool.not_true, Bool.false_eq_true, if_false]
  have hb2 : ((tailed s c).ackSeq c e).con c Cell.BIST_STAT.BUSY = false := by
    unfold con; rw [ackSeq_crd _ _ _ _ (by (simp only [Fld.key, Fld.at, ne_eq, Cell.BIST_STAT.BUSY, Cell.LASTSEQ.SEQ, cellB]; omega)) (by (simp only [Fld.key, Fld.at, ne_eq, Cell.BIST_STAT.BUSY, Cell.LASTSEQ.SEQV, cellB]; omega))]
    show (s.crd c Cell.BIST_STAT.BUSY != 0) = false
    rw [hb]; rfl
  rw [hb2]
  simp only [Bool.not_false, Bool.and_true]
theorem cmd_dup (s : State) (c : Nat) (e : CmdEntry) (op : Nat) (ok : State → Bool) (f g : State → State) (h : s.nextWord c = some e) (ho : cmdOp e.word = op)
    (hl : s.cellLinked c = true) (hd : s.duplicate c e = true) : s.command c e op ok f g = tailed s c := by
  unfold command; rw [if_pos (by simp [h, ho])]
  dsimp only
  have e1 : s.modCell c (fun x => { x with waiting := x.waiting.tail }) = tailed s c := rfl
  rw [e1]
  have hl2 : (tailed s c).cellLinked c = true := by unfold cellLinked tailed at *; rw [setCell_cell]; exact hl
  have hd2 : (tailed s c).duplicate c e = true := hd
  rw [hl2, hd2]
  simp only [Bool.not_true, Bool.false_eq_true, if_false, if_true]
theorem a_crd (s : State) (c : Nat) (e : CmdEntry) (f : Fld) (h1 : f.key (cellB c) ≠ Cell.LASTSEQ.SEQ.key (cellB c)) (h2 : f.key (cellB c) ≠ Cell.LASTSEQ.SEQV.key (cellB c)) :
    ((tailed s c).ackSeq c e).crd c f = s.crd c f := (ackSeq_crd _ _ _ _ h1 h2).trans rfl
theorem a_con (s : State) (c : Nat) (e : CmdEntry) (f : Fld) (h1 : f.key (cellB c) ≠ Cell.LASTSEQ.SEQ.key (cellB c)) (h2 : f.key (cellB c) ≠ Cell.LASTSEQ.SEQV.key (cellB c)) :
    ((tailed s c).ackSeq c e).con c f = s.con c f := by unfold con; rw [a_crd _ _ _ _ h1 h2]
theorem a_cell (s : State) (c : Nat) (e : CmdEntry) : ((tailed s c).ackSeq c e).cell c = { s.cell c with waiting := (s.cell c).waiting.tail } := by rw [ackSeq_cell]; exact setCell_cell _ _ _
theorem a_blocked (s : State) (c : Nat) (e : CmdEntry) : ((tailed s c).ackSeq c e).blocked c = s.blocked c := by
  unfold blocked; rw [a_cell, a_con _ _ _ _ (by (simp only [Fld.key, Fld.at, ne_eq, Cell.CSTAT.BYPF, Cell.LASTSEQ.SEQ, cellB]; omega)) (by (simp only [Fld.key, Fld.at, ne_eq, Cell.CSTAT.BYPF, Cell.LASTSEQ.SEQV, cellB]; omega))]
theorem a_may (s : State) (c : Nat) (e : CmdEntry) (st : Nat) : ((tailed s c).ackSeq c e).mayState c st = s.mayState c st := by
  unfold mayState; rw [a_blocked, a_crd _ _ _ _ (by (simp only [Fld.key, Fld.at, ne_eq, Cell.LASTSEQ.SEQ, Cell.TRIPSTAT.TLATCH, cellB]; omega)) (by (simp only [Fld.key, Fld.at, ne_eq, Cell.LASTSEQ.SEQV, Cell.TRIPSTAT.TLATCH, cellB]; omega)), a_con _ _ _ _ (by (simp only [Fld.key, Fld.at, ne_eq, Cell.CFG.CFGOK, Cell.LASTSEQ.SEQ, cellB]; omega)) (by (simp only [Fld.key, Fld.at, ne_eq, Cell.CFG.CFGOK, Cell.LASTSEQ.SEQV, cellB]; omega)), a_con _ _ _ _ (by (simp only [Fld.key, Fld.at, ne_eq, Cell.CFG.BRIDGE, Cell.LASTSEQ.SEQ, cellB]; omega)) (by (simp only [Fld.key, Fld.at, ne_eq, Cell.CFG.BRIDGE, Cell.LASTSEQ.SEQV, cellB]; omega))]
theorem a_dt (s : State) (c : Nat) (e : CmdEntry) : ((tailed s c).ackSeq c e).dt c = s.dt c := by unfold dt; rw [a_crd _ _ _ _ (by (simp only [Fld.key, Fld.at, ne_eq, Cell.LASTSEQ.SEQ, Cell.PWM_DT.DT, cellB]; omega)) (by (simp only [Fld.key, Fld.at, ne_eq, Cell.LASTSEQ.SEQV, Cell.PWM_DT.DT, cellB]; omega))]
theorem a_bad (s : State) (c : Nat) (e : CmdEntry) (lv : Nat) : ((tailed s c).ackSeq c e).badLevel c lv = s.badLevel c lv := by unfold badLevel; rw [a_con _ _ _ _ (by (simp only [Fld.key, Fld.at, ne_eq, Cell.CFG.BRIDGE, Cell.LASTSEQ.SEQ, cellB]; omega)) (by (simp only [Fld.key, Fld.at, ne_eq, Cell.CFG.BRIDGE, Cell.LASTSEQ.SEQV, cellB]; omega))]
theorem refused (s : State) (c : Nat) (e : CmdEntry) : ((((tailed s c).ackSeq c e).refuse c).cell c).badcmd = true ∧ (((tailed s c).ackSeq c e).refuse c).cregs = (s.ackSeq c e).cregs := by
  refine ⟨?_, tailed_cregs s c e⟩
  unfold refuse; rw [modCell_cell]
theorem op_acmd (op : Nat) (h : op = 3 ∨ op = 4 ∨ op = 5 ∨ op = 6 ∨ op = 7 ∨ op = 10 ∨ op = 11 ∨ op = 13 ∨ op = 14) : opValid op .acmd = true := by
  rcases h with rfl | rfl | rfl | rfl | rfl | rfl | rfl | rfl | rfl <;> rfl
theorem startPeriod_crd (s : State) (c : Nat) (f : Fld) (h1 : f.key (cellB c) ≠ Cell.CSTAT.OSTATE.key (cellB c)) (h2 : f.key (cellB c) ≠ Cell.CSTAT.PWMRUN.key (cellB c)) (h3 : f.key (cellB c) ≠ Cell.CSTAT.FORCED.key (cellB c)) :
    (s.startPeriod c).crd c f = s.crd c f := by
  unfold startPeriod; dsimp only
  rw [syncOut_crd _ _ _ _ h1 h2 h3]
  unfold pulse; rw [crd_modCell, crd_modCell]
  unfold forceTransfer; dsimp only
  split
  · rw [crd_setCell, settle_crd]
  · rw [settle_crd]
theorem cmdArg_lt (w : Word) : cmdArg w < 2 ^ 26 := by unfold cmdArg; exact Nat.mod_lt _ (by decide)
theorem fastStop_power (s : State) (c : Nat) (p : CellPower) : ((s.fastStop c p).cell c).power = p ∧ ((s.fastStop c p).cell c).vauxOn = (s.cell c).vauxOn ∧ ((s.fastStop c p).cell c).waiting = [] := by
  unfold fastStop; dsimp only; rw [setCell_cell]; exact ⟨rfl, rfl, rfl⟩
theorem ite_st {P : Prop} [Decidable P] {Q : Prop} [Decidable Q] {A B : Prop} (h : P ↔ Q) (ha : P → A) (hb : ¬P → B) : if Q then A else B := by
  by_cases p : P
  · rw [if_pos (h.1 p)]; exact ha p
  · rw [if_neg (fun q => p (h.2 q))]; exact hb p
theorem cmd_cases (s : State) (c : Nat) (e : CmdEntry) (op : Nat) (ok : State → Bool) (f : State → State) (h : s.nextWord c = some e) (ho : cmdOp e.word = op)
    (hl : s.cellLinked c = true) (hd : s.duplicate c e = false) (hb : s.crd c Cell.BIST_STAT.BUSY = 0) (hp : opValid op e.place = true) (Q : Prop) [Decidable Q] (A : State → Prop)
    (hq : ok ((tailed s c).ackSeq c e) = true ↔ Q) (hA : Q → A (f ((tailed s c).ackSeq c e))) :
    (fun t : State => if Q then A t else (t.cell c).badcmd = true ∧ t.cregs = (s.ackSeq c e).cregs) (s.command c e op ok f id) := by
  rw [cmd_run s c e op ok f id h ho hl hd hb, hp, Bool.true_and]
  dsimp only
  by_cases q : Q
  · rw [if_pos q, if_pos (hq.2 q)]; exact hA q
  · rw [if_neg q, if_neg (fun h2 => q (hq.1 h2))]; exact refused s c e
theorem ok_linked {s : State} {c : Nat} {b : Block} (h : s.blockOk c b = true) : s.cellLinked c = true := by
  unfold blockOk at h; simp only [Bool.and_eq_true] at h; exact h.1.1
theorem maint_ok {s : State} {c op : Nat} {b : Block} (h : s.maintFor c op b = true) : s.blockOk c b = true := by
  unfold maintFor at h; simp only [Bool.and_eq_true] at h; exact h.1.1.1
theorem maint_no {s : State} {c op : Nat} {b : Block} (h : s.blockOk c b = false) : s.maintFor c op b = false := by
  unfold maintFor; rw [h]; rfl
theorem take_ok (s : State) (c : Nat) (b : Block) (ty : Nat) (bad f : State → State) (h : s.blockOk c b = true) (ht : b.btype.toNat = ty) : s.takeBlock c b ty bad f = f s := by
  unfold takeBlock; rw [ok_linked h, h]; simp [ht]
theorem take_bad (s : State) (c : Nat) (b : Block) (ty : Nat) (bad f : State → State) (hl : s.cellLinked c = true) (h : s.blockOk c b = false) : s.takeBlock c b ty bad f = bad (s.blockFail c) := by
  unfold takeBlock; rw [hl, h]; simp
theorem take_off (s : State) (c : Nat) (b : Block) (ty : Nat) (bad f : State → State) (hl : s.cellLinked c = false) : s.takeBlock c b ty bad f = s := by
  unfold takeBlock; rw [hl]; simp
theorem fail_dcrc (s : State) (c : Nat) : ((s.blockFail c).cell c).dcrc = min 7 ((s.cell c).dcrc + 1) := by unfold blockFail; rw [modCell_cell]
theorem bits_lt (v h l : Nat) : bits v h l < 2 ^ (h - l + 1) := by unfold bits; exact Nat.mod_lt _ (Nat.two_pow_pos _)
theorem hdr_key (s1 : State) (c : Nat) (x1 : Cell) (hc1 : s1.cell c = x1) (p q : Bool) (sub ofs : Nat) (h1 : x1.power = .linked) (h2 : x1.sub = sub) (h3 : x1.ofs = ofs) (h4 : q = true → x1.blk.hdr = true) :
    (fun t : State => (t.cell c).power = .linked ∧ (t.cell c).sub = sub ∧ (t.cell c).ofs = ofs ∧ (p = true → t.crd c Cell.CSTAT.OCC = 1) ∧
      (q = true → t.crd c Cell.CSTAT.STATE = 3 ∧ t.crd c Cell.CSTAT.BLKCAUSE = 1 ∧ (t.cell c).pat = 0))
    (if q = true then (if p = true then s1.setOcc c else s1).cellBlock c 1 else (if p = true then s1.setOcc c else s1).syncOut c) := by
  have hocc : ∀ u : State, (if p = true then u.setOcc c else u).cell c = u.cell c := fun u => by split <;> rfl
  dsimp only
  by_cases h24 : q = true
  · rw [if_pos h24]
    have hsame := cellBlock_same (if p = true then s1.setOcc c else s1) c 1
    rw [hocc, hc1] at hsame
    have hst := cellBlock_state (if p = true then s1.setOcc c else s1) c 1 (by decide)
    refine ⟨hsame.2.1.trans h1, hsame.2.2.2.2.2.2.2.1.trans h2, hsame.2.2.2.2.2.2.2.2.1.trans h3, fun h23 => ?_, fun _ => ⟨hst.1, hst.2.1, ?_⟩⟩
    · rw [cellBlock_crd _ _ _ _ _ (by (simp only [Fld.key, Fld.at, ne_eq, Cell.CSTAT.OCC, Cell.CSTAT.OSTATE, cellB]; omega)) (by (simp only [Fld.key, Fld.at, ne_eq, Cell.CSTAT.OCC, Cell.CSTAT.PWMRUN, cellB]; omega)) (by (simp only [Fld.key, Fld.at, ne_eq, Cell.CSTAT.FORCED, Cell.CSTAT.OCC, cellB]; omega)) (by (simp only [Fld.key, Fld.at, ne_eq, Cell.CSTAT.OCC, Cell.CSTAT.STATE, cellB]; omega)) (by (simp only [Fld.key, Fld.at, ne_eq, Cell.CSTAT.BLKCAUSE, Cell.CSTAT.OCC, cellB]; omega)), if_pos h23]; unfold setOcc; simp (disch := first | decide | (simp only [Fld.key, Fld.at, ne_eq, Cell.CSTAT.OCC]; omega) | omega | (intro _ h; cases h; decide)) only [crd_cwr_same, crd_cwr_ne, crd_setCell, crd_modCell, cinc_eq, cwrB_eq]; rfl
    · refine cellBlock_pat _ _ _ ?_
      unfold blocked; rw [hocc, hc1]; dsimp only; rw [h4 h24]; rfl
  · rw [if_neg h24]
    have hsame := syncOut_same (if p = true then s1.setOcc c else s1) c
    rw [hocc, hc1] at hsame
    refine ⟨hsame.2.1.trans h1, hsame.2.2.2.2.2.2.2.1.trans h2, hsame.2.2.2.2.2.2.2.2.1.trans h3, fun h23 => ?_, fun h => absurd h h24⟩
    rw [syncOut_crd _ _ _ _ (by (simp only [Fld.key, Fld.at, ne_eq, Cell.CSTAT.OCC, Cell.CSTAT.OSTATE, cellB]; omega)) (by (simp only [Fld.key, Fld.at, ne_eq, Cell.CSTAT.OCC, Cell.CSTAT.PWMRUN, cellB]; omega)) (by (simp only [Fld.key, Fld.at, ne_eq, Cell.CSTAT.FORCED, Cell.CSTAT.OCC, cellB]; omega)), if_pos h23]; unfold setOcc; simp (disch := first | decide | (simp only [Fld.key, Fld.at, ne_eq, Cell.CSTAT.OCC]; omega) | omega | (intro _ h; cases h; decide)) only [crd_cwr_same, crd_cwr_ne, crd_setCell, crd_modCell, cinc_eq, cwrB_eq]; rfl
theorem uni_lt (v : Int) : uniCode v < 2 ^ 12 := by unfold uniCode clampI; omega
theorem sgn_lt (v f : Int) : sgnCode v f < 2 ^ 12 := by unfold sgnCode ofSigned; omega
theorem clr_test (v i : Nat) : (clrBit v i).testBit i = false := by
  unfold clrBit
  split
  · rename_i h
    rw [Nat.testBit_eq_decide_div_mod_eq] at h ⊢
    simp only [decide_eq_true_eq] at h
    have hp := Nat.two_pow_pos i
    have e := Nat.div_add_mod v (2 ^ i)
    have hr := Nat.mod_lt v hp
    have hq : v / 2 ^ i = (v / 2 ^ i - 1) + 1 := by generalize v / 2 ^ i = z at *; omega
    have : v - 2 ^ i = 2 ^ i * (v / 2 ^ i - 1) + v % 2 ^ i := by
      rw [hq, Nat.mul_add, Nat.mul_one] at e
      have : v / 2 ^ i - 1 + 1 - 1 = v / 2 ^ i - 1 := by omega
      omega
    rw [this, Nat.mul_add_div hp, Nat.div_eq_of_lt hr]
    generalize v / 2 ^ i = z at *
    simp only [decide_eq_false_iff_not]; omega
  · rename_i h; simpa using h
theorem drop_cell (s : State) (c d : Nat) (l : List Nat) : (s.dropVolatile c l).cell d = s.cell d := rfl
theorem blockFacts (s : State) (c i v : Nat) (hv : v < 8) (hi : i < 13) :
    ((((s.cellFlt c i).cellBlock c v).crd c Cell.FLT_STAT.CAUSE).testBit i = true) ∧ ((s.cellFlt c i).cellBlock c v).crd c Cell.CSTAT.STATE = 3 ∧
    ((s.cellFlt c i).cellBlock c v).crd c Cell.CSTAT.BLKCAUSE = v ∧ (((s.cellFlt c i).cellBlock c v).cell c).carrier = none := by
  have h := cellBlock_state (s.cellFlt c i) c v hv
  refine ⟨?_, h.1, h.2.1, h.2.2⟩
  rw [cellBlock_crd _ _ _ _ _ (by (simp only [Fld.key, Fld.at, ne_eq, Cell.CSTAT.OSTATE, Cell.FLT_STAT.CAUSE, cellB]; omega)) (by (simp only [Fld.key, Fld.at, ne_eq, Cell.CSTAT.PWMRUN, Cell.FLT_STAT.CAUSE, cellB]; omega)) (by (simp only [Fld.key, Fld.at, ne_eq, Cell.CSTAT.FORCED, Cell.FLT_STAT.CAUSE, cellB]; omega)) (by (simp only [Fld.key, Fld.at, ne_eq, Cell.CSTAT.STATE, Cell.FLT_STAT.CAUSE, cellB]; omega)) (by (simp only [Fld.key, Fld.at, ne_eq, Cell.CSTAT.BLKCAUSE, Cell.FLT_STAT.CAUSE, cellB]; omega))]; exact cellFlt_set _ _ _ hi
theorem tryStart_power (s : State) (c : Nat) : ((s.tryStart c).cell c).power = (s.cell c).power ∨ ((s.tryStart c).cell c).power = .starting := by
  unfold tryStart; dsimp only; split
  · right; rw [setCell_cell]
  · left; rfl
theorem tryStart_go (s : State) (c : Nat) (h1 : (s.cell c).power = .newt) (h2 : (s.cell c).vauxOn = true) (h3 : s.con c Cell.CSTAT.AWREQ = true) : ((s.tryStart c).cell c).power = .starting := by
  unfold tryStart; dsimp only; rw [if_pos (by simp [h1, h2, h3]), setCell_cell]
theorem gsup_facts (s : State) (c : Nat) : ((s.gsupCheck c).cell c).power = (s.cell c).power ∧ ((s.gsupCheck c).cell c).gsup = (s.cell c).gsup ∧ ((s.cell c).carrier = none → ((s.gsupCheck c).cell c).carrier = none) := by
  unfold gsupCheck; dsimp only
  split
  · split
    · exact ⟨rfl, rfl, id⟩
    · have h := cellBlock_same ((s.modCell c (fun x => { x with blk := { x.blk with gsup := true } })).cellFlt c 4) c 6
      refine ⟨h.2.1.trans ?_, h.2.2.2.2.1.trans ?_, fun _ => (cellBlock_state _ c 6 (by decide)).2.2⟩ <;> (unfold cellFlt; rw [cwr_cell, modCell_cell])
  · have h := syncOut_same (s.modCell c (fun x => { x with blk := { x.blk with gsup := false } })) c
    refine ⟨h.2.1.trans (by rw [modCell_cell]), h.2.2.2.2.1.trans (by rw [modCell_cell]), fun hc => ?_⟩
    rw [syncOut_cell]; show (State.cell _ c).carrier = none
    rw [modCell_cell]; exact hc
theorem trip_fold (c : Nat) (l : List Nat) (s : State) : ((l.foldl (fun s i => (s.cwr c Cell.TRIPSTAT.TLATCH (setBit (s.crd c Cell.TRIPSTAT.TLATCH) i)).cinc c (Cell.TRIPCNT.COUNT.at i)) s).cell c) = s.cell c := by
  induction l generalizing s with
  | nil => rfl
  | cons x r ih => rw [List.foldl_cons, ih]; rfl
theorem tripScan_same (s : State) (c : Nat) : ((s.tripScan c).cell c).power = (s.cell c).power ∧ ((s.cell c).carrier = none → ((s.tripScan c).cell c).carrier = none) := by
  unfold tripScan; extract_lets hit s0
  split
  · exact ⟨rfl, id⟩
  · refine ⟨?_, fun _ => (cellBlock_state _ c 0 (by decide)).2.2⟩
    rw [(cellBlock_same _ c 0).2.1, trip_fold]; rfl
theorem fold_tl (c : Nat) (l : List Nat) (s : State) (hl : ∀ i ∈ l, i < 4) (h : s.crd c Cell.TRIPSTAT.TLATCH ≠ 0 ∨ l ≠ []) :
    (l.foldl (fun s i => (s.cwr c Cell.TRIPSTAT.TLATCH (setBit (s.crd c Cell.TRIPSTAT.TLATCH) i)).cinc c (Cell.TRIPCNT.COUNT.at i)) s).crd c Cell.TRIPSTAT.TLATCH ≠ 0 := by
  induction l generalizing s with
  | nil => rcases h with h | h; exact h; exact absurd rfl h
  | cons x r ih =>
    rw [List.foldl_cons]
    refine ih _ (fun i hi => hl i (List.mem_cons_of_mem _ hi)) (Or.inl ?_)
    have hx := hl x (List.mem_cons_self ..)
    rw [cinc_eq, crd_cwr_ne _ _ _ _ _ _ (by (simp only [Fld.key, Fld.at, ne_eq, Cell.TRIPCNT.COUNT, Cell.TRIPSTAT.TLATCH, cellB]; omega)), crd_cwr_same _ _ _ _ (by decide)]
    intro h0
    have := setBit_test (s.crd c Cell.TRIPSTAT.TLATCH) x 4 hx
    rw [show (setBit (s.crd c Cell.TRIPSTAT.TLATCH) x % 2 ^ 4) = 0 from h0, Nat.zero_testBit] at this
    cases this
end Sys2Proof.Laws
end

