-- ==== Sys2Proof/Laws/Package.lean ====
section
/-!
SUPPORT. What the shared operations of the collector, the safety unit, the pair, the almanac, the meter, the power unit and the
safety bus do, and the facts about every step.
-/
namespace Sys2Proof.Laws
open Sys2Proof Sys2Proof.Machine Sys2Proof.Machine.State
theorem rd_modFc (s : State) (g : Collector → Collector) (b : Nat) (f : Fld) : (s.modFc g).rd b f = s.rd b f := rfl
theorem rd_modSaf (s : State) (g : SafSt → SafSt) (b : Nat) (f : Fld) : (s.modSaf g).rd b f = s.rd b f := rfl
theorem rd_modPair (s : State) (g : PairSt → PairSt) (b : Nat) (f : Fld) : (s.modPair g).rd b f = s.rd b f := rfl
theorem fire_fc (s : State) (n : Nat) : ∀ m ∈ s.fc.detect, m ∈ (s.fire n).fc.detect := (fire_aside (aside_refl s) n).2.1
theorem acqOwe_rd (s : State) (k c n b : Nat) (f : Fld) : (s.acqOwe k c n).rd b f = s.rd b f := by
  unfold acqOwe; dsimp only; split <;> rfl
theorem acqOwe_fc (s : State) (k c n : Nat) : (s.acqOwe k c n).fc = s.fc := by
  unfold acqOwe; dsimp only; split <;> rfl
theorem modSaf_canFire (s : State) (g : SafSt → SafSt) (n : Nat) : (s.modSaf g).canFire n = s.canFire n := canFire_congr _ rfl rfl rfl rfl
theorem modFc_canFire (s : State) (g : Collector → Collector) (n : Nat) : (s.modFc g).canFire n = s.canFire n := canFire_congr _ rfl rfl rfl rfl
theorem modPair_canFire (s : State) (g : PairSt → PairSt) (n : Nat) : (s.modPair g).canFire n = s.canFire n := canFire_congr _ rfl rfl rfl rfl
theorem fsclr (l : List Nat) (n : Nat) (hn : n < 512) (s : State) (h : n ∈ l ∨ s.rd fcB (Fc.FS_STAT.COUNT.at n) = 0) (hl : ∀ x ∈ l, x < 512) :
    (l.foldl (fun (s : State) n => if s.rd fcB (Fc.FS_STAT.COUNT.at n) = 0 then s else s.wr fcB (Fc.FS_STAT.COUNT.at n) 0) s).rd fcB (Fc.FS_STAT.COUNT.at n) = 0 := by
  induction l generalizing s with
  | nil => rcases h with h | h; cases h; exact h
  | cons x r ih =>
    rw [List.foldl_cons]
    refine ih _ ?_ (fun y hy => hl y (List.mem_cons_of_mem _ hy))
    have hx := hl x (List.mem_cons_self ..)
    by_cases e : n = x
    · right; subst e; split
      · assumption
      · simp (disch := first | decide | (simp only [Fld.key, Fld.at, ne_eq, Fc.FS_STAT.COUNT, fcB]; omega) | omega | (intro _ h; cases h; decide)) only [rd_wr_same, rd_wr_ne, rd_fire, rd_retire, rd_answer, rd_setCore, rd_setSch, rd_setLane, rd_setCtx, rd_setCell, rd_setModul, rd_setArm, rd_setEst, rd_setAd, rd_setLaw, rd_setAcq, rd_modDma, rd_modArm, rd_modEst, rd_modAlm, rd_modPwr, rd_cwr, crd_wr, inc_eq, incBy_eq, incW_eq, wrB_eq, State.fireK, modCore_eq, modLane_eq, modCtx_eq, modAd_eq, modLaw_eq, raiseBit_rd]; rfl
    · rcases h with h | h
      · rcases List.mem_cons.1 h with h | h
        · exact absurd h e
        · exact Or.inl h
      · right; split
        · exact h
        · rw [rd_wr_ne _ _ _ _ _ _ (by (simp only [Fld.key, Fld.at, ne_eq, Fc.FS_STAT.COUNT, fcB]; omega))]; exact h
theorem syncFlog_fc (s : State) : s.syncFlog.fc = s.fc := by unfold syncFlog; dsimp only; simp only [wrB_eq, State.wr_fc]
theorem spr_rd (s : State) (c b : Nat) (f : Fld) (h1 : f.key b ≠ Saf.SAFE_STAT.SPR.key safB) (h2 : f.key b ≠ Saf.SAFE_STAT.SPRCAUSE.key safB) (h3 : f.key b ≠ Saf.SAFE_STAT.SRS.key safB) : (s.sprRequest c).rd b f = s.rd b f := by
  unfold sprRequest; split
  · split
    · exact rd_wr_ne _ _ _ _ _ _ h2
    · rfl
  · dsimp only; rw [rd_fire, rd_modSaf, rd_wr_ne _ _ _ _ _ _ h3, rd_wr_ne _ _ _ _ _ _ h2, rd_wr_ne _ _ _ _ _ _ h1]
theorem spr_same (s : State) (c : Nat) : (s.sprRequest c).pwr = s.pwr ∧ (s.sprRequest c).part = s.part := by
  unfold sprRequest; split
  · split <;> exact ⟨rfl, rfl⟩
  · dsimp only; unfold fire; split <;> exact ⟨rfl, rfl⟩
theorem spr_canFire (s : State) (c n : Nat) : (s.sprRequest c).canFire n = s.canFire n :=
  canFire_congr n (spr_same s c).1 (spr_same s c).2 (spr_rd _ _ _ _ (by (simp only [Fld.key, Fld.at, ne_eq, Pwr.DIE_STAT.RDY, Saf.SAFE_STAT.SPR, pwrB, safB]; omega)) (by (simp only [Fld.key, Fld.at, ne_eq, Pwr.DIE_STAT.RDY, Saf.SAFE_STAT.SPRCAUSE, pwrB, safB]; omega)) (by (simp only [Fld.key, Fld.at, ne_eq, Pwr.DIE_STAT.RDY, Saf.SAFE_STAT.SRS, pwrB, safB]; omega))) (spr_rd _ _ _ _ (by (simp only [Fld.key, Fld.at, ne_eq, Pwr.DIE_STAT.BUSY, Saf.SAFE_STAT.SPR, pwrB, safB]; omega)) (by (simp only [Fld.key, Fld.at, ne_eq, Pwr.DIE_STAT.BUSY, Saf.SAFE_STAT.SPRCAUSE, pwrB, safB]; omega)) (by (simp only [Fld.key, Fld.at, ne_eq, Pwr.DIE_STAT.BUSY, Saf.SAFE_STAT.SRS, pwrB, safB]; omega)))
theorem spr_on (s : State) (c : Nat) : (s.sprRequest c).sprOn = true := by
  unfold sprRequest; split
  · rename_i h
    split
    · unfold sprOn on at *; simp (disch := first | decide | (simp only [Fld.key, Fld.at, ne_eq, Saf.SAFE_STAT.SPR, Saf.SAFE_STAT.SPRCAUSE, safB]; omega) | omega | (intro _ h; cases h; decide)) only [rd_wr_same, rd_wr_ne, rd_fire, rd_retire, rd_answer, rd_setCore, rd_setSch, rd_setLane, rd_setCtx, rd_setCell, rd_setModul, rd_setArm, rd_setEst, rd_setAd, rd_setLaw, rd_setAcq, rd_modDma, rd_modArm, rd_modEst, rd_modAlm, rd_modPwr, rd_cwr, crd_wr, inc_eq, incBy_eq, incW_eq, wrB_eq, State.fireK, modCore_eq, modLane_eq, modCtx_eq, modAd_eq, modLaw_eq, raiseBit_rd]; exact h
    · exact h
  · unfold sprOn on; dsimp only; rw [rd_fire, rd_modSaf]; simp (disch := first | decide | (simp only [Fld.key, Fld.at, ne_eq, Saf.SAFE_STAT.SPR, Saf.SAFE_STAT.SPRCAUSE, Saf.SAFE_STAT.SRS, safB]; omega) | omega | (intro _ h; cases h; decide)) only [rd_wr_same, rd_wr_ne, rd_fire, rd_retire, rd_answer, rd_setCore, rd_setSch, rd_setLane, rd_setCtx, rd_setCell, rd_setModul, rd_setArm, rd_setEst, rd_setAd, rd_setLaw, rd_setAcq, rd_modDma, rd_modArm, rd_modEst, rd_modAlm, rd_modPwr, rd_cwr, crd_wr, inc_eq, incBy_eq, incW_eq, wrB_eq, State.fireK, modCore_eq, modLane_eq, modCtx_eq, modAd_eq, modLaw_eq, raiseBit_rd]; rfl
theorem spr_off (s : State) (c : Nat) (hc : c < 16) (h : s.sprOn = false) : (s.sprRequest c).rd safB Saf.SAFE_STAT.SPRCAUSE = c ∧ (s.sprRequest c).rd safB Saf.SAFE_STAT.SRS = 0 ∧ (s.sprRequest c).saf.stopDue = true ∧ (s.sprRequest c).saf.brkDue = (c != 0) ∧ s.fires (s.sprRequest c) 0x180 := by
  unfold sprRequest; rw [if_neg (by rw [h]; decide)]; dsimp only
  have hs : ∀ (u : State) n, (u.fire n).saf = u.saf := fun u n => by unfold fire; split <;> rfl
  refine ⟨?_, ?_, ?_, ?_, ?_⟩
  · rw [rd_fire, rd_modSaf]; simp (disch := first | decide | (simp only [Fld.key, Fld.at, ne_eq, Saf.SAFE_STAT.SPR, Saf.SAFE_STAT.SPRCAUSE, Saf.SAFE_STAT.SRS, safB]; omega) | omega | (intro _ h; cases h; decide)) only [rd_wr_same, rd_wr_ne, rd_fire, rd_retire, rd_answer, rd_setCore, rd_setSch, rd_setLane, rd_setCtx, rd_setCell, rd_setModul, rd_setArm, rd_setEst, rd_setAd, rd_setLaw, rd_setAcq, rd_modDma, rd_modArm, rd_modEst, rd_modAlm, rd_modPwr, rd_cwr, crd_wr, inc_eq, incBy_eq, incW_eq, wrB_eq, State.fireK, modCore_eq, modLane_eq, modCtx_eq, modAd_eq, modLaw_eq, raiseBit_rd]; exact Nat.mod_eq_of_lt hc
  · rw [rd_fire, rd_modSaf]; simp (disch := first | decide | (simp only [Fld.key, Fld.at, ne_eq, Saf.SAFE_STAT.SPR, Saf.SAFE_STAT.SPRCAUSE, Saf.SAFE_STAT.SRS, safB]; omega) | omega | (intro _ h; cases h; decide)) only [rd_wr_same, rd_wr_ne, rd_fire, rd_retire, rd_answer, rd_setCore, rd_setSch, rd_setLane, rd_setCtx, rd_setCell, rd_setModul, rd_setArm, rd_setEst, rd_setAd, rd_setLaw, rd_setAcq, rd_modDma, rd_modArm, rd_modEst, rd_modAlm, rd_modPwr, rd_cwr, crd_wr, inc_eq, incBy_eq, incW_eq, wrB_eq, State.fireK, modCore_eq, modLane_eq, modCtx_eq, modAd_eq, modLaw_eq, raiseBit_rd]; rfl
  · rw [hs]; rfl
  · rw [hs]; rfl
  · refine fires_of _ ?_
    rw [modSaf_canFire, wr_canFire _ _ _ _ _ (by (simp only [Fld.key, Fld.at, ne_eq, Pwr.DIE_STAT.RDY, Saf.SAFE_STAT.SRS, pwrB, safB]; omega)) (by (simp only [Fld.key, Fld.at, ne_eq, Pwr.DIE_STAT.BUSY, Saf.SAFE_STAT.SRS, pwrB, safB]; omega)), wr_canFire _ _ _ _ _ (by (simp only [Fld.key, Fld.at, ne_eq, Pwr.DIE_STAT.RDY, Saf.SAFE_STAT.SPRCAUSE, pwrB, safB]; omega)) (by (simp only [Fld.key, Fld.at, ne_eq, Pwr.DIE_STAT.BUSY, Saf.SAFE_STAT.SPRCAUSE, pwrB, safB]; omega)), wr_canFire _ _ _ _ _ (by (simp only [Fld.key, Fld.at, ne_eq, Pwr.DIE_STAT.RDY, Saf.SAFE_STAT.SPR, pwrB, safB]; omega)) (by (simp only [Fld.key, Fld.at, ne_eq, Pwr.DIE_STAT.BUSY, Saf.SAFE_STAT.SPR, pwrB, safB]; omega))]
theorem fires_retire {s u : State} {n : Nat} (h : s.fires u n) (w : Wr) (a : Nat) : s.fires (u.retire w a) n := h
theorem noperm (w : Wr) (s : State) : (fun t : State => t.rd safB Saf.SAFE_STAT.NOPERM = 1 ∧ t.sprOn = s.sprOn ∧ s.fires t 0x18F) ((s.safNoPerm).retire w safB) := by
  dsimp only
  unfold safNoPerm
  refine ⟨?_, ?_, fires_of _ (wr_canFire _ _ _ _ _ (by (simp only [Fld.key, Fld.at, ne_eq, Pwr.DIE_STAT.RDY, Saf.SAFE_STAT.NOPERM, pwrB, safB]; omega)) (by (simp only [Fld.key, Fld.at, ne_eq, Pwr.DIE_STAT.BUSY, Saf.SAFE_STAT.NOPERM, pwrB, safB]; omega)))⟩
  · simp (disch := first | decide | (simp only [Fld.key, Fld.at, ne_eq, Saf.SAFE_STAT.NOPERM, safB]; omega) | omega | (intro _ h; cases h; decide)) only [rd_wr_same, rd_wr_ne, rd_fire, rd_retire, rd_answer, rd_setCore, rd_setSch, rd_setLane, rd_setCtx, rd_setCell, rd_setModul, rd_setArm, rd_setEst, rd_setAd, rd_setLaw, rd_setAcq, rd_modDma, rd_modArm, rd_modEst, rd_modAlm, rd_modPwr, rd_cwr, crd_wr, inc_eq, incBy_eq, incW_eq, wrB_eq, State.fireK, modCore_eq, modLane_eq, modCtx_eq, modAd_eq, modLaw_eq, raiseBit_rd]; rfl
  · unfold sprOn on; simp (disch := first | decide | (simp only [Fld.key, Fld.at, ne_eq, Saf.SAFE_STAT.NOPERM, Saf.SAFE_STAT.SPR, safB]; omega) | omega | (intro _ h; cases h; decide)) only [rd_wr_same, rd_wr_ne, rd_fire, rd_retire, rd_answer, rd_setCore, rd_setSch, rd_setLane, rd_setCtx, rd_setCell, rd_setModul, rd_setArm, rd_setEst, rd_setAd, rd_setLaw, rd_setAcq, rd_modDma, rd_modArm, rd_modEst, rd_modAlm, rd_modPwr, rd_cwr, crd_wr, inc_eq, incBy_eq, incW_eq, wrB_eq, State.fireK, modCore_eq, modLane_eq, modCtx_eq, modAd_eq, modLaw_eq, raiseBit_rd]
theorem srs_off (s : State) (c : Nat) (hc : c < 8) (h : s.sprOn = false) (h2 : s.rd safB Saf.SAFE_STAT.SRS = 0) : (s.srsRequest c).rd safB Saf.SAFE_STAT.SRS = 1 ∧ (s.srsRequest c).rd safB Saf.SAFE_STAT.SRSCAUSE = c ∧ s.fires (s.srsRequest c) 0x181 := by
  unfold srsRequest; rw [if_neg (by rw [h]; unfold on; simp [h2])]; dsimp only
  refine ⟨?_, ?_, fires_of _ ?_⟩
  · rw [rd_fire, rd_modSaf]; simp (disch := first | decide | (simp only [Fld.key, Fld.at, ne_eq, Saf.SAFE_STAT.SRS, Saf.SAFE_STAT.SRSCAUSE, safB]; omega) | omega | (intro _ h; cases h; decide)) only [rd_wr_same, rd_wr_ne, rd_fire, rd_retire, rd_answer, rd_setCore, rd_setSch, rd_setLane, rd_setCtx, rd_setCell, rd_setModul, rd_setArm, rd_setEst, rd_setAd, rd_setLaw, rd_setAcq, rd_modDma, rd_modArm, rd_modEst, rd_modAlm, rd_modPwr, rd_cwr, crd_wr, inc_eq, incBy_eq, incW_eq, wrB_eq, State.fireK, modCore_eq, modLane_eq, modCtx_eq, modAd_eq, modLaw_eq, raiseBit_rd]; rfl
  · rw [rd_fire, rd_modSaf]; simp (disch := first | decide | (simp only [Fld.key, Fld.at, ne_eq, Saf.SAFE_STAT.SRS, Saf.SAFE_STAT.SRSCAUSE, safB]; omega) | omega | (intro _ h; cases h; decide)) only [rd_wr_same, rd_wr_ne, rd_fire, rd_retire, rd_answer, rd_setCore, rd_setSch, rd_setLane, rd_setCtx, rd_setCell, rd_setModul, rd_setArm, rd_setEst, rd_setAd, rd_setLaw, rd_setAcq, rd_modDma, rd_modArm, rd_modEst, rd_modAlm, rd_modPwr, rd_cwr, crd_wr, inc_eq, incBy_eq, incW_eq, wrB_eq, State.fireK, modCore_eq, modLane_eq, modCtx_eq, modAd_eq, modLaw_eq, raiseBit_rd]; exact Nat.mod_eq_of_lt hc
  · rw [modSaf_canFire, wr_canFire _ _ _ _ _ (by (simp only [Fld.key, Fld.at, ne_eq, Pwr.DIE_STAT.RDY, Saf.SAFE_STAT.SRSCAUSE, pwrB, safB]; omega)) (by (simp only [Fld.key, Fld.at, ne_eq, Pwr.DIE_STAT.BUSY, Saf.SAFE_STAT.SRSCAUSE, pwrB, safB]; omega)), wr_canFire _ _ _ _ _ (by (simp only [Fld.key, Fld.at, ne_eq, Pwr.DIE_STAT.RDY, Saf.SAFE_STAT.SRS, pwrB, safB]; omega)) (by (simp only [Fld.key, Fld.at, ne_eq, Pwr.DIE_STAT.BUSY, Saf.SAFE_STAT.SRS, pwrB, safB]; omega))]
theorem srs_mono (s : State) (c : Nat) : ∀ n ∈ s.fc.detect, n ∈ (s.srsRequest c).fc.detect := fun n hn => by
  unfold srsRequest; split
  · exact hn
  · exact fire_fc _ _ _ hn
theorem pairEdge_rd (s : State) (k n : Nat) (v : Bool) (b : Nat) (f : Fld) : (s.pairEdge k n v).rd b f = s.rd b f := by
  unfold pairEdge; split
  · rfl
  · split
    · rfl
    · rw [rd_fire]; rfl
theorem syncPair_rd (s : State) (b : Nat) (f : Fld) (h : f.key b ≠ Pair.PAIR_STAT.STBY_OK.key pairB) : s.syncPair.rd b f = s.rd b f := by
  unfold syncPair; dsimp only
  rw [pairEdge_rd, pairEdge_rd, pairEdge_rd, pairEdge_rd]
  split
  · rw [wrB_eq, rd_wr_ne _ _ _ _ _ _ h]
  · rw [rd_modPair, wrB_eq, rd_wr_ne _ _ _ _ _ _ h]
def far (b : Nat) (f : Fld) : Prop := (b + f.off < 0x40000000 ∨ 0x44000000 ≤ b + f.off) ∧ f.lsb < 32
theorem far_lane {b : Nat} {f : Fld} (h : far b f) (ln : Nat) (hl : ln < 64) (g : Fld) (hg : g.off < 0x1000) (hg2 : g.lsb < 32) : f.key b ≠ g.key (laneB ln) := by
  unfold far at h; unfold Fld.key laneB; intro h9
  omega
theorem syncTx_far {b : Nat} {f : Fld} (h : far b f) (s : State) (ln : Nat) (hl : ln < 64) : (s.syncTx ln).rd b f = s.rd b f := syncTx_rd _ _ _ _ (far_lane h ln hl _ (by decide) (by decide))
theorem setLstate_far {b : Nat} {f : Fld} (h : far b f) (s : State) (ln v : Nat) (hl : ln < 64) : (s.setLstate ln v).rd b f = s.rd b f := by
  have k := fun g hg hg2 => far_lane h ln hl g hg hg2
  exact setLstate_rd _ _ _ _ _ (k _ (by decide) (by decide)) (k _ (by decide) (by decide)) (k _ (by decide) (by decide)) (k _ (by decide) (by decide)) (k _ (by decide) (by decide))
theorem ll_lt (s : State) {n : Nat} (h : n ∈ s.laneList) : n < 64 := List.mem_range.1 (List.mem_filter.1 h).1
theorem syncAllTx_far {b : Nat} {f : Fld} (h : far b f) (s : State) : s.syncAllTx.rd b f = s.rd b f := by
  unfold syncAllTx
  exact foldl_mem (fun u : State => u.rd b f = s.rd b f) _ _ _ rfl (fun u x hx hu => (syncTx_far h u x (ll_lt s hx)).trans hu)
theorem syncLanes_far {b : Nat} {f : Fld} (h : far b f) (s : State) : s.syncLanes.rd b f = s.rd b f := by
  unfold syncLanes
  refine foldl_mem (fun u : State => u.rd b f = s.rd b f) _ _ _ rfl (fun u x hx hu => ?_)
  have hl := ll_lt s (List.mem_filter.1 hx).1
  split
  · exact (syncTx_far h u x hl).trans hu
  · exact (setLstate_far h u x _ hl).trans hu
theorem syncTx_pair (s : State) (ln : Nat) : (s.syncTx ln).pair = s.pair := rfl
theorem setLstate_pair (s : State) (ln v : Nat) : (s.setLstate ln v).pair = s.pair := by
  unfold setLstate; dsimp only; rw [syncTx_pair]
  have hr : ∀ u : State, (u.reachOff ln).pair = u.pair := fun u => by unfold reachOff; dsimp only; split; split <;> rfl; rfl
  split
  · rw [hr]; split <;> rfl
  · split <;> rfl
theorem syncAllTx_pair (s : State) : s.syncAllTx.pair = s.pair := by
  unfold syncAllTx; exact foldl_proj (fun t : State => t.pair) _ _ _ (fun _ _ => rfl)
theorem syncLanes_pair (s : State) : s.syncLanes.pair = s.pair := by
  unfold syncLanes; refine foldl_proj (fun t : State => t.pair) _ _ _ (fun u x => ?_)
  split
  · rfl
  · exact setLstate_pair _ _ _
theorem pairEdge_act (s : State) (k n : Nat) (v : Bool) : (s.pairEdge k n v).pair.actOut = s.pair.actOut := by
  unfold pairEdge; split
  · rfl
  · split
    · rfl
    · unfold fire; split <;> rfl
theorem syncPair_act (s : State) : s.syncPair.pair.actOut = s.pair.actOut := by
  unfold syncPair; dsimp only; rw [pairEdge_act, pairEdge_act, pairEdge_act, pairEdge_act]; split <;> rfl
theorem standby (s : State) : s.toStandby.pstate = 1 ∧ s.toStandby.pair.actOut = false := by
  unfold toStandby; extract_lets was s0 s1 s2
  have h1 : s1.pair.actOut = false := rfl
  have h2 : s2.pair.actOut = false := by unfold s2; split; rfl; rfl
  refine ⟨?_, ?_⟩
  · unfold pstate; rw [syncPair_rd _ _ _ (by (simp only [Fld.key, Fld.at, ne_eq, Pair.PAIR_STAT.PSTATE, Pair.PAIR_STAT.STBY_OK, pairB]; omega)), syncAllTx_far (by unfold far; decide), syncLanes_far (by unfold far; decide)]; simp (disch := first | decide | (simp only [Fld.key, Fld.at, ne_eq, Pair.PAIR_STAT.PSTATE, pairB]; omega) | omega | (intro _ h; cases h; decide)) only [rd_wr_same, rd_wr_ne, rd_fire, rd_retire, rd_answer, rd_setCore, rd_setSch, rd_setLane, rd_setCtx, rd_setCell, rd_setModul, rd_setArm, rd_setEst, rd_setAd, rd_setLaw, rd_setAcq, rd_modDma, rd_modArm, rd_modEst, rd_modAlm, rd_modPwr, rd_cwr, crd_wr, inc_eq, incBy_eq, incW_eq, wrB_eq, State.fireK, modCore_eq, modLane_eq, modCtx_eq, modAd_eq, modLaw_eq, raiseBit_rd]; rfl
  · rw [syncPair_act, syncAllTx_pair, syncLanes_pair]; exact h2
theorem standby_ret (s : State) (w : Wr) (a : Nat) : (s.toStandby.retire w a).pstate = 1 ∧ (s.toStandby.retire w a).pair.actOut = false := by
  have h := standby s
  generalize s.toStandby = u at h ⊢
  exact h
theorem pst (s : State) : s.pstate = s.rd pairB Pair.PAIR_STAT.PSTATE := rfl
theorem wrP (s : State) (f : Fld) (v : Nat) (h : Pair.PAIR_STAT.PSTATE.key pairB ≠ f.key pairB) : (s.wr pairB f v).pstate = s.pstate := rd_wr_ne _ _ _ _ _ _ h
theorem rd_setAlmRec (s : State) (r : Nat) (x : AlmRec) (b : Nat) (f : Fld) : (s.setAlmRec r x).rd b f = s.rd b f := rfl
theorem almClear_rec (s : State) (r q : Nat) : (s.almClear r).almRec q = if q = r then { AlmRec.reset with wcnt := (s.almRec r).wcnt, skip := (s.almRec r).skip, changed := true, flushed := false } else s.almRec q := by
  show Tab.get (Tab.put s.alm.recs r _) q AlmRec.reset = _
  by_cases h : q = r
  · subst h; rw [if_pos rfl, Tab.get_put_same]
  · rw [if_neg h, Tab.get_put_ne _ _ _ _ _ h]; rfl
theorem get_map (g : Nat → AlmRec) (l : List Nat) (r : Nat) (h : r ∈ l) : Tab.get (l.map (fun r => (r, g r))) r AlmRec.reset = g r := by
  induction l with
  | nil => cases h
  | cons x t ih =>
    rw [List.map_cons]
    unfold Tab.get
    by_cases e : x = r
    · simp [e]
    · rcases List.mem_cons.1 h with h | h
      · exact absurd h.symm e
      · first
        | (rw [if_neg e]; exact ih h)
        | (simp only [e, if_false]; exact ih h)
        | (have := ih h; simp [e]; exact this)
theorem on_false {s : State} {b : Nat} {f : Fld} (h : s.rd b f = 0) : s.on b f = false := by unfold on; simp [h]
theorem putBit_test (v i w : Nat) (b : Bool) (h : i < w) : (putBit v i b % 2 ^ w).testBit i = b := by
  unfold putBit
  cases b
  · simp only [Bool.false_eq_true, if_false]; rw [Nat.testBit_mod_two_pow, decide_eq_true h, Bool.true_and]; exact clr_test _ _
  · simp only [if_true]; exact setBit_test _ _ _ h
theorem dieBit_set (s : State) (f : Fld) (d : Nat) (v : Bool) (h : d < f.wid) (h2 : f.wid ≤ 32) : (s.dieBit f d v).dieOf f d = v := by
  unfold dieBit dieOf; rw [rd_wr_same _ _ _ _ h2]; exact putBit_test _ _ _ _ h
theorem rd_modPwr' (s : State) (g : PwrSt → PwrSt) (b : Nat) (f : Fld) : (s.modPwr g).rd b f = s.rd b f := rfl
theorem syncLinks_rd (s : State) (b : Nat) (f : Fld) (h : f.key b ≠ Fab.FAB_STAT.LINKUP.key capsB) : s.syncLinks.rd b f = s.rd b f :=
  rd_wr_ne _ _ _ _ _ _ h
theorem syncLinks_canFire (s : State) (n : Nat) : s.syncLinks.canFire n = s.canFire n := wr_canFire _ _ _ _ _ (by (simp only [Fld.key, Fld.at, ne_eq, Fab.FAB_STAT.LINKUP, Pwr.DIE_STAT.RDY, capsB, pwrB]; omega)) (by (simp only [Fld.key, Fld.at, ne_eq, Fab.FAB_STAT.LINKUP, Pwr.DIE_STAT.BUSY, capsB, pwrB]; omega))
theorem setFold_out (s : State) (l : List (Nat × Fld)) (b : Nat) (f : Fld) (r : RegFile) (h : ∀ e ∈ l, f.key b ≠ e.2.key e.1) :
    (l.foldl (fun (r : RegFile) e => r.set e.1 e.2 (s.rd e.1 e.2)) r).get b f = r.get b f := by
  induction l generalizing r with
  | nil => rfl
  | cons e l ih =>
    rw [List.foldl_cons, ih _ (fun x hx => h x (List.mem_cons_of_mem _ hx))]
    exact RegFile.get_set_ne _ _ _ _ _ _ (h e (List.mem_cons_self ..))
theorem setFold_in (s : State) (l : List (Nat × Fld)) (b : Nat) (f : Fld) (r : RegFile) (hf : f.wid ≤ 32) (h : (b, f) ∈ l)
    (hp : l.Pairwise (fun x y => x.2.key x.1 ≠ y.2.key y.1)) :
    (l.foldl (fun (r : RegFile) e => r.set e.1 e.2 (s.rd e.1 e.2)) r).get b f = s.rd b f % 2 ^ f.wid := by
  induction l generalizing r with
  | nil => cases h
  | cons e l ih =>
    rw [List.pairwise_cons] at hp
    rw [List.foldl_cons]
    rcases List.mem_cons.1 h with h | h
    · subst h
      rw [setFold_out _ _ _ _ _ (fun x hx => hp.1 x hx)]
      exact RegFile.get_set_same _ _ _ _ hf
    · exact ih _ h hp.2
theorem kept_pw : keptRegs.Pairwise (fun x y => x.2.key x.1 ≠ y.2.key y.1) := by decide +kernel
theorem kept_spr : ∀ e ∈ keptRegs, e.2.key e.1 ≠ Fc.FC_STAT.SPRREQ.key fcB := by decide +kernel
theorem image_in (s : State) (a p : Bool) (b : Nat) (f : Fld) (h : (b, f) ∈ keptRegs) (hf : f.wid ≤ 32) : (s.resetImage a p).rd b f = s.rd b f % 2 ^ f.wid := by
  unfold resetImage rd; dsimp only
  rw [RegFile.get_set_ne _ _ _ _ _ _ (kept_spr _ h)]
  exact setFold_in s _ _ _ _ hf h kept_pw
theorem image_out (s : State) (a p : Bool) (b : Nat) (f : Fld) (h : ∀ e ∈ keptRegs, f.key b ≠ e.2.key e.1) (h2 : f.key b ≠ Fc.FC_STAT.SPRREQ.key fcB) : (s.resetImage a p).rd b f = State.reset.rd b f := by
  unfold resetImage rd; dsimp only
  rw [RegFile.get_set_ne _ _ _ _ _ _ h2]
  have e : State.reset.regs = State.resetRegs := by unfold State.reset; rfl
  rw [e]
  exact setFold_out s _ _ _ _ h
theorem image_spr (s : State) (a p : Bool) : (s.resetImage a p).rd fcB Fc.FC_STAT.SPRREQ = s.rd fcB Fc.FC_STAT.FLATCH % 2 := by
  have e : (2:Nat) = 2 ^ Fc.FC_STAT.SPRREQ.wid := rfl
  rw [e]
  unfold resetImage rd; dsimp only
  exact RegFile.get_set_same _ _ _ _ (by decide)
theorem fixed_keep {s t : State} (h : t.keep = s.keep) : t.fixed = s.fixed := by
  rw [keep_def, keep_def] at h
  injection h with h1 h2; injection h2 with h2 h3
  unfold State.fixed; rw [h1, h2]
theorem aliveStop_rd (s : State) (c b : Nat) (f : Fld) (hf : far b f) (h1 : f.key b ≠ Fc.FC_STAT.ALIVE_RUN.key fcB) (h2 : f.key b ≠ Fc.FC_STAT.ALIVE_CAUSE.key fcB) (h3 : f.key b ≠ Fc.FC_CTL.ALIVE_EN.key fcB) : (s.aliveStop c).rd b f = s.rd b f := by
  unfold aliveStop; split
  · rfl
  · dsimp only; unfold pairOutLow; rw [syncAllTx_far hf]
    refine (rd_wr_ne _ _ _ _ _ _ h3).trans ?_
    rw [rd_wr_ne _ _ _ _ _ _ h2, rd_wr_ne _ _ _ _ _ _ h1]
theorem syncTx_cells (s : State) (n : Nat) : (s.syncTx n).cells = s.cells := by
  unfold syncTx; rw [wrB_eq]; rfl
theorem aliveStop_cells (s : State) (c : Nat) : (s.aliveStop c).cells = s.cells := by
  unfold aliveStop; split
  · rfl
  · dsimp only; unfold pairOutLow syncAllTx; rw [foldl_proj (fun u : State => u.cells) _ _ _ (fun u x => syncTx_cells u x)]; rfl
theorem aliveStop_same (s : State) (c : Nat) : (s.aliveStop c).mem = s.mem ∧ (s.aliveStop c).nor = s.nor ∧ (s.aliveStop c).mram = s.mram ∧ (s.aliveStop c).cells = s.cells ∧ (s.aliveStop c).fixed = s.fixed := by
  have h := aliveStop_keep s c
  exact ⟨(km h).1, (km h).2.1, (km h).2.2, aliveStop_cells s c, fixed_keep h⟩
def crPre (s : State) (rc : Nat) : State :=
  let s := ((s.aliveStop 4).wr pwrB Pwr.PWR_STAT.RSTCAUSE rc)
  let s := (s.wr fcB Fc.FC_RSTCAUSE.SRC 0).wr fcB Fc.FC_RSTCAUSE.VALID 0
  if rc = 3 then s.wr fcB Fc.FC_RSTCAUSE.ESC 0 else s
theorem cr_eq (s : State) (rc : Nat) : s.chipReset rc none = (crPre s rc).resetImage true (rc == 1) := rfl
theorem crPre_rd (s : State) (rc b : Nat) (f : Fld) (h1 : f.key b ≠ Fc.FC_STAT.ALIVE_RUN.key fcB) (h2 : f.key b ≠ Fc.FC_STAT.ALIVE_CAUSE.key fcB)
   (h3 : f.key b ≠ Pwr.PWR_STAT.RSTCAUSE.key pwrB) (h4 : f.key b ≠ Fc.FC_RSTCAUSE.SRC.key fcB) (h5 : f.key b ≠ Fc.FC_RSTCAUSE.VALID.key fcB) (h6 : f.key b ≠ Fc.FC_RSTCAUSE.ESC.key fcB) (h7 : f.key b ≠ Fc.FC_CTL.ALIVE_EN.key fcB) (hf : far b f) :
   (crPre s rc).rd b f = s.rd b f := by
  unfold crPre; dsimp only
  split
  · rw [rd_wr_ne _ _ _ _ _ _ h6, rd_wr_ne _ _ _ _ _ _ h5, rd_wr_ne _ _ _ _ _ _ h4, rd_wr_ne _ _ _ _ _ _ h3, aliveStop_rd _ _ _ _ hf h1 h2 h7]
  · rw [rd_wr_ne _ _ _ _ _ _ h5, rd_wr_ne _ _ _ _ _ _ h4, rd_wr_ne _ _ _ _ _ _ h3, aliveStop_rd _ _ _ _ hf h1 h2 h7]
theorem crPre_cause (s : State) (rc : Nat) (h : rc < 4) : (crPre s rc).rd pwrB Pwr.PWR_STAT.RSTCAUSE = rc := by
  have e : rc % 2 ^ Pwr.PWR_STAT.RSTCAUSE.wid = rc := Nat.mod_eq_of_lt (Nat.lt_of_lt_of_le h (by decide))
  unfold crPre; dsimp only; split <;> (simp (disch := first | decide | (simp only [Fld.key, Fld.at, ne_eq, Fc.FC_RSTCAUSE.ESC, Fc.FC_RSTCAUSE.SRC, Fc.FC_RSTCAUSE.VALID, Pwr.PWR_STAT.RSTCAUSE, fcB, pwrB]; omega) | omega | (intro _ h; cases h; decide)) only [rd_wr_same, rd_wr_ne, rd_fire, rd_retire, rd_answer, rd_setCore, rd_setSch, rd_setLane, rd_setCtx, rd_setCell, rd_setModul, rd_setArm, rd_setEst, rd_setAd, rd_setLaw, rd_setAcq, rd_modDma, rd_modArm, rd_modEst, rd_modAlm, rd_modPwr, rd_cwr, crd_wr, inc_eq, incBy_eq, incW_eq, wrB_eq, State.fireK, modCore_eq, modLane_eq, modCtx_eq, modAd_eq, modLaw_eq, raiseBit_rd]; exact e)
theorem crPre_same (s : State) (rc : Nat) : (crPre s rc).mem = s.mem ∧ (crPre s rc).nor = s.nor ∧ (crPre s rc).mram = s.mram ∧ (crPre s rc).cells = s.cells ∧ (crPre s rc).fixed = s.fixed := by
  unfold crPre; dsimp only; split <;> exact aliveStop_same s 4
theorem cr_facts (s : State) (rc : Nat) (h : rc < 4) : let t := s.chipReset rc none
    (t.fixed = s.fixed ∧ t.pwr.held = true ∧ t.pwr.porst = (rc == 1) ∧ t.rd pwrB Pwr.PWR_STAT.RSTCAUSE = rc ∧ t.rd fcB Fc.FC_STAT.SPRREQ = t.rd fcB Fc.FC_STAT.FLATCH) := by
  dsimp only; rw [cr_eq]
  refine ⟨(crPre_same s rc).2.2.2.2, rfl, rfl, ?_, ?_⟩
  · rw [image_in _ _ _ _ _ (by simp [keptRegs]) (by decide), crPre_cause _ _ h]
    exact Nat.mod_eq_of_lt (Nat.lt_of_lt_of_le h (by decide))
  · rw [image_spr, image_in _ _ _ _ _ (by simp [keptRegs]) (by decide)]; rfl
theorem cr_keep (s : State) (rc : Nat) : let t := s.chipReset rc none
      (∀ f ∈ [Fc.FC_STAT.FLATCH, Fc.FC_FFIRST.SRC, Fc.FC_FFIRST.VALID, Fc.FC_FSEC.SEC, Fc.FC_FNS.NS],
        t.rd fcB f = s.rd fcB f % 2 ^ f.wid) ∧
      (∀ f ∈ [Secu.BOOTCNT.N, Secu.SEC_SVN.FLOOR, Secu.SEC_OTP.PROG, Secu.SEC_OTP.REVOKED],
        t.rd secB f = s.rd secB f % 2 ^ f.wid) ∧
      t.rd pwrB Pwr.AO_CTL.BOOTBIST = s.rd pwrB Pwr.AO_CTL.BOOTBIST % 2 ∧
      (∀ b f, (∀ e ∈ keptRegs, f.key b ≠ e.2.key e.1) → f.key b ≠ Fc.FC_STAT.SPRREQ.key fcB → t.rd b f = State.reset.rd b f) ∧
      t.mem = s.mem.filter (fun c => decide (0x60000000 ≤ c.1) && decide (c.1 < 0x61000000)) ∧
      t.nor = s.nor ∧ t.mram = s.mram ∧ t.cells = s.cells := by
  dsimp only; rw [cr_eq]
  have g : ∀ b f, (b, f) ∈ keptRegs → f.wid ≤ 32 → (f.key b ≠ Fc.FC_STAT.ALIVE_RUN.key fcB ∧ f.key b ≠ Fc.FC_STAT.ALIVE_CAUSE.key fcB ∧
     f.key b ≠ Pwr.PWR_STAT.RSTCAUSE.key pwrB ∧ f.key b ≠ Fc.FC_RSTCAUSE.SRC.key fcB ∧ f.key b ≠ Fc.FC_RSTCAUSE.VALID.key fcB ∧ f.key b ≠ Fc.FC_RSTCAUSE.ESC.key fcB ∧ f.key b ≠ Fc.FC_CTL.ALIVE_EN.key fcB ∧ far b f) →
     ((crPre s rc).resetImage true (rc == 1)).rd b f = s.rd b f % 2 ^ f.wid := fun b f h hw ⟨h1, h2, h3, h4, h5, h6, h7, hf⟩ => by
    rw [image_in _ _ _ _ _ h hw, crPre_rd _ _ _ _ h1 h2 h3 h4 h5 h6 h7 hf]
  have e1 : ∀ f ∈ [Fc.FC_STAT.FLATCH, Fc.FC_FFIRST.SRC, Fc.FC_FFIRST.VALID, Fc.FC_FSEC.SEC, Fc.FC_FNS.NS], (fcB, f) ∈ keptRegs ∧ f.wid ≤ 32 ∧ (f.key fcB ≠ Fc.FC_STAT.ALIVE_RUN.key fcB ∧ f.key fcB ≠ Fc.FC_STAT.ALIVE_CAUSE.key fcB ∧
     f.key fcB ≠ Pwr.PWR_STAT.RSTCAUSE.key pwrB ∧ f.key fcB ≠ Fc.FC_RSTCAUSE.SRC.key fcB ∧ f.key fcB ≠ Fc.FC_RSTCAUSE.VALID.key fcB ∧ f.key fcB ≠ Fc.FC_RSTCAUSE.ESC.key fcB ∧ f.key fcB ≠ Fc.FC_CTL.ALIVE_EN.key fcB ∧ far fcB f) := by unfold far; decide +kernel
  have e2 : ∀ f ∈ [Secu.BOOTCNT.N, Secu.SEC_SVN.FLOOR, Secu.SEC_OTP.PROG, Secu.SEC_OTP.REVOKED], (secB, f) ∈ keptRegs ∧ f.wid ≤ 32 ∧ (f.key secB ≠ Fc.FC_STAT.ALIVE_RUN.key fcB ∧ f.key secB ≠ Fc.FC_STAT.ALIVE_CAUSE.key fcB ∧
     f.key secB ≠ Pwr.PWR_STAT.RSTCAUSE.key pwrB ∧ f.key secB ≠ Fc.FC_RSTCAUSE.SRC.key fcB ∧ f.key secB ≠ Fc.FC_RSTCAUSE.VALID.key fcB ∧ f.key secB ≠ Fc.FC_RSTCAUSE.ESC.key fcB ∧ f.key secB ≠ Fc.FC_CTL.ALIVE_EN.key fcB ∧ far secB f) := by unfold far; decide +kernel
  refine ⟨fun f h => g _ _ (e1 f h).1 (e1 f h).2.1 (e1 f h).2.2, fun f h => g _ _ (e2 f h).1 (e2 f h).2.1 (e2 f h).2.2, g _ _ (by decide +kernel) (by decide) (by unfold far; decide +kernel), fun b f h h2 => image_out _ _ _ _ _ h h2, ?_, ?_, ?_, ?_⟩
  · show List.filter _ (crPre s rc).mem = _; rw [(crPre_same s rc).1]
  · exact (crPre_same s rc).2.1
  · exact (crPre_same s rc).2.2.1
  · exact (crPre_same s rc).2.2.2.1
theorem crst_eq (s : State) (w : Wr) (hp : privileged w = true) (h : s.rd pwrB Pwr.PWR_STAT.PFACT = 0) : s.chipRst w 0xC3 = s.chipReset 3 none := by
  unfold chipRst
  rw [if_neg (by rw [hp]; decide), if_neg (by decide), if_neg (by rw [on_false h]; simp)]
theorem fire_pwr (s : State) (n : Nat) : (s.fire n).pwr = s.pwr := by unfold fire; split <;> rfl
theorem fireIf_pwr (s : State) (b : Bool) (n : Nat) : (s.fireIf b n).pwr = s.pwr := by unfold fireIf; split; exact fire_pwr _ _; rfl
theorem resetEnd_held (s : State) : s.resetEnd.pwr.held = false := by unfold resetEnd; dsimp only; rw [fireIf_pwr]; rfl
theorem resetEnd_pref (s : State) : s.resetEnd.rd pairB Pair.PAIR_STAT.PREF = s.rd pairB Pair.PAIR_STAT.PREF % 2 := by
  unfold resetEnd; dsimp only; rw [fireIf_rd, image_in _ _ _ _ _ (by decide +kernel) (by decide)]; rfl
theorem dieBit_rd (s : State) (f : Fld) (d : Nat) (v : Bool) (b : Nat) (g : Fld) (h : g.key b ≠ f.key pwrB) : (s.dieBit f d v).rd b g = s.rd b g := rd_wr_ne _ _ _ _ _ _ h
theorem dieBit_of (s : State) (f g : Fld) (d e : Nat) (v : Bool) (h : g.key pwrB ≠ f.key pwrB) : (s.dieBit f d v).dieOf g e = s.dieOf g e := by
  unfold dieOf; rw [dieBit_rd _ _ _ _ _ _ h]
theorem fire_of (s : State) (n : Nat) (g : Fld) (e : Nat) : (s.fire n).dieOf g e = s.dieOf g e := by unfold dieOf; rw [rd_fire]
theorem wr_of (s : State) (b : Nat) (f : Fld) (v : Nat) (g : Fld) (e : Nat) (h : g.key pwrB ≠ f.key b) : (s.wr b f v).dieOf g e = s.dieOf g e := by unfold dieOf; rw [rd_wr_ne _ _ _ _ _ _ h]
theorem lock_canFire (s : State) (d n : Nat) (v : Bool) : (s.dieBit Pwr.DIE_STAT.LOCK d v).canFire n = s.canFire n := wr_canFire _ _ _ _ _ (by (simp only [Fld.key, Fld.at, ne_eq, Pwr.DIE_STAT.LOCK, Pwr.DIE_STAT.RDY, pwrB]; omega)) (by (simp only [Fld.key, Fld.at, ne_eq, Pwr.DIE_STAT.BUSY, Pwr.DIE_STAT.LOCK, pwrB]; omega))
theorem ret_of (s : State) (w : Wr) (a : Nat) (g : Fld) (e : Nat) : (s.retire w a).dieOf g e = s.dieOf g e := rfl
theorem syncLinks_of (s : State) (g : Fld) (e : Nat) (h : g.key pwrB ≠ Fab.FAB_STAT.LINKUP.key capsB) : s.syncLinks.dieOf g e = s.dieOf g e := by unfold dieOf; rw [syncLinks_rd _ _ _ h]
theorem modPwr_canFire (s : State) (g : PwrSt → PwrSt) (n : Nat) (h : (g s.pwr).held = s.pwr.held) : (s.modPwr g).canFire n = s.canFire n := by
  have hh : (s.modPwr g).pwr.held = s.pwr.held := h
  have hd : ∀ d, (s.modPwr g).dieUp d = s.dieUp d := fun d => by unfold dieUp; rw [hh]; rfl
  unfold canFire srcUp; simp only [hd, hh]; rfl
theorem canFire_1CA {s u : State} (h : u.pwr = s.pwr) : u.canFire 0x1CA = s.canFire 0x1CA := by
  have k : ∀ v : State, v.canFire 0x1CA = !v.pwr.held := fun v => by unfold canFire srcUp; simp; intro; decide
  rw [k, k, h]
theorem ofSigned_lt (x : Int) (w : Nat) : ofSigned x w % 2 ^ w = ofSigned x w := by
  unfold ofSigned
  have h : (0 : Int) < 2 ^ w := by positivity
  have h1 := Int.emod_nonneg x (ne_of_gt h)
  have h2 := Int.emod_lt_of_pos x h
  refine Nat.mod_eq_of_lt ?_
  zify; rw [Int.toNat_of_nonneg h1]; exact h2
theorem goGives (w : Wr) (s : State) (u op a : Nat) (hu : u < 2) (hk : keeps (.next ((s.xsGo w u op).retire w a)) s) :
    gives (.next ((s.xsGo w u op).retire w a)) (fun t => t.mem = s.mem ∧ t.nor = s.nor ∧ t.mram = s.mram ∧
         (privileged w = false → t.rd fzB Fz.FZ_RSTAT.NOPERM = 1 ∧ t.pwr.xs = s.pwr.xs) ∧
         (privileged w = true → (u = 1 ∧ s.rd pwrB Pwr.PWR_STAT.PFSEEN ≠ 0 ∨ s.xsBad u op (s.rd pwrB (Pwr.XS_ADDR.ADDR.at u)) (s.rd pwrB (Pwr.XS_LEN.LEN.at u)) = true) → t.rd pwrB (Pwr.XS_STAT.REJ.at u) = 1 ∧ s.fires t 0x1CE ∧ t.pwr.xs = s.pwr.xs) ∧
         (privileged w = true → ¬(u = 1 ∧ s.rd pwrB Pwr.PWR_STAT.PFSEEN ≠ 0 ∨ s.xsBad u op (s.rd pwrB (Pwr.XS_ADDR.ADDR.at u)) (s.rd pwrB (Pwr.XS_LEN.LEN.at u)) = true) → t.rd pwrB (Pwr.XS_STAT.BUSY.at u) = 1 ∧ t.rd pwrB (Pwr.XS_STAT.OWNER.at u) = 1 ∧
           t.pwr.xs = s.pwr.xs ++ [(u, ⟨op, s.rd pwrB (Pwr.XS_ADDR.ADDR.at u), s.rd pwrB (Pwr.XS_LEN.LEN.at u)⟩)])) := by
  have hb : ∀ b, ((u == 1 && s.on pwrB Pwr.PWR_STAT.PFSEEN) || b) = true ↔ (u = 1 ∧ s.rd pwrB Pwr.PWR_STAT.PFSEEN ≠ 0 ∨ b = true) := fun b => by
    rw [Bool.or_eq_true, Bool.and_eq_true, on_iff, beq_iff_eq]
  refine ⟨_, rfl, (kx hk rfl).1, (kx hk rfl).2.1, (kx hk rfl).2.2.1, fun hp => ?_, fun hp hbad => ?_, fun hp hbad => ?_⟩
  · unfold xsGo; dsimp only; rw [if_pos (by rw [hp]; rfl)]
    exact ⟨by unfold noPerm; rw [rd_retire]; simp (disch := first | decide | (simp only [Fld.key, Fld.at, ne_eq, Fz.FZ_RSTAT.NOPERM, fzB]; omega) | omega | (intro _ h; cases h; decide)) only [rd_wr_same, rd_wr_ne, rd_fire, rd_retire, rd_answer, rd_setCore, rd_setSch, rd_setLane, rd_setCtx, rd_setCell, rd_setModul, rd_setArm, rd_setEst, rd_setAd, rd_setLaw, rd_setAcq, rd_modDma, rd_modArm, rd_modEst, rd_modAlm, rd_modPwr, rd_cwr, crd_wr, inc_eq, incBy_eq, incW_eq, wrB_eq, State.fireK, modCore_eq, modLane_eq, modCtx_eq, modAd_eq, modLaw_eq, raiseBit_rd]; rfl, rfl⟩
  · unfold xsGo; dsimp only; rw [if_neg (by rw [hp]; decide), if_neg (by omega), if_pos ((hb _).2 hbad)]
    unfold pwrRej
    split
    · refine ⟨by rw [rd_retire]; simp (disch := first | decide | (simp only [Fld.key, Fld.at, ne_eq, Pwr.XS_STAT.PFABORT, Pwr.XS_STAT.REJ, pwrB]; omega) | omega | (intro _ h; cases h; decide)) only [rd_wr_same, rd_wr_ne, rd_fire, rd_retire, rd_answer, rd_setCore, rd_setSch, rd_setLane, rd_setCtx, rd_setCell, rd_setModul, rd_setArm, rd_setEst, rd_setAd, rd_setLaw, rd_setAcq, rd_modDma, rd_modArm, rd_modEst, rd_modAlm, rd_modPwr, rd_cwr, crd_wr, inc_eq, incBy_eq, incW_eq, wrB_eq, State.fireK, modCore_eq, modLane_eq, modCtx_eq, modAd_eq, modLaw_eq, raiseBit_rd]; rfl, fires_retire (fires_of _ ?_) _ _, ?_⟩
      · rw [wr_canFire _ _ _ _ _ (by (simp only [Fld.key, Fld.at, ne_eq, Pwr.DIE_STAT.RDY, Pwr.XS_STAT.REJ, pwrB]; omega)) (by (simp only [Fld.key, Fld.at, ne_eq, Pwr.DIE_STAT.BUSY, Pwr.XS_STAT.REJ, pwrB]; omega)), wr_canFire _ _ _ _ _ (by (simp only [Fld.key, Fld.at, ne_eq, Pwr.DIE_STAT.RDY, Pwr.XS_STAT.PFABORT, pwrB]; omega)) (by (simp only [Fld.key, Fld.at, ne_eq, Pwr.DIE_STAT.BUSY, Pwr.XS_STAT.PFABORT, pwrB]; omega))]
      · show (fire _ _).pwr.xs = _; rw [fire_pwr]; rfl
    · refine ⟨by rw [rd_retire]; simp (disch := first | decide | (simp only [Fld.key, Fld.at, ne_eq, Pwr.XS_STAT.REJ, pwrB]; omega) | omega | (intro _ h; cases h; decide)) only [rd_wr_same, rd_wr_ne, rd_fire, rd_retire, rd_answer, rd_setCore, rd_setSch, rd_setLane, rd_setCtx, rd_setCell, rd_setModul, rd_setArm, rd_setEst, rd_setAd, rd_setLaw, rd_setAcq, rd_modDma, rd_modArm, rd_modEst, rd_modAlm, rd_modPwr, rd_cwr, crd_wr, inc_eq, incBy_eq, incW_eq, wrB_eq, State.fireK, modCore_eq, modLane_eq, modCtx_eq, modAd_eq, modLaw_eq, raiseBit_rd]; rfl, fires_retire (fires_of _ ?_) _ _, ?_⟩
      · rw [wr_canFire _ _ _ _ _ (by (simp only [Fld.key, Fld.at, ne_eq, Pwr.DIE_STAT.RDY, Pwr.XS_STAT.REJ, pwrB]; omega)) (by (simp only [Fld.key, Fld.at, ne_eq, Pwr.DIE_STAT.BUSY, Pwr.XS_STAT.REJ, pwrB]; omega))]
      · show (fire _ _).pwr.xs = _; rw [fire_pwr]; rfl
  · unfold xsGo; dsimp only; rw [if_neg (by rw [hp]; decide), if_neg (by omega), if_neg (fun h => hbad ((hb _).1 h))]
    refine ⟨?_, ?_, rfl⟩ <;> (rw [rd_retire, rd_modPwr']; simp (disch := first | decide | (simp only [Fld.key, Fld.at, ne_eq, Pwr.XS_STAT.BUSY, Pwr.XS_STAT.OWNER, pwrB]; omega) | omega | (intro _ h; cases h; decide)) only [rd_wr_same, rd_wr_ne, rd_fire, rd_retire, rd_answer, rd_setCore, rd_setSch, rd_setLane, rd_setCtx, rd_setCell, rd_setModul, rd_setArm, rd_setEst, rd_setAd, rd_setLaw, rd_setAcq, rd_modDma, rd_modArm, rd_modEst, rd_modAlm, rd_modPwr, rd_cwr, crd_wr, inc_eq, incBy_eq, incW_eq, wrB_eq, State.fireK, modCore_eq, modLane_eq, modCtx_eq, modAd_eq, modLaw_eq, raiseBit_rd]; rfl)
theorem buf_key (f : Fld) (h : f.off < 0x800) (h2 : f.lsb < 32) (i : Nat) : f.key pwrB ≠ (Pwr.XS_BUF.DATA.at i).key pwrB := by
  unfold Fld.key Fld.at Pwr.XS_BUF.DATA; dsimp only; omega
theorem bufPut_rd (s : State) (u : Nat) (l : List Byte) (f : Fld) (h : f.off < 0x800) (h2 : f.lsb < 32) : (s.xsBufPut u l).rd pwrB f = s.rd pwrB f := by
  unfold xsBufPut; dsimp only
  refine foldl_mem (fun v : State => v.rd pwrB f = s.rd pwrB f) _ _ _ rfl (fun v i _ hv => ?_)
  rw [rd_wr_ne _ _ _ _ _ _ (buf_key _ h h2 _)]; exact hv
theorem bufPut_same (s : State) (u : Nat) (l : List Byte) : (s.xsBufPut u l).mem = s.mem ∧ (s.xsBufPut u l).nor = s.nor ∧ (s.xsBufPut u l).mram = s.mram := km (xsBufPut_keep s u l)
theorem devPut_rd (s : State) (u a : Nat) (l : List Byte) (b : Nat) (f : Fld) : (s.xsDevPut u a l).rd b f = s.rd b f := by unfold xsDevPut; split <;> rfl
theorem devPut_same (s : State) (u a : Nat) (l : List Byte) : (s.xsDevPut u a l).mem = s.mem ∧ (u = 0 → (s.xsDevPut u a l).mram = s.mram) ∧ (u = 1 → (s.xsDevPut u a l).nor = s.nor) := by
  unfold xsDevPut; split
  · exact ⟨rfl, fun _ => rfl, fun h => by omega⟩
  · rename_i h; exact ⟨rfl, fun h2 => absurd h2 h, fun _ => rfl⟩
theorem doneFacts (s u0 : State) (u op : Nat) (a : Nat) (l : List Byte) (err : Bool) (n : Nat) (hu : u < 2) (hm : u0.mem = s.mem) (hn : u0.nor = s.nor) (hr : u0.mram = s.mram) (hb : u0.rd pwrB (Pwr.XS_STAT.BUSY.at u) = 0) :
    let v := if op = 0 || op = 3 then u0.xsBufPut u l else u0.xsDevPut u a l
    let t := if err then (v.wr pwrB (Pwr.XS_STAT.ERR.at u) 1).fire n else v.wr pwrB (Pwr.XS_STAT.DONE.at u) 1
    t.mem = s.mem ∧ t.rd pwrB (Pwr.XS_STAT.BUSY.at u) = 0 ∧
         (err = false → t.rd pwrB (Pwr.XS_STAT.DONE.at u) = 1) ∧ (err = true → t.rd pwrB (Pwr.XS_STAT.ERR.at u) = 1) ∧
         (op = 0 → t.nor = s.nor ∧ t.mram = s.mram) ∧ (u = 0 → t.mram = s.mram) ∧ (u = 1 → t.nor = s.nor) := by
  dsimp only
  have hf : ∀ (x : State) k, (x.fire k).mem = x.mem ∧ (x.fire k).nor = x.nor ∧ (x.fire k).mram = x.mram := fun x k => by unfold fire; split <;> exact ⟨rfl, rfl, rfl⟩
  have hv : ∃ v, (if (op = 0 || op = 3) then u0.xsBufPut u l else u0.xsDevPut u a l) = v ∧ v.mem = s.mem ∧ v.rd pwrB (Pwr.XS_STAT.BUSY.at u) = 0 ∧ (op = 0 → v.nor = s.nor ∧ v.mram = s.mram) ∧ (u = 0 → v.mram = s.mram) ∧ (u = 1 → v.nor = s.nor) := by
    refine ⟨_, rfl, ?_⟩
    split
    · obtain ⟨h1, h2, h3⟩ := bufPut_same u0 u l
      refine ⟨h1.trans hm, ?_, fun _ => ⟨h2.trans hn, h3.trans hr⟩, fun _ => h3.trans hr, fun _ => h2.trans hn⟩
      rw [bufPut_rd _ _ _ _ (by simp only [Pwr.XS_STAT.BUSY]; simp only [Fld.at]; omega) (by show 0 < 32; decide)]; exact hb
    · rename_i h
      obtain ⟨h1, h2, h3⟩ := devPut_same u0 u a l
      refine ⟨h1.trans hm, ?_, fun h4 => absurd h4 (by intro h4; apply h; simp [h4]), fun h4 => (h2 h4).trans hr, fun h4 => (h3 h4).trans hn⟩
      rw [devPut_rd]; exact hb
  obtain ⟨v, e, h1, h2, h3, h4, h5⟩ := hv
  rw [e]
  cases err
  · rw [if_neg (by decide)]
    exact ⟨h1, by simp (disch := first | decide | (simp only [Fld.key, Fld.at, ne_eq, Pwr.XS_STAT.BUSY, Pwr.XS_STAT.DONE, pwrB]; omega) | omega | (intro _ h; cases h; decide)) only [rd_wr_same, rd_wr_ne, rd_fire, rd_retire, rd_answer, rd_setCore, rd_setSch, rd_setLane, rd_setCtx, rd_setCell, rd_setModul, rd_setArm, rd_setEst, rd_setAd, rd_setLaw, rd_setAcq, rd_modDma, rd_modArm, rd_modEst, rd_modAlm, rd_modPwr, rd_cwr, crd_wr, inc_eq, incBy_eq, incW_eq, wrB_eq, State.fireK, modCore_eq, modLane_eq, modCtx_eq, modAd_eq, modLaw_eq, raiseBit_rd]; exact h2, fun _ => by simp (disch := first | decide | (simp only [Fld.key, Fld.at, ne_eq, Pwr.XS_STAT.DONE, pwrB]; omega) | omega | (intro _ h; cases h; decide)) only [rd_wr_same, rd_wr_ne, rd_fire, rd_retire, rd_answer, rd_setCore, rd_setSch, rd_setLane, rd_setCtx, rd_setCell, rd_setModul, rd_setArm, rd_setEst, rd_setAd, rd_setLaw, rd_setAcq, rd_modDma, rd_modArm, rd_modEst, rd_modAlm, rd_modPwr, rd_cwr, crd_wr, inc_eq, incBy_eq, incW_eq, wrB_eq, State.fireK, modCore_eq, modLane_eq, modCtx_eq, modAd_eq, modLaw_eq, raiseBit_rd]; rfl, (fun h => by cases h), h3, h4, h5⟩
  · rw [if_pos rfl]
    refine ⟨(hf _ _).1.trans h1, by simp (disch := first | decide | (simp only [Fld.key, Fld.at, ne_eq, Pwr.XS_STAT.BUSY, Pwr.XS_STAT.ERR, pwrB]; omega) | omega | (intro _ h; cases h; decide)) only [rd_wr_same, rd_wr_ne, rd_fire, rd_retire, rd_answer, rd_setCore, rd_setSch, rd_setLane, rd_setCtx, rd_setCell, rd_setModul, rd_setArm, rd_setEst, rd_setAd, rd_setLaw, rd_setAcq, rd_modDma, rd_modArm, rd_modEst, rd_modAlm, rd_modPwr, rd_cwr, crd_wr, inc_eq, incBy_eq, incW_eq, wrB_eq, State.fireK, modCore_eq, modLane_eq, modCtx_eq, modAd_eq, modLaw_eq, raiseBit_rd]; exact h2, (fun h => by cases h), fun _ => by simp (disch := first | decide | (simp only [Fld.key, Fld.at, ne_eq, Pwr.XS_STAT.ERR, pwrB]; omega) | omega | (intro _ h; cases h; decide)) only [rd_wr_same, rd_wr_ne, rd_fire, rd_retire, rd_answer, rd_setCore, rd_setSch, rd_setLane, rd_setCtx, rd_setCell, rd_setModul, rd_setArm, rd_setEst, rd_setAd, rd_setLaw, rd_setAcq, rd_modDma, rd_modArm, rd_modEst, rd_modAlm, rd_modPwr, rd_cwr, crd_wr, inc_eq, incBy_eq, incW_eq, wrB_eq, State.fireK, modCore_eq, modLane_eq, modCtx_eq, modAd_eq, modLaw_eq, raiseBit_rd]; rfl, fun h => ⟨(hf _ _).2.1.trans (h3 h).1, (hf _ _).2.2.trans (h3 h).2⟩, fun h => (hf _ _).2.2.trans (h4 h), fun h => (hf _ _).2.1.trans (h5 h)⟩
theorem sigIns_len (l : List SigJob) (j : SigJob) : (sigIns l j).length = l.length + 1 := by
  induction l with
  | nil => rfl
  | cons x l ih => unfold sigIns; split <;> simp [ih]
theorem win_key (f g : Fld) (m i b : Nat) (hm : m < 128) (hi : i < 16) (hb : b + f.off < 0x20048000 ∨ 0x20050000 ≤ b + f.off) (h2 : f.lsb < 32) (h1 : g.off < 0x10) (h3 : g.lsb < 32) : f.key b ≠ g.key (winB m i) := by
  unfold Fld.key winB; omega
theorem winSet_rd (s : State) (m i ba l a : Nat) (hm : m < 128) (hi : i < 16) (b : Nat) (f : Fld) (hb : b + f.off < 0x20048000 ∨ 0x20050000 ≤ b + f.off) (h2 : f.lsb < 32) : (s.winSet m i ba l a).rd b f = s.rd b f := by
  have k := fun g h1 h3 => win_key f g m i b hm hi hb h2 h1 h3
  unfold winSet; dsimp only; simp only [wrB_eq]
  rw [rd_wr_ne _ _ _ _ _ _ (k _ (by decide) (by decide)), rd_wr_ne _ _ _ _ _ _ (k _ (by decide) (by decide)), rd_wr_ne _ _ _ _ _ _ (k _ (by decide) (by decide)), rd_wr_ne _ _ _ _ _ _ (k _ (by decide) (by decide)), rd_wr_ne _ _ _ _ _ _ (k _ (by decide) (by decide)), rd_wr_ne _ _ _ _ _ _ (k _ (by decide) (by decide)), rd_wr_ne _ _ _ _ _ _ (k _ (by decide) (by decide)), rd_wr_ne _ _ _ _ _ _ (k _ (by decide) (by decide))]
theorem winSet_same (s : State) (m i ba l a : Nat) : (s.winSet m i ba l a).sec = s.sec ∧ (s.winSet m i ba l a).rom = s.rom := by
  unfold winSet; dsimp only; simp only [wrB_eq, State.wr_sec, State.wr_rom, and_self]
theorem stays1 (s : State) : (s.romStays 1).sec = s.sec ∧ (s.romStays 1).rom = s.rom ∧ (s.romStays 1).rd secB Secu.SEC_STAT.BOOTERR = 1 := by
  unfold romStays; dsimp only; rw [if_pos rfl]
  refine ⟨(winSet_same _ _ _ _ _ _).1.trans (winSet_same _ _ _ _ _ _).1, (winSet_same _ _ _ _ _ _).2.trans (winSet_same _ _ _ _ _ _).2, ?_⟩
  rw [winSet_rd _ _ _ _ _ _ (by decide) (by decide) _ _ (by decide) (by decide), winSet_rd _ _ _ _ _ _ (by decide) (by decide) _ _ (by decide) (by decide)]; simp (disch := first | decide | (simp only [Fld.key, Fld.at, ne_eq, Secu.SEC_STAT.BOOTERR, secB]; omega) | omega | (intro _ h; cases h; decide)) only [rd_wr_same, rd_wr_ne, rd_fire, rd_retire, rd_answer, rd_setCore, rd_setSch, rd_setLane, rd_setCtx, rd_setCell, rd_setModul, rd_setArm, rd_setEst, rd_setAd, rd_setLaw, rd_setAcq, rd_modDma, rd_modArm, rd_modEst, rd_modAlm, rd_modPwr, rd_cwr, crd_wr, inc_eq, incBy_eq, incW_eq, wrB_eq, State.fireK, modCore_eq, modLane_eq, modCtx_eq, modAd_eq, modLaw_eq, raiseBit_rd]; rfl
theorem rev_allowed (p rev : Nat) : ((List.range 4).any (fun i => p.testBit i && !rev.testBit i)) = true ↔ ∃ i, i < 4 ∧ p.testBit i = true ∧ rev.testBit i = false := by
  simp only [List.any_eq_true, List.mem_range, Bool.and_eq_true, Bool.not_eq_true']
theorem secRej_facts (s : State) (w : Wr) (a : Nat) : (s.secRej.retire w a).rd secB Secu.SEC_STAT.REJ = 1 ∧ s.fires (s.secRej.retire w a) 0x1BC ∧ (∀ f : Fld, f.key secB ≠ Secu.SEC_STAT.REJ.key secB → (s.secRej.retire w a).rd secB f = s.rd secB f) := by
  unfold secRej
  refine ⟨by rw [rd_retire]; simp (disch := first | decide | (simp only [Fld.key, Fld.at, ne_eq, Secu.SEC_STAT.REJ, secB]; omega) | omega | (intro _ h; cases h; decide)) only [rd_wr_same, rd_wr_ne, rd_fire, rd_retire, rd_answer, rd_setCore, rd_setSch, rd_setLane, rd_setCtx, rd_setCell, rd_setModul, rd_setArm, rd_setEst, rd_setAd, rd_setLaw, rd_setAcq, rd_modDma, rd_modArm, rd_modEst, rd_modAlm, rd_modPwr, rd_cwr, crd_wr, inc_eq, incBy_eq, incW_eq, wrB_eq, State.fireK, modCore_eq, modLane_eq, modCtx_eq, modAd_eq, modLaw_eq, raiseBit_rd]; rfl, fires_retire (fires_of _ (wr_canFire _ _ _ _ _ (by (simp only [Fld.key, Fld.at, ne_eq, Pwr.DIE_STAT.RDY, Secu.SEC_STAT.REJ, pwrB, secB]; omega)) (by (simp only [Fld.key, Fld.at, ne_eq, Pwr.DIE_STAT.BUSY, Secu.SEC_STAT.REJ, pwrB, secB]; omega)))) _ _, fun f hf => ?_⟩
  rw [rd_retire, rd_fire, rd_wr_ne _ _ _ _ _ _ hf]
theorem fabFields : regFields (capsB + 0x100) = [(capsB, Fab.FAB_CTL.TMO.at 0), (capsB, Fab.FAB_CTL.STAGE_HOLD.at 0)] := by decide +kernel
theorem fabLoc (s : State) : s.locate none (capsB + 0x100) = .reg := rfl
theorem fabCyc : cycTarget (capsB + 0x100) = none := by decide +kernel
theorem lawWaits_none (s : State) (a : Nat) (h : a < 0x30000000) : s.lawWaits a = none := by
  unfold lawWaits
  rw [List.findSome?_eq_none_iff]
  intro k hk
  rw [if_neg]; rintro ⟨h1, -⟩
  unfold lawB kB at h1; omega
theorem put_rw (s : State) (b v : Nat) (f : Fld) (ha : f.acc = .rw) (a : Nat) (hf : regFields a = [(b, f)]) : s.putWord a v Guard.free = s.wr b f (f.of v) := by
  unfold putWord; rw [hf]
  simp only [List.foldl_cons, List.foldl_nil, List.any_cons, List.any_nil]
  unfold putField; rw [ha]; unfold Guard.free heldBy refusedBy
  simp
theorem put_rw2 (s : State) (b v : Nat) (f g : Fld) (ha : f.acc = .rw) (hg : g.acc = .rw) (a : Nat) (hf : regFields a = [(b, f), (b, g)]) : s.putWord a v Guard.free = (s.wr b f (f.of v)).wr b g (g.of v) := by
  unfold putWord; rw [hf]
  simp only [List.foldl_cons, List.foldl_nil, List.any_cons, List.any_nil]
  unfold putField; rw [ha, hg]; unfold Guard.free heldBy refusedBy
  simp
theorem fabLand (w : Wr) (s : State) (v : Word) : s.land w (capsB + 0x100) v = ((s.retire w (capsB + 0x100)).wr capsB (Fab.FAB_CTL.TMO.at 0) ((Fab.FAB_CTL.TMO.at 0).of v.toNat)).wr capsB (Fab.FAB_CTL.STAGE_HOLD.at 0) ((Fab.FAB_CTL.STAGE_HOLD.at 0).of v.toNat) := by
  unfold land; rw [fabLoc, fabCyc, lawWaits_none _ _ (by decide)]
  rw [← put_rw2 _ _ _ _ _ rfl rfl _ fabFields]
  rfl
theorem winFields (m i : Nat) (hm : m < 128) (hi : i < 16) : regFields (winB m i) = [(winB m i, Win.WBASE.BASE.at 0)] := by
  have h : winB m i = 0x20048000 + m * 0x100 + i * 0x10 := rfl
  have e : regBlock (winB m i) = some (winB m i, Win.fields) := by
    unfold regBlock
    rw [if_neg (by omega), if_neg (by omega), if_neg (by omega), if_neg (by omega), if_neg (by omega), if_neg (by omega), if_neg (by omega), if_neg (by omega), if_pos (by omega)]
    congr 2; omega
  unfold regFields; rw [e]; dsimp only
  rw [Nat.sub_self]
  generalize winB m i = b
  have k : Win.fields.filterMap (fun f => f.inWord 0) = [Win.WBASE.BASE.at 0] := by decide +kernel
  rw [← List.map_filterMap, k]; rfl
theorem winLand (w : Wr) (s : State) (v : Word) (m i : Nat) (hm : m < 128) (hi : i < 16) : s.land w (winB m i) v = (s.retire w (winB m i)).wr (winB m i) (Win.WBASE.BASE.at 0) ((Win.WBASE.BASE.at 0).of v.toNat) := by
  have h : winB m i = 0x20048000 + m * 0x100 + i * 0x10 := rfl
  have hl : s.locate none (winB m i) = .reg := by
    unfold locate; dsimp only
    rw [if_neg (by omega), if_neg (by omega), if_neg (by omega), if_neg (by omega), if_neg (by omega), if_neg (by omega), if_neg (by omega), if_pos (by omega)]
  have hc : cycTarget (winB m i) = none := by
    unfold cycTarget; rw [if_neg (by omega), if_neg (by omega), if_neg (by omega)]
  unfold land; rw [hl, hc, lawWaits_none _ _ (by omega)]
  rw [← put_rw _ _ _ _ rfl _ (winFields m i hm hi)]
  show busWrite _ _ _ _ = _
  unfold busWrite
  rw [if_neg (by omega), if_neg (by omega), if_neg (by omega), if_neg (by omega), if_neg (by omega), if_neg (by omega), if_neg (by omega), if_neg (by omega), if_pos (by omega)]
theorem absent_facts (u : State) (m a : Nat) (wr i : Bool) : let t := u.absentEvt m a wr i
   t.rd capsB Caps.ABSENT_ADDR.ADDR = a % 2 ^ 32 ∧ t.rd capsB Caps.ABSENT_INFO.MID = m % 2 ^ 8 ∧ t.rd capsB Caps.ABSENT_INFO.WR = wr.toNat ∧ t.mem = u.mem := by
  dsimp only; unfold absentEvt; dsimp only
  refine ⟨?_, ?_, ?_, ?_⟩
  · simp (disch := first | decide | (simp only [Fld.key, Fld.at, ne_eq, Caps.ABSENT_ADDR.ADDR, Caps.ABSENT_INFO.COUNT, Caps.ABSENT_INFO.INSN, Caps.ABSENT_INFO.MID, Caps.ABSENT_INFO.WR, capsB]; omega) | omega | (intro _ h; cases h; decide)) only [rd_wr_same, rd_wr_ne, rd_fire, rd_retire, rd_answer, rd_setCore, rd_setSch, rd_setLane, rd_setCtx, rd_setCell, rd_setModul, rd_setArm, rd_setEst, rd_setAd, rd_setLaw, rd_setAcq, rd_modDma, rd_modArm, rd_modEst, rd_modAlm, rd_modPwr, rd_cwr, crd_wr, inc_eq, incBy_eq, incW_eq, wrB_eq, State.fireK, modCore_eq, modLane_eq, modCtx_eq, modAd_eq, modLaw_eq, raiseBit_rd]; rfl
  · simp (disch := first | decide | (simp only [Fld.key, Fld.at, ne_eq, Caps.ABSENT_ADDR.ADDR, Caps.ABSENT_INFO.COUNT, Caps.ABSENT_INFO.INSN, Caps.ABSENT_INFO.MID, Caps.ABSENT_INFO.WR, capsB]; omega) | omega | (intro _ h; cases h; decide)) only [rd_wr_same, rd_wr_ne, rd_fire, rd_retire, rd_answer, rd_setCore, rd_setSch, rd_setLane, rd_setCtx, rd_setCell, rd_setModul, rd_setArm, rd_setEst, rd_setAd, rd_setLaw, rd_setAcq, rd_modDma, rd_modArm, rd_modEst, rd_modAlm, rd_modPwr, rd_cwr, crd_wr, inc_eq, incBy_eq, incW_eq, wrB_eq, State.fireK, modCore_eq, modLane_eq, modCtx_eq, modAd_eq, modLaw_eq, raiseBit_rd]; rfl
  · simp (disch := first | decide | (simp only [Fld.key, Fld.at, ne_eq, Caps.ABSENT_ADDR.ADDR, Caps.ABSENT_INFO.COUNT, Caps.ABSENT_INFO.INSN, Caps.ABSENT_INFO.MID, Caps.ABSENT_INFO.WR, capsB]; omega) | omega | (intro _ h; cases h; decide)) only [rd_wr_same, rd_wr_ne, rd_fire, rd_retire, rd_answer, rd_setCore, rd_setSch, rd_setLane, rd_setCtx, rd_setCell, rd_setModul, rd_setArm, rd_setEst, rd_setAd, rd_setLaw, rd_setAcq, rd_modDma, rd_modArm, rd_modEst, rd_modAlm, rd_modPwr, rd_cwr, crd_wr, inc_eq, incBy_eq, incW_eq, wrB_eq, State.fireK, modCore_eq, modLane_eq, modCtx_eq, modAd_eq, modLaw_eq, raiseBit_rd]; cases wr <;> rfl
  · simp only [inc_eq, wrB_eq, State.wr_mem]
theorem fmem (x : State) (k : Nat) : (x.fire k).mem = x.mem := by unfold fire; split <;> rfl
theorem off_facts (u : State) (m a : Nat) (wr : Bool) (h : u.rd pwrB Pwr.OFF_INFO.VALID = 0) : let t := u.offEvt m a wr
   t.rd pwrB Pwr.OFF_ADDR.ADDR = a % 2 ^ 32 ∧ t.rd pwrB Pwr.OFF_INFO.VALID = 1 ∧ u.fires t 0x1C5 ∧ t.mem = u.mem := by
  dsimp only; unfold offEvt; rw [if_neg (by rw [on_false h]; decide)]
  refine ⟨?_, ?_, fires_of _ ?_, ?_⟩
  · simp (disch := first | decide | (simp only [Fld.key, Fld.at, ne_eq, Pwr.OFF_ADDR.ADDR, Pwr.OFF_INFO.MID, Pwr.OFF_INFO.VALID, Pwr.OFF_INFO.WR, pwrB]; omega) | omega | (intro _ h; cases h; decide)) only [rd_wr_same, rd_wr_ne, rd_fire, rd_retire, rd_answer, rd_setCore, rd_setSch, rd_setLane, rd_setCtx, rd_setCell, rd_setModul, rd_setArm, rd_setEst, rd_setAd, rd_setLaw, rd_setAcq, rd_modDma, rd_modArm, rd_modEst, rd_modAlm, rd_modPwr, rd_cwr, crd_wr, inc_eq, incBy_eq, incW_eq, wrB_eq, State.fireK, modCore_eq, modLane_eq, modCtx_eq, modAd_eq, modLaw_eq, raiseBit_rd]; rfl
  · simp (disch := first | decide | (simp only [Fld.key, Fld.at, ne_eq, Pwr.OFF_ADDR.ADDR, Pwr.OFF_INFO.MID, Pwr.OFF_INFO.VALID, Pwr.OFF_INFO.WR, pwrB]; omega) | omega | (intro _ h; cases h; decide)) only [rd_wr_same, rd_wr_ne, rd_fire, rd_retire, rd_answer, rd_setCore, rd_setSch, rd_setLane, rd_setCtx, rd_setCell, rd_setModul, rd_setArm, rd_setEst, rd_setAd, rd_setLaw, rd_setAcq, rd_modDma, rd_modArm, rd_modEst, rd_modAlm, rd_modPwr, rd_cwr, crd_wr, inc_eq, incBy_eq, incW_eq, wrB_eq, State.fireK, modCore_eq, modLane_eq, modCtx_eq, modAd_eq, modLaw_eq, raiseBit_rd]; rfl
  · simp only [wrB_eq]
    rw [wr_canFire _ _ _ _ _ (by (simp only [Fld.key, Fld.at, ne_eq, Pwr.DIE_STAT.RDY, Pwr.OFF_INFO.VALID, pwrB]; omega)) (by (simp only [Fld.key, Fld.at, ne_eq, Pwr.DIE_STAT.BUSY, Pwr.OFF_INFO.VALID, pwrB]; omega)), wr_canFire _ _ _ _ _ (by (simp only [Fld.key, Fld.at, ne_eq, Pwr.DIE_STAT.RDY, Pwr.OFF_INFO.WR, pwrB]; omega)) (by (simp only [Fld.key, Fld.at, ne_eq, Pwr.DIE_STAT.BUSY, Pwr.OFF_INFO.WR, pwrB]; omega)), wr_canFire _ _ _ _ _ (by (simp only [Fld.key, Fld.at, ne_eq, Pwr.DIE_STAT.RDY, Pwr.OFF_INFO.MID, pwrB]; omega)) (by (simp only [Fld.key, Fld.at, ne_eq, Pwr.DIE_STAT.BUSY, Pwr.OFF_INFO.MID, pwrB]; omega)), wr_canFire _ _ _ _ _ (by (simp only [Fld.key, Fld.at, ne_eq, Pwr.DIE_STAT.RDY, Pwr.OFF_ADDR.ADDR, pwrB]; omega)) (by (simp only [Fld.key, Fld.at, ne_eq, Pwr.DIE_STAT.BUSY, Pwr.OFF_ADDR.ADDR, pwrB]; omega))]
  · simp only [wrB_eq, State.wr_mem, fmem]
def writes : Instr → Bool
  | .registerWrite .. => true
  | .pcieHostRequest .. => true
  | .fabricTimeout .. => true
  | .fastPassEnd .. => true
  | .slowPassEnd .. => true
  | .exportTrailer .. => true
  | .st .. => true
  | .stw .. => true
  | .fenceRelease .. => true
  | .dmaReadReturn .. => true
  | .acqStop .. => true
  | .acqRecordWrite .. => true
  | .frameReceived .. => true
  | .frameTransmitted .. => true
  | .faultFiring .. => true
  | .almanacImageWritten .. => true
  | .signingDone .. => true
  | .meterCheckpoint .. => true
  | .meterRestoreDone .. => true
  | .recover .. => true
  | .bootRomRun .. => true
  | .porstAssert .. => true
  | .porstRelease .. => true
  | .chipRst .. => true
  | .internalResetEnd .. => true
  | .aoPowerOn .. => true
  | .aoPowerLoss .. => true
  | .pwrfailRecognised .. => true
  | .dieOff .. => true
  | .dieReady .. => true
  | .dieBistStart .. => true
  | .xsTransferDone .. => true
  | _ => false
theorem ks {o : Host.Outcome State Fault Refusal} {s t : State} (h : keeps o s) (e : o = .next t) : t.keep = s.keep := h t e
theorem execKeeps : ∀ i s, writes i = false → keeps (exec i s) s := by
  intro i s h
  cases i with
  | registerWrite w addr v => exact Bool.noConfusion h
  | capq m o => exact execCapq_keep m o s
  | absentClr w => exact execAbsentClr_keep w s
  | pcieHostRequest wr addr v => exact Bool.noConfusion h
  | cycleWriteLand m addr v => exact execCycleWriteLand_keep m addr v s
  | cycCommit m n t => exact execCycCommit_keep m n t s
  | flitCrcFail link => exact execFlitCrcFail_keep link s
  | fabricTimeout m wr addr => exact Bool.noConfusion h
  | fabErrclr w => exact execFabErrclr_keep w s
  | windowTableEccError ue => exact execWindowTableEccError_keep ue s
  | subframeBoundary => exact execSubframeBoundary_keep s
  | upstreamSlotsDone => exact execUpstreamSlotsDone_keep s
  | cycleTimerEn w v => exact execCycleTimerEn_keep w v s
  | cycleTimerStart => exact execCycleTimerStart_keep s
  | cycleTimerDis w => exact execCycleTimerDis_keep w s
  | cycleTimerStop => exact execCycleTimerStop_keep s
  | cycNumLoRead m => exact execCycNumLoRead_keep m s
  | modBuildCutoff k => exact execModBuildCutoff_keep k s
  | rankComplete k glitch => exact execRankComplete_keep k glitch s
  | checkerVerdict k => exact execCheckerVerdict_keep k s
  | refstale k a => exact execRefstale_keep k a s
  | plausibilityExclusion k c => exact execPlausibilityExclusion_keep k c s
  | trendPeriodEnd k => exact execTrendPeriodEnd_keep k s
  | armCntclr w k a => exact execArmCntclr_keep w k a s
  | cvAgeClear w k => exact execCvAgeClear_keep w k s
  | pfxClear w k c => exact execPfxClear_keep w k c s
  | modRamError k c ue => exact execModRamError_keep k c ue s
  | laneBuildCutoff ln => exact execLaneBuildCutoff_keep ln s
  | frameStart ln => exact execFrameStart_keep ln s
  | cellHdrAccept c b => exact execCellHdrAccept_keep c b s
  | cellCmdBlock c b margin => exact execCellCmdBlock_keep c b margin s
  | cellRptBlock c b margin => exact execCellRptBlock_keep c b margin s
  | cellAcmd c b margin => exact execCellAcmd_keep c b margin s
  | cellBcast c b margin => exact execCellBcast_keep c b margin s
  | cellMer c b => exact execCellMer_keep c b s
  | cellGrant c b => exact execCellGrant_keep c b s
  | enableTx c b => exact execEnableTx_keep c b s
  | occult c byId b => exact execOccult_keep c byId b s
  | release c b => exact execRelease_keep c b s
  | eqset c b => exact execEqset_keep c b s
  | nop c e => exact execNop_keep c e s
  | setState c e => exact execSetState_keep c e s
  | setPwm c e => exact execSetPwm_keep c e s
  | force c e => exact execForce_keep c e s
  | clearTrip c e => exact execClearTrip_keep c e s
  | readReg c e => exact execReadReg_keep c e s
  | writeReg c e => exact execWriteReg_keep c e s
  | cellClrcnt c => exact execCellClrcnt_keep c s
  | bypfClr c v => exact execBypfClr_keep c v s
  | sleep c e => exact execSleep_keep c e s
  | bistStart c e => exact execBistStart_keep c e s
  | cellBistEnd c misr golden => exact execCellBistEnd_keep c misr golden s
  | armBypass c e => exact execArmBypass_keep c e s
  | fireBypass c e => exact execFireBypass_keep c e s
  | bypassWindowExpiry c => exact execBypassWindowExpiry_keep c s
  | bypPulseEnd c => exact execBypPulseEnd_keep c s
  | range c => exact execRange_keep c s
  | cellReportTx c => exact execCellReportTx_keep c s
  | cellRegrantTx c slot => exact execCellRegrantTx_keep c slot s
  | cellReportFreeze c => exact execCellReportFreeze_keep c s
  | cellConversion c idx va vb => exact execCellConversion_keep c idx va vb s
  | cellCalSwitch c inRange => exact execCellCalSwitch_keep c inRange s
  | carrierPeriodStart c => exact execCarrierPeriodStart_keep c s
  | tripInput c idx => exact execTripInput_keep c idx s
  | gsupLow c => exact execGsupLow_keep c s
  | lossOfLight c => exact execLossOfLight_keep c s
  | lolTimeout c => exact execLolTimeout_keep c s
  | txGuardViolation c => exact execTxGuardViolation_keep c s
  | cellPllUnlock c => exact execCellPllUnlock_keep c s
  | cellParityError c => exact execCellParityError_keep c s
  | cellDupmis c e => exact execCellDupmis_keep c e s
  | cellOvertemp c => exact execCellOvertemp_keep c s
  | vauxlow c => exact execVauxlow_keep c s
  | newtColdStart c => exact execNewtColdStart_keep c s
  | vauxOnRise c => exact execVauxOnRise_keep c s
  | wake c => exact execWake_keep c s
  | regulatorsInRange c => exact execRegulatorsInRange_keep c s
  | vauxOffFall c => exact execVauxOffFall_keep c s
  | newtBrownout c => exact execNewtBrownout_keep c s
  | laneReportRx ln slot rx => exact execLaneReportRx_keep ln slot rx s
  | laneRangingRx ln rx => exact execLaneRangingRx_keep ln rx s
  | rangingNoBurst ln => exact execRangingNoBurst_keep ln s
  | ackwaitExpiry ln sl => exact execAckwaitExpiry_keep ln sl s
  | outOfGrantLight ln who => exact execOutOfGrantLight_keep ln who s
  | babbleUnidentified ln => exact execBabbleUnidentified_keep ln s
  | babblePersist ln => exact execBabblePersist_keep ln s
  | seeErrPersist ln sl => exact execSeeErrPersist_keep ln sl s
  | rxlos ln => exact execRxlos_keep ln s
  | cellCmdAssign ln sl => exact execCellCmdAssign_keep ln sl s
  | cellCmdEnable ln sl => exact execCellCmdEnable_keep ln sl s
  | cellCmdOccult ln sl => exact execCellCmdOccult_keep ln sl s
  | cellCmdRelease ln sl => exact execCellCmdRelease_keep ln sl s
  | cellCmdCntclr ln sl => exact execCellCmdCntclr_keep ln sl s
  | acmdPush ln sl v => exact execAcmdPush_keep ln sl v s
  | bcastPush w ln v => exact execBcastPush_keep w ln v s
  | laneCntClr w ln => exact execLaneCntClr_keep w ln s
  | laneEnSet w ln => exact execLaneEnSet_keep w ln s
  | laneEnClear w ln => exact execLaneEnClear_keep w ln s
  | laneDarkRequest w ln => exact execLaneDarkRequest_keep w ln s
  | laneWakeUp w ln => exact execLaneWakeUp_keep w ln s
  | laneLocked ln => exact execLaneLocked_keep ln s
  | ldiePllUnlock l => exact execLdiePllUnlock_keep l s
  | laneTxflt ln => exact execLaneTxflt_keep ln s
  | wakeStart w ln => exact execWakeStart_keep w ln s
  | wakeToneEnd ln => exact execWakeToneEnd_keep ln s
  | rsStart w ln => exact execRsStart_keep w ln s
  | rsAbort w ln => exact execRsAbort_keep w ln s
  | rsScanDone ln counts => exact execRsScanDone_keep ln counts s
  | contextRamError ln sl ue => exact execContextRamError_keep ln sl ue s
  | framerMismatch l => exact execFramerMismatch_keep l s
  | lawInputFill k => exact execLawInputFill_keep k s
  | svInputStale k idx => exact execSvInputStale_keep k idx s
  | fastPassEnd k => exact Bool.noConfusion h
  | slowPassEnd k => exact Bool.noConfusion h
  | modelPlausibility k ch sec => exact execModelPlausibility_keep k ch sec s
  | lawDeferredWrite k => exact execLawDeferredWrite_keep k s
  | clrst w k ch => exact execClrst_keep w k ch s
  | clrplaus w k ch => exact execClrplaus_keep w k ch s
  | lawLockstepDiff k => exact execLawLockstepDiff_keep k s
  | lawRamError k ue => exact execLawRamError_keep k ue s
  | exportTrailer k => exact Bool.noConfusion h
  | exportDone k => exact execExportDone_keep k s
  | ld m o => exact execLd_keep m o s
  | ldu m o => exact execLdu_keep m o s
  | st m o => exact Bool.noConfusion h
  | ldw m o => exact execLdw_keep m o s
  | stw m o => exact Bool.noConfusion h
  | loadDataReturn m idx ue => exact execLoadDataReturn_keep m idx ue s
  | add m o sf => exact execAdd_keep m o sf s
  | sub m o sf => exact execSub_keep m o sf s
  | and m o sf => exact execAnd_keep m o sf s
  | or m o sf => exact execOr_keep m o sf s
  | xor m o sf => exact execXor_keep m o sf s
  | andn m o sf => exact execAndn_keep m o sf s
  | shl m o sf => exact execShl_keep m o sf s
  | shr m o sf => exact execShr_keep m o sf s
  | sar m o sf => exact execSar_keep m o sf s
  | ror m o sf => exact execRor_keep m o sf s
  | mul m o sf => exact execMul_keep m o sf s
  | mulh m o sf => exact execMulh_keep m o sf s
  | mulhu m o sf => exact execMulhu_keep m o sf s
  | slt m o sf => exact execSlt_keep m o sf s
  | sltu m o sf => exact execSltu_keep m o sf s
  | min m o sf => exact execMin_keep m o sf s
  | max m o sf => exact execMax_keep m o sf s
  | adds m o sf => exact execAdds_keep m o sf s
  | subs m o sf => exact execSubs_keep m o sf s
  | abss m o sf => exact execAbss_keep m o sf s
  | negs m o sf => exact execNegs_keep m o sf s
  | cmp m o sf => exact execCmp_keep m o sf s
  | addi m o => exact execAddi_keep m o s
  | andi m o => exact execAndi_keep m o s
  | ori m o => exact execOri_keep m o s
  | xori m o => exact execXori_keep m o s
  | lui m o => exact execLui_keep m o s
  | shi m o => exact execShi_keep m o s
  | cmpi m o => exact execCmpi_keep m o s
  | pmovToP m o => exact execPmovToP_keep m o s
  | pmovToM m o => exact execPmovToM_keep m o s
  | pmovFromP m o => exact execPmovFromP_keep m o s
  | pmovFromM m o => exact execPmovFromM_keep m o s
  | setcb m o => exact execSetcb_keep m o s
  | pmovGetCb m o => exact execPmovGetCb_keep m o s
  | pmovGetCl m o => exact execPmovGetCl_keep m o s
  | bCond m o => exact execBCond_keep m o s
  | callCond m o => exact execCallCond_keep m o s
  | jr m o => exact execJr_keep m o s
  | jrl m o => exact execJrl_keep m o s
  | mac m o fn => exact execMac_keep m o fn s
  | msu m o fn => exact execMsu_keep m o fn s
  | mpy m o fn => exact execMpy_keep m o fn s
  | aclr m o => exact execAclr_keep m o s
  | amov m o => exact execAmov_keep m o s
  | aneg m o => exact execAneg_keep m o s
  | ash m o => exact execAsh_keep m o s
  | ashr m o => exact execAshr_keep m o s
  | aadd m o => exact execAadd_keep m o s
  | aldl m o => exact execAldl_keep m o s
  | aldh m o => exact execAldh_keep m o s
  | aldg m o => exact execAldg_keep m o s
  | rndc m o => exact execRndc_keep m o s
  | extt m o => exact execExtt_keep m o s
  | rdl m o => exact execRdl_keep m o s
  | rdh m o => exact execRdh_keep m o s
  | rdg m o => exact execRdg_keep m o s
  | norm m o => exact execNorm_keep m o s
  | expn m o => exact execExpn_keep m o s
  | expnAcc m o => exact execExpnAcc_keep m o s
  | fncR m o => exact execFncR_keep m o s
  | fncW m o => exact execFncW_keep m o s
  | fncRw m o => exact execFncRw_keep m o s
  | fncSys m o => exact execFncSys_keep m o s
  | fncCyc m o => exact execFncCyc_keep m o s
  | fenceRelease m => exact Bool.noConfusion h
  | fncCycCommit m n => exact execFncCycCommit_keep m n s
  | srd m o => exact execSrd_keep m o s
  | swr m o => exact execSwr_keep m o s
  | tret m o => exact execTret_keep m o s
  | nret m o => exact execNret_keep m o s
  | syscall m hi imm => exact execSyscall_keep m hi imm s
  | brk m o => exact execBrk_keep m o s
  | freezeQ m o => exact execFreezeQ_keep m o s
  | pwrHint m o => exact execPwrHint_keep m o s
  | nmiEntry m src => exact execNmiEntry_keep m src s
  | coreLockstepDiff k q => exact execCoreLockstepDiff_keep k q s
  | tcmEccError m ue => exact execTcmEccError_keep m ue s
  | sramEccError k ue => exact execSramEccError_keep k ue s
  | releaseRetry w m => exact execReleaseRetry_keep w m s
  | releaseTrap w m => exact execReleaseTrap_keep w m s
  | releaseReset w m => exact execReleaseReset_keep w m s
  | fzPop w => exact execFzPop_keep w s
  | coreReset w m => exact execCoreReset_keep w m s
  | coreRelease w m => exact execCoreRelease_keep w m s
  | taskPost m o => exact execTaskPost_keep m o s
  | taskGet m o => exact execTaskGet_keep m o s
  | taskDone m o => exact execTaskDone_keep m o s
  | taskDisable w k slot => exact execTaskDisable_keep w k slot s
  | schRaise w k evt => exact execSchRaise_keep w k evt s
  | mbxPut m o => exact execMbxPut_keep m o s
  | mbxGet m o => exact execMbxGet_keep m o s
  | mbxChannelPut m idx => exact execMbxChannelPut_keep m idx s
  | mbxChannelGet m idx => exact execMbxChannelGet_keep m idx s
  | chPutWrite w ch v => exact execChPutWrite_keep w ch v s
  | chGetRead w ch => exact execChGetRead_keep w ch s
  | chBindWrite w ch v => exact execChBindWrite_keep w ch v s
  | bindLock w k => exact execBindLock_keep w k s
  | dbRing m o => exact execDbRing_keep m o s
  | doorbellSet m mask => exact execDoorbellSet_keep m mask s
  | dbWait m o => exact execDbWait_keep m o s
  | dbPendWrite w m mask => exact execDbPendWrite_keep w m mask s
  | dbClr w m mask => exact execDbClr_keep w m mask s
  | dbMaskWrite w m v => exact execDbMaskWrite_keep w m v s
  | schedRamError k ue mbx idx => exact execSchedRamError_keep k ue mbx idx s
  | adcResult a n vin => exact execAdcResult_keep a n vin s
  | pairMismatch a p => exact execPairMismatch_keep a p s
  | urgRequest w a n v => exact execUrgRequest_keep w a n v s
  | refDiff a => exact execRefDiff_keep a s
  | referr a => exact execReferr_keep a s
  | calMatchEnd a sum64 => exact execCalMatchEnd_keep a sum64 s
  | calDwellEnd a ofs gain => exact execCalDwellEnd_keep a ofs gain s
  | adCntclr w a => exact execAdCntclr_keep w a s
  | adieRamError a ue n ridx => exact execAdieRamError_keep a ue n ridx s
  | adieOvertemp a => exact execAdieOvertemp_keep a s
  | dmaStart w k ch => exact execDmaStart_keep w k ch s
  | dmaPause w k ch => exact execDmaPause_keep w k ch s
  | dmaResume w k ch => exact execDmaResume_keep w k ch s
  | dmaAbort w k ch => exact execDmaAbort_keep w k ch s
  | dmaAppend w k ch => exact execDmaAppend_keep w k ch s
  | dmaDescLoaded k ch => exact execDmaDescLoaded_keep k ch s
  | dmaReadReturn k ch ue => exact Bool.noConfusion h
  | dmaDrainDone k ch => exact execDmaDrainDone_keep k ch s
  | dmaLinkReturn k ch => exact execDmaLinkReturn_keep k ch s
  | dmaRamError k ue chs => exact execDmaRamError_keep k ue chs s
  | acqArm w k => exact execAcqArm_keep w k s
  | acqStop w k => exact Bool.noConfusion h
  | swtrig w k => exact execSwtrig_keep w k s
  | trigInEdge idx falling => exact execTrigInEdge_keep idx falling s
  | xtrigFall => exact execXtrigFall_keep s
  | acqRecordWrite k => exact Bool.noConfusion h
  | acqTimeRecord k => exact execAcqTimeRecord_keep k s
  | acqPostEnd k => exact execAcqPostEnd_keep k s
  | captureMemWrite w addr => exact execCaptureMemWrite_keep w addr s
  | captureMemRead m addr ce ue => exact execCaptureMemRead_keep m addr ce ue s
  | tcntLowRead m k off => exact execTcntLowRead_keep m k off s
  | timeSet w adj => exact execTimeSet_keep w adj s
  | timeAdj w => exact execTimeAdj_keep w s
  | timeNsRead m => exact execTimeNsRead_keep m s
  | vnPrimarySample w ofs => exact execVnPrimarySample_keep w ofs s
  | vnSecondarySample w ofs => exact execVnSecondarySample_keep w ofs s
  | vnRearm w => exact execVnRearm_keep w s
  | vnDisable w => exact execVnDisable_keep w s
  | vernierHoldover => exact execVernierHoldover_keep s
  | syncInCapture ts falling => exact execSyncInCapture_keep ts falling s
  | siTsNsRead m => exact execSiTsNsRead_keep m s
  | syncOutPulse => exact execSyncOutPulse_keep s
  | portEnable w e => exact execPortEnable_keep w e s
  | frameReceived e fr => exact Bool.noConfusion h
  | svFrameReceived e fr => exact execSvFrameReceived_keep e fr s
  | txKick w e => exact execTxKick_keep w e s
  | frameTransmitted e macTs => exact Bool.noConfusion h
  | portCntClr w e => exact execPortCntClr_keep w e s
  | ethLinkLoss e => exact execEthLinkLoss_keep e s
  | portRamError e ue => exact execPortRamError_keep e ue s
  | faultFiring src tag => exact Bool.noConfusion h
  | blockResetDone blk => exact execBlockResetDone_keep blk s
  | conseqWindowEnd blk => exact execConseqWindowEnd_keep blk s
  | escalationWindowEnd blk => exact execEscalationWindowEnd_keep blk s
  | fsPendClear w src => exact execFsPendClear_keep w src s
  | aliveEn w => exact execAliveEn_keep w s
  | aliveStop w => exact execAliveStop_keep w s
  | aliveHalfPeriod => exact execAliveHalfPeriod_keep s
  | aliveReadbackFail => exact execAliveReadbackFail_keep s
  | fcLock w => exact execFcLock_keep w s
  | wden w => exact execWden_keep w s
  | wdKick w v => exact execWdKick_keep w v s
  | watchdogExpiry => exact execWatchdogExpiry_keep s
  | flogPop w => exact execFlogPop_keep w s
  | fsClr w => exact execFsClr_keep w s
  | injectionArm w v => exact execInjectionArm_keep w v s
  | injectionTimeout => exact execInjectionTimeout_keep s
  | parityScrub safety err => exact execParityScrub_keep safety err s
  | sprReq w => exact execSprReq_keep w s
  | sprRel w sameCycle => exact execSprRel_keep w sameCycle s
  | srsReq w => exact execSrsReq_keep w s
  | safetyArm w => exact execSafetyArm_keep w s
  | srsViolation => exact execSrsViolation_keep s
  | srsRampEnd => exact execSrsRampEnd_keep s
  | srsInputTimeout => exact execSrsInputTimeout_keep s
  | stopInLow b => exact execStopInLow_keep b s
  | stopInDiscrepancy => exact execStopInDiscrepancy_keep s
  | stopOutDrop => exact execStopOutDrop_keep s
  | brkTripRise => exact execBrkTripRise_keep s
  | safetyReadbackFail brk => exact execSafetyReadbackFail_keep brk s
  | safetyFrameReceived lan bytes => exact execSafetyFrameReceived_keep lan bytes s
  | safetyCopyMissing lan => exact execSafetyCopyMissing_keep lan s
  | safetyNetWatchdog lanA lanB => exact execSafetyNetWatchdog_keep lanA lanB s
  | degLimitReached => exact execDegLimitReached_keep s
  | safetyStatusTx => exact execSafetyStatusTx_keep s
  | pairEn w => exact execPairEn_keep w s
  | pairActInFall => exact execPairActInFall_keep s
  | startupClaim => exact execStartupClaim_keep s
  | passRecordReceived r => exact execPassRecordReceived_keep r s
  | passRecordMissing => exact execPassRecordMissing_keep s
  | statusRecordTx => exact execStatusRecordTx_keep s
  | statusRecordReceived r gridOfs => exact execStatusRecordReceived_keep r gridOfs s
  | epochReceived e => exact execEpochReceived_keep e s
  | mirrorLaneDown idx => exact execMirrorLaneDown_keep idx s
  | handover w => exact execHandover_keep w s
  | drill w => exact execDrill_keep w s
  | cycsync w => exact execCycsync_keep w s
  | handoverRelease => exact execHandoverRelease_keep s
  | handingPeerCheck => exact execHandingPeerCheck_keep s
  | takingTimeout => exact execTakingTimeout_keep s
  | takebackRequest => exact execTakebackRequest_keep s
  | drillReturn => exact execDrillReturn_keep s
  | drillFail => exact execDrillFail_keep s
  | almanacApply => exact execAlmanacApply_keep s
  | almanacFreeze w => exact execAlmanacFreeze_keep w s
  | almanacUnfreeze w => exact execAlmanacUnfreeze_keep w s
  | almanacMergeDone => exact execAlmanacMergeDone_keep s
  | clrrec w => exact execClrrec_keep w s
  | clrall w => exact execClrall_keep w s
  | restore w => exact execRestore_keep w s
  | almanacRestoreDone => exact execAlmanacRestoreDone_keep s
  | flushnow w => exact execFlushnow_keep w s
  | almanacBgPass => exact execAlmanacBgPass_keep s
  | almanacImageWritten ok => exact Bool.noConfusion h
  | almanacFullFlushDone => exact execAlmanacFullFlushDone_keep s
  | almanacTotalRead m => exact execAlmanacTotalRead_keep m s
  | almCntclr w => exact execAlmCntclr_keep w s
  | almanacRamError rec ue => exact execAlmanacRamError_keep rec ue s
  | meterPoint samples => exact execMeterPoint_keep samples s
  | meterIntervalClose => exact execMeterIntervalClose_keep s
  | signingDone ok1 ok2 mramErr => exact Bool.noConfusion h
  | meterCheckpoint => exact Bool.noConfusion h
  | meterEnable w fresh => exact execMeterEnable_keep w fresh s
  | meterRestoreDone => exact Bool.noConfusion h
  | meterDisable w => exact execMeterDisable_keep w s
  | importLowRead m exp => exact execImportLowRead_keep m exp s
  | attest w => exact execAttest_keep w s
  | svnRaise w key => exact execSvnRaise_keep w key s
  | revoke w key => exact execRevoke_keep w key s
  | recover w => exact Bool.noConfusion h
  | bootRomRun => exact Bool.noConfusion h
  | porstAssert => exact Bool.noConfusion h
  | porstRelease pref => exact Bool.noConfusion h
  | chipRst w key => exact Bool.noConfusion h
  | internalResetEnd => exact Bool.noConfusion h
  | bootBist failed => exact execBootBist_keep failed s
  | aoPowerOn => exact Bool.noConfusion h
  | aoPowerLoss => exact Bool.noConfusion h
  | railFault => exact execRailFault_keep s
  | refclkLoss => exact execRefclkLoss_keep s
  | pllUnlock adie => exact execPllUnlock_keep adie s
  | xtalStop => exact execXtalStop_keep s
  | pwrfailRecognised => exact Bool.noConfusion h
  | pwrfailRise => exact execPwrfailRise_keep s
  | dieOn w d => exact execDieOn_keep w d s
  | dieOff w d => exact Bool.noConfusion h
  | dieReady d => exact Bool.noConfusion h
  | dieBistStart w => exact Bool.noConfusion h
  | dieBistDone misr golden us => exact execDieBistDone_keep misr golden us s
  | xsRead w u => exact execXsRead_keep w u s
  | xsWrite w u => exact execXsWrite_keep w u s
  | xsErase w u => exact execXsErase_keep w u s
  | xsStatus w u => exact execXsStatus_keep w u s
  | xsTransferDone u err => exact Bool.noConfusion h
  | dieTempUpdate temps => exact execDieTempUpdate_keep temps s
  | cellAlignedBoundary c => exact execCellAlignedBoundary_keep c s
  | gsupOkRestored c => exact execGsupOkRestored_keep c s
  | tripInputInactive c idx => exact execTripInputInactive_keep c idx s
  | ethLinkUp e => exact execEthLinkUp_keep e s
  | stopInRestored b => exact execStopInRestored_keep b s
  | peerAliveEdge => exact execPeerAliveEdge_keep s
  | paliveTimeout => exact execPaliveTimeout_keep s
  | pairActInRise => exact execPairActInRise_keep s
  | pairActReadbackFail => exact execPairActReadbackFail_keep s
  | refDiffEnd a => exact execRefDiffEnd_keep a s
  | adiePllRelock a => exact execAdiePllRelock_keep a s
  | xtrigRelease k => exact execXtrigRelease_keep k s
  | perstNAssert => exact execPerstNAssert_keep s
  | perstNRelease => exact execPerstNRelease_keep s
theorem execFols : ∀ i s, writes i = true → Fols s.keep (exec i s) := by
  intro i s h
  cases i with
  | registerWrite w addr v => exact execRegisterWrite_fol s.keep w addr v s (fol_refl _)
  | capq _ _ => exact Bool.noConfusion h
  | absentClr _ => exact Bool.noConfusion h
  | pcieHostRequest wr addr v => exact execPcieHostRequest_fol s.keep wr addr v s (fol_refl _)
  | cycleWriteLand _ _ _ => exact Bool.noConfusion h
  | cycCommit _ _ _ => exact Bool.noConfusion h
  | flitCrcFail _ => exact Bool.noConfusion h
  | fabricTimeout m wr addr => exact execFabricTimeout_fol s.keep m wr addr s (fol_refl _)
  | fabErrclr _ => exact Bool.noConfusion h
  | windowTableEccError _ => exact Bool.noConfusion h
  | subframeBoundary => exact Bool.noConfusion h
  | upstreamSlotsDone => exact Bool.noConfusion h
  | cycleTimerEn _ _ => exact Bool.noConfusion h
  | cycleTimerStart => exact Bool.noConfusion h
  | cycleTimerDis _ => exact Bool.noConfusion h
  | cycleTimerStop => exact Bool.noConfusion h
  | cycNumLoRead _ => exact Bool.noConfusion h
  | modBuildCutoff _ => exact Bool.noConfusion h
  | rankComplete _ _ => exact Bool.noConfusion h
  | checkerVerdict _ => exact Bool.noConfusion h
  | refstale _ _ => exact Bool.noConfusion h
  | plausibilityExclusion _ _ => exact Bool.noConfusion h
  | trendPeriodEnd _ => exact Bool.noConfusion h
  | armCntclr _ _ _ => exact Bool.noConfusion h
  | cvAgeClear _ _ => exact Bool.noConfusion h
  | pfxClear _ _ _ => exact Bool.noConfusion h
  | modRamError _ _ _ => exact Bool.noConfusion h
  | laneBuildCutoff _ => exact Bool.noConfusion h
  | frameStart _ => exact Bool.noConfusion h
  | cellHdrAccept _ _ => exact Bool.noConfusion h
  | cellCmdBlock _ _ _ => exact Bool.noConfusion h
  | cellRptBlock _ _ _ => exact Bool.noConfusion h
  | cellAcmd _ _ _ => exact Bool.noConfusion h
  | cellBcast _ _ _ => exact Bool.noConfusion h
  | cellMer _ _ => exact Bool.noConfusion h
  | cellGrant _ _ => exact Bool.noConfusion h
  | enableTx _ _ => exact Bool.noConfusion h
  | occult _ _ _ => exact Bool.noConfusion h
  | release _ _ => exact Bool.noConfusion h
  | eqset _ _ => exact Bool.noConfusion h
  | nop _ _ => exact Bool.noConfusion h
  | setState _ _ => exact Bool.noConfusion h
  | setPwm _ _ => exact Bool.noConfusion h
  | force _ _ => exact Bool.noConfusion h
  | clearTrip _ _ => exact Bool.noConfusion h
  | readReg _ _ => exact Bool.noConfusion h
  | writeReg _ _ => exact Bool.noConfusion h
  | cellClrcnt _ => exact Bool.noConfusion h
  | bypfClr _ _ => exact Bool.noConfusion h
  | sleep _ _ => exact Bool.noConfusion h
  | bistStart _ _ => exact Bool.noConfusion h
  | cellBistEnd _ _ _ => exact Bool.noConfusion h
  | armBypass _ _ => exact Bool.noConfusion h
  | fireBypass _ _ => exact Bool.noConfusion h
  | bypassWindowExpiry _ => exact Bool.noConfusion h
  | bypPulseEnd _ => exact Bool.noConfusion h
  | range _ => exact Bool.noConfusion h
  | cellReportTx _ => exact Bool.noConfusion h
  | cellRegrantTx _ _ => exact Bool.noConfusion h
  | cellReportFreeze _ => exact Bool.noConfusion h
  | cellConversion _ _ _ _ => exact Bool.noConfusion h
  | cellCalSwitch _ _ => exact Bool.noConfusion h
  | carrierPeriodStart _ => exact Bool.noConfusion h
  | tripInput _ _ => exact Bool.noConfusion h
  | gsupLow _ => exact Bool.noConfusion h
  | lossOfLight _ => exact Bool.noConfusion h
  | lolTimeout _ => exact Bool.noConfusion h
  | txGuardViolation _ => exact Bool.noConfusion h
  | cellPllUnlock _ => exact Bool.noConfusion h
  | cellParityError _ => exact Bool.noConfusion h
  | cellDupmis _ _ => exact Bool.noConfusion h
  | cellOvertemp _ => exact Bool.noConfusion h
  | vauxlow _ => exact Bool.noConfusion h
  | newtColdStart _ => exact Bool.noConfusion h
  | vauxOnRise _ => exact Bool.noConfusion h
  | wake _ => exact Bool.noConfusion h
  | regulatorsInRange _ => exact Bool.noConfusion h
  | vauxOffFall _ => exact Bool.noConfusion h
  | newtBrownout _ => exact Bool.noConfusion h
  | laneReportRx _ _ _ => exact Bool.noConfusion h
  | laneRangingRx _ _ => exact Bool.noConfusion h
  | rangingNoBurst _ => exact Bool.noConfusion h
  | ackwaitExpiry _ _ => exact Bool.noConfusion h
  | outOfGrantLight _ _ => exact Bool.noConfusion h
  | babbleUnidentified _ => exact Bool.noConfusion h
  | babblePersist _ => exact Bool.noConfusion h
  | seeErrPersist _ _ => exact Bool.noConfusion h
  | rxlos _ => exact Bool.noConfusion h
  | cellCmdAssign _ _ => exact Bool.noConfusion h
  | cellCmdEnable _ _ => exact Bool.noConfusion h
  | cellCmdOccult _ _ => exact Bool.noConfusion h
  | cellCmdRelease _ _ => exact Bool.noConfusion h
  | cellCmdCntclr _ _ => exact Bool.noConfusion h
  | acmdPush _ _ _ => exact Bool.noConfusion h
  | bcastPush _ _ _ => exact Bool.noConfusion h
  | laneCntClr _ _ => exact Bool.noConfusion h
  | laneEnSet _ _ => exact Bool.noConfusion h
  | laneEnClear _ _ => exact Bool.noConfusion h
  | laneDarkRequest _ _ => exact Bool.noConfusion h
  | laneWakeUp _ _ => exact Bool.noConfusion h
  | laneLocked _ => exact Bool.noConfusion h
  | ldiePllUnlock _ => exact Bool.noConfusion h
  | laneTxflt _ => exact Bool.noConfusion h
  | wakeStart _ _ => exact Bool.noConfusion h
  | wakeToneEnd _ => exact Bool.noConfusion h
  | rsStart _ _ => exact Bool.noConfusion h
  | rsAbort _ _ => exact Bool.noConfusion h
  | rsScanDone _ _ => exact Bool.noConfusion h
  | contextRamError _ _ _ => exact Bool.noConfusion h
  | framerMismatch _ => exact Bool.noConfusion h
  | lawInputFill _ => exact Bool.noConfusion h
  | svInputStale _ _ => exact Bool.noConfusion h
  | fastPassEnd k => exact execFastPassEnd_fol s.keep k s (fol_refl _)
  | slowPassEnd k => exact execSlowPassEnd_fol s.keep k s (fol_refl _)
  | modelPlausibility _ _ _ => exact Bool.noConfusion h
  | lawDeferredWrite _ => exact Bool.noConfusion h
  | clrst _ _ _ => exact Bool.noConfusion h
  | clrplaus _ _ _ => exact Bool.noConfusion h
  | lawLockstepDiff _ => exact Bool.noConfusion h
  | lawRamError _ _ => exact Bool.noConfusion h
  | exportTrailer k => exact execExportTrailer_fol s.keep k s (fol_refl _)
  | exportDone _ => exact Bool.noConfusion h
  | ld _ _ => exact Bool.noConfusion h
  | ldu _ _ => exact Bool.noConfusion h
  | st m o => exact execSt_fol s.keep m o s (fol_refl _)
  | ldw _ _ => exact Bool.noConfusion h
  | stw m o => exact execStw_fol s.keep m o s (fol_refl _)
  | loadDataReturn _ _ _ => exact Bool.noConfusion h
  | add _ _ _ => exact Bool.noConfusion h
  | sub _ _ _ => exact Bool.noConfusion h
  | and _ _ _ => exact Bool.noConfusion h
  | or _ _ _ => exact Bool.noConfusion h
  | xor _ _ _ => exact Bool.noConfusion h
  | andn _ _ _ => exact Bool.noConfusion h
  | shl _ _ _ => exact Bool.noConfusion h
  | shr _ _ _ => exact Bool.noConfusion h
  | sar _ _ _ => exact Bool.noConfusion h
  | ror _ _ _ => exact Bool.noConfusion h
  | mul _ _ _ => exact Bool.noConfusion h
  | mulh _ _ _ => exact Bool.noConfusion h
  | mulhu _ _ _ => exact Bool.noConfusion h
  | slt _ _ _ => exact Bool.noConfusion h
  | sltu _ _ _ => exact Bool.noConfusion h
  | min _ _ _ => exact Bool.noConfusion h
  | max _ _ _ => exact Bool.noConfusion h
  | adds _ _ _ => exact Bool.noConfusion h
  | subs _ _ _ => exact Bool.noConfusion h
  | abss _ _ _ => exact Bool.noConfusion h
  | negs _ _ _ => exact Bool.noConfusion h
  | cmp _ _ _ => exact Bool.noConfusion h
  | addi _ _ => exact Bool.noConfusion h
  | andi _ _ => exact Bool.noConfusion h
  | ori _ _ => exact Bool.noConfusion h
  | xori _ _ => exact Bool.noConfusion h
  | lui _ _ => exact Bool.noConfusion h
  | shi _ _ => exact Bool.noConfusion h
  | cmpi _ _ => exact Bool.noConfusion h
  | pmovToP _ _ => exact Bool.noConfusion h
  | pmovToM _ _ => exact Bool.noConfusion h
  | pmovFromP _ _ => exact Bool.noConfusion h
  | pmovFromM _ _ => exact Bool.noConfusion h
  | setcb _ _ => exact Bool.noConfusion h
  | pmovGetCb _ _ => exact Bool.noConfusion h
  | pmovGetCl _ _ => exact Bool.noConfusion h
  | bCond _ _ => exact Bool.noConfusion h
  | callCond _ _ => exact Bool.noConfusion h
  | jr _ _ => exact Bool.noConfusion h
  | jrl _ _ => exact Bool.noConfusion h
  | mac _ _ _ => exact Bool.noConfusion h
  | msu _ _ _ => exact Bool.noConfusion h
  | mpy _ _ _ => exact Bool.noConfusion h
  | aclr _ _ => exact Bool.noConfusion h
  | amov _ _ => exact Bool.noConfusion h
  | aneg _ _ => exact Bool.noConfusion h
  | ash _ _ => exact Bool.noConfusion h
  | ashr _ _ => exact Bool.noConfusion h
  | aadd _ _ => exact Bool.noConfusion h
  | aldl _ _ => exact Bool.noConfusion h
  | aldh _ _ => exact Bool.noConfusion h
  | aldg _ _ => exact Bool.noConfusion h
  | rndc _ _ => exact Bool.noConfusion h
  | extt _ _ => exact Bool.noConfusion h
  | rdl _ _ => exact Bool.noConfusion h
  | rdh _ _ => exact Bool.noConfusion h
  | rdg _ _ => exact Bool.noConfusion h
  | norm _ _ => exact Bool.noConfusion h
  | expn _ _ => exact Bool.noConfusion h
  | expnAcc _ _ => exact Bool.noConfusion h
  | fncR _ _ => exact Bool.noConfusion h
  | fncW _ _ => exact Bool.noConfusion h
  | fncRw _ _ => exact Bool.noConfusion h
  | fncSys _ _ => exact Bool.noConfusion h
  | fncCyc _ _ => exact Bool.noConfusion h
  | fenceRelease m => exact execFenceRelease_fol s.keep m s (fol_refl _)
  | fncCycCommit _ _ => exact Bool.noConfusion h
  | srd _ _ => exact Bool.noConfusion h
  | swr _ _ => exact Bool.noConfusion h
  | tret _ _ => exact Bool.noConfusion h
  | nret _ _ => exact Bool.noConfusion h
  | syscall _ _ _ => exact Bool.noConfusion h
  | brk _ _ => exact Bool.noConfusion h
  | freezeQ _ _ => exact Bool.noConfusion h
  | pwrHint _ _ => exact Bool.noConfusion h
  | nmiEntry _ _ => exact Bool.noConfusion h
  | coreLockstepDiff _ _ => exact Bool.noConfusion h
  | tcmEccError _ _ => exact Bool.noConfusion h
  | sramEccError _ _ => exact Bool.noConfusion h
  | releaseRetry _ _ => exact Bool.noConfusion h
  | releaseTrap _ _ => exact Bool.noConfusion h
  | releaseReset _ _ => exact Bool.noConfusion h
  | fzPop _ => exact Bool.noConfusion h
  | coreReset _ _ => exact Bool.noConfusion h
  | coreRelease _ _ => exact Bool.noConfusion h
  | taskPost _ _ => exact Bool.noConfusion h
  | taskGet _ _ => exact Bool.noConfusion h
  | taskDone _ _ => exact Bool.noConfusion h
  | taskDisable _ _ _ => exact Bool.noConfusion h
  | schRaise _ _ _ => exact Bool.noConfusion h
  | mbxPut _ _ => exact Bool.noConfusion h
  | mbxGet _ _ => exact Bool.noConfusion h
  | mbxChannelPut _ _ => exact Bool.noConfusion h
  | mbxChannelGet _ _ => exact Bool.noConfusion h
  | chPutWrite _ _ _ => exact Bool.noConfusion h
  | chGetRead _ _ => exact Bool.noConfusion h
  | chBindWrite _ _ _ => exact Bool.noConfusion h
  | bindLock _ _ => exact Bool.noConfusion h
  | dbRing _ _ => exact Bool.noConfusion h
  | doorbellSet _ _ => exact Bool.noConfusion h
  | dbWait _ _ => exact Bool.noConfusion h
  | dbPendWrite _ _ _ => exact Bool.noConfusion h
  | dbClr _ _ _ => exact Bool.noConfusion h
  | dbMaskWrite _ _ _ => exact Bool.noConfusion h
  | schedRamError _ _ _ _ => exact Bool.noConfusion h
  | adcResult _ _ _ => exact Bool.noConfusion h
  | pairMismatch _ _ => exact Bool.noConfusion h
  | urgRequest _ _ _ _ => exact Bool.noConfusion h
  | refDiff _ => exact Bool.noConfusion h
  | referr _ => exact Bool.noConfusion h
  | calMatchEnd _ _ => exact Bool.noConfusion h
  | calDwellEnd _ _ _ => exact Bool.noConfusion h
  | adCntclr _ _ => exact Bool.noConfusion h
  | adieRamError _ _ _ _ => exact Bool.noConfusion h
  | adieOvertemp _ => exact Bool.noConfusion h
  | dmaStart _ _ _ => exact Bool.noConfusion h
  | dmaPause _ _ _ => exact Bool.noConfusion h
  | dmaResume _ _ _ => exact Bool.noConfusion h
  | dmaAbort _ _ _ => exact Bool.noConfusion h
  | dmaAppend _ _ _ => exact Bool.noConfusion h
  | dmaDescLoaded _ _ => exact Bool.noConfusion h
  | dmaReadReturn k ch ue => exact execDmaReadReturn_fol s.keep k ch ue s (fol_refl _)
  | dmaDrainDone _ _ => exact Bool.noConfusion h
  | dmaLinkReturn _ _ => exact Bool.noConfusion h
  | dmaRamError _ _ _ => exact Bool.noConfusion h
  | acqArm _ _ => exact Bool.noConfusion h
  | acqStop w k => exact execAcqStop_fol s.keep w k s (fol_refl _)
  | swtrig _ _ => exact Bool.noConfusion h
  | trigInEdge _ _ => exact Bool.noConfusion h
  | xtrigFall => exact Bool.noConfusion h
  | acqRecordWrite k => exact execAcqRecordWrite_fol s.keep k s (fol_refl _)
  | acqTimeRecord _ => exact Bool.noConfusion h
  | acqPostEnd _ => exact Bool.noConfusion h
  | captureMemWrite _ _ => exact Bool.noConfusion h
  | captureMemRead _ _ _ _ => exact Bool.noConfusion h
  | tcntLowRead _ _ _ => exact Bool.noConfusion h
  | timeSet _ _ => exact Bool.noConfusion h
  | timeAdj _ => exact Bool.noConfusion h
  | timeNsRead _ => exact Bool.noConfusion h
  | vnPrimarySample _ _ => exact Bool.noConfusion h
  | vnSecondarySample _ _ => exact Bool.noConfusion h
  | vnRearm _ => exact Bool.noConfusion h
  | vnDisable _ => exact Bool.noConfusion h
  | vernierHoldover => exact Bool.noConfusion h
  | syncInCapture _ _ => exact Bool.noConfusion h
  | siTsNsRead _ => exact Bool.noConfusion h
  | syncOutPulse => exact Bool.noConfusion h
  | portEnable _ _ => exact Bool.noConfusion h
  | frameReceived e fr => exact execFrameReceived_fol s.keep e fr s (fol_refl _)
  | svFrameReceived _ _ => exact Bool.noConfusion h
  | txKick _ _ => exact Bool.noConfusion h
  | frameTransmitted e macTs => exact execFrameTransmitted_fol s.keep e macTs s (fol_refl _)
  | portCntClr _ _ => exact Bool.noConfusion h
  | ethLinkLoss _ => exact Bool.noConfusion h
  | portRamError _ _ => exact Bool.noConfusion h
  | faultFiring src tag => exact execFaultFiring_fol s.keep src tag s (fol_refl _)
  | blockResetDone _ => exact Bool.noConfusion h
  | conseqWindowEnd _ => exact Bool.noConfusion h
  | escalationWindowEnd _ => exact Bool.noConfusion h
  | fsPendClear _ _ => exact Bool.noConfusion h
  | aliveEn _ => exact Bool.noConfusion h
  | aliveStop _ => exact Bool.noConfusion h
  | aliveHalfPeriod => exact Bool.noConfusion h
  | aliveReadbackFail => exact Bool.noConfusion h
  | fcLock _ => exact Bool.noConfusion h
  | wden _ => exact Bool.noConfusion h
  | wdKick _ _ => exact Bool.noConfusion h
  | watchdogExpiry => exact Bool.noConfusion h
  | flogPop _ => exact Bool.noConfusion h
  | fsClr _ => exact Bool.noConfusion h
  | injectionArm _ _ => exact Bool.noConfusion h
  | injectionTimeout => exact Bool.noConfusion h
  | parityScrub _ _ => exact Bool.noConfusion h
  | sprReq _ => exact Bool.noConfusion h
  | sprRel _ _ => exact Bool.noConfusion h
  | srsReq _ => exact Bool.noConfusion h
  | safetyArm _ => exact Bool.noConfusion h
  | srsViolation => exact Bool.noConfusion h
  | srsRampEnd => exact Bool.noConfusion h
  | srsInputTimeout => exact Bool.noConfusion h
  | stopInLow _ => exact Bool.noConfusion h
  | stopInDiscrepancy => exact Bool.noConfusion h
  | stopOutDrop => exact Bool.noConfusion h
  | brkTripRise => exact Bool.noConfusion h
  | safetyReadbackFail _ => exact Bool.noConfusion h
  | safetyFrameReceived _ _ => exact Bool.noConfusion h
  | safetyCopyMissing _ => exact Bool.noConfusion h
  | safetyNetWatchdog _ _ => exact Bool.noConfusion h
  | degLimitReached => exact Bool.noConfusion h
  | safetyStatusTx => exact Bool.noConfusion h
  | pairEn _ => exact Bool.noConfusion h
  | pairActInFall => exact Bool.noConfusion h
  | startupClaim => exact Bool.noConfusion h
  | passRecordReceived _ => exact Bool.noConfusion h
  | passRecordMissing => exact Bool.noConfusion h
  | statusRecordTx => exact Bool.noConfusion h
  | statusRecordReceived _ _ => exact Bool.noConfusion h
  | epochReceived _ => exact Bool.noConfusion h
  | mirrorLaneDown _ => exact Bool.noConfusion h
  | handover _ => exact Bool.noConfusion h
  | drill _ => exact Bool.noConfusion h
  | cycsync _ => exact Bool.noConfusion h
  | handoverRelease => exact Bool.noConfusion h
  | handingPeerCheck => exact Bool.noConfusion h
  | takingTimeout => exact Bool.noConfusion h
  | takebackRequest => exact Bool.noConfusion h
  | drillReturn => exact Bool.noConfusion h
  | drillFail => exact Bool.noConfusion h
  | almanacApply => exact Bool.noConfusion h
  | almanacFreeze _ => exact Bool.noConfusion h
  | almanacUnfreeze _ => exact Bool.noConfusion h
  | almanacMergeDone => exact Bool.noConfusion h
  | clrrec _ => exact Bool.noConfusion h
  | clrall _ => exact Bool.noConfusion h
  | restore _ => exact Bool.noConfusion h
  | almanacRestoreDone => exact Bool.noConfusion h
  | flushnow _ => exact Bool.noConfusion h
  | almanacBgPass => exact Bool.noConfusion h
  | almanacImageWritten ok => exact execAlmanacImageWritten_fol s.keep ok s (fol_refl _)
  | almanacFullFlushDone => exact Bool.noConfusion h
  | almanacTotalRead _ => exact Bool.noConfusion h
  | almCntclr _ => exact Bool.noConfusion h
  | almanacRamError _ _ => exact Bool.noConfusion h
  | meterPoint _ => exact Bool.noConfusion h
  | meterIntervalClose => exact Bool.noConfusion h
  | signingDone ok1 ok2 mramErr => exact execSigningDone_fol s.keep ok1 ok2 mramErr s (fol_refl _)
  | meterCheckpoint => exact execMeterCheckpoint_fol s.keep s (fol_refl _)
  | meterEnable _ _ => exact Bool.noConfusion h
  | meterRestoreDone => exact execMeterRestoreDone_fol s.keep s (fol_refl _)
  | meterDisable _ => exact Bool.noConfusion h
  | importLowRead _ _ => exact Bool.noConfusion h
  | attest _ => exact Bool.noConfusion h
  | svnRaise _ _ => exact Bool.noConfusion h
  | revoke _ _ => exact Bool.noConfusion h
  | recover w => exact execRecover_fol s.keep w s (fol_refl _)
  | bootRomRun => exact execBootRomRun_fol s.keep s (fol_refl _)
  | porstAssert => exact execPorstAssert_fol s.keep s (fol_refl _)
  | porstRelease pref => exact execPorstRelease_fol s.keep pref s (fol_refl _)
  | chipRst w key => exact execChipRst_fol s.keep w key s (fol_refl _)
  | internalResetEnd => exact execInternalResetEnd_fol s.keep s (fol_refl _)
  | bootBist _ => exact Bool.noConfusion h
  | aoPowerOn => exact execAoPowerOn_fol s.keep s (fol_refl _)
  | aoPowerLoss => exact execAoPowerLoss_fol s.keep s (fol_refl _)
  | railFault => exact Bool.noConfusion h
  | refclkLoss => exact Bool.noConfusion h
  | pllUnlock _ => exact Bool.noConfusion h
  | xtalStop => exact Bool.noConfusion h
  | pwrfailRecognised => exact execPwrfailRecognised_fol s.keep s (fol_refl _)
  | pwrfailRise => exact Bool.noConfusion h
  | dieOn _ _ => exact Bool.noConfusion h
  | dieOff w d => exact execDieOff_fol s.keep w d s (fol_refl _)
  | dieReady d => exact execDieReady_fol s.keep d s (fol_refl _)
  | dieBistStart w => exact execDieBistStart_fol s.keep w s (fol_refl _)
  | dieBistDone _ _ _ => exact Bool.noConfusion h
  | xsRead _ _ => exact Bool.noConfusion h
  | xsWrite _ _ => exact Bool.noConfusion h
  | xsErase _ _ => exact Bool.noConfusion h
  | xsStatus _ _ => exact Bool.noConfusion h
  | xsTransferDone u err => exact execXsTransferDone_fol s.keep u err s (fol_refl _)
  | dieTempUpdate _ => exact Bool.noConfusion h
  | cellAlignedBoundary _ => exact Bool.noConfusion h
  | gsupOkRestored _ => exact Bool.noConfusion h
  | tripInputInactive _ _ => exact Bool.noConfusion h
  | ethLinkUp _ => exact Bool.noConfusion h
  | stopInRestored _ => exact Bool.noConfusion h
  | peerAliveEdge => exact Bool.noConfusion h
  | paliveTimeout => exact Bool.noConfusion h
  | pairActInRise => exact Bool.noConfusion h
  | pairActReadbackFail => exact Bool.noConfusion h
  | refDiffEnd _ => exact Bool.noConfusion h
  | adiePllRelock _ => exact Bool.noConfusion h
  | xtrigRelease _ => exact Bool.noConfusion h
  | perstNAssert => exact Bool.noConfusion h
  | perstNRelease => exact Bool.noConfusion h
theorem complete : ∀ i s, ∃ t, exec i s = .next t := by
  intro i s
  cases i <;> exact ⟨_, rfl⟩
theorem tick_same (s : State) : s.nsTick.pending = s.pending ∧ s.nsTick.regs = s.regs ∧ s.nsTick.cregs = s.cregs ∧ s.nsTick.mem = s.mem ∧ s.nsTick.nor = s.nor ∧ s.nsTick.mram = s.mram ∧ s.nsTick.cores = s.cores ∧ s.nsTick.clk.el = s.clk.el + 1 := by
  unfold nsTick; split <;> exact ⟨rfl, rfl, rfl, rfl, rfl, rfl, rfl, rfl⟩
theorem release_no (s : State) (w : Wr) (m : Nat) (act) (h : privileged w = false) : s.release w m act = s.wr fzB Fz.FZ_RSTAT.NOPERM 1 := by
  unfold release; rw [if_pos (by rw [h]; rfl)]; rfl
theorem coreReg (m o : Nat) (hm : m < 32) (ho : o < 0x10) (s : State) : s.locate none (coreB m + o) = .reg ∧ cycTarget (coreB m + o) = none ∧ s.lawWaits (coreB m + o) = none := by
  have h : coreB m = 0x20046000 + m * 0x10 := rfl
  refine ⟨?_, ?_, lawWaits_none _ _ (by omega)⟩
  · unfold locate; dsimp only
    rw [if_neg (by omega), if_neg (by omega), if_neg (by omega), if_neg (by omega), if_neg (by omega), if_neg (by omega), if_neg (by omega), if_pos (by omega)]
  · unfold cycTarget; rw [if_neg (by omega), if_neg (by omega), if_neg (by omega)]
theorem corePriv (w : Wr) (s : State) (hp : privileged w = false) (m o : Nat) (ho : o = 0 ∨ o = 4) (hm : m < 32) (hk : s.hasK (m / 16) = true) (v : Word) : s.land w (coreB m + o) v = (s.wr fzB Fz.FZ_RSTAT.NOPERM 1).retire w (coreB m + o) := by
  have ho2 : o < 16 := by omega
  obtain ⟨h1, h2, h3⟩ := coreReg m o hm ho2 s
  have h : coreB m = 0x20046000 + m * 0x10 := rfl
  unfold land; rw [h1, h2, h3]
  show busWrite _ _ _ _ = _
  unfold busWrite
  rw [if_neg (by omega), if_neg (by omega), if_neg (by omega), if_neg (by omega), if_neg (by omega), if_neg (by omega), if_pos (by omega), if_pos (by omega)]
  have e1 : (coreB m + o - 0x20046000) / 16 = m := by omega
  have e2 : (coreB m + o) % 16 = o := by omega
  rw [e1, e2]
  have hk' : (s.retire w (coreB m + o)).hasK (m / 16) = true := hk
  unfold busCore; dsimp only; rw [hk', hp]
  rcases ho with rfl | rfl <;> rfl
theorem only_refl (s : State) (l) : s.only s l := ⟨fun _ _ _ => rfl, rfl, rfl, rfl, rfl, rfl, rfl, rfl⟩
theorem only_wr {s t : State} {l : List (Nat × Fld)} (b : Nat) (f : Fld) (v : Nat) (hf : (b, f) ∈ l) (h : s.only t l) : s.only (t.wr b f v) l :=
  ⟨fun c g hg => (rd_wr_ne _ _ _ _ _ _ (hg _ hf)).trans (h.1 c g hg), h.2⟩
theorem only_fire {s t : State} {l : List (Nat × Fld)} (n : Nat) (h : s.only t l) : s.only (t.fire n) l := by
  unfold fire; split <;> exact h
theorem only_fireIf {s t : State} {l : List (Nat × Fld)} (b : Bool) (n : Nat) (h : s.only t l) : s.only (t.fireIf b n) l := by
  unfold fireIf; split; exact only_fire _ h; exact h
theorem only_ite {s t u : State} {l : List (Nat × Fld)} {p : Prop} [Decidable p] (h : s.only t l) (k : s.only u l) : s.only (if p then t else u) l := by split <;> assumption
theorem only_ret {s t : State} {l : List (Nat × Fld)} (w : Wr) (a : Nat) (h : s.only t l) : s.only (t.retire w a) l := h
theorem only_ans {s t : State} {l : List (Nat × Fld)} (m a : Nat) (v : Word) (h : s.only t l) : s.only (t.answer m a v) l := h
theorem only_fc {s t : State} {l : List (Nat × Fld)} (g) (h : s.only t l) : s.only (t.modFc g) l := h
theorem only_saf {s t : State} {l : List (Nat × Fld)} (g) (h : s.only t l) : s.only (t.modSaf g) l := h
theorem only_pwr {s t : State} {l : List (Nat × Fld)} (g) (h : s.only t l) : s.only (t.modPwr g) l := h
theorem only_ad (s : State) (a : Nat) (f : State → State) (l) (h : s.only (f s) l) : s.only (s.onAd a f) l := by unfold onAd; split; exact h; exact only_refl _ _
theorem only_lane (s : State) (a : Nat) (f : State → State) (l) (h : s.only (f s) l) : s.only (s.onLane a f) l := by unfold onLane; split; exact h; exact only_refl _ _
theorem earlyAlm (s : State) (r : Nat) : (s.almEarly r).alm.obs = s.alm.obs ∧ (s.almEarly r).alm.merging = s.alm.merging ∧ (s.almEarly r).alm.frozen = s.alm.frozen ∧ (s.almEarly r).alm.bufBins = s.alm.bufBins := by
  unfold almEarly; split <;> exact ⟨rfl, rfl, rfl, rfl⟩
theorem fireIf_alm (s : State) (b : Bool) (n : Nat) : (s.fireIf b n).alm = s.alm := by unfold fireIf; split; unfold fire; split <;> rfl; rfl
theorem mergeAlm (s : State) : s.almMerge.alm.merging = false ∧ s.almMerge.alm.frozen = false ∧ s.almMerge.alm.bufBins = [] ∧ s.almMerge.rd almB Alm.ALM_STAT.FRZ = 0 := by
  have key : ∃ u : State, s.almMerge = u.almSyncFrz ∧ u.alm.merging = false ∧ u.alm.frozen = false ∧ u.alm.bufBins = [] := by
    unfold almMerge; dsimp only
    refine ⟨_, rfl, ?_⟩
    have hs : ∀ u : State, u.almSyncBuf.alm = u.alm := fun _ => rfl
    rw [hs]
    have p2 : ∀ (l : List ((Nat × Bool) × AlmExt)) (u : State), (l.foldl (fun (s : State) q => s.setAlmRec q.1.1 ((s.almRec q.1.1).extreme q.1.2 q.2)) u).alm.merging = u.alm.merging ∧ (l.foldl (fun (s : State) q => s.setAlmRec q.1.1 ((s.almRec q.1.1).extreme q.1.2 q.2)) u).alm.frozen = u.alm.frozen ∧ (l.foldl (fun (s : State) q => s.setAlmRec q.1.1 ((s.almRec q.1.1).extreme q.1.2 q.2)) u).alm.bufBins = u.alm.bufBins := fun l u =>
      ⟨foldl_proj (fun v : State => v.alm.merging) _ l u (fun _ _ => rfl), foldl_proj (fun v : State => v.alm.frozen) _ l u (fun _ _ => rfl), foldl_proj (fun v : State => v.alm.bufBins) _ l u (fun _ _ => rfl)⟩
    rw [(p2 _ _).1, (p2 _ _).2.1, (p2 _ _).2.2]
    have p1 : ∀ (l : List ((Nat × Nat) × Nat)) (u : State), (l.foldl (fun (s : State) (q : (Nat × Nat) × Nat) => (s.setAlmRec q.1.1 ((s.almRec q.1.1).count q.1.2 q.2)).almEarly q.1.1) u).alm.merging = u.alm.merging ∧ (l.foldl (fun (s : State) (q : (Nat × Nat) × Nat) => (s.setAlmRec q.1.1 ((s.almRec q.1.1).count q.1.2 q.2)).almEarly q.1.1) u).alm.frozen = u.alm.frozen ∧ (l.foldl (fun (s : State) (q : (Nat × Nat) × Nat) => (s.setAlmRec q.1.1 ((s.almRec q.1.1).count q.1.2 q.2)).almEarly q.1.1) u).alm.bufBins = u.alm.bufBins := fun l u =>
      ⟨foldl_proj (fun v : State => v.alm.merging) _ l u (fun _ _ => (earlyAlm _ _).2.1), foldl_proj (fun v : State => v.alm.frozen) _ l u (fun _ _ => (earlyAlm _ _).2.2.1), foldl_proj (fun v : State => v.alm.bufBins) _ l u (fun _ _ => (earlyAlm _ _).2.2.2)⟩
    rw [(p1 _ _).1, (p1 _ _).2.1, (p1 _ _).2.2]
    exact ⟨rfl, rfl, rfl⟩
  obtain ⟨u, e, h1, h2, h3⟩ := key
  rw [e]
  refine ⟨h1, h2, h3, ?_⟩
  unfold almSyncFrz; rw [h1, h2]; simp (disch := first | decide | (simp only [Fld.key, Fld.at, ne_eq, Alm.ALM_STAT.FRZ, almB]; omega) | omega | (intro _ h; cases h; decide)) only [rd_wr_same, rd_wr_ne, rd_fire, rd_retire, rd_answer, rd_setCore, rd_setSch, rd_setLane, rd_setCtx, rd_setCell, rd_setModul, rd_setArm, rd_setEst, rd_setAd, rd_setLaw, rd_setAcq, rd_modDma, rd_modArm, rd_modEst, rd_modAlm, rd_modPwr, rd_cwr, crd_wr, inc_eq, incBy_eq, incW_eq, wrB_eq, State.fireK, modCore_eq, modLane_eq, modCtx_eq, modAd_eq, modLaw_eq, raiseBit_rd]; rfl
theorem passGo (s : State) (h : s.rd almB Alm.ALM_STAT.BGBUSY = 0) (h2 : s.almChanged ≠ []) : s.almPass.rd almB Alm.ALM_STAT.BGBUSY = 1 ∧ s.almPass.alm.pass = s.almChanged := by
  unfold almPass; rw [on_false h, if_neg (by decide)]
  unfold almPassEnd
  have : (((s.modAlm (fun a => { a with pass := s.almChanged })).wr almB Alm.ALM_STAT.BGBUSY 1).alm.pass.isEmpty) = false := by
    show s.almChanged.isEmpty = false
    cases h3 : s.almChanged
    · exact absurd h3 h2
    · rfl
  rw [this, Bool.and_false, if_neg (by decide)]
  exact ⟨by simp (disch := first | decide | (simp only [Fld.key, Fld.at, ne_eq, Alm.ALM_STAT.BGBUSY, almB]; omega) | omega | (intro _ h; cases h; decide)) only [rd_wr_same, rd_wr_ne, rd_fire, rd_retire, rd_answer, rd_setCore, rd_setSch, rd_setLane, rd_setCtx, rd_setCell, rd_setModul, rd_setArm, rd_setEst, rd_setAd, rd_setLaw, rd_setAcq, rd_modDma, rd_modArm, rd_modEst, rd_modAlm, rd_modPwr, rd_cwr, crd_wr, inc_eq, incBy_eq, incW_eq, wrB_eq, State.fireK, modCore_eq, modLane_eq, modCtx_eq, modAd_eq, modLaw_eq, raiseBit_rd]; rfl, rfl⟩
theorem ite_obs {p : Prop} [Decidable p] {a b : State} {x : List AlmObs} (ha : a.alm.obs = x) (hb : b.alm.obs = x) : (if p then a else b).alm.obs = x := by split <;> assumption
theorem bufferObs (s : State) (o : AlmObs) : (s.almBuffer o).alm.obs = s.alm.obs := by
  unfold almBuffer; dsimp only
  exact ite_obs ((congrArg Almanac.obs (fireIf_alm _ _ _)).trans (ite_obs (p := _ = true) rfl rfl)) rfl
theorem rd_modMtr (s : State) (g : MtrSt → MtrSt) (b : Nat) (f : Fld) : (s.modMtr g).rd b f = s.rd b f := rfl
theorem mtrOff_facts (u : State) : u.mtrOff.rd mtrB Mtr.MTR_CTL.EN = 0 ∧ u.mtrOff.rd mtrB Mtr.MTR_STAT.RUN = 0 ∧ u.mtrOff.rd mtrB Mtr.MTR_STAT.RSTBUSY = 0 := by
  unfold mtrOff syncCounting; refine ⟨by simp (disch := first | decide | (simp only [Fld.key, Fld.at, ne_eq, Mtr.MTR_CTL.EN, Mtr.MTR_STAT.COUNTING, Mtr.MTR_STAT.RSTBUSY, Mtr.MTR_STAT.RUN, mtrB]; omega) | omega | (intro _ h; cases h; decide)) only [rd_wr_same, rd_wr_ne, rd_fire, rd_retire, rd_answer, rd_setCore, rd_setSch, rd_setLane, rd_setCtx, rd_setCell, rd_setModul, rd_setArm, rd_setEst, rd_setAd, rd_setLaw, rd_setAcq, rd_modDma, rd_modArm, rd_modEst, rd_modAlm, rd_modPwr, rd_cwr, crd_wr, inc_eq, incBy_eq, incW_eq, wrB_eq, State.fireK, modCore_eq, modLane_eq, modCtx_eq, modAd_eq, modLaw_eq, raiseBit_rd]; rfl, by simp (disch := first | decide | (simp only [Fld.key, Fld.at, ne_eq, Mtr.MTR_CTL.EN, Mtr.MTR_STAT.COUNTING, Mtr.MTR_STAT.RSTBUSY, Mtr.MTR_STAT.RUN, mtrB]; omega) | omega | (intro _ h; cases h; decide)) only [rd_wr_same, rd_wr_ne, rd_fire, rd_retire, rd_answer, rd_setCore, rd_setSch, rd_setLane, rd_setCtx, rd_setCell, rd_setModul, rd_setArm, rd_setEst, rd_setAd, rd_setLaw, rd_setAcq, rd_modDma, rd_modArm, rd_modEst, rd_modAlm, rd_modPwr, rd_cwr, crd_wr, inc_eq, incBy_eq, incW_eq, wrB_eq, State.fireK, modCore_eq, modLane_eq, modCtx_eq, modAd_eq, modLaw_eq, raiseBit_rd]; rfl, by simp (disch := first | decide | (simp only [Fld.key, Fld.at, ne_eq, Mtr.MTR_CTL.EN, Mtr.MTR_STAT.COUNTING, Mtr.MTR_STAT.RSTBUSY, Mtr.MTR_STAT.RUN, mtrB]; omega) | omega | (intro _ h; cases h; decide)) only [rd_wr_same, rd_wr_ne, rd_fire, rd_retire, rd_answer, rd_setCore, rd_setSch, rd_setLane, rd_setCtx, rd_setCell, rd_setModul, rd_setArm, rd_setEst, rd_setAd, rd_setLaw, rd_setAcq, rd_modDma, rd_modArm, rd_modEst, rd_modAlm, rd_modPwr, rd_cwr, crd_wr, inc_eq, incBy_eq, incW_eq, wrB_eq, State.fireK, modCore_eq, modLane_eq, modCtx_eq, modAd_eq, modLaw_eq, raiseBit_rd]; rfl⟩
theorem divFree_same (s : State) (a b : Int) : (s.divFree a b).2.mtr = s.mtr ∧ (s.divFree a b).2.sec = s.sec := by unfold divFree; split <;> exact ⟨rfl, rfl⟩
theorem mtrBody_same (s : State) (k f : Nat) (x : MtrSpan) (a b c : Nat) : (s.mtrBody k f x a b c).2.mtr = s.mtr ∧ (s.mtrBody k f x a b c).2.sec = s.sec := by
  unfold mtrBody; dsimp only
  simp only [divFree_same, and_self]
theorem queue_len (s : State) (j : SigJob) : (s.sigQueue j).sec.queue.length = s.sec.queue.length + 1 ∧ (s.sigQueue j).mtr = s.mtr := by
  refine ⟨?_, rfl⟩
  show List.length (match s.sec.queue with | [] => _ | h :: r => _) = _
  rcases s.sec.queue with _ | ⟨h, r⟩
  · rfl
  · show List.length (_ :: sigIns r _) = _; rw [List.length_cons, sigIns_len]; rfl
theorem mtrClose_facts (s : State) (f a b c : Nat) : (s.mtrClose f a b c).mtr.recno = s.mtr.recno + 1 ∧ (s.mtrClose f a b c).sec.queue.length = s.sec.queue.length + 1 := by
  unfold mtrClose; dsimp only
  have h := mtrBody_same s 1 f s.mtr.span a b 0
  generalize s.mtrBody 1 f s.mtr.span a b 0 = p at *
  unfold issue
  refine ⟨?_, ?_⟩
  · show p.2.mtr.recno + 1 = _; rw [h.1]
  · show (State.sigQueue _ _).sec.queue.length = _; rw [(queue_len _ _).1]; show p.2.sec.queue.length + 1 = _; rw [h.2]
theorem logPut_rd (s : State) (n : Nat) (a b c d : Bool) (x : Nat) (f : Fld) (h1 : f.key x ≠ Fc.FLOG_CNT.LOST.key fcB) (h2 : f.key x ≠ Fc.FC_STAT.LOGOVF.key fcB) (h3 : ∀ u : State, u.syncFlog.rd x f = u.rd x f) : (s.logPut n a b c d).rd x f = s.rd x f := by
  unfold logPut
  split
  · rfl
  · split
    · rw [rd_fire, rd_wr_ne _ _ _ _ _ _ h2, inc_eq, rd_wr_ne _ _ _ _ _ _ h1]
    · rw [h3]; rfl
theorem fc_key (f g : Fld) (b : Nat) (h : f.off < 0x10000) (hl : f.lsb < 32) (hg : g.lsb < 32) (hb : fcB + 0x10000 ≤ b + g.off) : f.key fcB ≠ g.key b := by
  unfold Fld.key; omega
theorem divFree_rd (s : State) (a c : Int) (b : Nat) (f : Fld) : (s.divFree a c).2.rd b f = s.rd b f := by unfold divFree; split <;> rfl
theorem mtrBody_rd (s : State) (k f : Nat) (x : MtrSpan) (a b c : Nat) (d : Nat) (g : Fld) : (s.mtrBody k f x a b c).2.rd d g = s.rd d g := by
  unfold mtrBody; dsimp only; simp only [divFree_rd]
theorem mtrClose_rd (s : State) (f a b c : Nat) (d : Nat) (g : Fld) : (s.mtrClose f a b c).rd d g = s.rd d g := by
  unfold mtrClose; dsimp only
  have h := mtrBody_rd s 1 f s.mtr.span a b 0 d g
  generalize s.mtrBody 1 f s.mtr.span a b 0 = p at *
  exact h
theorem mtrCapture_rd (s : State) (f : Fld) (hl : f.lsb < 32) (h : f.off < 0x10000) : s.mtrCapture.rd fcB f = s.rd fcB f := by
  unfold mtrCapture
  split
  · rfl
  · split
    · rw [rd_fire, inc_eq, rd_wr_ne _ _ _ _ _ _ (fc_key _ _ _ h hl (by decide) (by decide))]
    · dsimp only
      have k := mtrBody_rd s 3 0 s.mtr.span s.nowSec s.nowNs 0 fcB f
      generalize s.mtrBody 3 0 s.mtr.span s.nowSec s.nowNs 0 = p at *
      exact k
theorem mtrPairLeave_rd (s : State) (f : Fld) (hl : f.lsb < 32) (h : f.off < 0x10000) : s.mtrPairLeave.rd fcB f = s.rd fcB f := by
  unfold mtrPairLeave; dsimp only
  rw [rd_wr_ne _ _ _ _ _ _ (fc_key _ _ _ h hl (by decide) (by decide)), rd_modMtr]
  split
  · rw [mtrCapture_rd _ _ hl h, mtrClose_rd]
  · rfl
theorem fc_far (f : Fld) (hl : f.lsb < 32) (h : f.off < 0x10000) : far fcB f := by
  unfold far; exact ⟨Or.inl (by show 0x20000000 + f.off < _; omega), hl⟩
theorem pairB_mod (s : State) (g : PairSt → PairSt) (b : Nat) (f : Fld) : (s.modPair g).rd b f = s.rd b f := rfl
theorem toStandby_rd (s : State) (f : Fld) (hl : f.lsb < 32) (h : f.off < 0x10000) : s.toStandby.rd fcB f = s.rd fcB f := by
  unfold toStandby; dsimp only
  rw [syncPair_rd _ _ _ (fc_key _ _ _ h hl (by decide) (by decide)), syncAllTx_far (fc_far f hl h), syncLanes_far (fc_far f hl h), rd_wr_ne _ _ _ _ _ _ (fc_key _ _ _ h hl (by decide) (by decide))]
  have e : ∀ u : State, ((if s.pairCounts then ((u.modPair (fun x => { x with passes := [], passAge := none })).wr pairB Pair.PAIR_STAT.SHDW_OK 0) else u)).rd fcB f = u.rd fcB f := fun u => by
    split
    · rw [rd_wr_ne _ _ _ _ _ _ (fc_key _ _ _ h hl (by decide) (by decide)), pairB_mod]
    · rfl
  rw [e, pairB_mod]
  split
  · exact mtrPairLeave_rd _ _ hl h
  · rfl
theorem pairFlatch_rd (s : State) (f : Fld) (hl : f.lsb < 32) (h : f.off < 0x10000) : s.pairFlatch.rd fcB f = s.rd fcB f := by
  have e : s.pairOutLow.rd fcB f = s.rd fcB f := by unfold pairOutLow; rw [syncAllTx_far (fc_far f hl h)]; rfl
  unfold pairFlatch; dsimp only
  split
  · exact e
  · rw [pairB_mod, toStandby_rd _ _ hl h]; exact e
theorem rd_modAlm' (s : State) (g : Almanac → Almanac) (b : Nat) (f : Fld) : (s.modAlm g).rd b f = s.rd b f := rfl
theorem early_rd (s : State) (r b : Nat) (f : Fld) : (s.almEarly r).rd b f = s.rd b f := by unfold almEarly; split <;> rfl
theorem almMerge_rd (s : State) (f : Fld) (hl : f.lsb < 32) (h : f.off < 0x10000) : s.almMerge.rd fcB f = s.rd fcB f := by
  unfold almMerge; dsimp only
  unfold almSyncFrz almSyncBuf; rw [wrB_eq, rd_wr_ne _ _ _ _ _ _ (fc_key _ _ _ h hl (by decide) (by decide)), rd_wr_ne _ _ _ _ _ _ (fc_key _ _ _ h hl (by decide) (by decide))]
  refine (foldl_rd _ _ _ _ _ ?_).trans ((foldl_rd _ _ _ _ _ ?_).trans rfl)
  · intro v x; rfl
  · intro v x; exact early_rd _ _ _ _
theorem almFlush_rd (s : State) (x : Bool) (f : Fld) (hl : f.lsb < 32) (h : f.off < 0x10000) : (s.almFlush x).rd fcB f = s.rd fcB f := by
  unfold almFlush; dsimp only
  rw [rd_wr_ne _ _ _ _ _ _ (fc_key _ _ _ h hl (by decide) (by decide)), rd_modAlm']
  have e : (if (s.alm.frozen || s.alm.merging) = true then ((s.modAlm (fun a => { a with again := false })).almMerge.wr almB Alm.ALM_STAT.FRZBRK 1) else s).rd fcB f = s.rd fcB f := by
    split
    · rw [rd_wr_ne _ _ _ _ _ _ (fc_key _ _ _ h hl (by decide) (by decide)), almMerge_rd _ _ hl h]; rfl
    · rfl
  generalize (if (s.alm.frozen || s.alm.merging) = true then ((s.modAlm (fun a => { a with again := false })).almMerge.wr almB Alm.ALM_STAT.FRZBRK 1) else s) = u at *
  split
  · exact e
  · rw [rd_modAlm']; exact e
theorem sprCond_rd (s : State) (f : Fld) (hl : f.lsb < 32) (h : f.off < 0x10000) : (if s.sprOn then s else s.sprRequest 1).rd fcB f = s.rd fcB f := by
  split
  · rfl
  · exact spr_rd _ _ _ _ (fc_key _ _ _ h hl (by decide) (by decide)) (fc_key _ _ _ h hl (by decide) (by decide)) (fc_key _ _ _ h hl (by decide) (by decide))
theorem stop_run (s : State) (c : Nat) : (s.aliveStop c).rd fcB Fc.FC_STAT.ALIVE_RUN = 0 := by
  unfold aliveStop
  by_cases h : s.rd fcB Fc.FC_STAT.ALIVE_RUN = 0
  · rw [if_pos (by rw [on_false h]; rfl)]; exact h
  · rw [if_neg (by rw [(on_iff _ _ _).2 h]; decide)]; dsimp only; unfold pairOutLow; rw [syncAllTx_far (fc_far _ (by decide) (by decide))]
    show State.rd (State.wr _ _ _ _) _ _ = 0
    simp (disch := first | decide | (simp only [Fld.key, Fld.at, ne_eq, Fc.FC_CTL.ALIVE_EN, Fc.FC_STAT.ALIVE_CAUSE, Fc.FC_STAT.ALIVE_RUN, fcB]; omega) | omega | (intro _ h; cases h; decide)) only [rd_wr_same, rd_wr_ne, rd_fire, rd_retire, rd_answer, rd_setCore, rd_setSch, rd_setLane, rd_setCtx, rd_setCell, rd_setModul, rd_setArm, rd_setEst, rd_setAd, rd_setLaw, rd_setAcq, rd_modDma, rd_modArm, rd_modEst, rd_modAlm, rd_modPwr, rd_cwr, crd_wr, inc_eq, incBy_eq, incW_eq, wrB_eq, State.fireK, modCore_eq, modLane_eq, modCtx_eq, modAd_eq, modLaw_eq, raiseBit_rd]; rfl
theorem almCond_rd (s : State) (f : Fld) (hl : f.lsb < 32) (h : f.off < 0x10000) : (if s.alm.stopped then s else s.almFlush false).rd fcB f = s.rd fcB f := by
  split
  · rfl
  · exact almFlush_rd _ _ _ hl h
theorem safe_facts (s : State) (n : Nat) (hn : n < 512) (hf : s.flatch = false) : (s.safeState n).flatch = true ∧ (s.safeState n).rd fcB Fc.FC_FFIRST.SRC = n ∧ (s.safeState n).rd fcB Fc.FC_STAT.ALIVE_RUN = 0 ∧
    (∀ f : Fld, f.lsb < 32 → f.off < 0x10000 → (∀ g ∈ [Fc.FC_STAT.FLATCH, Fc.FC_STAT.SPRREQ, Fc.FC_FFIRST.SRC, Fc.FC_FFIRST.VALID, Fc.FC_FSEC.SEC, Fc.FC_FNS.NS, Fc.FC_STAT.ALIVE_RUN, Fc.FC_STAT.ALIVE_CAUSE, Fc.FC_CTL.ALIVE_EN], f.key fcB ≠ g.key fcB) → (s.safeState n).rd fcB f = s.rd fcB f) := by
  unfold safeState; rw [if_neg (by rw [hf]; decide)]; dsimp only
  refine ⟨?_, ?_, ?_, fun f hl h hg => ?_⟩
  · unfold State.flatch on
    rw [almCond_rd _ _ (by decide) (by decide), aliveStop_rd _ _ _ _ (fc_far _ (by decide) (by decide)) (by decide) (by decide) (by decide), sprCond_rd _ _ (by decide) (by decide), pairFlatch_rd _ _ (by decide) (by decide), mtrCapture_rd _ _ (by decide) (by decide)]
    simp (disch := first | decide | (simp only [Fld.key, Fld.at, ne_eq, Fc.FC_FFIRST.SRC, Fc.FC_FFIRST.VALID, Fc.FC_FNS.NS, Fc.FC_FSEC.SEC, Fc.FC_STAT.FLATCH, Fc.FC_STAT.SPRREQ, fcB]; omega) | omega | (intro _ h; cases h; decide)) only [rd_wr_same, rd_wr_ne, rd_fire, rd_retire, rd_answer, rd_setCore, rd_setSch, rd_setLane, rd_setCtx, rd_setCell, rd_setModul, rd_setArm, rd_setEst, rd_setAd, rd_setLaw, rd_setAcq, rd_modDma, rd_modArm, rd_modEst, rd_modAlm, rd_modPwr, rd_cwr, crd_wr, inc_eq, incBy_eq, incW_eq, wrB_eq, State.fireK, modCore_eq, modLane_eq, modCtx_eq, modAd_eq, modLaw_eq, raiseBit_rd]; rfl
  · rw [almCond_rd _ _ (by decide) (by decide), aliveStop_rd _ _ _ _ (fc_far _ (by decide) (by decide)) (by decide) (by decide) (by decide), sprCond_rd _ _ (by decide) (by decide), pairFlatch_rd _ _ (by decide) (by decide), mtrCapture_rd _ _ (by decide) (by decide)]
    simp (disch := first | decide | (simp only [Fld.key, Fld.at, ne_eq, Fc.FC_FFIRST.SRC, Fc.FC_FFIRST.VALID, Fc.FC_FNS.NS, Fc.FC_FSEC.SEC, Fc.FC_STAT.FLATCH, Fc.FC_STAT.SPRREQ, fcB]; omega) | omega | (intro _ h; cases h; decide)) only [rd_wr_same, rd_wr_ne, rd_fire, rd_retire, rd_answer, rd_setCore, rd_setSch, rd_setLane, rd_setCtx, rd_setCell, rd_setModul, rd_setArm, rd_setEst, rd_setAd, rd_setLaw, rd_setAcq, rd_modDma, rd_modArm, rd_modEst, rd_modAlm, rd_modPwr, rd_cwr, crd_wr, inc_eq, incBy_eq, incW_eq, wrB_eq, State.fireK, modCore_eq, modLane_eq, modCtx_eq, modAd_eq, modLaw_eq, raiseBit_rd]; exact Nat.mod_eq_of_lt hn
  · rw [almCond_rd _ _ (by decide) (by decide)]; exact stop_run _ _
  · simp only [List.mem_cons, List.not_mem_nil, or_false, forall_eq_or_imp, forall_eq] at hg
    obtain ⟨g1, g2, g3, g4, g5, g6, g7, g8, g9⟩ := hg
    rw [almCond_rd _ _ hl h, aliveStop_rd _ _ _ _ (fc_far _ hl h) g7 g8 g9, sprCond_rd _ _ hl h, pairFlatch_rd _ _ hl h, mtrCapture_rd _ _ hl h]
    rw [rd_wr_ne _ _ _ _ _ _ g6, rd_wr_ne _ _ _ _ _ _ g5, rd_wr_ne _ _ _ _ _ _ g4, rd_wr_ne _ _ _ _ _ _ g3, rd_wr_ne _ _ _ _ _ _ g2, rd_wr_ne _ _ _ _ _ _ g1]
theorem acqOwe2_rd (s : State) (n b : Nat) (f : Fld) : (s.observeFiring n).rd b f = s.rd b f := by
  unfold observeFiring; rw [acqOwe_rd, acqOwe_rd]
theorem reactNow_rd (s : State) (b : Nat) (f : Fld) : s.reactNow.rd b f = s.rd b f := by unfold reactNow; split <;> rfl
def clear (f : Fld) : Prop := f.lsb < 32 ∧ (f.off < 0x30 ∨ 0x44 ≤ f.off)
theorem syncFlog_rd (s : State) (f : Fld) (h : clear f) : s.syncFlog.rd fcB f = s.rd fcB f := by
  have k : ∀ g : Fld, g.lsb < 32 → 0x30 ≤ g.off → g.off < 0x44 → f.key fcB ≠ g.key fcB := fun g h1 h2 h3 => by
    unfold clear at h; unfold Fld.key; omega
  unfold syncFlog; dsimp only; simp only [wrB_eq]
  rw [rd_wr_ne _ _ _ _ _ _ (k _ (by decide) (by decide) (by decide)), rd_wr_ne _ _ _ _ _ _ (k _ (by decide) (by decide) (by decide)), rd_wr_ne _ _ _ _ _ _ (k _ (by decide) (by decide) (by decide)), rd_wr_ne _ _ _ _ _ _ (k _ (by decide) (by decide) (by decide)), rd_wr_ne _ _ _ _ _ _ (k _ (by decide) (by decide) (by decide)), rd_wr_ne _ _ _ _ _ _ (k _ (by decide) (by decide) (by decide)), rd_wr_ne _ _ _ _ _ _ (k _ (by decide) (by decide) (by decide)), rd_wr_ne _ _ _ _ _ _ (k _ (by decide) (by decide) (by decide)), rd_wr_ne _ _ _ _ _ _ (k _ (by decide) (by decide) (by decide))]
theorem log_rd (s : State) (n : Nat) (a b c d : Bool) (f : Fld) (h : clear f) (h2 : f.key fcB ≠ Fc.FC_STAT.LOGOVF.key fcB) : (s.logPut n a b c d).rd fcB f = s.rd fcB f :=
  logPut_rd s n a b c d fcB f (by have e : Fc.FLOG_CNT.LOST.key fcB = (fcB + 0x40) * 32 + 16 := rfl; unfold clear at h; rw [e]; unfold Fld.key; omega) h2 (fun u => syncFlog_rd u f h)
theorem fsCfg_key (f : Fld) (n : Nat) : (fsCfg f n).key fcB = (f.at n).key fcB := by unfold fsCfg Fld.key Fld.at; rfl
theorem on_congr {u s : State} {b : Nat} {f : Fld} (h : u.rd b f = s.rd b f) : u.on b f = s.on b f := by unfold on; rw [h]
theorem cfg_far (f : Fld) (n : Nat) (b : Nat) (g : Fld) (hn : n < 512) (hf : f.off = 0x1000) (hs : f.stp = 4) (hl : f.lsb < 32) (hg : g.lsb < 32) (h : b + g.off < fcB + 0x1000 ∨ fcB + 0x1800 ≤ b + g.off) : (fsCfg f n).key fcB ≠ g.key b := by
  rw [fsCfg_key]; unfold Fld.key Fld.at; dsimp only; rw [hf, hs]; omega
theorem fsOn_keep (s u : State) (n : Nat) (f : Fld) (h : u.rd fcB (fsCfg f n) = s.rd fcB (fsCfg f n)) : u.fsOn n f = s.fsOn n f := by
  unfold fsOn; exact on_congr h
theorem react_plain (u : State) (n : Nat) (cls : SrcClass) (hq : ∀ f ∈ [Fc.FS_CFG.IRQ, Fc.FS_CFG.NMI, Fc.FS_CFG.BRST, Fc.FS_CFG.CRST, Fc.FS_CFG.ASTOP], u.fsOn n f = false) :
    u.react n cls false = if cls = .f then u.reactNow.safeState n else u.reactNow := by
  simp only [List.mem_cons, List.not_mem_nil, or_false, forall_eq_or_imp, forall_eq] at hq
  obtain ⟨q1, q2, q3, q4, q5⟩ := hq
  have k : ∀ f, u.reactNow.fsOn n f = u.fsOn n f := fun f => fsOn_keep _ _ _ _ (reactNow_rd _ _ _)
  unfold react; dsimp only
  simp only [k, q1, q2, q3, q4, q5, Bool.false_and, Bool.false_eq_true, if_false]
  by_cases h : cls = .f
  · simp only [if_pos h]
  · simp only [if_neg h, k, q1, q2, q3, q4, q5, Bool.false_and, Bool.false_eq_true, if_false]
end Sys2Proof.Laws
end

