-- ==== Sys2Proof/WellFormed.lean ====
section
/-!
DEFINITION. Which commands are well formed: every number a command carries names something the spec numbers. Whether the part
has it is the command's own affair (R6).
-/
namespace Sys2Proof

/-- K-die numbers (R1). -/
def isKdie (n : Nat) : Bool := decide (n < 2)
/-- L-die numbers (R1). -/
def isLdie (n : Nat) : Bool := decide (n < 4)
/-- A-die numbers (R1). -/
def isAdie (n : Nat) : Bool := decide (n < 2)
/-- Die numbers (R456). -/
def isDie (n : Nat) : Bool := decide (n < 8)
/-- Link numbers (R20). -/
def isLink (n : Nat) : Bool := decide (n < 7)
/-- Master numbers (R24). -/
def isMaster (n : Nat) : Bool := decide (n < 128)
/-- Core numbers (R24). -/
def isCore (n : Nat) : Bool := decide (n < 32)
/-- Core pairs of a K-die (R225). -/
def isCorePair (n : Nat) : Bool := decide (n < 8)
/-- Global lanes (R59). -/
def isLane (n : Nat) : Bool := decide (n < 64)
/-- Slots of a lane (R59). -/
def isSlot (n : Nat) : Bool := decide (n < 96)
/-- Global cells (R59). -/
def isCell (n : Nat) : Bool := decide (n < 6144)
/-- Arms of a K-die (R150). -/
def isArm (n : Nat) : Bool := decide (n < 6)
/-- DMA channels of a K-die (R299). -/
def isDma (n : Nat) : Bool := decide (n < 16)
/-- Law channels (R180). -/
def isLawCh (n : Nat) : Bool := decide (n < 6)
/-- Sections of a channel (R184). -/
def isSec (n : Nat) : Bool := decide (n < 256)
/-- Entries of the input map (R185). -/
def isInput (n : Nat) : Bool := decide (n < 128)
/-- Mailbox channels of both K-dies (R260). -/
def isChan (n : Nat) : Bool := decide (n < 128)
/-- Task slots (R254). -/
def isTask (n : Nat) : Bool := decide (n < 256)
/-- Software events (R274). -/
def isEvt (n : Nat) : Bool := decide (n < 64)
/-- Outstanding operations of a core (R212). -/
def isLoad (n : Nat) : Bool := decide (n < 8)
/-- Converters of an A-die (R279). -/
def isConv (n : Nat) : Bool := decide (n < 24)
/-- Converter pairs (R289). -/
def isPair (n : Nat) : Bool := decide (n < 12)
/-- Result indices (R284). -/
def isRidx (n : Nat) : Bool := decide (n < 48)
/-- Ethernet ports (R330). -/
def isPort (n : Nat) : Bool := decide (n < 4)
/-- Stream entries (R344). -/
def isStream (n : Nat) : Bool := decide (n < 16)
/-- TRIG_IN balls (R318). -/
def isTrig (n : Nat) : Bool := decide (n < 4)
/-- Trip inputs of a cell (R131). -/
def isTrip (n : Nat) : Bool := decide (n < 4)
/-- Conversion instants of a cell cycle (R143). -/
def isConversion (n : Nat) : Bool := decide (n < 3)
/-- Fault sources (R351). -/
def isSource (n : Nat) : Bool := decide (n < 512)
/-- Reset blocks (R359). -/
def isBlk (n : Nat) : Bool := decide (n < 64)
/-- Safety LANs (R382). -/
def isLan (n : Nat) : Bool := decide (n < 2)
/-- Mirror lanes (R400). -/
def isMirror (n : Nat) : Bool := decide (n < 2)
/-- Almanac records (R415). -/
def isRec (n : Nat) : Bool := decide (n < 2048)
/-- XSPI controllers (R466). -/
def isXspi (n : Nat) : Bool := decide (n < 2)
/-- Re-grant entries of a map (R75). -/
def isRegrant (n : Nat) : Bool := decide (n < 11)
/-- Byte addresses (R22). -/
def isAddr (a : Nat) : Bool := decide (a < 2 ^ 32)
/-- Low words of the 64-bit pairs of an acquisition engine (R322). -/
def isLowWord (o : Nat) : Bool := [0x30, 0x40, 0x48, 0x50].contains o
/-- An issuer of register writes (R24). -/
def Wr.ok (w : Wr) : Bool := isMaster w.mid
/-- A target of cycle writes (R34). -/
def Target.ok : Target → Bool
  | .mod k => isKdie k
  | .ctx l => isLdie l
/-- An entry of an upstream frame (R75): a report slot or a re-grant entry. -/
def RxSlot.ok : RxSlot → Bool
  | .report u => isSlot u
  | .regrant m => isRegrant m

/-- The command is well formed. -/
def Instr.wf : Instr → Bool
  | .registerWrite w addr _ => w.ok && isAddr addr
  | .capq m _ => isCore m
  | .absentClr w => w.ok
  | .pcieHostRequest _ addr _ => isAddr addr
  | .cycleWriteLand m addr _ => isMaster m && isAddr addr
  | .cycCommit m _ t => isCore m && t.ok
  | .flitCrcFail link => isLink link
  | .fabricTimeout m _ addr => isMaster m && isAddr addr
  | .fabErrclr w => w.ok
  | .windowTableEccError _ => true
  | .subframeBoundary => true
  | .upstreamSlotsDone => true
  | .cycleTimerEn w _ => w.ok
  | .cycleTimerStart => true
  | .cycleTimerDis w => w.ok
  | .cycleTimerStop => true
  | .cycNumLoRead m => isMaster m
  | .modBuildCutoff k => isKdie k
  | .rankComplete k glitch => isKdie k && glitch.all (fun e => isCell e.1)
  | .checkerVerdict k => isKdie k
  | .refstale k a => isKdie k && isArm a
  | .plausibilityExclusion k c => isKdie k && isCell c
  | .trendPeriodEnd k => isKdie k
  | .armCntclr w k a => w.ok && isKdie k && isArm a
  | .cvAgeClear w k => w.ok && isKdie k
  | .pfxClear w k c => w.ok && isKdie k && isCell c
  | .modRamError k c _ => isKdie k && isCell c
  | .laneBuildCutoff ln => isLane ln
  | .frameStart ln => isLane ln
  | .cellHdrAccept c _ => isCell c
  | .cellCmdBlock c _ _ => isCell c
  | .cellRptBlock c _ _ => isCell c
  | .cellAcmd c _ _ => isCell c
  | .cellBcast c _ _ => isCell c
  | .cellMer c _ => isCell c
  | .cellGrant c _ => isCell c
  | .enableTx c _ => isCell c
  | .occult c _ _ => isCell c
  | .release c _ => isCell c
  | .eqset c _ => isCell c
  | .nop c _ => isCell c
  | .setState c _ => isCell c
  | .setPwm c _ => isCell c
  | .force c _ => isCell c
  | .clearTrip c _ => isCell c
  | .readReg c _ => isCell c
  | .writeReg c _ => isCell c
  | .cellClrcnt c => isCell c
  | .bypfClr c _ => isCell c
  | .sleep c _ => isCell c
  | .bistStart c _ => isCell c
  | .cellBistEnd c _ _ => isCell c
  | .armBypass c _ => isCell c
  | .fireBypass c _ => isCell c
  | .bypassWindowExpiry c => isCell c
  | .bypPulseEnd c => isCell c
  | .range c => isCell c
  | .cellReportTx c => isCell c
  | .cellRegrantTx c slot => isCell c && isRegrant slot
  | .cellReportFreeze c => isCell c
  | .cellConversion c idx _ _ => isCell c && isConversion idx
  | .cellCalSwitch c _ => isCell c
  | .carrierPeriodStart c => isCell c
  | .tripInput c i => isCell c && isTrip i
  | .gsupLow c => isCell c
  | .lossOfLight c => isCell c
  | .lolTimeout c => isCell c
  | .txGuardViolation c => isCell c
  | .cellPllUnlock c => isCell c
  | .cellParityError c => isCell c
  | .cellDupmis c _ => isCell c
  | .cellOvertemp c => isCell c
  | .vauxlow c => isCell c
  | .newtColdStart c => isCell c
  | .vauxOnRise c => isCell c
  | .wake c => isCell c
  | .regulatorsInRange c => isCell c
  | .vauxOffFall c => isCell c
  | .newtBrownout c => isCell c
  | .laneReportRx ln slot _ => isLane ln && slot.ok
  | .laneRangingRx ln _ => isLane ln
  | .rangingNoBurst ln => isLane ln
  | .ackwaitExpiry ln sl => isLane ln && isSlot sl
  | .outOfGrantLight ln _ => isLane ln
  | .babbleUnidentified ln => isLane ln
  | .babblePersist ln => isLane ln
  | .seeErrPersist ln sl => isLane ln && isSlot sl
  | .rxlos ln => isLane ln
  | .cellCmdAssign ln sl => isLane ln && isSlot sl
  | .cellCmdEnable ln sl => isLane ln && isSlot sl
  | .cellCmdOccult ln sl => isLane ln && isSlot sl
  | .cellCmdRelease ln sl => isLane ln && isSlot sl
  | .cellCmdCntclr ln sl => isLane ln && isSlot sl
  | .acmdPush ln sl _ => isLane ln && isSlot sl
  | .bcastPush w ln _ => w.ok && isLane ln
  | .laneCntClr w ln => w.ok && isLane ln
  | .laneEnSet w ln => w.ok && isLane ln
  | .laneEnClear w ln => w.ok && isLane ln
  | .laneDarkRequest w ln => w.ok && isLane ln
  | .laneWakeUp w ln => w.ok && isLane ln
  | .laneLocked ln => isLane ln
  | .ldiePllUnlock l => isLdie l
  | .laneTxflt ln => isLane ln
  | .wakeStart w ln => w.ok && isLane ln
  | .wakeToneEnd ln => isLane ln
  | .rsStart w ln => w.ok && isLane ln
  | .rsAbort w ln => w.ok && isLane ln
  | .rsScanDone ln counts => isLane ln && decide (counts.length ≤ 512)
  | .contextRamError ln sl _ => isLane ln && isSlot sl
  | .framerMismatch l => isLdie l
  | .lawInputFill k => isKdie k
  | .svInputStale k i => isKdie k && isInput i
  | .fastPassEnd k => isKdie k
  | .slowPassEnd k => isKdie k
  | .modelPlausibility k ch sec => isKdie k && isLawCh ch && isSec sec
  | .lawDeferredWrite k => isKdie k
  | .clrst w k ch => w.ok && isKdie k && isLawCh ch
  | .clrplaus w k ch => w.ok && isKdie k && isLawCh ch
  | .lawLockstepDiff k => isKdie k
  | .lawRamError k _ => isKdie k
  | .exportTrailer k => isKdie k
  | .exportDone k => isKdie k
  | .ld m _ => isCore m
  | .ldu m _ => isCore m
  | .st m _ => isCore m
  | .ldw m _ => isCore m
  | .stw m _ => isCore m
  | .loadDataReturn m i _ => isCore m && isLoad i
  | .add m _ _ => isCore m
  | .sub m _ _ => isCore m
  | .and m _ _ => isCore m
  | .or m _ _ => isCore m
  | .xor m _ _ => isCore m
  | .andn m _ _ => isCore m
  | .shl m _ _ => isCore m
  | .shr m _ _ => isCore m
  | .sar m _ _ => isCore m
  | .ror m _ _ => isCore m
  | .mul m _ _ => isCore m
  | .mulh m _ _ => isCore m
  | .mulhu m _ _ => isCore m
  | .slt m _ _ => isCore m
  | .sltu m _ _ => isCore m
  | .min m _ _ => isCore m
  | .max m _ _ => isCore m
  | .adds m _ _ => isCore m
  | .subs m _ _ => isCore m
  | .abss m _ _ => isCore m
  | .negs m _ _ => isCore m
  | .cmp m _ _ => isCore m
  | .addi m _ => isCore m
  | .andi m _ => isCore m
  | .ori m _ => isCore m
  | .xori m _ => isCore m
  | .lui m _ => isCore m
  | .shi m _ => isCore m
  | .cmpi m _ => isCore m
  | .pmovToP m _ => isCore m
  | .pmovToM m _ => isCore m
  | .pmovFromP m _ => isCore m
  | .pmovFromM m _ => isCore m
  | .setcb m _ => isCore m
  | .pmovGetCb m _ => isCore m
  | .pmovGetCl m _ => isCore m
  | .bCond m _ => isCore m
  | .callCond m _ => isCore m
  | .jr m _ => isCore m
  | .jrl m _ => isCore m
  | .mac m _ _ => isCore m
  | .msu m _ _ => isCore m
  | .mpy m _ _ => isCore m
  | .aclr m _ => isCore m
  | .amov m _ => isCore m
  | .aneg m _ => isCore m
  | .ash m _ => isCore m
  | .ashr m _ => isCore m
  | .aadd m _ => isCore m
  | .aldl m _ => isCore m
  | .aldh m _ => isCore m
  | .aldg m _ => isCore m
  | .rndc m _ => isCore m
  | .extt m _ => isCore m
  | .rdl m _ => isCore m
  | .rdh m _ => isCore m
  | .rdg m _ => isCore m
  | .norm m _ => isCore m
  | .expn m _ => isCore m
  | .expnAcc m _ => isCore m
  | .fncR m _ => isCore m
  | .fncW m _ => isCore m
  | .fncRw m _ => isCore m
  | .fncSys m _ => isCore m
  | .fncCyc m _ => isCore m
  | .fenceRelease m => isCore m
  | .fncCycCommit m _ => isCore m
  | .srd m _ => isCore m
  | .swr m _ => isCore m
  | .tret m _ => isCore m
  | .nret m _ => isCore m
  | .syscall m _ _ => isCore m
  | .brk m _ => isCore m
  | .freezeQ m _ => isCore m
  | .pwrHint m _ => isCore m
  | .nmiEntry m src => isCore m && isSource src
  | .coreLockstepDiff k q => isKdie k && isCorePair q
  | .tcmEccError m _ => isCore m
  | .sramEccError k _ => isKdie k
  | .releaseRetry w m => w.ok && isMaster m
  | .releaseTrap w m => w.ok && isMaster m
  | .releaseReset w m => w.ok && isMaster m
  | .fzPop w => w.ok
  | .coreReset w m => w.ok && isCore m
  | .coreRelease w m => w.ok && isCore m
  | .taskPost m _ => isCore m
  | .taskGet m _ => isCore m
  | .taskDone m _ => isCore m
  | .taskDisable w k slot => w.ok && isKdie k && isTask slot
  | .schRaise w k evt => w.ok && isKdie k && isEvt evt
  | .mbxPut m _ => isCore m
  | .mbxGet m _ => isCore m
  | .mbxChannelPut m i => isCore m && isLoad i
  | .mbxChannelGet m i => isCore m && isLoad i
  | .chPutWrite w ch _ => w.ok && isChan ch
  | .chGetRead w ch => w.ok && isChan ch
  | .chBindWrite w ch _ => w.ok && isChan ch
  | .bindLock w k => w.ok && isKdie k
  | .dbRing m _ => isCore m
  | .doorbellSet m _ => isCore m
  | .dbWait m _ => isCore m
  | .dbPendWrite w m _ => w.ok && isCore m
  | .dbClr w m _ => w.ok && isCore m
  | .dbMaskWrite w m _ => w.ok && isCore m
  | .schedRamError k _ _ i => isKdie k && isTask i
  | .adcResult a n _ => isAdie a && isConv n
  | .pairMismatch a p => isAdie a && isPair p
  | .urgRequest w a n _ => w.ok && isAdie a && isConv n
  | .refDiff a => isAdie a
  | .referr a => isAdie a
  | .calMatchEnd a _ => isAdie a
  | .calDwellEnd a _ _ => isAdie a
  | .adCntclr w a => w.ok && isAdie a
  | .adieRamError a _ n ridx => isAdie a && isConv n && ridx.all isRidx
  | .adieOvertemp a => isAdie a
  | .dmaStart w k ch => w.ok && isKdie k && isDma ch
  | .dmaPause w k ch => w.ok && isKdie k && isDma ch
  | .dmaResume w k ch => w.ok && isKdie k && isDma ch
  | .dmaAbort w k ch => w.ok && isKdie k && isDma ch
  | .dmaAppend w k ch => w.ok && isKdie k && isDma ch
  | .dmaDescLoaded k ch => isKdie k && isDma ch
  | .dmaReadReturn k ch _ => isKdie k && isDma ch
  | .dmaDrainDone k ch => isKdie k && isDma ch
  | .dmaLinkReturn k ch => isKdie k && isDma ch
  | .dmaRamError k _ chs => isKdie k && chs.all isDma
  | .acqArm w k => w.ok && isKdie k
  | .acqStop w k => w.ok && isKdie k
  | .swtrig w k => w.ok && isKdie k
  | .trigInEdge i _ => isTrig i
  | .xtrigFall => true
  | .acqRecordWrite k => isKdie k
  | .acqTimeRecord k => isKdie k
  | .acqPostEnd k => isKdie k
  | .captureMemWrite w addr => w.ok && isAddr addr
  | .captureMemRead m addr _ _ => isMaster m && isAddr addr
  | .tcntLowRead m k off => isMaster m && isKdie k && isLowWord off
  | .timeSet w _ => w.ok
  | .timeAdj w => w.ok
  | .timeNsRead m => isMaster m
  | .vnPrimarySample w _ => w.ok
  | .vnSecondarySample w _ => w.ok
  | .vnRearm w => w.ok
  | .vnDisable w => w.ok
  | .vernierHoldover => true
  | .syncInCapture _ _ => true
  | .siTsNsRead m => isMaster m
  | .syncOutPulse => true
  | .portEnable w e => w.ok && isPort e
  | .frameReceived e _ => isPort e
  | .svFrameReceived e fr => isStream e && isPort fr.port
  | .txKick w e => w.ok && isPort e
  | .frameTransmitted e _ => isPort e
  | .portCntClr w e => w.ok && isPort e
  | .ethLinkLoss e => isPort e
  | .portRamError e _ => isPort e
  | .faultFiring src _ => isSource src
  | .blockResetDone blk => isBlk blk
  | .conseqWindowEnd blk => isBlk blk
  | .escalationWindowEnd blk => isBlk blk
  | .fsPendClear w src => w.ok && isSource src
  | .aliveEn w => w.ok
  | .aliveStop w => w.ok
  | .aliveHalfPeriod => true
  | .aliveReadbackFail => true
  | .fcLock w => w.ok
  | .wden w => w.ok
  | .wdKick w _ => w.ok
  | .watchdogExpiry => true
  | .flogPop w => w.ok
  | .fsClr w => w.ok
  | .injectionArm w _ => w.ok
  | .injectionTimeout => true
  | .parityScrub _ _ => true
  | .sprReq w => w.ok
  | .sprRel w _ => w.ok
  | .srsReq w => w.ok
  | .safetyArm w => w.ok
  | .srsViolation => true
  | .srsRampEnd => true
  | .srsInputTimeout => true
  | .stopInLow _ => true
  | .stopInDiscrepancy => true
  | .stopOutDrop => true
  | .brkTripRise => true
  | .safetyReadbackFail _ => true
  | .safetyFrameReceived lan _ => isLan lan
  | .safetyCopyMissing lan => isLan lan
  | .safetyNetWatchdog _ _ => true
  | .degLimitReached => true
  | .safetyStatusTx => true
  | .pairEn w => w.ok
  | .pairActInFall => true
  | .startupClaim => true
  | .passRecordReceived _ => true
  | .passRecordMissing => true
  | .statusRecordTx => true
  | .statusRecordReceived _ _ => true
  | .epochReceived _ => true
  | .mirrorLaneDown i => isMirror i
  | .handover w => w.ok
  | .drill w => w.ok
  | .cycsync w => w.ok
  | .handoverRelease => true
  | .handingPeerCheck => true
  | .takingTimeout => true
  | .takebackRequest => true
  | .drillReturn => true
  | .drillFail => true
  | .almanacApply => true
  | .almanacFreeze w => w.ok
  | .almanacUnfreeze w => w.ok
  | .almanacMergeDone => true
  | .clrrec w => w.ok
  | .clrall w => w.ok
  | .restore w => w.ok
  | .almanacRestoreDone => true
  | .flushnow w => w.ok
  | .almanacBgPass => true
  | .almanacImageWritten _ => true
  | .almanacFullFlushDone => true
  | .almanacTotalRead m => isMaster m
  | .almCntclr w => w.ok
  | .almanacRamError rec _ => isRec rec
  | .meterPoint _ => true
  | .meterIntervalClose => true
  | .signingDone _ _ _ => true
  | .meterCheckpoint => true
  | .meterEnable w _ => w.ok
  | .meterRestoreDone => true
  | .meterDisable w => w.ok
  | .importLowRead m _ => isMaster m
  | .attest w => w.ok
  | .svnRaise w _ => w.ok
  | .revoke w _ => w.ok
  | .recover w => w.ok
  | .bootRomRun => true
  | .porstAssert => true
  | .porstRelease _ => true
  | .chipRst w _ => w.ok
  | .internalResetEnd => true
  | .bootBist failed => failed.all isDie
  | .aoPowerOn => true
  | .aoPowerLoss => true
  | .railFault => true
  | .refclkLoss => true
  | .pllUnlock adie => adie.all isAdie
  | .xtalStop => true
  | .pwrfailRecognised => true
  | .pwrfailRise => true
  | .dieOn w d => w.ok && isDie d
  | .dieOff w d => w.ok && isDie d
  | .dieReady d => isDie d
  | .dieBistStart w => w.ok
  | .dieBistDone _ _ _ => true
  | .xsRead w u => w.ok && isXspi u
  | .xsWrite w u => w.ok && isXspi u
  | .xsErase w u => w.ok && isXspi u
  | .xsStatus w u => w.ok && isXspi u
  | .xsTransferDone u _ => isXspi u
  | .dieTempUpdate temps => decide (temps.length ≤ 8)
  | .cellAlignedBoundary c => isCell c
  | .gsupOkRestored c => isCell c
  | .tripInputInactive c i => isCell c && isTrip i
  | .ethLinkUp e => isPort e
  | .stopInRestored _ => true
  | .peerAliveEdge => true
  | .paliveTimeout => true
  | .pairActInRise => true
  | .pairActReadbackFail => true
  | .refDiffEnd a => isAdie a
  | .adiePllRelock a => isAdie a
  | .xtrigRelease k => isKdie k
  | .perstNAssert => true
  | .perstNRelease => true

end Sys2Proof
end

