-- ==== Sys2Proof/Tests/Slice0.lean ====
section
/-!
SUPPORT. Tests: ill-formed terms that the check refuses, the spec's worked examples, and a witness for every statement that has
hypotheses.
-/
set_option Elab.async false
namespace Sys2Proof.Tests
open Sys2Proof Sys2Proof.Machine

/-! ## Well-formed commands: a term that each check refuses, and its neighbour that it takes -/

/-- An issuer that is privileged (MID 0x7F), and one that is not. -/
abbrev wp : Wr := ⟨0x7F, false⟩
abbrev wu : Wr := ⟨5, false⟩

theorem test_wf_kdie : (Instr.modBuildCutoff 2).wf = false ∧ (Instr.modBuildCutoff 1).wf = true := by decide +kernel
theorem test_wf_ldie : (Instr.ldiePllUnlock 4).wf = false ∧ (Instr.ldiePllUnlock 3).wf = true := by decide +kernel
theorem test_wf_adie : (Instr.refDiff 2).wf = false ∧ (Instr.refDiff 1).wf = true := by decide +kernel
theorem test_wf_die : (Instr.dieReady 8).wf = false ∧ (Instr.dieReady 7).wf = true := by decide +kernel
theorem test_wf_link : (Instr.flitCrcFail 7).wf = false ∧ (Instr.flitCrcFail 6).wf = true := by decide +kernel
theorem test_wf_master : (Instr.cycNumLoRead 128).wf = false ∧ (Instr.cycNumLoRead 127).wf = true := by decide +kernel
theorem test_wf_core : (Instr.capq 32 ⟨0, 0, 0⟩).wf = false ∧ (Instr.capq 31 ⟨0, 0, 0⟩).wf = true := by decide +kernel
theorem test_wf_corePair : (Instr.coreLockstepDiff 0 8).wf = false ∧ (Instr.coreLockstepDiff 0 7).wf = true := by decide +kernel
theorem test_wf_lane : (Instr.frameStart 64).wf = false ∧ (Instr.frameStart 63).wf = true := by decide +kernel
theorem test_wf_slot : (Instr.cellCmdAssign 0 96).wf = false ∧ (Instr.cellCmdAssign 0 95).wf = true := by decide +kernel
theorem test_wf_cell : (Instr.range 6144).wf = false ∧ (Instr.range 6143).wf = true := by decide +kernel
theorem test_wf_arm : (Instr.refstale 0 6).wf = false ∧ (Instr.refstale 0 5).wf = true := by decide +kernel
theorem test_wf_dma : (Instr.dmaStart wp 0 16).wf = false ∧ (Instr.dmaStart wp 0 15).wf = true := by decide +kernel
theorem test_wf_lawCh : (Instr.clrst wp 0 6).wf = false ∧ (Instr.clrst wp 0 5).wf = true := by decide +kernel
theorem test_wf_sec : (Instr.modelPlausibility 0 0 256).wf = false ∧ (Instr.modelPlausibility 0 0 255).wf = true := by
  decide +kernel
theorem test_wf_input : (Instr.svInputStale 0 128).wf = false ∧ (Instr.svInputStale 0 127).wf = true := by decide +kernel
theorem test_wf_chan : (Instr.chGetRead wp 128).wf = false ∧ (Instr.chGetRead wp 127).wf = true := by decide +kernel
theorem test_wf_task : (Instr.taskDisable wp 0 256).wf = false ∧ (Instr.taskDisable wp 0 255).wf = true := by decide +kernel
theorem test_wf_evt : (Instr.schRaise wp 0 64).wf = false ∧ (Instr.schRaise wp 0 63).wf = true := by decide +kernel
theorem test_wf_load : (Instr.mbxChannelPut 0 8).wf = false ∧ (Instr.mbxChannelPut 0 7).wf = true := by decide +kernel
theorem test_wf_conv : (Instr.adcResult 0 24 0).wf = false ∧ (Instr.adcResult 0 23 0).wf = true := by decide +kernel
theorem test_wf_pair : (Instr.pairMismatch 0 12).wf = false ∧ (Instr.pairMismatch 0 11).wf = true := by decide +kernel
theorem test_wf_ridx : (Instr.adieRamError 0 true 0 (some 48)).wf = false ∧
    (Instr.adieRamError 0 true 0 (some 47)).wf = true := by decide +kernel
theorem test_wf_port : (Instr.ethLinkLoss 4).wf = false ∧ (Instr.ethLinkLoss 3).wf = true := by decide +kernel
theorem test_wf_stream : (Instr.svFrameReceived 16 ⟨0, 0, 0, 0, []⟩).wf = false ∧
    (Instr.svFrameReceived 15 ⟨0, 0, 0, 0, []⟩).wf = true := by decide +kernel
theorem test_wf_trig : (Instr.trigInEdge 4 false).wf = false ∧ (Instr.trigInEdge 3 false).wf = true := by decide +kernel
theorem test_wf_trip : (Instr.tripInput 0 4).wf = false ∧ (Instr.tripInput 0 3).wf = true := by decide +kernel
theorem test_wf_conversion : (Instr.cellConversion 0 3 0 0).wf = false ∧ (Instr.cellConversion 0 2 0 0).wf = true := by
  decide +kernel
theorem test_wf_source : (Instr.fsPendClear wp 512).wf = false ∧ (Instr.fsPendClear wp 511).wf = true := by decide +kernel
theorem test_wf_blk : (Instr.blockResetDone 64).wf = false ∧ (Instr.blockResetDone 63).wf = true := by decide +kernel
theorem test_wf_lan : (Instr.safetyCopyMissing 2).wf = false ∧ (Instr.safetyCopyMissing 1).wf = true := by decide +kernel
theorem test_wf_mirror : (Instr.mirrorLaneDown 2).wf = false ∧ (Instr.mirrorLaneDown 1).wf = true := by decide +kernel
theorem test_wf_rec : (Instr.almanacRamError 2048 true).wf = false ∧ (Instr.almanacRamError 2047 true).wf = true := by
  decide +kernel
theorem test_wf_xspi : (Instr.xsRead wp 2).wf = false ∧ (Instr.xsRead wp 1).wf = true := by decide +kernel
theorem test_wf_regrant : (Instr.cellRegrantTx 0 11).wf = false ∧ (Instr.cellRegrantTx 0 10).wf = true := by decide +kernel
theorem test_wf_addr : (Instr.registerWrite wp (2 ^ 32) 0).wf = false ∧ (Instr.registerWrite wp (2 ^ 32 - 1) 0).wf = true := by
  decide +kernel
theorem test_wf_lowWord : (Instr.tcntLowRead 0 0 0x34).wf = false ∧ (Instr.tcntLowRead 0 0 0x30).wf = true := by decide +kernel
theorem test_wf_issuer : (Instr.absentClr ⟨128, true⟩).wf = false ∧ (Instr.absentClr ⟨127, true⟩).wf = true := by decide +kernel
theorem test_wf_target : (Instr.cycCommit 0 0 (.ctx 4)).wf = false ∧ (Instr.cycCommit 0 0 (.ctx 3)).wf = true ∧
    (Instr.cycCommit 0 0 (.mod 2)).wf = false ∧ (Instr.cycCommit 0 0 (.mod 1)).wf = true := by decide +kernel
theorem test_wf_rxSlot : (Instr.laneReportRx 0 (.report 96) none).wf = false ∧
    (Instr.laneReportRx 0 (.regrant 11) none).wf = false ∧
    (Instr.laneReportRx 0 (.report 95) none).wf = true := by decide +kernel
theorem test_wf_scan : (Instr.rsScanDone 0 (List.replicate 513 0)).wf = false ∧
    (Instr.rsScanDone 0 (List.replicate 512 0)).wf = true := by decide +kernel
theorem test_wf_temps : (Instr.dieTempUpdate (List.replicate 9 0)).wf = false ∧
    (Instr.dieTempUpdate (List.replicate 8 0)).wf = true := by decide +kernel

/-! ## The spec's worked examples -/

/-- What `f` reads of the next state that a command answers. -/
def read {α : Type} (o : Host.Outcome State Fault Refusal) (f : State → α) : Option α :=
  match o with
  | .next t => some (f t)
  | _ => none

/-- The state after reset with the fields of a list written. -/
def having (l : List (Nat × Fld × Nat)) : State := l.foldl (fun s e => s.wr e.1 e.2.1 e.2.2) State.reset

/-- Core 0 after reset, with general registers and accumulators set. -/
def core0 (g : List (Nat × Word)) (acc : List (Nat × Acc72)) : State :=
  State.reset.setCore 0 (acc.foldl (fun c e => c.wa e.1 e.2) (g.foldl (fun c e => c.wg e.1 e.2) Core.reset))

/-- RNDC g1, acc0, sh from an accumulator: g1 and SAT. -/
def rnd (a : Acc72) (sh : BitVec 5) : Option (Word × Bool) :=
  read (exec (.rndc 0 ⟨0, 1, 0, sh⟩) (core0 [] [(0, a)])) (fun t => ((t.core 0).rg 1, (t.core 0).flags.sat))

/-- EXTT g1, acc0. -/
def ext (a : Acc72) : Option Word := read (exec (.extt 0 ⟨0, 1, 0, 0⟩) (core0 [] [(0, a)])) (fun t => (t.core 0).rg 1)

/-- R239's table: exact halves round to even, and a tie may round out of range. -/
theorem test_rndc_ties : rnd 0x00_1234_5678_8000_0000 0 = some (0x12345678, false) ∧
    rnd 0x00_1234_5679_8000_0000 0 = some (0x1234567A, false) ∧ rnd 0x00_1234_5678_8000_0001 0 = some (0x12345679, false) ∧
    rnd 0xFF_EDCB_A987_8000_0000 0 = some (0xEDCBA988, false) := by decide +kernel
theorem test_rndc_saturates : rnd 0x00_0123_4567_8800_0000 4 = some (0x12345678, false) ∧
    rnd 0x00_7FFF_FFFF_8000_0000 0 = some (0x7FFFFFFF, true) ∧ rnd 0x01_0000_0000_0000_0000 0 = some (0x7FFFFFFF, true) := by
  decide +kernel
/-- R239: EXTT of the first four rows. -/
theorem test_extt_floor : ext 0x00_1234_5678_8000_0000 = some 0x12345678 ∧ ext 0x00_1234_5679_8000_0000 = some 0x12345679 ∧
    ext 0x00_1234_5678_8000_0001 = some 0x12345678 ∧ ext 0xFF_EDCB_A987_8000_0000 = some 0xEDCBA987 := by decide +kernel

/-- R237's example: 0.5 times -0.75, and the same shifted right by one. -/
theorem test_mpy_fraction :
    read (exec (.mpy 0 ⟨0, 1, 2, 0⟩ 0) (core0 [(1, 0x40000000), (2, 0xA0000000)] [])) (fun t => (t.core 0).ra 0) =
      some 0xFF_D000_0000_0000_0000 ∧
    read (exec (.mpy 0 ⟨0, 1, 2, 0x1F⟩ 0) (core0 [(1, 0x40000000), (2, 0xA0000000)] [])) (fun t => (t.core 0).ra 0) =
      some 0xFF_E800_0000_0000_0000 := by decide +kernel

/-- R240's examples: EXPN and NORM of 0x1000 and 0xFFFF_F000, and EXPN of an accumulator at 2^64. -/
theorem test_expn_norm :
    read (exec (.expn 0 ⟨3, 1, 0⟩) (core0 [(1, 0x1000)] [])) (fun t => (t.core 0).rg 3) = some 18 ∧
    read (exec (.norm 0 ⟨3, 1, 0⟩) (core0 [(1, 0x1000)] [])) (fun t => (t.core 0).rg 3) = some 0x40000000 ∧
    read (exec (.expn 0 ⟨3, 1, 0⟩) (core0 [(1, 0xFFFFF000)] [])) (fun t => (t.core 0).rg 3) = some 19 ∧
    read (exec (.norm 0 ⟨3, 1, 0⟩) (core0 [(1, 0xFFFFF000)] [])) (fun t => (t.core 0).rg 3) = some 0x80000000 := by
  decide +kernel
theorem test_expn_acc :
    read (exec (.expnAcc 0 ⟨3, 0, 0⟩) (core0 [] [(0, 0x01_0000_0000_0000_0000)])) (fun t => (t.core 0).rg 3) =
      some (BitVec.ofInt 32 (-2)) ∧
    read (exec (.expnAcc 0 ⟨3, 0, 0⟩) (core0 [] [])) (fun t => (t.core 0).rg 3) = some 63 := by decide +kernel

/-- R246, by hand: the greatest positive word plus 1 sets N and V and leaves C 0. -/
theorem test_add_overflow :
    read (exec (.add 0 ⟨3, 1, 2⟩ true) (core0 [(1, 0x7FFFFFFF), (2, 1)] [])) (fun t => ((t.core 0).rg 3, (t.core 0).flags)) =
      some (0x80000000, ⟨false, true, false, true, false⟩) := by decide +kernel
/-- R246, by hand: C of a subtraction is 1 where no borrow occurs. -/
theorem test_sub_borrow :
    read (exec (.sub 0 ⟨1, 1, 2⟩ true) (core0 [(1, 0), (2, 1)] [])) (fun t => ((t.core 0).rg 1, (t.core 0).flags)) =
      some (0xFFFFFFFF, ⟨false, true, false, false, false⟩) := by decide +kernel

/-- The example of chapter 14: FS_CFG of source 0x06D with IRQ on line 3 and BRST reads 0x000B_D107 (R371). -/
theorem test_fsCfg_word :
    (having [(fcB, Fc.FS_CFG.LINE.at 0x6D, 3), (fcB, Fc.FS_CFG.BRST.at 0x6D, 1)]).regWord (fcB + Fc.FS_CFG.IRQ.off + 4 * 0x6D) =
      0x000BD107 := by decide +kernel

/-- The example of chapter 10: the urgent request 0x002B_0003 of converter 20 asks for SEL 3, right-aligned, result 43 (R287). -/
theorem test_urgent_fields :
    read (exec (.urgRequest wp 0 20 0x002B0003) (having [(pwrB, Pwr.DIE_STAT.RDY, 0xFF)])) (fun t =>
      (t.rd (seqB 0 20) Seq.SEQ_STAT.URGPEND, Tab.get (t.ad 0).urg 20 ⟨0, 0, 0, 0⟩)) = some (1, ⟨3, 0, 43, 0⟩) := by decide +kernel

/-- The example of chapter 1: cell 3,557 is lane 37, slot 5, with its context at 0x4211_E500 (R22). -/
theorem test_context_address : ctxB 3557 = 0x4211E500 ∧ ctxB 3557 = ctxB (37 * 96 + 5) := by decide

/-- The example of chapter 10: AIN43 at -0.4512 V, sampled at a boundary whose number ends in 0x09, reads 0x090A_FCFD (R281, R295). -/
theorem test_result_word :
    read (exec (.adcResult 0 20 (-451200)) ((having [(pwrB, Pwr.DIE_STAT.RDY, 0xFF)]).setAd 0
      { AdSt.reset with conv := [⟨20, 3, 0, 43, true, false, true, false, 9⟩] }))
      (fun t => t.regWord (adB 0 + 0x1000 + 4 * 43)) = some 0x090AFCFD := by decide +kernel

/-- The example of chapter 4: DUTY 189 of PER 403 gives an active interval of 149 ticks (R126). -/
theorem test_active_ticks : State.activeTicks ⟨403, 189, 0⟩ = 149 := by decide

/-- The example of chapter 3: RTD 135,564 and an ASYM of 2.4 ns give DDN 67,980 (R88, R89). -/
theorem test_ddn : ((having [(ctxB (47 * 96 + 12), Ctx.CELL_RTD.RTD, 135564), (laneB 47, Lane.ASYM.ASYM, 396)]).setDdn
    (47 * 96 + 12)).rd (ctxB (47 * 96 + 12)) Ctx.CELL_DDN.DDN = 67980 := by decide +kernel

/-! ## Witnesses: states and operands that meet the hypotheses of the statements -/

/-! ### The cores -/

/-- The first instruction of core 0 can run, at the register numbers that bound the range. -/
theorem witness_AluResults : State.reset.ready 0 [31, 1, 0] = true := by decide +kernel
theorem witness_ShiftResults : (core0 [(1, 32), (2, 31)] []).ready 0 [31, 1, 2] = true ∧
    ((core0 [(1, 32), (2, 31)] []).core 0).rg 1 = 32 := by decide +kernel
theorem witness_AbsNegCompare : (core0 [(1, 0x80000000)] []).ready 0 [31, 1, 0] = true ∧
    (core0 [(1, 0x80000000)] []).ready 0 [0, 1, 31] = true := by decide +kernel
theorem witness_ImmediateResults : State.reset.ready 0 [31, 0] = true ∧ (⟨31, 0, 0xFFFF⟩ : OpB).a = 0 ∧
    (⟨31, 1, 127⟩ : OpB).imm.toNat < 128 ∧ State.reset.ready 0 [0, 31] = true := by decide +kernel
theorem witness_PointerMoves : State.reset.ready 0 [31, 0] = true ∧ (⟨7, 31, 0⟩ : OpA).d.toNat < 8 ∧
    (⟨31, 7, 0⟩ : OpA).a.toNat < 8 ∧ State.reset.ready 0 [31] = true := by decide +kernel
theorem witness_AccumulatorResults : State.reset.ready 0 [31, 0] = true ∧ (7 : BitVec 9).toNat < 8 ∧
    (⟨3, 0, 0, 0⟩ : OpE).a = 0 ∧ (⟨3, 0, 3, 0⟩ : OpE).b.toNat < 4 ∧ State.reset.ready 0 [] = true ∧
    State.reset.ready 0 [31] = true := by decide +kernel
theorem witness_ExtractionResults : State.reset.ready 0 [31] = true ∧ (⟨31, 3, 0⟩ : OpA).a.toNat < 4 ∧
    State.reset.ready 0 [31, 0] = true ∧ (⟨3, 31, 0, 15⟩ : OpE).b = 0 := by decide +kernel

/-- Every condition of a branch both holds and fails for some flags. -/
theorem witness_BranchResults : State.reset.ready 0 [1] = true ∧ State.reset.ready 0 [31, 0] = true ∧
    (State.reset.core 0).flags.z = false ∧ (⟨0, 31, 0⟩ : OpA).d = 0 ∧ (⟨0, 31, 0⟩ : OpA).b = 0 := by decide +kernel
theorem witness_SystemTraps : State.reset.canRun 0 = true ∧ (State.reset.core 0).exl = false ∧
    (State.reset.setCore 0 { Core.reset with exl := true }).canRun 0 = true := by decide +kernel

/-- Core 0 in a task, at a trap and at an NMI. -/
def task : State := State.reset.setCore 0 { Core.reset with prv := false, exl := true, nmil := true }
theorem witness_RefusedInstructions : State.reset.canRun 0 = true ∧ (State.reset.core 0).exl = false ∧
    (State.reset.core 0).nmil = false ∧ task.canRun 0 = true ∧ (task.core 0).prv = false ∧ (task.core 0).exl = true ∧
    (task.core 0).nmil = true ∧ (⟨0, 0, 1, 0, 0, 0⟩ : OpC).mode = 0 ∧ (⟨0, 0, 1, 0, 0, 0⟩ : OpC).m ≠ 0 ∧
    (12 : BitVec 10).toNat < 13 ∧ (12 : BitVec 10) ≠ 1 := by decide +kernel
theorem witness_Returns : let s := State.reset.setCore 0 { Core.reset with exl := true, nmil := true }
    s.canRun 0 = true ∧ (s.core 0).prv = true ∧ (s.core 0).exl = true ∧ (s.core 0).nmil = true ∧ (s.core 0).nmi = [] ∧
    (s.setCore 0 { s.core 0 with pc := 0 }).fetchOk 0 0 = true := by decide +kernel
theorem witness_SystemRegisters : State.reset.ready 0 [31] = true ∧ (State.reset.core 0).prv = true ∧
    State.reset.fetchOk 0 4 = true := by decide +kernel
theorem witness_QueriesAndPower : State.reset.ready 0 [31, 30] = true ∧ (State.reset.core 0).prv = true ∧
    State.reset.canRun 0 = true ∧ (1 : BitVec 10).toNat < 2 ∧ ((State.reset.core 0).pc + 4).toNat % 4096 ≠ 0 := by decide +kernel

/-- Core 2, split and released, behind one window over the shared SRAM and the fault collector, with `n` loads outstanding
to g9 and pointer 1 at `p`. -/
def behind (n : Nat) (p : Word) : State :=
  (having [(coreB 2, Cc.CORE_CTL.RST, 0), (winB 2 0, Win.WBASE.BASE, 0x10000), (winB 2 0, Win.WLIMIT.LIMIT, 0x103FF),
    (winB 2 0, Win.WATTR.EN, 1), (winB 2 0, Win.WATTR.RD, 1), (winB 2 0, Win.WATTR.WR, 1), (winB 2 15, Win.WBASE.BASE, 0x20000),
    (winB 2 15, Win.WLIMIT.LIMIT, 0x20000), (winB 2 15, Win.WATTR.EN, 1), (winB 2 15, Win.WATTR.WR, 1)]).setCore 2
    { Core.reset with p := [(1, p)], loads := List.replicate n ⟨.mem, 0x10000000, 4, false, 9, true, none, false, 0⟩ }

/-- An aligned 8-byte load at the last place of a window, with seven places taken (R210, R212). -/
theorem witness_LoadsIssue : let s := behind 7 0x103FFFF8; let o : OpC := ⟨2, 1, 0, 3, 1, 0⟩
    legalC o = true ∧ s.ready 2 [2, 3] = true ∧ (addrC (s.core 2) o).toNat % 8 = 0 ∧ (addrC (s.core 2) o).toNat < 0x20000000 ∧
    State.memKey (s.locate (some 2) (addrC (s.core 2) o).toNat) (addrC (s.core 2) o).toNat = some 0x103FFFF8 ∧
    s.violation (s.accMid 2) (s.core 2).prv (s.locate (some 2) (addrC (s.core 2) o).toNat) (addrC (s.core 2) o).toNat 8 .rd = none ∧
    s.isOrdered (s.accMid 2) (addrC (s.core 2) o).toNat 8 = false ∧ (s.core 2).loads.length < 8 := by decide +kernel
theorem witness_AddressModes : ∀ mode : BitVec 2, (⟨0, 7, 7, 3, mode, 1024⟩ : OpC).mode = mode := by decide
theorem witness_LoadsReturn : ∀ size ∈ [1, 2, 4, 8],
    let s := State.reset.setCore 31 { Core.reset with loads := [⟨.mem, 0, size, true, 30, true, some 0xFF, false, 0⟩] }
    (s.core 31).loads[0]? = some ⟨.mem, 0, size, true, 30, true, some 0xFF, false, 0⟩ := by decide +kernel

/-- A store to the shared SRAM and one to a register word (R210, R211). -/
theorem witness_StoresIssue : let s := behind 0 0x103FFFF8; let o : OpC := ⟨2, 1, 0, 3, 1, 0⟩
    s.memOk = true ∧ legalC o = true ∧ s.ready 2 [2, 3] = true ∧ s.locate (some 2) 0x103FFFF8 = .sram ∧
    s.violation (s.accMid 2) (s.core 2).prv .sram 0x103FFFF8 8 .wr = none ∧ s.isOrdered (s.accMid 2) 0x103FFFF8 8 = false ∧
    s.heldBySys 2 .sram = false ∧ s.storeKeys .sram 0x103FFFF8 = [0x103FFFF8] := by decide +kernel
theorem witness_StoresIssue_register : let s := behind 0 0x20000FFC
    s.locate (some 2) 0x20000FFC = .reg ∧ s.violation (s.accMid 2) (s.core 2).prv .reg 0x20000FFC 4 .wr = none ∧
    s.isOrdered (s.accMid 2) 0x20000FFC 4 = false ∧ State.cycTarget 0x20000FFC = none ∧ s.ready 2 [1, 2] = true ∧
    ((s.core 2).pc + 4).toNat % 4096 ≠ 0 ∧ (s.fab.flight.filter (fun f => f.mid == s.accMid 2)).length < 8 := by decide +kernel

/-- A misaligned address, a register address with another size, and windows that allow no read and no write (R210, R221). -/
theorem witness_BadAccesses : (behind 0 0x10000001).ready 2 [2, 3] = true ∧ legalC ⟨2, 1, 0, 1, 1, 0⟩ = true ∧
    (addrC ((behind 0 0x10000001).core 2) ⟨2, 1, 0, 1, 1, 0⟩).toNat % 2 ≠ 0 ∧
    (addrC ((behind 0 0x5FFFFFF8).core 2) ⟨2, 1, 0, 3, 1, 0⟩).toNat = 0x5FFFFFF8 ∧
    (behind 0 0x20000000).violation 2 true .reg 0x20000000 4 .rd ≠ none ∧
    (behind 0 0x10400000).violation 2 true .sram 0x10400000 4 .wr ≠ none := by decide +kernel

/-- Core 0 stalled in a fence. -/
def fenced (f : Stall) : State := State.reset.setCore 0 { Core.reset with stall := some f }
theorem witness_FencesComplete : State.reset.ready 0 [] = true ∧ State.reset.loadsDone 0 = true ∧
    State.reset.storesDone 0 = true ∧ (behind 1 0).loadsDone 2 = false ∧ State.reset.ready 0 [31] = true ∧
    State.reset.isFrozen 0 = false ∧ State.reset.inRst 0 = false ∧ ((fenced .fenceRW).core 0).stall = some .fenceRW ∧
    (fenced .fenceRW).fenceMet 0 .fenceRW = true ∧ ((fenced (.fenceCyc 31)).core 0).stall = some (.fenceCyc 31) ∧
    (fenced (.fenceCyc 31)).cycLanded 0 = true := by decide +kernel
theorem witness_NmiTaken : State.reset.dieUp 0 = true ∧ State.reset.inRst 0 = false ∧ State.reset.paired 0 = true ∧
    (State.reset.core 0).nmi = [] ∧ State.reset.isFrozen 0 = false ∧ (State.reset.core 0).nmil = false ∧
    (State.reset.core 0).blockedIn = none ∧ State.reset.fetchOk 0 (State.reset.core 0).nvec = true ∧
    (task.core 0).nmil = true ∧ (task.core 0).nmi = [] := by decide +kernel

/-- A DV-K2L4A2 with every die ready, every lane on and the fields of `l` written. -/
def up (l : List (Nat × Fld × Nat)) : State :=
  having ([(pwrB, Pwr.DIE_STAT.RDY, 0xFF), (pwrB, Pwr.DIE_CTL.ON, 0xFF), (pwrB, Pwr.DIE_STAT.LOCK, 0xFF)] ++ l)

/-- The last pair of K-die 1 paired and running. -/
theorem witness_CoreFaultReports : let s := up [(coreB 30, Cc.CORE_STAT.PAIRACT, 1), (coreB 30, Cc.CORE_CTL.RST, 0)]
    s.dieUp 1 = true ∧ s.paired 30 = true ∧ s.inRst 30 = false ∧ s.isFrozen 30 = false ∧ s.inRst (s.lead 31) = false := by
  decide +kernel

/-- Master 2 frozen by `cause` at address 0x1234. -/
def frz (cause : Nat) : State :=
  { having [(coreB 2, Cc.CORE_CTL.RST, 0)] with frozen := [(2, ⟨0x1234, 2, cause, false, false, false, false, 0x40⟩)] }
theorem witness_CoreControl : privileged wu = false ∧ privileged wp = true ∧ State.reset.isFrozen 31 = false ∧
    (frz 2).frozen.find? (fun e => e.1 == 2) = some (2, ⟨0x1234, 2, 2, false, false, false, false, 0x40⟩) ∧
    (frz 5).frozen.find? (fun e => e.1 == 2) = some (2, ⟨0x1234, 2, 5, false, false, false, false, 0x40⟩) ∧
    ((frz 2).core 2).nmi = [] ∧ ((frz 2).core 2).exl = false ∧ (frz 2).hasK 0 = true ∧
    (frz 2).rd (coreB 2) Cc.CORE_CTL.PAIRED = 0 ∧ State.reset.inRst 2 = true ∧ State.reset.dieUp 0 = true ∧
    (up []).inRst 31 = true ∧ (up []).rd (coreB 30) Cc.CORE_CTL.PAIRED = 0 := by decide +kernel

/-- Slot 255 of K-die 0 in state `st`, enabled, held by core 0 at the fields of `l`, and core 0 with its number in g1. -/
def slot255 (st en : Nat) : State :=
  (having [(schB 0, Sch.TASK_STAT.STATE.at 255, st), (schB 0, Sch.TASK_CFG.EN.at 255, en)]).setCore 0 { Core.reset with g := [(1, 255)] }
theorem witness_TasksRun : ∀ st ∈ [0, 1, 2, 3], ∀ en ∈ [0, 1], let s := slot255 st en
    ((s.core 0).pc + 4).toNat % 4096 ≠ 0 ∧ (s.sch 0).blocked = [] ∧ s.ready 0 [1] = true ∧
    ((s.core 0).rg 1).toNat % 256 = 255 ∧ s.rd (schB 0) (Sch.TASK_STAT.STATE.at 255) = st ∧
    s.rd (schB 0) (Sch.TASK_CFG.EN.at 255) = en ∧ s.rd (schB 0) (Sch.TASK_STAT.HOLDER.at 255) = 0 := by decide +kernel
theorem witness_TasksRun_get :
    ((slot255 1 1).setSch 0 ⟨[255], []⟩).pickTask 0 = some 255 ∧ (slot255 0 1).pickTask 0 = none := by decide +kernel
theorem witness_SlotsAndEvents : (slot255 1 1).rd (schB 0) (Sch.TASK_STAT.STATE.at 255) = 1 ∧
    State.reset.bound 0 0xFF = [] ∧
    (having [(schB 0, Sch.TASK_CFG.EVT.at 255, 0xFF), (schB 0, Sch.TASK_CFG.EVV.at 255, 1), (schB 0, Sch.TASK_CFG.EN.at 255, 1)]).bound 0 (0xC0 + 63 % 64) = [255] ∧
    State.reset.dieUp 0 = true ∧ (State.reset.sch 0).blocked = [] ∧
    State.reset.rd (schB 0) (Sch.TASK_STAT.STATE.at 255) = 0 := by decide +kernel

/-- Channel 63 of K-die 1 bound from MID 5 to MID 0x7F, empty or full. -/
def chan63 (full : Nat) : State :=
  up [(mbxB 1, Mbx.CH_BIND.V.at 63, 1), (mbxB 1, Mbx.CH_BIND.TXMID.at 63, 5), (mbxB 1, Mbx.CH_BIND.RXMID.at 63, 0x7F),
    (mbxB 1, Mbx.CH_STAT.FULL.at 63, full)]
theorem witness_MailboxChannels : ∀ full ∈ [0, 1], let s := chan63 full
    s.mayUse 1 63 wu.mid wu.sup true = true ∧ s.mayUse 1 63 wp.mid wp.sup true = false ∧
    s.mayUse 1 63 wp.mid wp.sup false = true ∧ s.mayUse 1 63 wu.mid wu.sup false = false ∧
    s.rd (mbxB 1) (Mbx.CH_STAT.FULL.at 63) = full ∧ s.rd (mbxB 1) (Mbx.CH_BIND.DBEN.at 63) = 0 ∧
    privileged wp = true ∧ s.rd (mbxB 1) Mbx.MBX_CTL.BIND_LOCK = 0 := by decide +kernel
theorem witness_MailboxChannels_issue : (behind 7 0).ready 2 [3, 4, 31] = true ∧ (behind 7 0).hasK 0 = true ∧
    (behind 7 0).dieUp 0 = true ∧ ((behind 7 0).core 2).loads.length < 8 := by decide +kernel
theorem witness_MailboxChannels_arrive :
    let l (k : LoadKind) : Load := ⟨k, 0, 4, false, 9, true, none, false, 0⟩
    let s (k : LoadKind) : State := State.reset.setCore 2 { Core.reset with loads := [l k] }
    ((s (.put 1 63 7 0)).core 2).loads[0]? = some (l (.put 1 63 7 0)) ∧ (l (.put 1 63 7 0)).val = none ∧
    ((s (.get 0 0)).core 2).loads[0]? = some (l (.get 0 0)) ∧ (s (.get 0 0)).rd (mbxB 0) (Mbx.CH_BIND.DBEN.at 0) = 0 := by
  decide +kernel
theorem witness_Doorbells : let s := State.reset
    s.hasK 1 = true ∧ ((s.core 0).pc + 4).toNat % 4096 ≠ 0 ∧ s.ready 0 [1, 2] = true ∧ ((core0 [(1, 32)] []).core 0).rg 1 = 32 ∧
    ((core0 [(1, 31)] []).core 0).rg 1 = 31 ∧ (s.fab.flight.filter (fun f => f.mid == s.accMid 0)).length < 8 ∧
    (s.core (s.lead 1)).blockedIn = none ∧ s.paired 1 = true ∧ s.paired 31 = false ∧
    (having [(mbxB 0, Mbx.DB_PEND.PEND.at 0, 0x80000000)]).dbPend 0 &&& ~~~(s.dbMask 0) ≠ 0 := by decide +kernel

/-! ### Fabric, timer and modulators -/

theorem witness_FabricRows : (up []).linkUp 6 = true ∧ (up []).hasLink 6 = true ∧
    (up []).fab.flit.find? (fun e => e.1 == 6) = none ∧
    ({ up [] with fab := { (up []).fab with flit := [(6, 4, 0)] } } : State).fab.flit.find? (fun e => e.1 == 6) = some (6, 4, 0) ∧
    State.reset.linkUp 0 = false ∧
    ({ up [] with fab := { (up []).fab with flight := [⟨31, true, 0x20000000, 0, 4, false⟩] } } : State).fab.flight.any
      (fun f => f.mid == (up []).accMid 31 && f.addr == 0x20000000) = true ∧
    State.reset.rd capsB Fab.FAB_ERR_INFO.VALID = 0 ∧
    ((behind 1 0).core 2).loads.findIdx? (fun l => l.addr == 0x10000000) = some 0 ∧
    ((behind 1 0).core 2).loads[0]? = some ⟨.mem, 0x10000000, 4, false, 9, true, none, false, 0⟩ := by decide +kernel
theorem witness_FabricRows_staged : (up []).locate none 0x3104FFFC = .reg ∧ State.cycTarget 0x3104FFFC = some (.mod 1) ∧
    (up []).locate none 0x43100000 = .reg ∧ State.cycTarget 0x43100000 = some (.ctx 3) := by decide +kernel

/-- The cycle timer runs, at subframe `i`. -/
def running (i : Nat) : State := up [(pwrB, Cyc.CYC_STAT.RUN, 1), (pwrB, Cyc.CYC_CTL.EN, 1), (pwrB, Cyc.CYC_STAT.SUBIDX, i)]
theorem witness_TimerCommands : (running 6).running = true ∧ (running 6).rd pwrB Cyc.CYC_CTL.EN ≠ 0 ∧ State.reset.running = false ∧
    State.reset.nsubOk 32 = true ∧ State.reset.nsubOk 3 = false ∧ (40 : Nat) ≤ 148 ∧ (running 6).nsub ≤ 32 ∧
    (running 6).subIdx + 1 < (running 6).nsub := by decide +kernel

/-- Cell 6143 mapped on arm 5 of K-die 1, its failures at the limit; arm 5 in RUN with its reference missed too often. -/
def mapped : State :=
  (up [(ctB 1 6143, Ct.CMAP.MAPV, 1), (ctB 1 6143, Ct.CMAP.ARM, 5), (ctB 1 6143, Ct.CEST.PFCNT, 16),
    (armB 1 5, Arm.ARM_STAT.AMODE, 2), (pwrB, Cyc.CYC_STAT.RUN, 1)]).modArm 1 5 (fun x => { x with miss := 255 })
theorem witness_ModulatorRows : mapped.dieUp 1 = true ∧ mapped.exclusionDue 1 6143 = true ∧
    mapped.rd (ctB 1 6143) Ct.CMAP.PFX = 0 ∧ mapped.armOf 1 6143 < 6 ∧ mapped.staleDue 1 5 = true ∧
    mapped.rd (armB 1 5) Arm.ARM_CTL.REFACT = 0 ∧ mapped.mappedOn 1 0 = false := by decide +kernel

/-! ### A-dies and law engines -/

theorem witness_ConverterRows : let s := up [(adB 1, Ad.AD_STAT.REFBAD, 1), (adB 1, Ad.AD_STAT.CALSEL, 23), (adB 1, Ad.AD_STAT.CALPH, 0)]
    let t := s.modAd 1 (fun x => { x with runs := [(11, ⟨255, false⟩)], conv := [⟨23, 0, 0, 0, false, false, false, false, 0⟩] })
    s.adUp 1 = true ∧ s.rd (adB 1) Ad.AD_STAT.REFBAD ≠ 0 ∧ s.rd (adB 1) Ad.AD_STAT.CALSEL < 24 ∧
    s.rd (adB 1) Ad.AD_STAT.CALPH = 0 ∧ (s.ad 1).noMatch = false ∧ Tab.get (t.ad 1).runs 11 ⟨0, false⟩ = ⟨255, false⟩ ∧
    max 1 (t.rd (adB 1) Ad.PAIR_CTL.PLIM) ≤ 255 ∧ (s.ad 1).conv.find? (fun c => c.n == 0) = none ∧
    (up []).rd (adB 1) Ad.AD_STAT.CALSEL = 0x1F := by decide +kernel
/-- A request that is refused, one that is dropped and one that is taken (R287). -/
theorem witness_ConverterRows_urgent : let s := up [(seqB 1 23, Seq.SEQ_STAT.URGPEND, 1)]
    (0x00300000 : Word).toNat / 65536 % 64 = 48 ∧ (7 : Word).toNat % 8 = 7 ∧ (0x002F0000 : Word).toNat / 65536 % 64 ≤ 47 ∧
    s.rd (seqB 1 23) Seq.SEQ_STAT.URGPEND ≠ 0 ∧ (up []).rd (seqB 1 23) Seq.SEQ_STAT.URGPEND = 0 := by decide +kernel
theorem witness_LawRows :
    let s := (up [(lawB 1, Lmap.MAP.SRC.at 127, 2), (lchB 1 5, Lch.CH_STAT.RUNNING, 1)]).modLaw 1
      (fun x => { x with due := [(5, 255)], exp := some (0x10000000, 0, true) })
    s.dieUp 1 = true ∧ s.rd (lawB 1) (Lmap.MAP.SRC.at 127) = 2 ∧
    (s.rd (lawB 1) (Law.IN_STALE.STALE.at 3)).testBit 31 = false ∧ (s.law 1).due.contains (5, 255) = true ∧
    s.rd (lchB 1 5) Lch.CH_STAT.RUNNING ≠ 0 ∧ s.rd (lawB 1) Law.LAW_STAT.FROZEN = 0 ∧
    (s.law 1).exp = some (0x10000000, 0, true) ∧ s.unanswered (State.lawMid 1) = false ∧ s.memOk = true ∧
    (up [(lawB 1, Law.LAW_STAT.FROZEN, 1)]).rd (lawB 1) Law.LAW_STAT.FROZEN ≠ 0 := by decide +kernel

/-! ### DMA channels, acquisition engines, Ethernet and package time -/

/-- Channel 15 of K-die 1 in state `st`. -/
def chan (st : Nat) (x : DmaCh) : State := (up [(dchB 1 15, Dch.CH_STAT.STATE, st)]).modDma 1 15 (fun _ => x)
theorem witness_DmaRows : (up []).dieUp 1 = true ∧ (up []).dRuns 1 15 = false ∧ (up []).rd (dchB 1 15) Dch.CH_CTL.PAUSE = 0 ∧
    (chan 4 DmaCh.reset).dRuns 1 15 = true ∧ (chan 5 { DmaCh.reset with left := 2 }).rd (dchB 1 15) Dch.CH_STAT.STATE = 5 ∧
    ((chan 5 { DmaCh.reset with left := 2 }).dma 1 15).left = 2 ∧ (chan 5 DmaCh.reset).rd (dchB 1 15) Dch.CH_STAT.FRZ = 0 ∧
    ((chan 1 DmaCh.reset).dma 1 15).load = false ∧ (chan 1 DmaCh.reset).rd (dchB 1 15) Dch.CH_STAT.STATE = 1 ∧
    (chan 6 DmaCh.reset).rd (dchB 1 15) Dch.CH_STAT.STATE = 6 ∧
    ((chan 3 { DmaCh.reset with link := some 1 }).dma 1 15).link = some 1 ∧ (1 : Word).getLsbD 0 = true ∧
    ((chan 3 { DmaCh.reset with link := some 0x10000020 }).dma 1 15).link = some 0x10000020 ∧
    (0x10000020 : Word).getLsbD 0 = false ∧ (chan 3 DmaCh.reset).rd (dchB 1 15) Dch.CH_STAT.STATE = 3 ∧
    (chan 3 DmaCh.reset).rd (dchB 1 15) Dch.CH_STAT.RECHECK = 0 ∧ (chan 1 DmaCh.reset).memOk = true := by decide +kernel
theorem witness_AcquisitionRows : let s := up [(acqB 1, Acq.ACQ_STAT.STATE, 1), (acqB 1, Acq.TRIG_CFG.TRIG_EN, 0x200)]
    s.part.q = true ∧ s.dieUp 1 = true ∧ s.rd (acqB 1) Acq.ACQ_STAT.STATE = 1 ∧
    (s.rd (acqB 1) Acq.TRIG_CFG.TRIG_EN).testBit 9 = true ∧ (up []).acqRuns 0 = false ∧ (up []).acqRuns 1 = false ∧
    (up [(acqB 1, Acq.ACQ_STAT.STATE, 2)]).rd (acqB 1) Acq.ACQ_STAT.STATE = 2 ∧ (s.acqs 1).queue = [] ∧ s.memOk = true ∧
    s.locate none 0x60FFFFFF = .cap 1 ∧ s.locate none 0x60000000 = .cap 0 := by decide +kernel
theorem witness_EthernetRows : (running 0).running = true ∧
    (up [(ethB, Eth.VN_CTL.EN, 1), (ethB, Eth.VN_STAT.STATE, 4)]).rd ethB Eth.VN_STAT.STATE = 4 ∧
    (up [(ethB, Eth.VN_CTL.EN, 1), (ethB, Eth.VN_STAT.STATE, 1)]).rd ethB Eth.VN_CTL.EN ≠ 0 ∧
    (up []).rd ethB Eth.VN_CTL.EN = 0 ∧ (up []).rd ethB Eth.SYNC_CTL.SIEN = 0 ∧
    (up [(ethB, Eth.SYNC_CTL.SOEN, 1)]).rd ethB Eth.SYNC_CTL.SOEN ≠ 0 ∧ (up []).rd ethB Eth.SYNC_CTL.SOSEL = 0 ∧
    (up []).rd (portB 3) Port.PORT_CTL.EN = 0 ∧ (up [(portB 3, Port.PORT_STAT.LINK, 1), (portB 3, Port.PORT_CTL.EN, 1)]).rd (portB 3)
      Port.PORT_STAT.LINK ≠ 0 ∧ (up []).rd (portB 3) Port.PORT_STAT.LINK = 0 ∧ (up []).memOk = true ∧
    (up []).rd (svB 15) Sv.SV_CTL.EN = 0 := by decide +kernel

/-! ### Lanes and cell contexts -/

/-- Lane 63 in state `st`, with the fields of `l` written. -/
def lane63 (st : Nat) (l : List (Nat × Fld × Nat)) : State := up ((laneB 63, Lane.LANE_STAT.LSTATE, st) :: l)
theorem witness_LaneStates : ∀ st ∈ [0, 1, 2, 3, 4], let s := lane63 st [(laneB 63, Lane.LANE_CTL.EN, 1)]
    s.laneUp 63 = true ∧ s.lstate 63 = st ∧ (s.lane 63).darkHeld = false ∧ (s.lane 63).darkCyc < 4 ∧
    s.rd (laneB 63) Lane.LANE_CTL.EN ≠ 0 ∧ (s.rd (laneB 63) Lane.LANE_FLT.CAUSE).testBit 0 = false ∧ (s.lane 63).scan = none ∧
    s.hasL 3 = true := by decide +kernel
theorem witness_LaneStates_dark : (lane63 2 []).allEmpty 63 = true ∧
    (lane63 2 [(ctxB 6143, Ctx.CELL_STAT.CSTATE, 1)]).allEmpty 63 = false := by decide +kernel
theorem witness_LaneStates_scan : let s := lane63 3 [(laneB 63, Lane.RS_CTL.SLOT, 95), (ctxB 6143, Ctx.CELL_STAT.CSTATE, 3)]
    s.rd (laneB 63) Lane.RS_CTL.SLOT = 95 ∧ s.cstate (63 * 96 + 95) = 3 ∧ (s.lane 63).scan = none ∧
    ((s.modLane 63 (fun x => { x with scan := some ⟨95, 1, 0, 0⟩ })).lane 63).scan ≠ none := by decide +kernel
theorem witness_ContextRows : ∀ st ∈ [0, 1, 2, 3, 4, 5], let s := lane63 3 [(ctxB 6143, Ctx.CELL_STAT.CSTATE, st)]
    s.laneUp 63 = true ∧ s.cstate (63 * 96 + 95) = st ∧ s.rd (laneB 63) Lane.LANE_STAT.NENABLED < s.upSlots ∧
    (s.ctx 6143).out = none ∧ (lane63 3 [(laneB 63, Lane.LANE_STAT.NENABLED, 96)]).rd (laneB 63) Lane.LANE_STAT.NENABLED = 96 := by
  decide +kernel
/-- An acknowledged command that was sent again twice and whose answer is due (R85); a cell below SEE_ERR for 16 bursts. -/
theorem witness_ContextRows_expiry :
    let s := (lane63 3 [(ctxB 6143, Ctx.CELL_STAT.CSTATE, 3), (pwrB, Cyc.CYC_NUM_LO.NUM_LO, 3)]).modCtx 6143
      (fun x => { x with out := some ⟨0, 0, 0, 2, false, 0⟩, seeBad := 16 })
    (s.ctx 6143).out = some ⟨0, 0, 0, 2, false, 0⟩ ∧ s.cstate 6143 = 3 ∧
    max 3 (s.rd (laneB 63) Lane.LANE_CTL.ACKWAIT) + 0 ≤ (s.cycNum + 2 ^ 48 - 0) % 2 ^ 48 ∧ 16 ≤ (s.ctx 6143).seeBad ∧
    (s.ctx 6143).seeDone = false := by decide +kernel

/-- Slot 95 of lane 63 at the ranging window of cycle 1, with the guesses `g` still to try. -/
def ranging (g : List Nat) : State :=
  let s := lane63 3 [(pwrB, Cyc.CYC_STAT.RUN, 1), (ctxB 6143, Ctx.CELL_STAT.CSTATE, 2)]
  let s := (s.modLane 63 (fun x => { x with maps := [⟨0, [], 2, [], some (95, 260)⟩] })).modCtx 6143
    (fun x => { x with rng := some ⟨g, 260, true, false, false, false, 0⟩ })
  { s with clk := { s.clk with b0 := some (0, 1), pt := 2280 * 65536 } }
theorem witness_BurstRows : (ranging [780]).laneUp 63 = true ∧ (ranging [780]).lstate 63 = 3 ∧
    (ranging [780]).rangingNow 63 = some (95, ⟨[780], 260, true, false, false, false, 0⟩) ∧
    (ranging []).rangingNow 63 = some (95, ⟨[], 260, true, false, false, false, 0⟩) ∧ State.reset.laneUp 63 = false ∧
    (lane63 4 []).lstate 63 = 4 ∧ (lane63 3 []).running = false ∧
    (up [(laneB 63, Lane.LANE_CTL.BAB_ALL, 0)]).rd (laneB 63) Lane.LANE_CTL.BAB_ALL = 0 ∧
    max 1 ((up []).rd (laneB 63) Lane.LANE_CTL.BAB_TH) ≤ 15 ∧
    (((up []).modLane 63 (fun x => { x with occPersist := some 4 })).lane 63).occPersist = some 4 := by decide +kernel
/-- A good ranging burst with a foreign serial number at the last error that still counts (R89). -/
theorem witness_BurstRows_foreign : burstGood (rangingBurst 95 7) = true ∧ (42900 : Int).natAbs ≤ 42900 ∧
    rfield (rangingBurst 95 7) 111 64 ≠ ((ranging []).serialOf (63 * 96 + 95)).toNat := by decide +kernel

/-! ### Cell controllers -/

/-- Cell 6143, linked, with the fields of `l` written and the entry `e` next at its boundary. -/
def celled (e : CmdEntry) (l : List (Fld × Nat)) : State :=
  (l.foldl (fun s f => s.cwr 6143 f.1 f.2) State.reset).setCell 6143 { Cell.reset with power := .linked, waiting := [⟨0, 0, e⟩] }

/-- An acknowledged entry with SEQ 3. -/
def acked (w : Word) : CmdEntry := ⟨w, .acmd, some 3⟩

/-- The word `w` waits at a linked cell that may act on it. -/
def nopLike (w : Word) : Bool :=
  (celled (acked w) []).nextWord 6143 == some (acked w) && !(celled (acked w) []).duplicate 6143 (acked w) &&
    (celled (acked w) []).crd 6143 Cell.BIST_STAT.BUSY == 0
theorem witness_CellCommands : State.reset.nextWord 6143 ≠ some (acked 0) ∧
    (let s := celled (acked 0xE00000A5) [(Cell.LASTSEQ.SEQV, 1), (Cell.LASTSEQ.SEQ, 3)]
     s.nextWord 6143 = some (acked 0xE00000A5) ∧ s.cellLinked 6143 = true ∧ s.duplicate 6143 (acked 0xE00000A5) = true ∧
     cmdOp (acked 0xE00000A5).word = 14) ∧
    nopLike 0 = true ∧ nopLike 0x80000000 = true ∧ nopLike 0x90000000 = true ∧ nopLike 0xC0000000 = true ∧
    nopLike 0xF0000000 = true ∧ cmdOp 0 = 0 ∧ cmdArg 0 = 0 ∧ cmdOp 0xF0000000 = 15 := by decide +kernel
/-- SET_STATE with and without permission, SET_PWM in both directions, FORCE with and without permission. -/
theorem witness_CellCommands_output :
    let s := celled (acked 0) [(Cell.CFG.CFGOK, 1), (Cell.CFG.FORCE_PERM, 1), (Cell.PWM_DT.DT, 64)]
    cmdOp 0x10000003 = 1 ∧ cmdArg 0x10000003 < 4 ∧ s.mayState 6143 3 = true ∧ s.mayState 6143 2 = false ∧ cmdArg 0x10000004 = 4 ∧
    cmdOp 0x20BD0193 = 2 ∧ Place.acmd ≠ .bcast ∧ toSigned (cmdArg 0x20BD0193 / 65536) 10 = 189 ∧
    toSigned (cmdArg 0x23FF0193 / 65536) 10 < 0 ∧ 2 * s.dt 6143 + 64 ≤ cmdArg 0x20BD0193 % 65536 ∧ cmdOp 0x3000001F = 3 ∧
    cmdArg 0x30000011 < 32 ∧ s.crd 6143 Cell.CFG.FORCE_PERM ≠ 0 ∧ s.badLevel 6143 1 = false ∧ s.badLevel 6143 3 = true ∧
    (celled (acked 0) []).crd 6143 Cell.CFG.FORCE_PERM = 0 := by decide +kernel
theorem witness_CellCommands_registers : let s := celled (acked 0) []
    cmdOp 0x4000000F = 4 ∧ cmdArg 0x4000000F < 16 ∧ Place.acmd ≠ .slot ∧
    s.crd 6143 Cell.TRIPSTAT.TIN &&& s.crd 6143 Cell.TRIPCFG.TRIPEN &&& cmdArg 0x4000000F = 0 ∧ cmdOp 0x50FF0000 = 5 ∧
    cmdArg 0x50FF0000 % 65536 = 0 ∧ cmdArg 0x50FF0000 / 65536 = 255 ∧ cmdArg 0x51000000 / 65536 = 256 ∧ cmdOp 0x61000000 = 6 ∧
    2 ^ 24 ≤ cmdArg 0x61000000 ∧ cmdArg 0x60071FFF = 7 * 65536 + 8191 ∧ (acked 0).ack = some 3 := by decide +kernel
theorem witness_CellCommands_modes :
    let s := celled (acked 0) [(Cell.CSTAT.BYPA, 1)]
    cmdOp 0xA1000000 = 10 ∧ cmdArg 0xA1000000 = 2 ^ 24 ∧ s.crd 6143 Cell.CSTAT.STATE = 3 ∧ cmdOp 0xB0000002 = 11 ∧
    cmdArg 0xB0000002 < 3 ∧ cmdOp 0xD00000FF = 13 ∧ 0 < cmdArg 0xD0000001 ∧ cmdArg 0xD00000FF < 256 ∧ cmdOp 0xE0000001 = 14 ∧
    0 < cmdArg 0xE0000001 ∧ s.crd 6143 Cell.CSTAT.BYPA ≠ 0 ∧ (s.cell 6143).key ≠ cmdArg 0xE0000001 ∧
    ((s.modCell 6143 (fun x => { x with key := 1 })).cell 6143).key = cmdArg 0xE0000001 ∧ s.cellUp 6143 = true := by decide +kernel

/-- A CRC of 32 bits fits its word. -/
theorem crcNat_lt (v : Nat) : ∀ n c, c < 2 ^ 32 → crcNat 32 0x1EDC6F41 v n c < 2 ^ 32
  | 0, _, h => h
  | n + 1, c, _ => crcNat_lt v n _ (by
      unfold crcBit
      split
      · exact Nat.xor_lt_two_pow (Nat.mod_lt _ (by decide)) (by decide)
      · exact Nat.mod_lt _ (by decide))

/-- A block that `Block.make` builds has a good CRC. -/
theorem make_good (t i n : Nat) (d : Nat → Nat) : (Block.make t i n d).good = true := by
  have h : ∀ x : Nat, crc32 x 288 < 2 ^ 32 := fun x => crcNat_lt x 288 _ (by decide)
  simp only [Block.good, Block.make, Block.body, BitVec.toNat_ofNat, beq_iff_eq]
  exact Nat.mod_eq_of_lt (h _)

theorem witness_CellBlocks : let s := celled (acked 0) []
    State.reset.cellLinked 6143 = false ∧ s.cellLinked 6143 = true ∧ s.blockOk 6143 (Block.make 0x10 0 1 (fun _ => 0)) = false ∧
    s.blockOk 6143 { Block.make 0x10 0 0 (fun _ => 0) with crc := 0 } = false ∧ s.cellUp 6143 = true ∧
    (Block.make 1 0 0 (fun _ => 0x01800000)).good = true ∧ (Block.make 1 0 0 (fun _ => 0x01800000)).btype.toNat = 1 ∧
    ((Block.make 1 0 0 (fun _ => 0x01800000)).wd 0).testBit 23 = true ∧
    ((Block.make 1 0 0 (fun _ => 0x01800000)).wd 0).testBit 24 = true ∧
    s.blockOk 6143 (Block.make 2 0 0 (fun _ => 0)) = true ∧ (Block.make 2 0 0 (fun _ => 0)).btype.toNat = 2 := by decide +kernel
/-- A slot word that comes 19 ns before its boundary is late, with APPLY 0 (R49). -/
theorem witness_CellBlocks_late : let s := celled (acked 0) [(Cell.SLOT_R.SLOTV, 1), (Cell.SLOT_R.SLOT, 95)]
    let b := Block.make 0x10 11 0 (fun _ => 0)
    s.blockOk 6143 b = true ∧ b.btype.toNat = 0x10 ∧ s.ownSlot 6143 = some 95 ∧ 95 / 8 = b.bidx.toNat ∧
    (19 : Int) + 1250 * (cmdApply (b.word (95 % 8)) : Int) < 20 := by decide +kernel

/-- A MAINT block with operation `op` for slot 95 and the serial number of cell 6143. -/
def maint (op : Nat) : Block :=
  Block.make 5 0 0 (fun i => if i = 0 then op * 2 ^ 28 + 95 * 2 ^ 16 + (Config.cellSerial 6143).toNat / 2 ^ 32
    else if i = 1 then (Config.cellSerial 6143).toNat % 2 ^ 32 else 0)
/-- Cell 6143 with slot 95. -/
def owner : State := celled (acked 0) [(Cell.SLOT_R.SLOTV, 1), (Cell.SLOT_R.SLOT, 95)]
theorem maint_taken (op : Nat) (ho : op < 16) : owner.maintFor 6143 op (maint op) = true := by
  have hs : (Config.cellSerial 6143).toNat < 2 ^ 48 := (Config.cellSerial 6143).isLt
  have hl : owner.cellLinked 6143 = true := by decide +kernel
  have hz : (owner.cell 6143).sub = 0 := by decide +kernel
  have hg := make_good 5 0 0 (fun i => if i = 0 then op * 2 ^ 28 + 95 * 2 ^ 16 + (Config.cellSerial 6143).toNat / 2 ^ 32
    else if i = 1 then (Config.cellSerial 6143).toNat % 2 ^ 32 else 0)
  simp only [State.maintFor, State.blockOk, hl, hz, hg, maint]
  generalize (Config.cellSerial 6143) = x at *
  simp [Block.make, Block.mop, Block.serial, Block.wd, Block.word, bits]
  omega
theorem witness_CellBlocks_maint : owner.maintFor 6143 1 (maint 1) = true ∧ owner.maintFor 6143 2 (maint 2) = true ∧
    owner.maintFor 6143 3 (maint 3) = true ∧ owner.maintFor 6143 4 (maint 4) = true :=
  ⟨maint_taken 1 (by decide), maint_taken 2 (by decide), maint_taken 3 (by decide), maint_taken 4 (by decide)⟩
theorem witness_CellBlocks_own : owner.ownSlot 6143 = some 95 ∧ (maint 4).mslot = 95 := by
  refine ⟨by decide +kernel, ?_⟩
  have hs : (Config.cellSerial 6143).toNat < 2 ^ 48 := (Config.cellSerial 6143).isLt
  generalize (Config.cellSerial 6143) = x at *
  simp [maint, Block.make, Block.mslot, Block.wd, Block.word, bits]
  omega

theorem witness_CellReports :
    let s := celled (acked 0) [(Cell.SLOT_R.SLOTV, 1), (Cell.SLOT_R.SLOT, 95), (Cell.CSTAT.OCC, 0)]
    let m : GrantMap := ⟨0, [], 2, [], some (95, 260)⟩
    let t := s.modCell 6143 (fun x => { x with cyc := 1, maps := [(m, true)] })
    (celled (acked 0) [(Cell.CSTAT.OCC, 1)]).crd 6143 Cell.CSTAT.OCC ≠ 0 ∧ t.mayTx 6143 = true ∧
    t.cellMap 6143 (t.cell 6143).cyc = some (m, true) ∧ m.mode = 2 ∧ m.rng = some (95, 260) ∧ t.crd 6143 Cell.SLOT_R.SLOT = 95 ∧
    t.cellUp 6143 = true ∧ (celled (acked 0) [(Cell.CAL_STAT.CALSEL, 1)]).crd 6143 Cell.CAL_STAT.CALSEL = 1 ∧
    ((s.modCell 6143 (fun x => { x with carrier := some ⟨403, 189, 0⟩ })).cell 6143).carrier = some ⟨403, 189, 0⟩ ∧
    (s.cell 6143).carrier = none := by decide +kernel

/-- Cell 6143 in power state `p`. -/
def powered (p : CellPower) (l : List (Fld × Nat)) : State := (celled (acked 0) l).modCell 6143 (fun x => { x with power := p })
theorem witness_CellFaults : let s := celled (acked 0) [(Cell.CFG.GSUP_LOCK, 1), (Cell.BIST_STAT.BUSY, 1)]
    s.cellLinked 6143 = true ∧ s.cellUp 6143 = true ∧ s.crd 6143 Cell.CFG.GSUP_LOCK ≠ 0 ∧ (s.cell 6143).blk.gsup = false ∧
    (s.crd 6143 Cell.TRIPCFG.TRIPEN).testBit 3 = true ∧ (s.crd 6143 Cell.TRIPSTAT.TLATCH).testBit 3 = false ∧
    s.crd 6143 Cell.BIST_STAT.BUSY ≠ 0 ∧ ((powered .off []).cell 6143).power = .off ∧ ((powered .newt []).cell 6143).power = .newt ∧
    (powered .newt [(Cell.CSTAT.AWREQ, 1)]).crd 6143 Cell.CSTAT.AWREQ ≠ 0 ∧
    (((powered .newt []).modCell 6143 (fun x => { x with vauxOn := true })).cell 6143).vauxOn = true ∧
    ((powered .starting []).cell 6143).power = .starting := by decide +kernel

/-! ### Fault collector and safety unit -/

theorem witness_CollectorRows : (up []).canFire 0x00F = false ∧ ¬ 63 ∈ (up []).fc.resetting ∧
    (up [(fcB, Fc.FC_STAT.FLATCH, 1)]).flatch = true ∧ (up []).flatch = false ∧ (up []).astopPend = false ∧
    (up []).rd fcB Fc.FC_STAT.ALIVE_RUN = 0 ∧ (up []).rd fcB Fc.FC_CTL.WDEN = 0 ∧
    ((up []).modFc (fun c => { c with wd5a := true, wdRun := true })).fc.wd5a = true ∧ (0xA5 : Word).toNat % 256 = 0xA5 ∧
    (0x5A : Word).toNat % 256 = 0x5A ∧ (up []).fc.inj = none ∧ (up [(fcB, Fc.FS_STAT.PEND.at 0, 1)]).pendOn 0 = true := by
  decide +kernel
/-- An injection that is refused for its source, and one that is armed: source 0x06D takes KIND 1 (R366). -/
theorem witness_CollectorRows_injection : (0x1180 : Word).toNat.testBit 12 = true ∧ srcInfo 0x180 = some (.u, none) ∧
    (0x126D : Word).toNat.testBit 12 = true ∧ (0x126D : Word).toNat % 512 = 0x06D ∧
    srcInfo 0x06D = some (.u, some (bits (0x126D : Word).toNat 10 9)) ∧ (up []).srcUp 0x06D = true := by decide +kernel
/-- Source 0x06C of class C and source 0x002 of class F, with no reaction. -/
theorem witness_CollectorRows_firing : let s := up [(fcB, Fc.FS_CFG.IRQ.at 0x06C, 0), (fcB, Fc.FS_CFG.IRQ.at 0x002, 0)]
    ((srcInfo 0x06C).isSome = true ∧ s.canFire 0x06C = true) ∧ ((srcInfo 0x002).map (fun e => e.1) = some .f ∧ s.canFire 0x002 = true) ∧
    s.fc.conseq = [] ∧ s.fc.escal = [] ∧ s.pendOn 0x06C = false ∧ s.flatch = false ∧
    (∀ n ∈ [0x06C, 0x002], ∀ f ∈ [Fc.FS_CFG.IRQ, Fc.FS_CFG.NMI, Fc.FS_CFG.BRST, Fc.FS_CFG.CRST, Fc.FS_CFG.ASTOP],
      s.fsOn n f = false) := by decide +kernel

/-- The safety unit armed, with SPR released and the fields of `l` written. -/
def safe (l : List (Nat × Fld × Nat)) : State :=
  up ([(safB, Saf.SAFE_STAT.SPR, 0), (safB, Saf.SAFE_STAT.ARMED, 1), (safB, Saf.SAFE_CTL.ARM, 1)] ++ l)
theorem witness_SafetyRows : privileged wu = false ∧ privileged wp = true ∧ (safe []).sprOn = false ∧ State.reset.sprOn = true ∧
    (safe []).rd safB Saf.SAFE_STAT.SRS = 0 ∧ State.reset.relCause false ≠ 0 ∧
    (safe [(safB, Saf.SAFE_STAT.SPR, 1)]).relCause false = 0 ∧ (safe [(safB, Saf.SAFE_STAT.SPR, 1)]).sprOn = true ∧
    State.reset.rd safB Saf.SAFE_CTL.ARM = 0 ∧ State.reset.rd safB Saf.SAFE_CTL.SFEN = 0 ∧
    (up [(safB, Saf.SAFE_CTL.SFEN, 1)]).rd safB Saf.SAFE_CTL.SFEN ≠ 0 ∧ (up []).rd safB Saf.SF_CONN.CONN = 0 := by decide +kernel
theorem witness_SafetyRows_ramp : let s := (safe [(safB, Saf.SAFE_STAT.SRS, 1)])
    s.rd safB Saf.SAFE_STAT.SRS ≠ 0 ∧ (s.modSaf (fun x => { x with violDue := some (15, 7) })).saf.violDue = some (15, 7) ∧
    (s.modSaf (fun x => { x with rampDue := true })).saf.rampDue = true ∧ s.saf.violDue = none ∧ s.saf.rampDue = false ∧
    (s.modSaf (fun x => { x with timeDue := true })).saf.timeDue = true ∧ s.saf.timeDue = false ∧
    s.rd safB Saf.SAFE_STAT.DISC = 0 ∧ (s.modSaf (fun x => { x with stopDue := true, brkDue := true })).saf.stopDue = true := by
  decide +kernel
theorem witness_SafetyRows_network : let s := safe [(safB, Saf.SAFE_CTL.SFEN, 1), (safB, Saf.SAFE_STAT.NET, 1)]
    s.framesOn = true ∧ State.reset.framesOn = false ∧ s.netState = 1 ∧ s.saf.degTold = false ∧ s.sprOn = false := by decide +kernel

/-! ### Redundant pair, Almanac and revenue meter -/

/-- The pair logic in state `p`, with the fields of `l` written. -/
def paired (p : Nat) (l : List (Nat × Fld × Nat)) : State := up ((pairB, Pair.PAIR_STAT.PSTATE, p) :: l)
theorem witness_PairRows : (∀ p ∈ [0, 1, 2, 3, 4], (paired p []).pstate = p) ∧
    (paired 1 [(fcB, Fc.FC_STAT.FLATCH, 1)]).mayLeave = false ∧ (paired 2 [(pwrB, Cyc.CYC_STAT.RUN, 1)]).mayLeave = true ∧
    (paired 1 [(pairB, Pair.PAIR_STAT.ACTIN, 1)]).rd pairB Pair.PAIR_STAT.ACTIN ≠ 0 ∧
    ((paired 1 [(pairB, Pair.PAIR_STAT.MIRUP, 2)]).rd pairB Pair.PAIR_STAT.MIRUP).testBit 1 = true ∧ (paired 1 []).running = false ∧
    (running 0).running = true ∧ (paired 4 []).pair.status = none ∧
    ((paired 1 []).modPair (fun x => { x with drill := true })).pair.drill = true ∧ (paired 1 []).pair.drill = false := by
  decide +kernel
/-- A standby that is fit, and records that are good and bad. -/
theorem witness_PairRows_records :
    let s := paired 1 [(pairB, Pair.PAIR_CTL.TBEN, 1), (pairB, Pair.PAIR_STAT.PREF, 1), (pwrB, Cyc.CYC_STAT.RUN, 1),
      (pairB, Pair.PAIR_STAT.EPV, 1), (pairB, Pair.PAIR_STAT.SHDW_OK, 1), (pairB, Pair.PAIR_STAT.MIRUP, 1),
      (safB, Saf.SAFE_STAT.ARMED, 1), (safB, Saf.SAFE_STAT.SPR, 0), (pairB, Pair.PAIR_EPOCH.AGE, 0)]
    let e : EpochRec := ⟨false, 0, 0, 0, 8, 120, false, 0, 0, 0, 0, 0, [], [], [], [], [], []⟩
    s.rd pairB Pair.PAIR_CTL.TBEN ≠ 0 ∧ s.rd pairB Pair.PAIR_STAT.PREF ≠ 0 ∧ e.good = false ∧
    ((paired 1 []).modPair (fun x => { x with epoch := some e })).pair.epoch = some e := by decide +kernel
theorem witness_PairRows_crc (r : PassRec) : ({ r with crc := State.passCrc r + 1 } : PassRec).crc ≠
    State.passCrc { r with crc := State.passCrc r + 1 } := by
  have h : State.passCrc { r with crc := State.passCrc r + 1 } = State.passCrc r := by
    simp only [State.passCrc, State.passNumber]
  rw [h]
  exact fun k => absurd (congrArg (· - State.passCrc r) k) (by simp)
theorem witness_PairRows_fit :
    let s := paired 1 [(pwrB, Cyc.CYC_STAT.RUN, 1), (pairB, Pair.PAIR_STAT.EPV, 1), (pairB, Pair.PAIR_STAT.SHDW_OK, 1),
      (pairB, Pair.PAIR_STAT.MIRUP, 1), (safB, Saf.SAFE_STAT.ARMED, 1), (safB, Saf.SAFE_STAT.SPR, 0), (pairB, Pair.PAIR_EPOCH.AGE, 0),
      (pairB, Pair.PAIR_STAT.CYCMIS, 0), (pairB, Pair.PAIR_STAT.CFGMIS, 0)]
    s.stbyOk = true := by decide +kernel

theorem witness_AlmanacRows : let o : AlmObs := ⟨2047, 0, 0, 0, 0⟩
    let s := (up []).modAlm (fun a => { a with obs := [o], merging := true, recs := [(2047, { AlmRec.reset with changed := true })] })
    (up []).alm.obs = [] ∧ s.alm.obs = [o] ∧ (up []).alm.merging = false ∧ s.alm.merging = true ∧ s.alm.again = false ∧
    ((up []).modAlm (fun a => { a with frozen := true })).alm.frozen = true ∧ (up []).rd almB Alm.ALM_CTL.EN = 0 ∧
    (up [(almB, Alm.ALM_CTL.EN, 1)]).rd almB Alm.ALM_CTL.EN ≠ 0 ∧ (up []).rd almB Alm.ALM_STAT.RSTBUSY = 0 ∧
    (up [(almB, Alm.ALM_STAT.RSTBUSY, 1)]).rd almB Alm.ALM_STAT.RSTBUSY ≠ 0 ∧ s.almChanged ≠ [] ∧
    s.rd almB Alm.ALM_STAT.BGBUSY = 0 ∧ (up [(almB, Alm.ALM_STAT.FFBUSY, 1)]).rd almB Alm.ALM_STAT.FFBUSY ≠ 0 ∧
    (up []).alm.flush = [] ∧ (up []).alm.early = [] ∧ (up []).alm.pass = [] ∧ (up []).memOk = true := by decide +kernel
theorem witness_MeterRows : let j : SigJob := ⟨1, []⟩
    let s := up [(mtrB, Mtr.MTR_STAT.RUN, 1), (mtrB, Mtr.MTR_STAT.COUNTING, 1)]
    s.mtrRuns = true ∧ (up []).mtrRuns = false ∧ (up []).part.m = true ∧ s.rd mtrB Mtr.MTR_STAT.COUNTING ≠ 0 ∧
    (up []).rd mtrB Mtr.MTR_STAT.COUNTING = 0 ∧ (up []).sec.queue = [] ∧
    ({ up [] with sec := { (up []).sec with queue := [j] } } : State).sec.queue = j :: [] ∧
    ((up []).modMtr (fun x => { x with stopped := true })).mtr.stopped = true ∧ (up []).mtr.stopped = false ∧
    (up []).dieUp (6 + (up []).rd mtrB Mtr.MTR_SRC.MAID) = true ∧
    (∀ i, i < 2 → (up []).rd (seqB ((up []).rd mtrB Mtr.MTR_SRC.MAID) (2 * (up []).rd mtrB Mtr.MTR_SRC.MPAIR + i)) Seq.SEQ_CTL.EN = 0) ∧
    (up []).pairCounts = true ∧ (up []).rd mtrB Mtr.MTR_STAT.RSTBUSY = 0 ∧ (up []).memOk = true := by decide +kernel

/-! ### Power, reset and self-test; security; the bus -/

/-- The package held in reset by PORST_N. -/
def heldReset : State := { up [] with pwr := { (up []).pwr with held := true, porst := true } }
theorem witness_PowerRows : heldReset.pwr.held = true ∧ heldReset.pwr.porst = true ∧ heldReset.pwr.aoOff = false ∧
    ({ heldReset with pwr := { heldReset.pwr with aoOff := true } } : State).pwr.aoOff = true ∧ privileged wp = true ∧
    (up []).rd pwrB Pwr.PWR_STAT.PFACT = 0 ∧ (up []).pwr.held = false ∧ State.reset.rom = true ∧ State.reset.sec.ran = false ∧
    (up [(pwrB, Pwr.AO_CTL.BOOTBIST, 1)]).rd pwrB Pwr.AO_CTL.BOOTBIST ≠ 0 ∧ (up []).rd pwrB Pwr.PWR_STAT.PFSEEN = 0 ∧
    (up [(pwrB, Pwr.PWR_STAT.PFSEEN, 1)]).rd pwrB Pwr.PWR_STAT.PFSEEN ≠ 0 ∧ (up []).adUp 1 = true ∧ (up []).flatch = false ∧
    (up []).dieUp 0 = true ∧ (4 : Int) * ((up []).rd pwrB Pwr.TEMP_CTL.TWARN : Int) < 461 ∧ 0 ∉ (up []).pwr.warm := by
  decide +kernel
theorem witness_PowerRows_dies :
    (State.reset.hasDie 7 = true ∧ State.reset.dieOf Pwr.DIE_CTL.ON 7 = false) ∧
    ((up []).dieOf Pwr.DIE_CTL.ON 5 = true ∧ (up []).quiescent 5 = true ∧ (up []).dieOf Pwr.DIE_STAT.BUSY 5 = false) ∧
    ((up [(laneB 63, Lane.LANE_STAT.LSTATE, 3)]).quiescent 5 = false) ∧
    (let s := up [(pwrB, Pwr.DIE_STAT.BUSY, 0x80)]
     s.dieOf Pwr.DIE_STAT.BUSY 7 = true ∧ s.dieOf Pwr.DIE_CTL.ON 7 = true ∧ s.rd bistB Bist.BIST_STAT.BUSY = 0) ∧
    (up []).rd bistB Bist.BIST_CTL.DIE = 0 ∧ (up [(bistB, Bist.BIST_STAT.BUSY, 1)]).rd bistB Bist.BIST_STAT.BUSY ≠ 0 ∧
    (up [(fcB, Fc.FC_STAT.FLATCH, 1)]).flatch = true := by decide +kernel
theorem witness_ChipReset : (up []).pwr.aoOff = false ∧ privileged wp = true ∧ (up []).rd pwrB Pwr.PWR_STAT.PFACT = 0 ∧
    (∀ e ∈ State.keptRegs, Lane.LANE_CTL.EN.key (laneB 63) ≠ e.2.key e.1) ∧
    Lane.LANE_CTL.EN.key (laneB 63) ≠ Fc.FC_STAT.SPRREQ.key fcB := by decide +kernel
theorem witness_XspiRows : let s := up [(pwrB, Pwr.XS_LEN.LEN.at 1, 2048)]
    (up []).xsBad 0 0 0 0 = true ∧ s.xsBad 1 0 (s.rd pwrB (Pwr.XS_ADDR.ADDR.at 1)) (s.rd pwrB (Pwr.XS_LEN.LEN.at 1)) = false ∧
    (up [(pwrB, Pwr.PWR_STAT.PFSEEN, 1)]).rd pwrB Pwr.PWR_STAT.PFSEEN ≠ 0 ∧ (up []).pwr.xs.find? (fun e => e.1 == 1) = none ∧
    ({ up [] with pwr := { (up []).pwr with xs := [(1, ⟨0, 0, 4⟩)] } } : State).pwr.xs.find? (fun e => e.1 == 1) =
      some (1, ⟨0, 0, 4⟩) ∧ privileged wu = false ∧ (up []).memOk = true := by decide +kernel
theorem witness_SecurityRows : let s := up [(secB, Secu.SEC_OTP.PROG, 15), (secB, Secu.SEC_ARG.ARG, 3)]
    privileged wu = false ∧ privileged wp = true ∧ s.rd secB Secu.SEC_SVN.FLOOR < s.rd secB Secu.SEC_ARG.ARG ∧
    (s.rd secB Secu.SEC_OTP.PROG).testBit 0 = true ∧ (setBit (s.rd secB Secu.SEC_OTP.REVOKED) 3).testBit 0 = false ∧
    s.rd secB Secu.SEC_STAT.BOOTSLOT = 0 ∧ s.sec.queue.length < 4 ∧ ({ s with rom := false } : State).rom = false ∧
    (State.reset.pwr.held = false ∧ State.reset.rom = true ∧ State.reset.sec.ran = false ∧
      State.reset.rd pwrB Pwr.PWR_STAT.PFACT = 0 ∧ State.reset.rd pwrB Pwr.AO_CTL.BOOTBIST = 0) ∧
    (having [(fcB, Fc.FC_STAT.FLATCH, 1)]).flatch = true ∧ heldReset.pwr.held = true := by decide +kernel

/-- A part without K-die 1, and one whose K-die 1 is off. -/
theorem witness_BusRows : ({ up [] with part := ⟨1, 1, 0, false, false⟩ } : State).locate none 0x31000000 = .absent ∧
    State.reset.locate none 0x31000000 = .off ∧ State.reset.rd pwrB Pwr.OFF_INFO.VALID = 0 ∧ State.reset.memOk = true ∧
    ({ up [] with pwr := { (up []).pwr with perst := true } } : State).pwr.perst = true ∧ State.reset.pwr.perst = false ∧
    ({ up [] with frozen := [(0x70, ⟨0, 0x70, 0, false, false, false, false, 0⟩)] } : State).isFrozen 0x70 = true ∧
    ((up []).law 1).exp = none := by decide +kernel

/-! ### The whole block -/

theorem witness_StepRunsFront : ({ State.reset with pending := [.xtalStop, .railFault] } : State).pending = [.xtalStop, .railFault] := rfl
theorem witness_StepIdle : State.reset.pending = [] := rfl
theorem witness_MemoryStaysCanonical : ({ State.reset with mem := [(0x10000000, 1), (0x10000001, 2)] } : State).memOk = true := by
  decide +kernel
theorem witness_PrivilegeRule : privileged wu = false ∧ privileged ⟨31, true⟩ = true ∧ privileged ⟨32, true⟩ = false ∧
    (up []).hasK 1 = true := by decide +kernel

/-- Two commands wait: the step runs the first and leaves the second. -/
theorem test_step_front : read (step { State.reset with pending := [.peerAliveEdge, .railFault] })
    (fun t => (t.rd pairB Pair.PAIR_STAT.PALIVE, decide (t.pending = [.railFault]))) = some (1, true) := by decide +kernel
/-- No row of the table has bits, so no word spells a command. -/
theorem test_decode_none : decodeTableWord 32 0xFC200000 = none := rfl

end Sys2Proof.Tests
end

section
/-!
The scope of the block: every command completes and leaves the queue and the part alone, the queries and the power hint of a
core, what a chip reset keeps and restores, and the values after reset.
-/
namespace Sys2Proof.Scope

open Sys2Proof Sys2Proof.Machine Sys2Proof.Machine.State

/-! ## Every command completes (R1, R5) -/

/-- The memory-writing commands and all the others, together: the queue and the part stay, the memories stay canonical. -/
theorem exec_fols (i : Instr) (s : State) : Fols s.keep (exec i s) := by
  cases hw : Laws.writes i with
  | true => exact Laws.execFols i s hw
  | false =>
    intro t ht
    exact fol_of_keep _ s t (Laws.execKeeps i s hw t ht) (fol_refl _)

/-- Settles O56: every command answers a next state, and whatever it writes follows the queue and the part it began with. -/
theorem everyCommandCompletes : Obligations.EveryCommandCompletes := by
  unfold Obligations.EveryCommandCompletes
  intro i s
  obtain ⟨t, ht⟩ := Laws.complete i s
  obtain ⟨hfixed, -⟩ := fol_fixed s t (exec_fols i s t ht)
  exact ⟨t, ht, hfixed⟩

/-! ## FREEZE.Q, CAPQ and PWR.HINT (R4, R228, R229) -/

/-- The word of FREEZE.Q (R229): bit 0 says frozen; a record of the master adds its cause from bit 8 up and bit 12. -/
theorem freezeWord_eq (s : State) (mid : Nat) :
    freezeWord s mid = BitVec.ofNat 32 ((if s.isFrozen mid then 1 else 0) +
      (match s.fz.find? (fun r => r.mid == mid) with | some r => 256 * r.cause + 4096 | none => 0)) := by
  have hbit : (s.isFrozen mid).toNat = if s.isFrozen mid then 1 else 0 := by cases s.isFrozen mid <;> rfl
  unfold freezeWord
  rw [hbit]
  cases s.fz.find? (fun r => r.mid == mid) with
  | none => rfl
  | some r => exact congrArg (BitVec.ofNat 32) (Nat.add_assoc _ _ _)

theorem freezeQ_ran (s : State) (m : Nat) (r1 r2 : BitVec 5) (h : s.ready m [r1.toNat, r2.toNat] = true)
    (hp : (s.core m).prv = true) :
    gives (exec (.freezeQ m ⟨r1, r2, 0⟩) s)
      (s.ran m ((s.core m).wg r1.toNat (freezeWord s (((s.core m).rg r2.toNat).toNat % 256)))) := by
  have h1 := ready_awaits h (i := r1.toNat) (by simp)
  have h2 := ready_awaits h (i := r2.toNat) (by simp)
  refine ⟨_, rfl, ?_⟩
  dsimp only
  simp only [ready_run h, hp, h1, h2, beq_self_eq_true, Bool.not_true, Bool.or_self, Bool.false_eq_true, if_false]
  exact goOn_ran s m _

theorem capq_ran (s : State) (m : Nat) (r1 : BitVec 5) (sel : BitVec 10) (h : s.ready m [r1.toNat] = true) :
    gives (exec (.capq m ⟨r1, 0, sel⟩) s) (s.ran m ((s.core m).wg r1.toNat (s.capsWord sel.toNat))) := by
  refine ⟨_, rfl, ?_⟩
  dsimp only
  simp only [ready_run h, ready_awaits h (List.mem_singleton.2 rfl), beq_self_eq_true, Bool.not_true, Bool.false_eq_true,
    if_false]
  exact goOn_ran s m _

/-- A legal PWR.HINT completes; only PARK leaves the fetch of the next instruction unchecked. -/
theorem execPwrHint_legal (s : State) (m : Nat) (mode : BitVec 10) (hr : s.canRun m = true)
    (hm : mode.toNat < 2 ∨ (mode = 2 ∧ (s.core m).prv = true)) :
    execPwrHint m ⟨0, 0, mode⟩ s = .next
      ((if mode.toNat = 2 then s.setCore m { s.core m with pwr := mode.toNat }.done
        else s.goOn m { s.core m with pwr := mode.toNat }.done).syncCore m) := by
  unfold execPwrHint
  rcases hm with hm | ⟨rfl, hp⟩
  · have h2 : mode.toNat ≠ 2 := by omega
    have h3 : ¬ 3 ≤ mode.toNat := by omega
    simp [hr, h2, h3]
  · simp [hr, hp]

theorem pwrHint_core (s : State) (m : Nat) (mode : BitVec 10) (hr : s.canRun m = true)
    (hm : mode.toNat < 2 ∨ (mode = 2 ∧ (s.core m).prv = true)) :
    gives (exec (.pwrHint m ⟨0, 0, mode⟩) s) (fun t =>
      (t.core m).data = (s.core m).data ∧
      ((((s.core m).pc + 4).toNat % 4096 ≠ 0 ∨ mode = 2) → t.core m = { s.core m with pwr := mode.toNat }.done)) := by
  refine ⟨_, execPwrHint_legal s m mode hr hm, ?_⟩
  beta_reduce
  rw [Laws.syncCore_core]
  by_cases hpark : mode.toNat = 2
  · rw [if_pos hpark, core_setCore]
    exact ⟨rfl, fun _ => rfl⟩
  · rw [if_neg hpark]
    obtain ⟨hdata, -, -, -, -, hseq⟩ := goOn_ran s m { s.core m with pwr := mode.toNat }
    refine ⟨hdata, fun hpc => ?_⟩
    rcases hpc with hpc | rfl
    · exact (hseq hpc).1
    · exact absurd rfl hpark

/-- Settles O13: with its operands there each of the three completes with the result the spec gives. -/
theorem queriesAndPower : Obligations.QueriesAndPower := by
  unfold Obligations.QueriesAndPower
  intro m s
  refine ⟨fun r1 r2 h hp => ?_, fun r1 sel h => capq_ran s m r1 sel h, fun hr mode hm => pwrHint_core s m mode hr hm⟩
  have hran := freezeQ_ran s m r1 r2 h hp
  rw [freezeWord_eq] at hran
  exact hran

/-! ## Chip reset (R18, R454, R458, R459) -/

theorem execPorstAssert_powered (s : State) (h : s.pwr.aoOff = false) : execPorstAssert s = .next (s.chipReset 1 none) := by
  unfold execPorstAssert
  rw [h]
  rfl

theorem execChipRst_keyed (w : Wr) (s : State) (hpriv : privileged w = true) (hpf : s.rd pwrB Pwr.PWR_STAT.PFACT = 0) :
    execChipRst w 0xC3 s = .next ((s.chipReset 3 none).retire w (pwrB + 0xC)) := by
  unfold execChipRst
  rw [Laws.crst_eq s w hpriv hpf]

/-- Settles O48: PORST_N and CHIP_RST with its key end in the same reset image; retiring the write of CHIP_RST changes
only the fabric's list of writes in flight. -/
theorem chipReset : Obligations.ChipReset := by
  unfold Obligations.ChipReset
  rintro w s i (⟨rfl, hao⟩ | ⟨rfl, hpriv, hpf⟩)
  · exact ⟨_, execPorstAssert_powered s hao, Laws.cr_keep s 1⟩
  · have himage := Laws.cr_keep s 3
    have hexec := execChipRst_keyed w s hpriv hpf
    generalize s.chipReset 3 none = t at himage hexec
    exact ⟨_, hexec, himage⟩

/-! ## The values after reset (R18, R231, R328) -/

/-- Settles O54: the registers of the reset state evaluate to the listed values. -/
theorem resetValues : Obligations.ResetValues := by
  unfold Obligations.ResetValues
  decide +kernel

end Sys2Proof.Scope
end

section
/-!
The fences of the cores: how one completes or waits, how the end of its waits lets the core go on, and what the commit of a
FNC.CYC leaves.
-/
namespace Sys2Proof.Fences

open Sys2Proof Sys2Proof.Machine Sys2Proof.Machine.State

/-! ## FNC.R, FNC.W, FNC.RW and FNC.SYS (R33, R253) -/

/-- A legal fence that does not always wait: it is over at once where its waits `P` are, else it stalls the core. -/
theorem fence_gives {s : State} {m : Nat} {o : OpA} {i : Instr} {f : Stall} {P : Prop} [Decidable P]
    (hexec : exec i s = .next (s.fence m o f false)) (hmet : s.fenceMet m f = true ↔ P)
    (hd : o.d = 0) (ha : o.a = 0) (hb : o.b = 0) (hr : s.ready m [] = true) :
    if P then gives (exec i s) (s.ran m (s.core m))
    else gives (exec i s) (fun t => t = s.setCore m { s.core m with stall := some f }) := by
  split
  case isTrue hP => exact ⟨_, hexec, Laws.fence_ran s m o f hd ha hb hr (hmet.2 hP)⟩
  case isFalse hP =>
    have hwait : s.fenceMet m f = false := Bool.eq_false_iff.2 fun h => hP (hmet.1 h)
    exact ⟨_, hexec, Laws.fence_wait s m o f false hd ha hb hr (.inl hwait)⟩

theorem fenceMet_rw (s : State) (m : Nat) :
    s.fenceMet m .fenceRW = true ↔ s.loadsDone m = true ∧ s.storesDone m = true := by
  unfold fenceMet
  exact Bool.and_eq_true_iff

/-! ## FNC.CYC stalls (R35, R253) -/

theorem fncCyc_waits (s : State) (m : Nat) (o : OpA) (ha : o.a = 0) (hb : o.b = 0) (hr : s.ready m [o.d.toNat] = true) :
    gives (exec (.fncCyc m o) s)
      (fun t => t = s.setCore m { s.core m with stall := some (.fenceCyc o.d.toNat) }) := by
  refine ⟨_, rfl, ?_⟩
  simp only [ready_run hr, ready_awaits hr (List.mem_singleton.2 rfl), ha, hb, beq_self_eq_true, Bool.and_self, Bool.not_true,
    Bool.false_eq_true, if_false]
  rfl

/-! ## The end of the waits (R33) -/

/-- A fence whose waits are over completes, FNC.SYS included, which then frees the writes it held (R38). -/
theorem execFenceRelease_met {s : State} {m : Nat} {f : Stall} (hstall : (s.core m).stall = some f)
    (hmet : s.fenceMet m f = true) (hfrozen : s.isFrozen m = false) (hrst : s.inRst m = false) :
    execFenceRelease m s = .next (
      let t := s.goOn m (s.core m).done
      if f = .fenceSys then t.freeHeld m else t) := by
  unfold execFenceRelease
  simp only [hstall, hmet, hfrozen, hrst, Bool.not_false, Bool.and_self, if_true]

theorem fenceRelease_ran {s : State} {m : Nat} {f : Stall} (hstall : (s.core m).stall = some f) (hsys : f ≠ .fenceSys)
    (hmet : s.fenceMet m f = true) (hfrozen : s.isFrozen m = false) (hrst : s.inRst m = false) :
    gives (exec (.fenceRelease m) s) (s.ran m (s.core m)) := by
  refine ⟨_, execFenceRelease_met hstall hmet hfrozen hrst, ?_⟩
  dsimp only
  rw [if_neg hsys]
  exact goOn_ran s m (s.core m)

/-! ## The commit of a FNC.CYC (R35) -/

theorem execFncCycCommit_landed {s : State} {m d : Nat} (hstall : (s.core m).stall = some (.fenceCyc d))
    (hland : s.cycLanded m = true) (hfrozen : s.isFrozen m = false) (hrst : s.inRst m = false) :
    execFncCycCommit m (s.cycChoice m) s = .next (s.cycCommitGo m (s.cycChoice m) d) := by
  unfold execFncCycCommit
  simp only [hstall, hland, hfrozen, hrst, beq_self_eq_true, Bool.not_false, Bool.and_self, if_true]

/-- The fetch of the next instruction leaves the staged writes alone, so the commit's mark on them is what remains. -/
theorem cycCommitGo_staged (s : State) (m n d : Nat) :
    (s.cycCommitGo m n d).fab.staged =
      s.fab.staged.map (fun x => if x.core = true ∧ x.mid = m ∧ x.cov = none then { x with cov := some n } else x) := by
  unfold cycCommitGo
  dsimp only
  rw [Laws.goOn_fab]
  refine List.map_congr_left fun x _ => if_congr ?_ rfl rfl
  rw [Bool.and_eq_true, Bool.and_eq_true, beq_iff_eq, Option.isNone_iff_eq_none, and_assoc]

/-- The destination takes the subframe's number modulo 2^16, with SPLIT in bit 31; no memory changes. -/
theorem cycCommitGo_ran (s : State) (m n d : Nat) :
    ((s.cycCommitGo m n d).core m).data =
      ((s.core m).wg d (BitVec.ofNat 32 (n % 65536 + if s.cycSplit m n then 2 ^ 31 else 0))).data ∧
    (s.cycCommitGo m n d).mem = s.mem := by
  unfold cycCommitGo
  obtain ⟨hdata, -, hmem, -⟩ := goOn_ran _ m _
  exact ⟨hdata, hmem⟩

/-- Settles O19: the fences complete or stall as their waits say, their release lets the core go on, and the commit of a
FNC.CYC covers the staged writes and reports its number. -/
theorem fencesComplete : Obligations.FencesComplete := by
  unfold Obligations.FencesComplete
  intro m s
  refine ⟨fun o hd ha hb hr => ⟨?fncR, ?fncW, ?fncRw, ?fncSys⟩, fun o ha hb hr => fncCyc_waits s m o ha hb hr,
    fun hfrozen hrst => ⟨fun f hstall hsys hmet => fenceRelease_ran hstall hsys hmet hfrozen hrst, ?commit⟩⟩
  case fncR => exact fence_gives (f := .fenceR) rfl Iff.rfl hd ha hb hr
  case fncW => exact fence_gives (f := .fenceW) rfl Iff.rfl hd ha hb hr
  case fncRw => exact fence_gives rfl (fenceMet_rw s m) hd ha hb hr
  case fncSys => exact ⟨_, rfl, Laws.fence_wait s m o .fenceSys true hd ha hb hr (.inr rfl)⟩
  case commit =>
    rintro d _ hstall hland rfl
    obtain ⟨hdata, hmem⟩ := cycCommitGo_ran s m (s.cycChoice m) d
    exact ⟨_, execFncCycCommit_landed hstall hland hfrozen hrst, hdata, cycCommitGo_staged s m _ d, hmem⟩

end Sys2Proof.Fences
end

section
/-!
The contexts of the cell lanes (R93 to R107): where their registers and those of the lanes lie, the CELL_CMD bits, the
acknowledged queue, and what seeing and RAM errors report.
-/
namespace Sys2Proof.CellLink

open Sys2Proof Sys2Proof.Machine Sys2Proof.Machine.State

/-! ## Where the registers of lanes and contexts lie (R22) -/

theorem key_ne {f g : Fld} (h : f.key 0 ≠ g.key 0) (b : Nat) : f.key b ≠ g.key b := by
  unfold Fld.key at h ⊢
  omega

/-- The field lies inside one context of 256 bytes (R105). -/
abbrev CtxFld (f : Fld) : Prop := f.off < 0x100 ∧ f.lsb < 32

/-- The field lies inside the 4 KiB of one lane (R104). -/
abbrev LaneFld (f : Fld) : Prop := f.off < 0x1000 ∧ f.lsb < 32

theorem ctx_key_ne_lane {f g : Fld} (hf : CtxFld f) (hg : LaneFld g) (c ln : Nat) : f.key (ctxB c) ≠ g.key (laneB ln) := by
  have hr : c / 96 % 16 < 16 := Nat.mod_lt _ (by decide)
  have hs : c % 96 < 96 := Nat.mod_lt _ (by decide)
  have hl : ln % 16 < 16 := Nat.mod_lt _ (by decide)
  unfold Fld.key ctxB laneB
  generalize c / 96 / 16 = q, c / 96 % 16 = r, c % 96 = i, ln / 16 = p, ln % 16 = j at *
  rcases Nat.lt_or_ge q p with h | h <;> omega

/-- A field of a register block outlives a write to another field of the block. -/
theorem rd_wr_other (s : State) (b : Nat) (f g : Fld) (v : Nat) (h : f.key 0 ≠ g.key 0) : (s.wr b g v).rd b f = s.rd b f :=
  rd_wr_ne _ _ _ _ _ _ (key_ne h b)

theorem lane_not_aside (ln off l : Nat) : ¬asideKey (laneB ln + off) l := by
  unfold asideKey laneB
  omega

theorem ctx_not_aside (c off l : Nat) : ¬asideKey (ctxB c + off) l := by
  unfold asideKey ctxB
  omega

/-! ## Lane events, states of a context and its queue -/

theorem laneEvt_rd_ctx (s : State) (ln i c : Nat) {f : Fld} (hf : CtxFld f) :
    (s.laneEvt ln i).rd (ctxB c) f = s.rd (ctxB c) f :=
  raiseBit_rd _ _ _ _ _ _ _ _ _ (fun _ h => nomatch h) (ctx_key_ne_lane hf (by decide) c ln) (ctx_not_aside c _ _) hf.2

theorem laneEvt_rd_lane (s : State) (ln i : Nat) {f : Fld} (hf : LaneFld f) (hne : f.key 0 ≠ Lane.LANE_EVT.EVT.key 0) :
    (s.laneEvt ln i).rd (laneB ln) f = s.rd (laneB ln) f :=
  raiseBit_rd _ _ _ _ _ _ _ _ _ (fun _ h => nomatch h) (key_ne hne _) (lane_not_aside ln _ _) hf.2

theorem setCstate_rd_ctx (s : State) (c v : Nat) {f : Fld} (hf : CtxFld f) (hne : f.key 0 ≠ Ctx.CELL_STAT.CSTATE.key 0) :
    (s.setCstate c v).rd (ctxB c) f = s.rd (ctxB c) f :=
  Laws.setCstate_rd _ _ _ _ _ (key_ne hne _) (ctx_key_ne_lane hf (by decide) _ _) (ctx_key_ne_lane hf (by decide) _ _)
    (ctx_key_ne_lane hf (by decide) _ _)

theorem syncAcmd_depth (s : State) (c : Nat) :
    (s.syncAcmd c).rd (ctxB c) Ctx.ACMD_STAT.DEPTH =
      ((s.ctx c).queue.length + if (s.ctx c).out.isSome then 1 else 0) % 8 := by
  unfold syncAcmd
  dsimp only
  rw [wrB_eq, rd_wr_other _ _ _ _ _ (by decide), rd_wr_other _ _ _ _ _ (by decide), rd_wr_same _ _ _ _ (by decide)]
  rfl

theorem syncAcmd_cstate (s : State) (c : Nat) : (s.syncAcmd c).cstate c = s.cstate c :=
  Laws.syncAcmd_rd _ _ _ _ (Laws.ctx_key c c _ Ctx.ACMD_STAT.DEPTH (by decide) (by decide) (by decide) (by decide) rfl)

/-! ## CELL_CMD (R93) -/

theorem cmdAssign_result {s : State} {c : Nat} (hc : c < 6144) :
    if s.cstate c = 0 then (s.cmdAssign c).cstate c = 1 else s.cmdAssign c = s := by
  unfold cmdAssign
  by_cases h : s.cstate c = 0
  · simp only [if_pos h]
    exact Laws.setCstate_to s c 1 hc (by decide)
  · simp only [if_neg h]

theorem cmdEnable_result {s : State} {c : Nat} (hc : c < 6144) :
    if s.cstate c = 1 ∨ s.cstate c = 5 then
      if s.rd (laneB (c / 96)) Lane.LANE_STAT.NENABLED < s.upSlots then (s.cmdEnable c).cstate c = 2
      else (s.cmdEnable c).rd (ctxB c) Ctx.CELL_STAT.ENREJ = 1 ∧ (s.cmdEnable c).cstate c = s.cstate c
    else s.cmdEnable c = s := by
  unfold cmdEnable
  by_cases hst : s.cstate c = 1 ∨ s.cstate c = 5
  · by_cases hroom : s.rd (laneB (c / 96)) Lane.LANE_STAT.NENABLED < s.upSlots
    · simp only [if_pos hst, if_pos hroom]
      exact Laws.startRanging_cst s c _ _ hc
    · simp only [if_pos hst, if_neg hroom]
      exact ⟨rd_wr_same _ _ _ _ (by decide), rd_wr_other _ _ _ _ _ (by decide)⟩
  · simp only [if_neg hst]

theorem cmdOccult_result {s : State} {c : Nat} (hc : c < 6144) :
    if s.cstate c = 2 ∨ s.cstate c = 3 ∨ s.cstate c = 4 then (s.cmdOccult c).cstate c = 5 else s.cmdOccult c = s := by
  unfold cmdOccult occultCtx
  by_cases h : s.cstate c = 2 ∨ s.cstate c = 3 ∨ s.cstate c = 4
  · simp only [if_pos h, if_pos ((Laws.enabledSt_iff _).2 h)]
    exact Laws.setCstate_to _ c 5 hc (by decide)
  · simp only [if_neg h, if_neg (fun e => h ((Laws.enabledSt_iff _).1 e))]

theorem cmdRelease_result {s : State} {c : Nat} (hc : c < 6144) :
    if s.cstate c = 0 then s.cmdRelease c = s else (s.cmdRelease c).cstate c = 0 := by
  unfold cmdRelease
  by_cases h : s.cstate c = 0
  · simp only [if_pos h]
  · simp only [if_neg h]
    exact Laws.setCstate_to _ c 0 hc (by decide)

theorem cmdCntclr_result (s : State) (c : Nat) :
    let t := s.cmdCntclr c
    t.rd (ctxB c) Ctx.CELL_CNT0.RPT_OK = 0 ∧ t.rd (ctxB c) Ctx.CELL_CNT0.RPT_FAIL = 0 ∧
      t.rd (ctxB c) Ctx.CELL_CNT1.LATE = 0 ∧ t.rd (ctxB c) Ctx.CELL_CNT1.DCRC = 0 ∧ t.rd (ctxB c) Ctx.CELL_SEE.MIN = 255 ∧
      t.cstate c = s.cstate c := by
  unfold cmdCntclr cstate
  dsimp only
  simp (disch := decide) only [rd_wr_same, rd_wr_other]
  decide

/-! ## The acknowledged queue (R85, R105) -/

theorem acmdPush_result (s : State) (c : Nat) (v : Word) :
    let t := s.acmdPush c v
    let x := s.ctx c
    if cmdOp v = 7 ∨ cmdOp v = 8 ∨ cmdOp v = 0xC then t.rd (ctxB c) Ctx.ACMD_STAT.REJ = 1 ∧ t.ctx c = x
    else if 4 ≤ x.queue.length + (if x.out.isSome then 1 else 0) then t.rd (ctxB c) Ctx.ACMD_STAT.OVF = 1 ∧ t.ctx c = x
    else t.ctx c = { x with queue := x.queue ++ [v] } ∧
      t.rd (ctxB c) Ctx.ACMD_STAT.DEPTH = x.queue.length + 1 + (if x.out.isSome then 1 else 0) := by
  unfold acmdPush
  dsimp only
  by_cases hrej : cmdOp v = 7 ∨ cmdOp v = 8 ∨ cmdOp v = 0xC
  · simp only [if_pos hrej]
    exact ⟨rd_wr_same _ _ _ _ (by decide), rfl⟩
  by_cases hovf : 4 ≤ (s.ctx c).queue.length + (if (s.ctx c).out.isSome then 1 else 0)
  · simp only [if_neg hrej, if_pos hovf]
    exact ⟨rd_wr_same _ _ _ _ (by decide), rfl⟩
  · simp only [if_neg hrej, if_neg hovf]
    refine ⟨by rw [Laws.syncAcmd_ctx, ctx_setCtx], ?_⟩
    rw [syncAcmd_depth, ctx_setCtx]
    dsimp only
    rw [List.length_append, List.length_singleton]
    omega

/-- R85: without an outstanding command nothing expires. -/
theorem ackwait_none {s : State} {ln sl : Nat} (h : (s.ctx (ln * 96 + sl)).out = none) : s.ackwait ln sl = s := by
  unfold ackwait
  dsimp only
  rw [h]

/-- R93: an ACTIVE cell becomes DEGRADED; what command is outstanding and FAIL stay as they are. -/
theorem degrade_active {s : State} {c : Nat} (hc : c < 6144) (hst : s.cstate c = 3) :
    (s.degrade c).cstate c = 4 ∧ ((s.degrade c).ctx c).out = (s.ctx c).out ∧
      (s.degrade c).rd (ctxB c) Ctx.ACMD_STAT.FAIL = s.rd (ctxB c) Ctx.ACMD_STAT.FAIL := by
  unfold degrade
  rw [if_pos hst]
  dsimp only
  refine ⟨?state, ?queue, ?fail⟩
  case state =>
    rw [Laws.fire_cst, cstate, laneEvt_rd_ctx _ _ _ _ (by decide)]
    exact Laws.setCstate_to _ c 4 hc (by decide)
  case queue =>
    rw [Laws.fire_ctx, Laws.laneEvt_ctx, Laws.setCstate_ctx _ _ _ (by decide), modLane_eq, modCtx_eq]
    show (((s.setCtx c _).ctx c)).out = _
    rw [ctx_setCtx]
  case fail =>
    rw [rd_fire, laneEvt_rd_ctx _ _ _ _ (by decide), setCstate_rd_ctx _ _ _ (by decide) (by decide), modLane_eq, rd_setLane,
      rd_wr_other _ _ _ _ _ (by decide), modCtx_eq, rd_setCtx]

/-- R72, R85: the third time ACKWAIT ends without an answer the command fails and an ACTIVE cell is DEGRADED. -/
theorem ackwait_fails {s : State} {ln sl : Nat} {o : OutCmd} (hc : ln * 96 + sl < 6144)
    (hout : (s.ctx (ln * 96 + sl)).out = some o) (hdue : o.due = false) (hst : s.cstate (ln * 96 + sl) = 3)
    (hre : 2 ≤ o.resends)
    (hwait : max 3 (s.rd (laneB ln) Lane.LANE_CTL.ACKWAIT) + o.held ≤ (s.cycNum + 2 ^ 48 - o.cyc) % 2 ^ 48) :
    let t := s.ackwait ln sl
    let c := ln * 96 + sl
    t.rd (ctxB c) Ctx.ACMD_STAT.FAIL = 1 ∧ (t.ctx c).out = none ∧ t.cstate c = 4 := by
  unfold ackwait
  dsimp only
  rw [hout]
  dsimp only
  rw [if_neg (by simp [hdue, hst]; omega), if_neg (by omega)]
  generalize ln * 96 + sl = c at *
  generalize hu : (((((s.modCtx c fun x => { x with out := none }).syncAcmd c).wr (ctxB c) Ctx.ACMD_STAT.FAIL 1).laneEvt ln
    2).fire (ldieSrc ln + 21)) = u
  have hu3 : u.cstate c = 3 := by
    rw [← hu, Laws.fire_cst, cstate, laneEvt_rd_ctx _ _ _ _ (by decide), rd_wr_other _ _ _ _ _ (by decide)]
    exact (syncAcmd_cstate _ c).trans hst
  obtain ⟨hdeg, hqueue, hfail⟩ := degrade_active hc hu3
  refine ⟨hfail.trans ?_, hqueue.trans ?_, hdeg⟩
  · rw [← hu, rd_fire, laneEvt_rd_ctx _ _ _ _ (by decide), rd_wr_same _ _ _ _ (by decide)]
    rfl
  · rw [← hu, Laws.fire_ctx, Laws.laneEvt_ctx]
    show ((s.setCtx c _).ctx c).out = none
    rw [ctx_setCtx]

/-! ## Seeing and RAM errors (R98, R107) -/

theorem seeErr_result (s : State) (ln sl : Nat) :
    let t := s.seeErr ln sl
    let c := ln * 96 + sl
    if 16 ≤ (s.ctx c).seeBad ∧ (s.ctx c).seeDone = false then s.fires t (ldieSrc ln + 25) ∧ (t.ctx c).seeDone = true
    else t = s := by
  unfold seeErr
  dsimp only
  generalize ln * 96 + sl = c
  simp only [Bool.not_eq_true']
  by_cases h : 16 ≤ (s.ctx c).seeBad ∧ (s.ctx c).seeDone = false
  · rw [if_pos h, if_pos h]
    exact ⟨fires_of _ rfl, by rw [Laws.fire_ctx, ctx_setCtx]⟩
  · rw [if_neg h, if_neg h]

theorem ctxRam_corrected {s : State} {ln : Nat} (sl : Nat) (hup : s.laneUp ln = true) :
    s.fires (s.ctxRam ln sl false) (ldieSrc ln + 16) ∧ (s.ctxRam ln sl false).regs = s.regs := by
  unfold ctxRam
  dsimp only
  rw [hup]
  exact ⟨fires_of _ rfl, fire_regs _ _⟩

theorem ctxRam_uncorrected {s : State} {ln sl : Nat} (hc : ln * 96 + sl < 6144) (hup : s.laneUp ln = true) :
    (s.ctxRam ln sl true).cstate (ln * 96 + sl) = 5 ∧ ((s.ctxRam ln sl true).ctx (ln * 96 + sl)).nopOnce = true := by
  unfold ctxRam
  dsimp only
  simp only [hup, Bool.not_true, Bool.false_eq_true, if_false, modCtx_eq, Laws.fire_cst, Laws.fire_ctx]
  exact ⟨Laws.setCstate_to _ _ 5 hc (by decide), by rw [ctx_setCtx]⟩

/-! ## The commands of a context -/

/-- A command to a context of a lane that is up acts on that context (R108). -/
theorem onCtx_gives {i : Instr} {s : State} {ln sl : Nat} {f : Nat → State} {P : State → Prop}
    (hexec : exec i s = .next (s.onCtx ln sl f)) (hup : s.laneUp ln = true) (hsl : sl < 96) (hP : P (f (ln * 96 + sl))) :
    gives (exec i s) P :=
  ⟨_, hexec, by rw [Laws.onCtx_up hup hsl]; exact hP⟩

/-- Settles O36: each command acts on its context alone, by the result of its operation. -/
theorem contextRows : Obligations.ContextRows := by
  unfold Obligations.ContextRows
  intro ln sl s hln hsl hup
  have hc : ln * 96 + sl < 6144 := by omega
  have hdiv : (ln * 96 + sl) / 96 = ln := by omega
  refine ⟨onCtx_gives rfl hup hsl (cmdAssign_result hc), onCtx_gives rfl hup hsl ?enable,
    onCtx_gives rfl hup hsl (cmdOccult_result hc), onCtx_gives rfl hup hsl (cmdRelease_result hc),
    onCtx_gives rfl hup hsl (cmdCntclr_result s _), fun v => onCtx_gives rfl hup hsl (acmdPush_result s _ v),
    onCtx_gives rfl hup hsl ⟨ackwait_none, ?mem, fun o hout hdue hst hre hwait => ackwait_fails hc hout hdue hst hre hwait⟩,
    onCtx_gives rfl hup hsl (seeErr_result s ln sl), onCtx_gives rfl hup hsl (ctxRam_corrected sl hup),
    onCtx_gives rfl hup hsl (ctxRam_uncorrected hc hup)⟩
  case enable =>
    have h := cmdEnable_result (s := s) hc
    rwa [hdiv] at h
  case mem => exact (keep_mem (ackwait_keep s ln sl)).1

end Sys2Proof.CellLink
end

section
/-!
Frames, reports and ranging bursts of a lane (R65 to R76, R82 to R89, R96, R97).
-/
namespace Sys2Proof.Bursts

open Sys2Proof Sys2Proof.Machine Sys2Proof.Machine.State Sys2Proof.CellLink

/-- A command that writes no memory leaves the memory as it was, whatever else holds after it. -/
theorem gives_mem {i : Instr} {s t : State} {P : State → Prop} (hexec : exec i s = .next t) (hw : Laws.writes i = false)
    (hP : P t) : gives (exec i s) (fun t => t.mem = s.mem ∧ P t) :=
  ⟨t, hexec, (keep_mem (Laws.execKeeps i s hw t hexec)).1, hP⟩

/-! ## Frames (R66 to R70) -/

theorem laneBuild_down {s : State} {ln : Nat} (h : s.laneUp ln = false) : s.laneBuild ln = s := by
  unfold laneBuild
  rw [h]
  rfl

theorem frameStart_silent {s : State} {ln : Nat} (h : s.laneUp ln = false ∨ s.lstate ln ≠ 3) : s.frameStart ln = s := by
  unfold frameStart
  rw [if_pos (by rcases h with h | h <;> simp [h])]

theorem reach_lane (s : State) (t ln : Nat) : (s.reach t).lane ln = s.lane ln := by
  unfold reach
  split <;> rfl

theorem reach_running (s : State) (t : Nat) : (s.reach t).running = s.running := by
  unfold reach
  split <;> rfl

/-- R66, R70: in RUN the line takes an HDR block before what was built; with the timer stopped the HDR goes alone. -/
theorem frameStart_run {s : State} {ln : Nat} (hup : s.laneUp ln = true) (hrun : s.lstate ln = 3) :
    ((s.frameStart ln).lane ln).occall = (s.lane ln).occall - 1 ∧
    ∃ h r, ((s.frameStart ln).lane ln).line = h :: r ∧ h.btype = 1 ∧ (s.running = false → r = []) := by
  unfold frameStart
  rw [if_neg (by simp [hup, hrun])]
  dsimp only
  rw [lane_setLane, reach_lane]
  refine ⟨rfl, _, _, rfl, rfl, fun hstop => ?_⟩
  rw [reach_running]
  change (if (s.running && _) = true then _ else _) = _
  rw [hstop]
  rfl

/-! ## Reception (R84, R89) -/

theorem laneReport_silent {s : State} {ln : Nat} (slot : RxSlot) (rx : Option BurstRx)
    (h : s.laneUp ln = false ∨ (s.lstate ln ≠ 3 ∧ s.lstate ln ≠ 4)) : s.laneReport ln slot rx = s := by
  unfold laneReport
  rw [if_pos ?_]
  rcases h with hdown | ⟨hrun, hlisten⟩
  · simp [hdown]
  · simp [hrun, hlisten]

/-- R89, R93: a failed ranging sends its context back to ASSIGNED with the cause. -/
theorem rangeFail_result (s : State) {c cause : Nat} (hc : c < 6144) (hcause : cause < 8) :
    (s.rangeFail c cause).cstate c = 1 ∧ (s.rangeFail c cause).rd (ctxB c) Ctx.CELL_STAT.RFCAUSE = cause := by
  unfold rangeFail
  dsimp only
  constructor
  · rw [cstate, laneEvt_rd_ctx _ _ _ _ (by decide)]
    exact Laws.setCstate_to _ c 1 hc (by decide)
  · rw [laneEvt_rd_ctx _ _ _ _ (by decide), setCstate_rd_ctx _ _ _ (by decide) (by decide),
      Laws.leaveCtx_rd _ _ _ _ (key_ne (by decide) _)]
    exact (rd_wr_same _ _ _ _ (by decide)).trans (Nat.mod_eq_of_lt hcause)

theorem serialOf_setLane (s : State) (ln c : Nat) (x : Lane) : (s.setLane ln x).serialOf c = s.serialOf c := rfl

theorem laneRanging_silent {s : State} {ln : Nat} (rx : BurstRx) (h : s.laneUp ln = false ∨ s.lstate ln ≠ 3) :
    s.laneRanging ln rx = s := by
  unfold laneRanging
  rw [if_pos (by rcases h with h | h <;> simp [h])]

/-- R89: a good burst in time that carries a serial number foreign to the slot fails the ranging with cause 2. -/
theorem laneRanging_foreign {s : State} {ln sl : Nat} {r : Ranging} {rx : BurstRx} (hc : ln * 96 + sl < 6144)
    (hup : s.laneUp ln = true) (hrun : s.lstate ln = 3) (hnow : s.rangingNow ln = some (sl, r))
    (hgood : burstGood rx.bits = true) (herr : rx.err.natAbs ≤ 42900)
    (hser : rfield rx.bits 111 64 ≠ (s.serialOf (ln * 96 + sl)).toNat) :
    (s.laneRanging ln rx).cstate (ln * 96 + sl) = 1 ∧
      (s.laneRanging ln rx).rd (ctxB (ln * 96 + sl)) Ctx.CELL_STAT.RFCAUSE = 2 := by
  unfold laneRanging
  rw [if_neg (by simp [hup, hrun]), hnow]
  dsimp only
  rw [if_neg (by simp [hgood, herr]), modLane_eq, serialOf_setLane, if_pos hser]
  exact rangeFail_result _ hc (by decide)

/-- R89: a window without a burst takes the next guess, and after the last one the ranging fails with cause 1. -/
theorem rangingDark_result {s : State} {ln sl : Nat} {r : Ranging} (hc : ln * 96 + sl < 6144)
    (hup : s.laneUp ln = true) (hrun : s.lstate ln = 3) (hnow : s.rangingNow ln = some (sl, r)) :
    let t := s.rangingDark ln
    let c := ln * 96 + sl
    (r.guesses = [] → t.cstate c = 1 ∧ t.rd (ctxB c) Ctx.CELL_STAT.RFCAUSE = 1) ∧
    ∀ g l, r.guesses = g :: l →
      t.regs = s.regs ∧ (t.ctx c).rng = some { r with placed := false, guess := g, guesses := l, waited := 0 } := by
  unfold rangingDark
  rw [if_neg (by simp [hup, hrun]), hnow]
  dsimp only
  refine ⟨fun hlast => ?_, fun g l hnext => ?_⟩
  · rw [hlast]
    exact rangeFail_result _ hc (by decide)
  · rw [hnext]
    dsimp only
    rw [modCtx_eq, ctx_setCtx]
    exact ⟨rfl, rfl⟩

/-! ## Light outside grants (R96, R97, R102) -/

/-- R96, R102: a lane in LISTEN only counts such light and tells of it. -/
theorem babble_listen {s : State} {ln : Nat} (who : Option Nat) (hln : ln < 64) (h : s.lstate ln = 4) :
    let t := s.babble ln who
    (t.lane ln).lightNow = true ∧
      t.rd (laneB ln) Lane.CNT_BABBLE.COUNT = min (s.rd (laneB ln) Lane.CNT_BABBLE.COUNT + 1) 4294967295 ∧
      (t.rd (laneB ln) Lane.LANE_EVT.EVT).testBit 6 = true := by
  unfold babble
  dsimp only
  rw [modLane_eq, inc_eq, rd_setLane]
  have hlstate : ∀ v, (((s.setLane ln v).wr (laneB ln) Lane.CNT_BABBLE.COUNT
      (min (s.rd (laneB ln) Lane.CNT_BABBLE.COUNT + 1) Lane.CNT_BABBLE.COUNT.top)).laneEvt ln 6).lstate ln = 4 := fun v => by
    rw [lstate, laneEvt_rd_lane _ _ _ (by decide) (by decide), rd_wr_other _ _ _ _ _ (by decide), rd_setLane]
    exact h
  rw [if_pos (by rw [hlstate]; decide)]
  refine ⟨?_, ?_, Laws.laneEvt_set _ _ _ hln (by decide)⟩
  · rw [Laws.laneEvt_lane, Laws.wr_lane, lane_setLane]
  · rw [laneEvt_rd_lane _ _ _ (by decide) (by decide), rd_wr_same _ _ _ _ (by decide)]
    exact Nat.mod_eq_of_lt (Nat.lt_of_le_of_lt (Nat.min_le_right _ _) (by decide))

theorem outOfGrant_babbles {s : State} {ln : Nat} (who : Option (BitVec 128)) (hup : s.laneUp ln = true)
    (h : s.lstate ln = 4) : ∃ slot, s.outOfGrant ln who = s.babble ln slot := by
  unfold outOfGrant
  rw [if_neg (by simp [hup, h])]
  exact ⟨_, rfl⟩

/-- An event of a lane changes nothing that decides whether a source can fire. -/
theorem laneEvt_canFire (s : State) (ln i n : Nat) : (s.laneEvt ln i).canFire n = s.canFire n := by
  have hkeep : ∀ f : Fld, f.off < 0x1000 → f.lsb < 32 → ¬asideKey (pwrB + f.off) f.lsb →
      (s.laneEvt ln i).rd pwrB f = s.rd pwrB f := fun f hoff hlsb haside =>
    raiseBit_rd _ _ _ _ _ _ _ _ _ (fun _ h => nomatch h)
      (by unfold Fld.key pwrB laneB Lane.LANE_EVT.EVT; dsimp only; omega) haside hlsb
  refine canFire_congr n ?_ ?_ (hkeep _ (by decide) (by decide) (by unfold asideKey; decide))
    (hkeep _ (by decide) (by decide) (by unfold asideKey; decide))
  · exact Laws.raise_proj State.pwr (fun _ _ h => aside_pwr h) (fun _ _ _ _ => rfl) _ _ _ _ _ _ _ (fun _ h => nomatch h)
  · exact Laws.raise_proj State.part (fun _ _ h => aside_part h) (fun _ _ _ _ => rfl) _ _ _ _ _ _ _ (fun _ h => nomatch h)

/-- R97: without BAB_ALL a lane whose light lasts BAB_TH cycles reports its source and occults nobody. -/
theorem babbleAll_fires {s : State} {ln : Nat} (hup : s.laneUp ln = true) (hrun : s.lstate ln = 3)
    (hall : s.rd (laneB ln) Lane.LANE_CTL.BAB_ALL = 0)
    (hlong : max 1 (s.rd (laneB ln) Lane.LANE_CTL.BAB_TH) ≤ (s.lane ln).lightRun) :
    s.fires (s.babbleAll ln) (ldieSrc ln + 18) := by
  have hoff : ((s.laneEvt ln 6).fire (ldieSrc ln + 18)).on (laneB ln) Lane.LANE_CTL.BAB_ALL = false := by
    rw [on, rd_fire, laneEvt_rd_lane _ _ _ (by decide) (by decide), hall]
    rfl
  unfold babbleAll
  dsimp only
  rw [if_neg (by simp [hup, hrun]; omega), hoff, if_neg Bool.false_ne_true]
  exact fires_of _ (laneEvt_canFire s ln 6 _)

/-- R97: light in four cycles after OCCALL is persistent. -/
theorem babblePersist_told {s : State} {ln n : Nat} (h : (s.lane ln).occPersist = some n) (hn : 4 ≤ n) :
    (s.babblePersist ln).rd (laneB ln) Lane.LANE_STAT.BABPERS = 1 ∧
      ((s.babblePersist ln).rd (laneB ln) Lane.LANE_FLT.CAUSE).testBit 4 = true := by
  unfold babblePersist
  dsimp only
  rw [h]
  dsimp only
  rw [if_pos (by omega)]
  refine ⟨?_, Laws.laneFault_set _ _ _ (by decide)⟩
  rw [Laws.laneFault_rd _ _ _ _ _ (key_ne (by decide) _)]
  exact rd_wr_same _ _ _ _ (by decide)

/-- Settles O37: no command of a burst touches memory, and each does to its lane and context what its operation says. -/
theorem burstRows : Obligations.BurstRows := by
  unfold Obligations.BurstRows
  intro ln s hln
  have hslot : ∀ {sl}, sl < 96 → ln * 96 + sl < 6144 := by omega
  refine ⟨gives_mem rfl rfl laneBuild_down,
    gives_mem rfl rfl ⟨frameStart_silent, frameStart_run⟩,
    fun slot rx => gives_mem rfl rfl (laneReport_silent slot rx),
    fun rx => gives_mem rfl rfl ⟨laneRanging_silent rx, fun sl r hup hrun hnow hsl hgood herr hser =>
      laneRanging_foreign (hslot hsl) hup hrun hnow hgood herr hser⟩,
    gives_mem rfl rfl fun sl r hup hrun hnow hsl => rangingDark_result (hslot hsl) hup hrun hnow,
    fun who => gives_mem rfl rfl fun hup hlisten => ?light,
    gives_mem rfl rfl babbleAll_fires,
    gives_mem rfl rfl fun n h hn => babblePersist_told h hn⟩
  case light =>
    obtain ⟨slot, hbabble⟩ := outOfGrant_babbles who hup hlisten
    rw [hbabble]
    exact babble_listen slot hln hlisten

end Sys2Proof.Bursts
end

section
/-!
What a cell sends and measures: ranging, reports, conversions, calibration and the carrier (R81, R128, R139 to R146).
-/
namespace Sys2Proof.CellSide

open Sys2Proof Sys2Proof.Machine Sys2Proof.Machine.State Sys2Proof.CellLink

/-- A field of a cell outlives a write to another of its fields. -/
theorem crd_cwr_other (s : State) (c : Nat) (f g : Fld) (v : Nat) (h : f.key 0 ≠ g.key 0) :
    (s.cwr c g v).crd c f = s.crd c f :=
  crd_cwr_ne _ _ _ _ _ _ (key_ne h _)

/-! ## Transmission (R81, R88, R139, R140) -/

theorem mayTx_occulted {s : State} {c : Nat} (h : s.crd c Cell.CSTAT.OCC ≠ 0) : s.mayTx c = false := by
  unfold mayTx
  rw [(Laws.con_iff s c Cell.CSTAT.OCC).2 h]
  simp only [Bool.not_true, Bool.and_false, Bool.false_and]

theorem execRange_silent {s : State} {c : Nat} (h : s.mayTx c = false) : execRange c s = .next s := by
  unfold execRange
  simp only [h, Bool.false_and, Bool.false_eq_true, if_false]
  split
  · split <;> rfl
  · rfl

theorem execCellReportTx_silent {s : State} {c : Nat} (h : s.mayTx c = false) : execCellReportTx c s = .next s := by
  unfold execCellReportTx
  simp only [h, Bool.false_and, Bool.false_eq_true, if_false]

theorem execCellRegrantTx_silent {s : State} {c : Nat} (m : Nat) (h : s.mayTx c = false) :
    execCellRegrantTx c m s = .next s := by
  unfold execCellRegrantTx
  simp only [h, Bool.false_and, Bool.false_eq_true, if_false]
  split
  · split <;> rfl
  · rfl

theorem execRange_asked {s : State} {c r g : Nat} {m : GrantMap} {f : Bool} (hmay : s.mayTx c = true)
    (hmap : s.cellMap c (s.cell c).cyc = some (m, f)) (hmode : m.mode = 2) (hrng : m.rng = some (r, g))
    (hslot : r = s.crd c Cell.SLOT_R.SLOT) :
    execRange c s = .next (s.send c (rangingBurst r (Config.cellSerial c).toNat)) := by
  subst hslot
  unfold execRange
  simp only [hmap, hrng, hmay, hmode, beq_self_eq_true, Bool.and_self, if_true]

/-! ## Reports and conversions (R142 to R146) -/

/-- A command that a cell's fast domain carries out (R113). -/
theorem cellUp_gives {i : Instr} {s u : State} {c : Nat} {P : State → Prop}
    (hexec : exec i s = .next (if !s.cellUp c then s else u)) (hup : s.cellUp c = true) (hP : P u) : gives (exec i s) P :=
  ⟨_, hexec, by rw [hup]; exact hP⟩

/-- R142: the report is stored among the last eight and its flags begin anew. -/
theorem reportFreeze_gives {s : State} {c : Nat} (hup : s.cellUp c = true) :
    gives (exec (.cellReportFreeze c) s) (fun t => (t.cell c).badcmd = false ∧ (t.cell c).late = false ∧
      (t.cell c).dcrc = 0 ∧ (t.cell c).rdv = false ∧
      (t.cell c).reports = (((s.cell c).meas.cyc, (s.freezeReport c).pack) :: (s.cell c).reports).take 8) := by
  refine cellUp_gives rfl hup ?_
  dsimp only
  rw [Laws.modCell_cell]
  exact ⟨rfl, rfl, rfl, rfl, rfl⟩

/-- R143, R144: index 0 converts the capacitor voltages; OV says that A is at full scale or above. -/
theorem conversion_capacitors {s : State} {c : Nat} (va vb : Int) (hup : s.cellUp c = true) :
    gives (exec (.cellConversion c 0 va vb) s) (fun t => t.crd c Cell.VCA.CODE = uniCode va ∧
      t.crd c Cell.VCB.CODE = uniCode vb ∧ (t.crd c Cell.VCA.OV = 1 ↔ 1200000 ≤ va)) := by
  refine cellUp_gives rfl hup ?_
  dsimp only
  simp (disch := decide) only [cwrB_eq, Laws.crd_modCell, crd_cwr_same, crd_cwr_other]
  refine ⟨Nat.mod_eq_of_lt (Laws.uni_lt va), Nat.mod_eq_of_lt (Laws.uni_lt vb), ?_⟩
  by_cases h : 1200000 ≤ va <;> simp [h, Cell.VCA.OV]

theorem conversion_temperature {s : State} {c : Nat} (va vb : Int) (hup : s.cellUp c = true) :
    gives (exec (.cellConversion c 1 va vb) s) (fun t => t.crd c Cell.TEMPC.CODE = sgnCode va 600000 ∧
      t.crd c Cell.AUXC.CODE = uniCode vb) := by
  refine cellUp_gives rfl hup ?_
  dsimp only
  simp (disch := decide) only [crd_cwr_same, crd_cwr_other]
  exact ⟨Nat.mod_eq_of_lt (Laws.sgn_lt va _), Nat.mod_eq_of_lt (Laws.uni_lt vb)⟩

/-- A cause that may be latched touches no other field of the cell. -/
theorem cellFltIf_crd (s : State) (c i : Nat) (p : Prop) [Decidable p] (f : Fld)
    (h : f.key 0 ≠ Cell.FLT_STAT.CAUSE.key 0) : (if p then s.cellFlt c i else s).crd c f = s.crd c f := by
  split
  · exact Laws.cellFlt_crd _ _ _ _ _ (key_ne h _)
  · rfl

/-- R145: both codes of the check channel are stored, whether or not their third disagreement latches its cause. -/
theorem conversion_check {s : State} {c : Nat} (va vb : Int) (hup : s.cellUp c = true) :
    gives (exec (.cellConversion c 2 va vb) s) (fun t => t.crd c Cell.CHKA.CODE = uniCode va ∧
      t.crd c Cell.CHKB.CODE = uniCode vb) := by
  refine cellUp_gives rfl hup ?_
  simp (disch := decide) only [cellFltIf_crd, Laws.crd_modCell, crd_cwr_same, crd_cwr_other]
  exact ⟨Nat.mod_eq_of_lt (Laws.uni_lt va), Nat.mod_eq_of_lt (Laws.uni_lt vb)⟩

/-- R146: the spare slice goes to the other converter. -/
theorem calSwitch_inRange {s : State} {c : Nat} (hup : s.cellUp c = true) :
    gives (exec (.cellCalSwitch c true) s) (fun t =>
      t.crd c Cell.CAL_STAT.CALSEL = if s.crd c Cell.CAL_STAT.CALSEL = 1 then 2 else 1) := by
  refine cellUp_gives rfl hup ?_
  dsimp only
  rw [if_pos rfl, crd_cwr_same _ _ _ _ (by decide)]
  split <;> rfl

/-- R146: a result outside the trim range is recorded for the converter that was calibrated. -/
theorem calSwitch_outOfRange {s : State} {c : Nat} (hup : s.cellUp c = true) (hsel : s.crd c Cell.CAL_STAT.CALSEL = 1) :
    gives (exec (.cellCalSwitch c false) s) (fun t => t.crd c Cell.CAL_STAT.CALFAILA = 1 ∧
      (t.crd c Cell.FLT_STAT.CAUSE).testBit 1 = true ∧ t.crd c Cell.CAL_STAT.CALSEL = 2) := by
  refine cellUp_gives rfl hup ?_
  dsimp only
  rw [if_neg Bool.false_ne_true, if_pos hsel, if_pos hsel]
  refine ⟨?failed, ?cause, crd_cwr_same _ _ _ _ (by decide)⟩
  case failed =>
    rw [crd_cwr_other _ _ _ _ _ (by decide), Laws.cellFlt_crd _ _ _ _ _ (key_ne (by decide) _)]
    exact crd_cwr_same _ _ _ _ (by decide)
  case cause =>
    rw [crd_cwr_other _ _ _ _ _ (by decide)]
    exact Laws.cellFlt_set _ c 1 (by decide)

/-! ## The carrier (R126, R128 to R130) -/

theorem cellSyncPair_cell (s : State) (c : Nat) : (s.cellSyncPair c).cell c = s.cell c := rfl

/-- R128: the transfer of the shadows takes no time and leaves PWMC as it is. -/
theorem shadowTransfer_same (s : State) (c : Nat) :
    (s.shadowTransfer c).clk = s.clk ∧ ((s.shadowTransfer c).cell c).pwmc = (s.cell c).pwmc := by
  unfold shadowTransfer
  extract_lets x go per duty bad u
  have hu : (u.cell c).pwmc = (s.cell c).pwmc := by
    unfold u
    rw [cell_setCell]
  split
  · exact ⟨rfl, rfl⟩
  · rw [cellSyncPair_cell]
    split <;> exact ⟨rfl, hu⟩

theorem forceTransfer_same (s : State) (c : Nat) :
    (s.forceTransfer c).clk = s.clk ∧ ((s.forceTransfer c).cell c).pwmc = (s.cell c).pwmc := by
  unfold forceTransfer
  dsimp only
  split
  · exact ⟨rfl, by rw [cell_setCell]⟩
  · exact ⟨rfl, rfl⟩

theorem settle_clk (s : State) (c : Nat) : (s.settle c).clk = s.clk := by
  unfold settle
  dsimp only
  split
  · split <;> rfl
  · rfl

theorem syncOut_carrier (s : State) (c : Nat) : ((s.syncOut c).cell c).carrier = (s.cell c).carrier := by
  rw [Laws.syncOut_cell]
  rfl

theorem syncOut_pwmc (s : State) (c : Nat) : ((s.syncOut c).cell c).pwmc = (s.cell c).pwmc := by
  rw [Laws.syncOut_cell]
  rfl

/-- R126: the period that starts is one of a carrier that starts now. -/
theorem startPeriod_cell (s : State) (c : Nat) :
    ((s.startPeriod c).cell c).pwmc = true ∧
      ((s.startPeriod c).cell c).carrier = some (((s.settle c).forceTransfer c).carrierNow c) := by
  unfold startPeriod pulse
  dsimp only
  rw [syncOut_pwmc, syncOut_carrier, Laws.modCell_cell, Laws.modCell_cell]
  exact ⟨rfl, rfl⟩

theorem carrierPeriodStart_running {s : State} {c : Nat} {k : Carrier} (hup : s.cellUp c = true)
    (hk : (s.cell c).carrier = some k) :
    gives (exec (.carrierPeriodStart c) s) (fun t =>
      (t.cell c).pwmc = true ∧ ∃ k2, (t.cell c).carrier = some k2 ∧ k2.start = s.clk.ct) := by
  refine ⟨_, rfl, ?_⟩
  rw [hup, hk, Option.isSome_some, Bool.and_self, if_pos rfl]
  obtain ⟨hpwmc, hcarrier⟩ := startPeriod_cell (s.shadowTransfer c) c
  refine ⟨hpwmc, _, hcarrier, ?_⟩
  change (forceTransfer _ c).clk.ct = _
  rw [(forceTransfer_same _ c).1, settle_clk, (shadowTransfer_same s c).1]

theorem alignedBoundary_running {s : State} {c : Nat} {k : Carrier} (hup : s.cellUp c = true)
    (hk : (s.cell c).carrier = some k) :
    gives (exec (.cellAlignedBoundary c) s) (fun t => (t.cell c).pwmc = true ∧ (t.cell c).carrier = some k) := by
  refine cellUp_gives rfl hup ?_
  rw [hk, Option.isSome_some, if_pos rfl, Laws.modCell_cell]
  exact ⟨rfl, hk⟩

theorem carrierPeriodStart_stopped {s : State} {c : Nat} (hk : (s.cell c).carrier = none) :
    gives (exec (.carrierPeriodStart c) s) (fun t => t = s) := by
  refine ⟨_, rfl, ?_⟩
  rw [hk]
  exact if_neg (by simp)

/-- R128 to R130: with no carrier running the shadows and FORCE transfer, and PWMC is 0. -/
theorem alignedBoundary_stopped {s : State} {c : Nat} (hup : s.cellUp c = true) (hk : (s.cell c).carrier = none) :
    gives (exec (.cellAlignedBoundary c) s) (fun t => (t.cell c).pwmc = false) := by
  refine cellUp_gives rfl hup ?_
  rw [hk, if_neg (by simp), syncOut_pwmc]
  have hshadow : ∀ u : State, (u.cell c).pwmc = false → (((u.shadowTransfer c).forceTransfer c).cell c).pwmc = false :=
    fun u hu => by rw [(forceTransfer_same _ c).2, (shadowTransfer_same u c).2, hu]
  have h := hshadow (s.modCell c (fun x => { x with pwmc := false })) (congrArg Cell.pwmc (Laws.modCell_cell _ _ _))
  split
  · exact (congrArg Cell.pwmc (Laws.modCell_cell _ _ _)).trans h
  · exact h

/-- Settles O40: an occulted cell may not transmit; each of the other commands acts by the result of its operation. -/
theorem cellReports : Obligations.CellReports := by
  unfold Obligations.CellReports
  intro c s
  refine ⟨fun hocc => ?occulted, fun m f r g hmay hmap hmode hrng hslot => ?ranging,
    fun hup => ⟨reportFreeze_gives hup, ?measure⟩,
    fun hup k hk => ⟨carrierPeriodStart_running hup hk, alignedBoundary_running hup hk⟩,
    fun hup hk => ⟨carrierPeriodStart_stopped hk, alignedBoundary_stopped hup hk⟩⟩
  case occulted =>
    have hmay := mayTx_occulted hocc
    exact ⟨⟨s, execRange_silent hmay, rfl⟩, ⟨s, execCellReportTx_silent hmay, rfl⟩,
      fun m => ⟨s, execCellRegrantTx_silent m hmay, rfl⟩⟩
  case ranging =>
    exact ⟨_, execRange_asked hmay hmap hmode hrng hslot, congrArg Cell.burst (Laws.modCell_cell _ _ _)⟩
  case measure =>
    exact fun va vb => ⟨conversion_capacitors va vb hup, conversion_temperature va vb hup, conversion_check va vb hup,
      calSwitch_inRange hup, calSwitch_outOfRange hup⟩

end Sys2Proof.CellSide
end

section
/-!
What a fault, a trip or a change of power does to a cell (R110 to R116, R123, R131, R134, R147, R148).
-/
namespace Sys2Proof.CellEvents

open Sys2Proof Sys2Proof.Machine Sys2Proof.Machine.State Sys2Proof.CellLink Sys2Proof.CellSide

/-- A command that acts only under a condition which holds. -/
theorem guarded_gives {i : Instr} {s u v : State} {b : Bool} {P : State → Prop}
    (hexec : exec i s = .next (if b = true then u else v)) (hb : b = true) (hP : P u) : gives (exec i s) P :=
  ⟨u, by rw [hexec, if_pos hb], hP⟩

/-! ## Blocking the outputs (R123) -/

/-- Cause `i` is latched in FLT_STAT (R147). -/
abbrev Caused (c i : Nat) (t : State) : Prop := (t.crd c Cell.FLT_STAT.CAUSE).testBit i = true

/-- The commanded state is block for the reason `v` and no carrier runs (R123). -/
abbrev Blocks (c v : Nat) (t : State) : Prop :=
  t.crd c Cell.CSTAT.STATE = 3 ∧ t.crd c Cell.CSTAT.BLKCAUSE = v ∧ (t.cell c).carrier = none

/-- The field is none of those that follow the outputs. -/
abbrev OffOutputs (f : Fld) : Prop :=
  ∀ g ∈ [Cell.CSTAT.OSTATE, Cell.CSTAT.PWMRUN, Cell.CSTAT.FORCED], f.key 0 ≠ g.key 0

/-- The field is none of those that a block writes. -/
abbrev OffBlock (f : Fld) : Prop := OffOutputs f ∧ f.key 0 ≠ Cell.CSTAT.STATE.key 0 ∧ f.key 0 ≠ Cell.CSTAT.BLKCAUSE.key 0

theorem syncOut_crd_other (s : State) (c : Nat) {f : Fld} (h : OffOutputs f) : (s.syncOut c).crd c f = s.crd c f :=
  Laws.syncOut_crd _ _ _ _ (key_ne (h _ (by decide)) _) (key_ne (h _ (by decide)) _) (key_ne (h _ (by decide)) _)

theorem cellBlock_crd_other (s : State) (c v : Nat) {f : Fld} (h : OffBlock f) : (s.cellBlock c v).crd c f = s.crd c f := by
  obtain ⟨hout, hstate, hcause⟩ := h
  exact Laws.cellBlock_crd _ _ _ _ _ (key_ne (hout _ (by decide)) _) (key_ne (hout _ (by decide)) _)
    (key_ne (hout _ (by decide)) _) (key_ne hstate _) (key_ne hcause _)

theorem cellBlock_power (s : State) (c v : Nat) : ((s.cellBlock c v).cell c).power = (s.cell c).power := by
  obtain ⟨-, hpower, -⟩ := Laws.cellBlock_same s c v
  exact hpower

theorem cellFlt_cell (s : State) (c i : Nat) : (s.cellFlt c i).cell c = s.cell c := rfl

theorem cellFlt_crd_other (s : State) (c i : Nat) {f : Fld} (h : f.key 0 ≠ Cell.FLT_STAT.CAUSE.key 0) :
    (s.cellFlt c i).crd c f = s.crd c f :=
  Laws.cellFlt_crd _ _ _ _ _ (key_ne h _)

theorem cinc_crd_other (s : State) (c : Nat) (f g : Fld) (h : f.key 0 ≠ g.key 0) : (s.cinc c g).crd c f = s.crd c f :=
  crd_cwr_other _ _ _ _ _ h

theorem cinc_cell (s : State) (c : Nat) (f : Fld) : (s.cinc c f).cell c = s.cell c := rfl

/-- While GSUP_OK, loss of light or BIST is a block source every output is low (R123). -/
theorem cellBlock_low {s : State} {c : Nat} (v : Nat)
    (h : (s.cell c).blk.lol = true ∨ (s.cell c).blk.gsup = true ∨ (s.cell c).blk.bist = true) :
    ((s.cellBlock c v).cell c).pat = 0 := by
  refine Laws.cellBlock_pat s c v ?_
  unfold blocked
  rcases h with h | h | h <;> simp [h]

/-! ## Faults (R136, R137, R141, R147) -/

theorem lossOfLight_blocks {s : State} {c : Nat} (hl : s.cellLinked c = true) :
    gives (exec (.lossOfLight c) s) (fun t => Caused c 2 t ∧ Blocks c 2 t ∧ (t.cell c).pat = 0 ∧
      (t.cell c).power = .acquire) := by
  refine guarded_gives rfl hl ?_
  refine ⟨?cause, Laws.cellBlock_state _ c 2 (by decide), cellBlock_low 2 (.inl ?lol), ?power⟩
  case cause =>
    dsimp only [Caused]
    rw [cellBlock_crd_other _ _ _ (by decide), cinc_crd_other _ _ _ _ (by decide)]
    exact Laws.cellFlt_set _ c 2 (by decide)
  case lol => rw [cinc_cell, cellFlt_cell, Laws.modCell_cell]
  case power =>
    rw [cellBlock_power, cinc_cell, cellFlt_cell, Laws.modCell_cell]

theorem txGuard_occults {s : State} {c : Nat} (hup : s.cellUp c = true) :
    gives (exec (.txGuardViolation c) s) (fun t => Caused c 5 t ∧ t.crd c Cell.CSTAT.OCC = 1) := by
  refine guarded_gives rfl hup ⟨?cause, ?occ⟩
  case cause =>
    dsimp only [Caused]
    rw [cinc_crd_other _ _ _ _ (by decide)]
    exact Laws.cellFlt_set _ c 5 (by decide)
  case occ =>
    rw [cinc_crd_other _ _ _ _ (by decide), cellFlt_crd_other _ _ _ (by decide)]
    exact crd_cwr_same _ _ _ _ (by decide)

/-- A fault that changes the cell by `g`, latches its cause and blocks the outputs. -/
theorem fault_blocks {i : Instr} {s : State} {c n : Nat} {b : Bool} {g : Cell → Cell} {P : Cell → Prop}
    (hexec : exec i s = .next (if b = true then ((s.modCell c g).cellFlt c n).cellBlock c 0 else s)) (hb : b = true)
    (hn : n < 13) (hP : ∀ x, x.txOff = (g (s.cell c)).txOff → x.waiting = (g (s.cell c)).waiting → P x) :
    gives (exec i s) (fun t => Caused c n t ∧ Blocks c 0 t ∧ P (t.cell c)) := by
  obtain ⟨hcause, hblocks⟩ := Laws.blockFacts (s.modCell c g) c n 0 (by decide) hn
  obtain ⟨-, -, htx, hwait, -⟩ := Laws.cellBlock_same ((s.modCell c g).cellFlt c n) c 0
  rw [cellFlt_cell, Laws.modCell_cell] at htx hwait
  exact guarded_gives hexec hb ⟨hcause, hblocks, hP _ htx hwait⟩

/-! ## GSUP_OK (R134) -/

theorem cellUp_modCell {s : State} {c : Nat} (g : Cell → Cell) (h : (g (s.cell c)).power = (s.cell c).power) :
    (s.modCell c g).cellUp c = s.cellUp c := by
  unfold cellUp
  rw [Laws.modCell_cell, h]

/-- With GSUP_LOCK = 1 a low GSUP_OK that was not a block source becomes one. -/
theorem gsupCheck_blocks {s : State} {c : Nat} (hlock : s.crd c Cell.CFG.GSUP_LOCK ≠ 0) (hlow : (s.cell c).gsup = false)
    (hnew : (s.cell c).blk.gsup = false) :
    Caused c 4 (s.gsupCheck c) ∧ Blocks c 6 (s.gsupCheck c) ∧ ((s.gsupCheck c).cell c).pat = 0 := by
  have hcon := (Laws.con_iff s c Cell.CFG.GSUP_LOCK).2 hlock
  unfold gsupCheck
  simp only [hcon, hlow, hnew, Bool.not_false, Bool.and_self, if_true, Bool.false_eq_true, if_false]
  obtain ⟨hcause, hblocks⟩ := Laws.blockFacts (s.modCell c (fun x => { x with blk := { x.blk with gsup := true } })) c 4 6
    (by decide) (by decide)
  exact ⟨hcause, hblocks, cellBlock_low 6 (.inr (.inl (by rw [cellFlt_cell, Laws.modCell_cell])))⟩

theorem gsupCheck_releases {s : State} {c : Nat} (hhigh : (s.cell c).gsup = true) :
    ((s.gsupCheck c).cell c).blk.gsup = false ∧ ((s.gsupCheck c).cell c).gsup = true := by
  unfold gsupCheck
  simp only [hhigh, Bool.not_true, Bool.and_false, Bool.false_eq_true, if_false]
  obtain ⟨hblk, -, -, -, hgsup, -⟩ := Laws.syncOut_same (s.modCell c
    (fun x => { x with blk := { x.blk with gsup := false } })) c
  rw [hblk, hgsup, Laws.modCell_cell]
  exact ⟨rfl, hhigh⟩

theorem gsupLow_blocks {s : State} {c : Nat} (hup : s.cellUp c = true) (hlock : s.crd c Cell.CFG.GSUP_LOCK ≠ 0)
    (hnew : (s.cell c).blk.gsup = false) :
    gives (exec (.gsupLow c) s) (fun t => Caused c 4 t ∧ Blocks c 6 t ∧ (t.cell c).pat = 0) := by
  refine guarded_gives rfl ((cellUp_modCell _ rfl).trans hup) ?_
  exact gsupCheck_blocks hlock (by rw [Laws.modCell_cell]) (by rw [Laws.modCell_cell]; exact hnew)

theorem gsupRestored_releases {s : State} {c : Nat} (hup : s.cellUp c = true) :
    gives (exec (.gsupOkRestored c) s) (fun t => (t.cell c).blk.gsup = false ∧ (t.cell c).gsup = true) := by
  refine guarded_gives rfl ((cellUp_modCell _ rfl).trans hup) ?_
  exact gsupCheck_releases (by rw [Laws.modCell_cell])

/-! ## Trips (R131) -/

theorem syncTact_crd_other (s : State) (c : Nat) {f : Fld} (h : f.key 0 ≠ Cell.TRIPSTAT.TACT.key 0) :
    (s.syncTact c).crd c f = s.crd c f :=
  crd_cwr_other _ _ _ _ _ h

/-- An enabled input that is active and not latched trips the cell: some latch is set and the outputs block. -/
theorem tripScan_hit {s : State} {c i : Nat} (hi : i < 4) (hin : (s.crd c Cell.TRIPSTAT.TIN).testBit i = true)
    (hen : (s.crd c Cell.TRIPCFG.TRIPEN).testBit i = true) (hnew : (s.crd c Cell.TRIPSTAT.TLATCH).testBit i = false) :
    Blocks c 0 (s.tripScan c) ∧ (s.tripScan c).crd c Cell.TRIPSTAT.TLATCH ≠ 0 := by
  unfold tripScan
  extract_lets hit s0
  have hmem : i ∈ hit := List.mem_filter.2 ⟨List.mem_range.2 hi, by simp [hin, hen, hnew]⟩
  have hlt : ∀ j ∈ hit, j < 4 := fun j hj => List.mem_range.1 (List.mem_filter.1 hj).1
  rw [if_neg (by rw [List.isEmpty_iff]; exact List.ne_nil_of_mem hmem)]
  refine ⟨Laws.cellBlock_state _ c 0 (by decide), ?_⟩
  rw [cellBlock_crd_other _ _ _ (by decide)]
  exact Laws.fold_tl c hit s0 hlt (.inr (List.ne_nil_of_mem hmem))

theorem tripInput_trips {s : State} {c i : Nat} (hup : s.cellUp c = true) (hi : i < 4)
    (hen : (s.crd c Cell.TRIPCFG.TRIPEN).testBit i = true) (hnew : (s.crd c Cell.TRIPSTAT.TLATCH).testBit i = false) :
    gives (exec (.tripInput c i) s) (fun t => Blocks c 0 t ∧ t.crd c Cell.TRIPSTAT.TLATCH ≠ 0) := by
  refine guarded_gives rfl hup (tripScan_hit hi ?active ?enabled ?fresh)
  case active =>
    rw [Nat.mod_eq_of_lt hi, crd_cwr_same _ _ _ _ (by decide)]
    exact Laws.setBit_test _ _ _ hi
  case enabled =>
    rw [crd_cwr_other _ _ _ _ _ (by decide)]
    exact hen
  case fresh =>
    rw [crd_cwr_other _ _ _ _ _ (by decide)]
    exact hnew

theorem tripInputInactive_clears (c i : Nat) (s : State) :
    gives (exec (.tripInputInactive c i) s) (fun t => (t.crd c Cell.TRIPSTAT.TIN).testBit (i % 4) = false) := by
  have hclear : ((s.cwr c Cell.TRIPSTAT.TIN (clrBit (s.crd c Cell.TRIPSTAT.TIN) (i % 4))).crd c
      Cell.TRIPSTAT.TIN).testBit (i % 4) = false := by
    rw [crd_cwr_same _ _ _ _ (by decide), Nat.testBit_mod_two_pow, Laws.clr_test, Bool.and_false]
  refine ⟨_, rfl, ?_⟩
  dsimp only
  split
  · rwa [syncTact_crd_other _ _ (by decide)]
  · exact hclear

/-! ## Power and self-test (R111 to R116, R148) -/

theorem afterReset_same (s : State) (c : Nat) : ((s.afterReset c).cell c).power = (s.cell c).power ∧
    ((s.cell c).carrier = none → ((s.afterReset c).cell c).carrier = none) := by
  obtain ⟨hgpow, -, hgcar⟩ := Laws.gsup_facts s c
  obtain ⟨htpow, htcar⟩ := Laws.tripScan_same (s.gsupCheck c) c
  obtain ⟨-, hpow, -⟩ := Laws.syncOut_same ((s.gsupCheck c).tripScan c) c
  exact ⟨hpow.trans (htpow.trans hgpow), fun h => (syncOut_carrier _ c).trans (htcar (hgcar h))⟩

theorem relatch_cell (s : State) (c : Nat) : (s.relatch c).cell c = s.cell c := by
  have hlatch : ∀ (u : State) (p : Prop) [Decidable p] (i : Nat), (if p then u.cellFlt c i else u).cell c = u.cell c :=
    fun u p _ i => by split <;> rfl
  unfold relatch
  simp only [hlatch]

/-- Writing the words of BIST_SIG changes only registers. -/
theorem foldl_cwr_cell (s : State) (c : Nat) (f : Nat → Fld) (v : Nat → Nat) (l : List Nat) :
    (l.foldl (fun s i => s.cwr c (f i) (v i)) s).cell c = s.cell c := by
  induction l generalizing s with
  | nil => rfl
  | cons i r ih => exact ih _

theorem bistEnd_stops {s : State} {c : Nat} (misr golden : BitVec 64) (hup : s.cellUp c = true)
    (hbusy : s.crd c Cell.BIST_STAT.BUSY ≠ 0) :
    gives (exec (.cellBistEnd c misr golden) s) (fun t => (t.cell c).carrier = none ∧
      (t.cell c).power = (s.cell c).power) := by
  refine guarded_gives rfl (Bool.and_eq_true_iff.2 ⟨hup, (Laws.con_iff _ _ _).2 hbusy⟩) ?_
  dsimp only
  rw [relatch_cell]
  constructor
  · exact (afterReset_same _ c).2 (by rw [Laws.modCell_cell])
  · rw [(afterReset_same _ c).1, Laws.modCell_cell]
    dsimp only
    rw [foldl_cwr_cell]
    rfl

theorem vauxOffFall_sleeps {s : State} {c : Nat} (hup : s.cellUp c = true) :
    gives (exec (.vauxOffFall c) s) (fun t => (t.cell c).power = .newt ∧ (t.cell c).vauxOn = false ∧
      (t.cell c).waiting = []) := by
  refine guarded_gives rfl (Bool.or_eq_true_iff.2 (.inr ((cellUp_modCell _ rfl).trans hup))) ?_
  obtain ⟨hpower, hvaux, hwait⟩ := Laws.fastStop_power (s.modCell c (fun x => { x with vauxOn := false })) c .newt
  exact ⟨hpower, hvaux.trans (by rw [Laws.modCell_cell]), hwait⟩

theorem newtColdStart_powers {s : State} {c : Nat} (hoff : (s.cell c).power = .off) :
    gives (exec (.newtColdStart c) s) (fun t => (t.cell c).power = .newt ∨ (t.cell c).power = .starting) := by
  refine guarded_gives rfl (beq_iff_eq.2 hoff) ?_
  refine (Laws.tryStart_power _ c).imp_left (fun h => h.trans ?_)
  rw [Laws.modCell_cell]

theorem vauxOnRise_starts {s : State} {c : Nat} (hnewt : (s.cell c).power = .newt)
    (hreq : s.crd c Cell.CSTAT.AWREQ ≠ 0) : gives (exec (.vauxOnRise c) s) (fun t => (t.cell c).power = .starting) :=
  ⟨_, rfl, Laws.tryStart_go _ c (by rw [Laws.modCell_cell]; exact hnewt) (by rw [Laws.modCell_cell])
    ((Laws.con_iff _ _ _).2 hreq)⟩

theorem wake_starts {s : State} {c : Nat} (hnewt : (s.cell c).power = .newt) (hvaux : (s.cell c).vauxOn = true) :
    gives (exec (.wake c) s) (fun t => (t.cell c).power = .starting) := by
  refine guarded_gives rfl (Bool.and_eq_true_iff.2 ⟨beq_iff_eq.2 hnewt, hvaux⟩) (Laws.tryStart_go _ c hnewt hvaux ?_)
  rw [Laws.con_iff, crd_cwr_same _ _ _ _ (by decide)]
  decide

theorem regulatorsInRange_acquires {s : State} {c : Nat} (h : (s.cell c).power = .starting) :
    gives (exec (.regulatorsInRange c) s) (fun t => (t.cell c).power = .acquire) := by
  refine guarded_gives rfl (beq_iff_eq.2 h) ((afterReset_same _ c).1.trans ?_)
  rw [cinc_cell, Laws.modCell_cell]

theorem newtBrownout_off (c : Nat) (s : State) :
    gives (exec (.newtBrownout c) s) (fun t => (t.cell c).power = .off ∧ t.laserAllowed c = false) := by
  obtain ⟨hpower, -⟩ := Laws.fastStop_power s c .off
  refine ⟨_, rfl, hpower, ?_⟩
  unfold laserAllowed
  rw [hpower]
  rfl

/-- Settles O41: each fault latches its cause and blocks as its operation does, and the power commands start and stop the
fast domain. -/
theorem cellFaults : Obligations.CellFaults := by
  unfold Obligations.CellFaults
  intro c s
  refine ⟨fun hl => ⟨lossOfLight_blocks hl, ?timeout, ?pll⟩, fun hup => ⟨txGuard_occults hup, ?parity, fun e => ?dupmis,
      guarded_gives rfl hup ⟨Laws.cellFlt_set _ c 9 (by decide), rfl⟩,
      guarded_gives rfl hup ⟨Laws.cellFlt_set _ c 12 (by decide), rfl⟩, gsupLow_blocks hup, gsupRestored_releases hup,
      fun i => tripInput_trips hup, fun misr golden => bistEnd_stops misr golden hup, vauxOffFall_sleeps hup⟩,
    fun i => tripInputInactive_clears c i s, newtColdStart_powers, vauxOnRise_starts, wake_starts,
    regulatorsInRange_acquires, newtBrownout_off c s⟩
  case timeout => exact guarded_gives rfl hl (Laws.blockFacts s c 3 3 (by decide) (by decide))
  case pll => exact fault_blocks rfl hl (by decide) (P := fun x => x.txOff = true) fun x htx _ => htx
  case parity => exact fault_blocks rfl hup (by decide) (P := fun x => x.waiting = []) fun x _ hwait => hwait
  case dupmis => exact guarded_gives rfl hup (Laws.blockFacts _ c 8 0 (by decide) (by decide))

end Sys2Proof.CellEvents
end

section
/-!
The command words of a cell (R117 to R135, R148, R149): when a word is dealt with, and what each opcode then does.
-/
namespace Sys2Proof.CellWords

open Sys2Proof Sys2Proof.Machine Sys2Proof.Machine.State Sys2Proof.CellLink Sys2Proof.CellSide Sys2Proof.CellEvents

/-! ## When a word is dealt with (R117 to R120) -/

/-- The word `e` is next at a linked cell that has not dealt with it before and runs no BIST. -/
structure Due (s : State) (c : Nat) (e : CmdEntry) : Prop where
  next : s.nextWord c = some e
  linked : s.cellLinked c = true
  fresh : s.duplicate c e = false
  idle : s.crd c Cell.BIST_STAT.BUSY = 0

/-- The state in which a word takes effect: it has left the buffer and its SEQ is the last accepted one. -/
abbrev dealt (s : State) (c : Nat) (e : CmdEntry) : State := (Laws.tailed s c).ackSeq c e

/-- The field is not part of LASTSEQ. -/
abbrev OffSeq (f : Fld) : Prop := f.key 0 ≠ Cell.LASTSEQ.SEQ.key 0 ∧ f.key 0 ≠ Cell.LASTSEQ.SEQV.key 0

theorem dealt_crd (s : State) (c : Nat) (e : CmdEntry) {f : Fld} (h : OffSeq f) : (dealt s c e).crd c f = s.crd c f :=
  Laws.a_crd _ _ _ _ (key_ne h.1 _) (key_ne h.2 _)

theorem dealt_con (s : State) (c : Nat) (e : CmdEntry) {f : Fld} (h : OffSeq f) : (dealt s c e).con c f = s.con c f :=
  Laws.a_con _ _ _ _ (key_ne h.1 _) (key_ne h.2 _)

/-- A refused word changes no register but LASTSEQ and shows BADCMD (R120). -/
abbrev Refused (s : State) (c : Nat) (e : CmdEntry) (t : State) : Prop :=
  (t.cell c).badcmd = true ∧ t.cregs = (s.ackSeq c e).cregs

theorem acmd_valid {e : CmdEntry} {op : Nat} (hplace : e.place = .acmd) (hop : opValid op .acmd = true) :
    opValid op e.place = true := hplace ▸ hop

section
variable {i : Instr} {s : State} {c op : Nat} {e : CmdEntry} {ok : State → Bool} {f g : State → State}

theorem word_waits (hexec : exec i s = .next (s.command c e op ok f g)) (h : s.nextWord c ≠ some e) :
    gives (exec i s) (fun t => t = s) :=
  ⟨_, hexec, Laws.cmd_skip _ _ _ _ _ _ _ h⟩

theorem word_repeated (hexec : exec i s = .next (s.command c e op ok f g)) (hnext : s.nextWord c = some e)
    (hop : cmdOp e.word = op) (hlinked : s.cellLinked c = true) (hdup : s.duplicate c e = true) :
    gives (exec i s) (fun t => t = Laws.tailed s c) :=
  ⟨_, hexec, Laws.cmd_dup _ _ _ _ _ _ _ hnext hop hlinked hdup⟩

/-- A word in its place executes where `Q` says that it is legal, and is refused elsewhere. -/
theorem word_decided {Q : Prop} [Decidable Q] {A : State → Prop}
    (hexec : exec i s = .next (s.command c e op ok f id)) (hd : Due s c e) (hop : cmdOp e.word = op)
    (hplace : opValid op e.place = true) (hok : ok (dealt s c e) = true ↔ Q) (hA : Q → A (f (dealt s c e))) :
    gives (exec i s) (fun t => if Q then A t else Refused s c e t) :=
  ⟨_, hexec, Laws.cmd_cases s c e op ok f hd.next hop hd.linked hd.fresh hd.idle hplace Q A hok hA⟩

theorem word_executed {A : State → Prop} (hexec : exec i s = .next (s.command c e op ok f g)) (hd : Due s c e)
    (hop : cmdOp e.word = op) (hplace : opValid op e.place = true) (hok : ok (dealt s c e) = true)
    (hA : A (f (dealt s c e))) : gives (exec i s) A := by
  refine ⟨_, hexec, ?_⟩
  rw [Laws.cmd_run _ _ _ _ _ _ _ hd.next hop hd.linked hd.fresh hd.idle, if_pos (by rw [hplace, hok]; rfl)]
  exact hA

/-- A word that `ok` refuses leaves what `g` does to the cell, which is nothing for every opcode but FIRE_BYPASS. -/
theorem word_refused {A : State → Prop} (hexec : exec i s = .next (s.command c e op ok f g)) (hd : Due s c e)
    (hop : cmdOp e.word = op) (hok : ok (dealt s c e) = false) (hA : A ((g (dealt s c e)).refuse c)) :
    gives (exec i s) A := by
  refine ⟨_, hexec, ?_⟩
  rw [Laws.cmd_run _ _ _ _ _ _ _ hd.next hop hd.linked hd.fresh hd.idle, if_neg (by rw [hok, Bool.and_false]; decide)]
  exact hA

end

section
variable {s : State} {c : Nat} {e : CmdEntry}

/-! ## NOP and the opcodes no word may carry (R117, R118) -/

theorem execNop_due (hd : Due s c e) (hop : cmdOp e.word = 0) :
    execNop c e s = .next (if cmdArg e.word = 0 then dealt s c e else (dealt s c e).refuse c) := by
  have hlinked : (Laws.tailed s c).cellLinked c = true := by
    unfold cellLinked Laws.tailed
    rw [cell_setCell]
    exact hd.linked
  have hfresh : (Laws.tailed s c).duplicate c e = false := hd.fresh
  unfold execNop
  rw [hop]
  dsimp only
  rw [if_pos rfl, if_pos hd.next, if_neg]
  · rfl
  · change ¬((!(Laws.tailed s c).cellLinked c || (Laws.tailed s c).duplicate c e) = true)
    simp [hlinked, hfresh]

theorem nop_reserved (hd : Due s c e) (hop : cmdOp e.word = 8 ∨ cmdOp e.word = 9 ∨ cmdOp e.word = 12 ∨ cmdOp e.word = 15) :
    gives (exec (.nop c e) s) (Refused s c e) := by
  have hexec : exec (.nop c e) s = .next (s.command c e (cmdOp e.word) (fun _ => false) id id) := by
    change execNop c e s = _
    unfold execNop
    dsimp only
    rw [if_neg (by omega), if_pos (by omega)]
  exact word_refused hexec hd rfl rfl (Laws.refused s c e)

theorem nop_due (hd : Due s c e) : gives (exec (.nop c e) s) (fun t =>
    (cmdOp e.word = 0 → cmdArg e.word = 0 → t = dealt s c e) ∧
    (cmdOp e.word = 8 ∨ cmdOp e.word = 9 ∨ cmdOp e.word = 12 ∨ cmdOp e.word = 15 → Refused s c e t)) := by
  by_cases hres : cmdOp e.word = 8 ∨ cmdOp e.word = 9 ∨ cmdOp e.word = 12 ∨ cmdOp e.word = 15
  · obtain ⟨t, ht, hrefused⟩ := nop_reserved hd hres
    exact ⟨t, ht, fun hop => by omega, fun _ => hrefused⟩
  · refine ⟨_, rfl, fun hop harg => ?_, fun h => absurd h hres⟩
    have hexec := execNop_due hd hop
    rw [if_pos harg] at hexec
    exact Host.Outcome.next.inj hexec

/-- The SEQ of an acknowledged NOP becomes the last accepted one, whether or not its operand bits refuse it (R85, R120). -/
theorem nop_accepts (hd : Due s c e) (q : BitVec 2) (hack : e.ack = some q) : gives (exec (.nop c e) s) (fun t =>
    cmdOp e.word = 0 → t.crd c Cell.LASTSEQ.SEQ = q.toNat ∧ t.crd c Cell.LASTSEQ.SEQV = 1) := by
  have hseq : (dealt s c e).crd c Cell.LASTSEQ.SEQ = q.toNat ∧ (dealt s c e).crd c Cell.LASTSEQ.SEQV = 1 := by
    unfold dealt ackSeq
    rw [hack]
    dsimp only
    rw [crd_cwr_other _ _ _ _ _ (by decide), crd_cwr_same _ _ _ _ (by decide), crd_cwr_same _ _ _ _ (by decide)]
    exact ⟨Nat.mod_eq_of_lt q.isLt, rfl⟩
  refine ⟨_, rfl, fun hop => ?_⟩
  rw [Host.Outcome.next.inj (execNop_due hd hop)]
  split
  · exact hseq
  · exact hseq

/-! ## States, carrier and force (R122, R126, R127, R129) -/

theorem setState_due (hd : Due s c e) (hop : cmdOp e.word = 1) : gives (exec (.setState c e) s) (fun t =>
    if cmdArg e.word < 4 ∧ s.mayState c (cmdArg e.word) = true then
      t.crd c Cell.CSTAT.STATE = cmdArg e.word ∧ t.crd c Cell.CSTAT.BLKCAUSE = 0 ∧ (t.cell c).carrier = none
    else Refused s c e t) := by
  refine word_decided rfl hd hop rfl ?legal fun ⟨hlt, _⟩ => ⟨?state, ?cause, ?carrier⟩
  case legal => rw [Laws.a_may, Bool.and_eq_true, decide_eq_true_iff]
  case state =>
    rw [syncOut_crd_other _ _ (by decide), crd_cwr_other _ _ _ _ _ (by decide), crd_cwr_same _ _ _ _ (by decide)]
    exact Nat.mod_eq_of_lt hlt
  case cause =>
    rw [syncOut_crd_other _ _ (by decide)]
    exact crd_cwr_same _ _ _ _ (by decide)
  case carrier =>
    rw [syncOut_carrier, Laws.cwr_cell, Laws.cwr_cell, Laws.modCell_cell]

theorem startPeriod_crd_other (u : State) {f : Fld} (h : OffOutputs f) : (u.startPeriod c).crd c f = u.crd c f :=
  Laws.startPeriod_crd _ _ _ (key_ne (h _ (by decide)) _) (key_ne (h _ (by decide)) _) (key_ne (h _ (by decide)) _)

theorem cellSyncPair_crd_other (u : State) {f : Fld} (h : f.key 0 ≠ Cell.CSTAT.PAIRPEND.key 0) :
    (u.cellSyncPair c).crd c f = u.crd c f :=
  crd_cwr_other _ _ _ _ _ h

theorem setPwm_due (hd : Due s c e) (hop : cmdOp e.word = 2) (hplace : e.place ≠ .bcast) :
    gives (exec (.setPwm c e) s) (fun t =>
      let st := if toSigned (cmdArg e.word / 65536) 10 < 0 then 2 else 1
      if s.mayState c st = true ∧ 2 * s.dt c + 64 ≤ cmdArg e.word % 65536 then
        t.crd c Cell.CSTAT.STATE = st ∧ t.crd c Cell.PWM_APER.PER = cmdArg e.word % 65536 ∧
          t.crd c Cell.PWM_ADUTY.DUTY = cmdArg e.word / 65536 % 1024
      else Refused s c e t) := by
  have hvalid : opValid 2 e.place = true := by
    cases h : e.place with
    | bcast => exact absurd h hplace
    | slot => rfl
    | acmd => rfl
  refine word_decided rfl hd hop hvalid ?legal fun _ => ?effect
  case legal => rw [Laws.a_may, Laws.a_dt, Bool.and_eq_true, decide_eq_true_iff]
  case effect =>
    dsimp only
    simp (disch := decide) only [startPeriod_crd_other, cellSyncPair_crd_other, crd_cwr_other, crd_cwr_same]
    refine ⟨?_, Nat.mod_mod _ _, rfl⟩
    split <;> rfl

theorem force_due (hd : Due s c e) (hop : cmdOp e.word = 3) (hplace : e.place = .acmd) :
    gives (exec (.force c e) s) (fun t =>
      if cmdArg e.word < 32 ∧ s.crd c Cell.CFG.FORCE_PERM ≠ 0 ∧ s.badLevel c (cmdArg e.word % 16) = false then
        t.crd c Cell.FORCE.LEVEL = cmdArg e.word % 16 ∧ t.crd c Cell.FORCE.FEN = cmdArg e.word / 16
      else Refused s c e t) := by
  refine word_decided rfl hd hop (acmd_valid hplace rfl) ?legal fun ⟨hlt, _⟩ => ⟨?level, ?fen⟩
  case legal =>
    rw [dealt_con _ _ _ (by decide), Laws.a_bad, Bool.and_eq_true, Bool.and_eq_true, decide_eq_true_iff, Laws.con_iff,
      Bool.not_eq_true', and_assoc]
  case level =>
    rw [Laws.crd_modCell, crd_cwr_other _ _ _ _ _ (by decide), crd_cwr_same _ _ _ _ (by decide)]
    exact Nat.mod_mod _ _
  case fen =>
    rw [Laws.crd_modCell, crd_cwr_same _ _ _ _ (by decide)]
    exact Nat.mod_eq_of_lt (show _ < 2 by omega)

/-! ## Trips and registers (R121, R133) -/

theorem clearTrip_due (hd : Due s c e) (hop : cmdOp e.word = 4) (hplace : e.place ≠ .slot) (harg : cmdArg e.word < 16)
    (hin : s.crd c Cell.TRIPSTAT.TIN &&& s.crd c Cell.TRIPCFG.TRIPEN &&& cmdArg e.word = 0) :
    gives (exec (.clearTrip c e) s) (fun t => t.crd c Cell.TRIPSTAT.TLATCH =
      (s.crd c Cell.TRIPSTAT.TLATCH - (s.crd c Cell.TRIPSTAT.TLATCH &&& cmdArg e.word)) % 16) := by
  have hvalid : opValid 4 e.place = true := by
    cases h : e.place with
    | slot => exact absurd h hplace
    | acmd => rfl
    | bcast => rfl
  refine word_executed rfl hd hop hvalid ?legal ?effect
  case legal => rw [dealt_crd _ _ _ (by decide), dealt_crd _ _ _ (by decide), hin, decide_eq_true harg]; rfl
  case effect =>
    dsimp only
    rw [syncOut_crd_other _ _ (by decide), crd_cwr_same _ _ _ _ (by decide), dealt_crd _ _ _ (by decide)]
    rfl

/-- What a register reads depends on the registers of the cell alone. -/
theorem cellReg_congr {u v : State} (h : u.cregs = v.cregs) (c a : Nat) : u.cellReg c a = v.cellReg c a := by
  have hcrd : ∀ f, u.crd c f = v.crd c f := fun f => by
    unfold crd
    rw [h]
  unfold cellReg
  simp only [hcrd]

theorem readReg_due (hd : Due s c e) (hop : cmdOp e.word = 5) (hplace : e.place = .acmd)
    (hlow : cmdArg e.word % 65536 = 0) : gives (exec (.readReg c e) s) (fun t =>
      if cmdArg e.word / 65536 < 256 then (t.cell c).rdv = true ∧ (t.cell c).raddr = cmdArg e.word / 65536 ∧
        (t.cell c).rdata = (s.ackSeq c e).cellReg c (cmdArg e.word / 65536)
      else Refused s c e t) := by
  have haddr : bits (cmdArg e.word) 23 16 = cmdArg e.word / 65536 % 256 := rfl
  refine word_decided rfl hd hop (acmd_valid hplace rfl) ?legal fun hlt => ?effect
  case legal =>
    rw [haddr, beq_iff_eq]
    omega
  case effect =>
    rw [Laws.modCell_cell, haddr, Nat.mod_eq_of_lt hlt]
    exact ⟨rfl, rfl, cellReg_congr (Laws.tailed_cregs s c e) c _⟩

theorem writeReg_reserved (hd : Due s c e) (hop : cmdOp e.word = 6) (harg : 2 ^ 24 ≤ cmdArg e.word) :
    gives (exec (.writeReg c e) s) (Refused s c e) :=
  word_refused rfl hd hop (decide_eq_false (Nat.not_lt.2 harg)) (Laws.refused s c e)

/-- FLT_MASK has one field, which takes what is written (R149). -/
theorem cellWrite_fltMask (u : State) (c v : Nat) : u.cellWrite c 7 v = u.cwr c Cell.FLT_MASK.MASK (v / 2 ^ 0 % 2 ^ 13) := rfl

theorem writeReg_fltMask {v : Nat} (hd : Due s c e) (hv : v < 8192) (hop : cmdOp e.word = 6) (hplace : e.place = .acmd)
    (harg : cmdArg e.word = 7 * 65536 + v) :
    gives (exec (.writeReg c e) s) (fun t => t.crd c Cell.FLT_MASK.MASK = v) := by
  have haddr : bits (cmdArg e.word) 23 16 = 7 := by
    change cmdArg e.word / 65536 % 256 = 7
    omega
  refine word_executed rfl hd hop (acmd_valid hplace rfl) (decide_eq_true (by omega)) ?_
  rw [haddr, cellWrite_fltMask, crd_cwr_same _ _ _ _ (by decide)]
  change cmdArg e.word % 65536 / 1 % 8192 % 8192 = v
  omega

/-! ## SLEEP, self-test and bypass (R116, R135, R148) -/

theorem sleep_due (hd : Due s c e) (hop : cmdOp e.word = 10) (hplace : e.place = .acmd) (harg : cmdArg e.word = 2 ^ 24)
    (hblock : s.crd c Cell.CSTAT.STATE = 3) : gives (exec (.sleep c e) s) (fun t => (t.cell c).power = .newt) := by
  refine word_executed rfl hd hop (acmd_valid hplace rfl) ?legal ?effect
  case legal => rw [dealt_crd _ _ _ (by decide), hblock, harg]; rfl
  case effect =>
    rw [harg]
    obtain ⟨hpower, -⟩ := Laws.fastStop_power (((dealt s c e).setOcc c).cwr c Cell.CSTAT.AWREQ 0) c .newt
    exact hpower

theorem bistStart_due (hd : Due s c e) (hop : cmdOp e.word = 11) (hplace : e.place = .acmd) (harg : cmdArg e.word < 3)
    (hblock : s.crd c Cell.CSTAT.STATE = 3) : gives (exec (.bistStart c e) s) (fun t =>
      t.crd c Cell.BIST_STAT.BUSY = 1 ∧ t.crd c Cell.BIST_STAT.TYPE = cmdArg e.word ∧ t.crd c Cell.CSTAT.BYPA = 0 ∧
        (t.cell c).pat = 0) := by
  refine word_executed rfl hd hop (acmd_valid hplace rfl) ?legal ⟨?busy, ?type, ?bypa, ?pat⟩
  case legal => rw [dealt_crd _ _ _ (by decide), hblock, decide_eq_true harg]; rfl
  case busy =>
    rw [cellBlock_crd_other _ _ _ (by decide), crd_cwr_other _ _ _ _ _ (by decide), crd_cwr_other _ _ _ _ _ (by decide)]
    exact crd_cwr_same _ _ _ _ (by decide)
  case type =>
    rw [cellBlock_crd_other _ _ _ (by decide), crd_cwr_other _ _ _ _ _ (by decide), crd_cwr_same _ _ _ _ (by decide)]
    exact Nat.mod_eq_of_lt (Nat.lt_succ_of_lt harg)
  case bypa =>
    rw [cellBlock_crd_other _ _ _ (by decide)]
    exact crd_cwr_same _ _ _ _ (by decide)
  case pat =>
    refine cellBlock_low 7 (.inr (.inr ?_))
    rw [Laws.cwr_cell, Laws.cwr_cell, Laws.cwr_cell, Laws.modCell_cell]

theorem armBypass_due (hd : Due s c e) (hop : cmdOp e.word = 13) (hplace : e.place = .acmd) (hpos : 0 < cmdArg e.word)
    (hlt : cmdArg e.word < 256) : gives (exec (.armBypass c e) s) (fun t => t.crd c Cell.CSTAT.BYPA = 1 ∧
      (t.cell c).key = cmdArg e.word ∧ t.crd c Cell.CSTAT.BYPF = s.crd c Cell.CSTAT.BYPF) := by
  refine word_executed rfl hd hop (acmd_valid hplace rfl) ?legal ⟨?armed, ?key, ?fired⟩
  case legal => rw [decide_eq_true hpos, decide_eq_true hlt]; rfl
  case armed =>
    rw [Laws.crd_modCell]
    exact crd_cwr_same _ _ _ _ (by decide)
  case key => rw [Laws.modCell_cell]
  case fired => rw [Laws.crd_modCell, crd_cwr_other _ _ _ _ _ (by decide), dealt_crd _ _ _ (by decide)]

theorem cellBlock_byp (u : State) (c v : Nat) : ((u.cellBlock c v).cell c).byp = (u.cell c).byp := by
  obtain ⟨-, -, -, -, -, hbyp, -⟩ := Laws.cellBlock_same u c v
  exact hbyp

/-- A bypass that has fired is a block source (R123). -/
theorem blocked_of_fired {u : State} (h : u.crd c Cell.CSTAT.BYPF = 1) : u.blocked c = true := by
  unfold blocked
  rw [(Laws.con_iff u c _).2 (by rw [h]; decide)]
  exact Bool.or_true _

theorem fireBypass_fires (hd : Due s c e) (hop : cmdOp e.word = 14) (hplace : e.place = .acmd) (hpos : 0 < cmdArg e.word)
    (harmed : s.crd c Cell.CSTAT.BYPA ≠ 0) (hkey : (s.cell c).key = cmdArg e.word) :
    gives (exec (.fireBypass c e) s) (fun t => t.crd c Cell.CSTAT.BYPA = 0 ∧ t.crd c Cell.CSTAT.BYPF = 1 ∧
      (t.cell c).byp = true ∧ (t.cell c).pat = 0) := by
  refine word_executed rfl hd hop (acmd_valid hplace rfl) ?legal ⟨?bypa, ?bypf, ?byp, ?pat⟩
  case legal =>
    rw [dealt_con _ _ _ (by decide), (Laws.con_iff s c _).2 harmed, Laws.a_cell, decide_eq_true hpos]
    exact beq_iff_eq.2 hkey
  case bypa =>
    rw [cellBlock_crd_other _ _ _ (by decide)]
    exact crd_cwr_same _ _ _ _ (by decide)
  case bypf =>
    rw [cellBlock_crd_other _ _ _ (by decide), crd_cwr_other _ _ _ _ _ (by decide)]
    exact crd_cwr_same _ _ _ _ (by decide)
  case byp =>
    rw [cellBlock_byp, Laws.cwr_cell, Laws.cwr_cell, Laws.modCell_cell]
  case pat =>
    refine Laws.cellBlock_pat _ _ _ (blocked_of_fired ?_)
    rw [crd_cwr_other _ _ _ _ _ (by decide)]
    exact crd_cwr_same _ _ _ _ (by decide)

theorem fireBypass_disarms (hd : Due s c e) (hop : cmdOp e.word = 14)
    (hbad : ¬(s.crd c Cell.CSTAT.BYPA ≠ 0 ∧ (s.cell c).key = cmdArg e.word)) :
    gives (exec (.fireBypass c e) s) (fun t => t.crd c Cell.CSTAT.BYPA = 0 ∧
      t.crd c Cell.CSTAT.BYPF = s.crd c Cell.CSTAT.BYPF ∧ (t.cell c).badcmd = true) := by
  refine word_refused rfl hd hop ?illegal ⟨crd_cwr_same _ _ _ _ (by decide), ?fired, ?told⟩
  case illegal =>
    rw [dealt_con _ _ _ (by decide), Laws.a_cell, Bool.and_assoc]
    refine Bool.and_eq_false_iff.2 (.inr (Bool.eq_false_iff.2 fun h => hbad ?_))
    rwa [Bool.and_eq_true, Laws.con_iff, beq_iff_eq] at h
  case fired =>
    refine (crd_cwr_other _ _ _ _ _ (by decide)).trans ?_
    exact dealt_crd _ _ _ (by decide)
  case told => exact congrArg Cell.badcmd (Laws.modCell_cell _ _ _)

theorem fireBypass_due (hd : Due s c e) (hop : cmdOp e.word = 14) (hplace : e.place = .acmd) (hpos : 0 < cmdArg e.word) :
    gives (exec (.fireBypass c e) s) (fun t => t.crd c Cell.CSTAT.BYPA = 0 ∧
      if s.crd c Cell.CSTAT.BYPA ≠ 0 ∧ (s.cell c).key = cmdArg e.word then
        t.crd c Cell.CSTAT.BYPF = 1 ∧ (t.cell c).byp = true ∧ (t.cell c).pat = 0
      else t.crd c Cell.CSTAT.BYPF = s.crd c Cell.CSTAT.BYPF ∧ (t.cell c).badcmd = true) := by
  split
  case isTrue h => exact fireBypass_fires hd hop hplace hpos h.1 h.2
  case isFalse h => exact fireBypass_disarms hd hop h

end

/-! ## The ends of the bypass windows and the clears of CLR (R135, R149) -/

theorem bypassWindowExpiry_disarms (c : Nat) (s : State) :
    gives (exec (.bypassWindowExpiry c) s) (fun t => s.cellUp c = true → t.crd c Cell.CSTAT.BYPA = 0) := by
  refine ⟨_, rfl, fun hup => ?_⟩
  rw [if_pos hup]
  exact crd_cwr_same _ _ _ _ (by decide)

theorem bypPulseEnd_lowers (c : Nat) (s : State) :
    gives (exec (.bypPulseEnd c) s) (fun t => (t.cell c).byp = false ∧ t.cregs = s.cregs) :=
  ⟨_, rfl, congrArg Cell.byp (Laws.modCell_cell _ _ _), rfl⟩

/-- The counters of the cell read zero (R149). -/
abbrev CountersClear (c : Nat) (t : State) : Prop :=
  t.crd c Cell.FSTART.COUNT = 0 ∧ t.crd c Cell.LOLCNT.COUNT = 0 ∧ t.crd c Cell.GUARDCNT.COUNT = 0 ∧
    ∀ i, i < 4 → t.crd c (Cell.TRIPCNT.COUNT.at i) = 0

theorem crd_cwr_zero (s : State) (c : Nat) (f : Fld) : (s.cwr c f 0).crd c f = 0 := by
  rw [crd_cwr, if_pos rfl, Nat.zero_mod, Nat.zero_mod]

/-- A field that reads zero still does when any field is cleared. -/
theorem cwr_zero_keeps {s : State} {c : Nat} {f : Fld} (g : Fld) (h : s.crd c f = 0) : (s.cwr c g 0).crd c f = 0 := by
  rw [crd_cwr]
  split
  · rw [Nat.zero_mod, Nat.zero_mod]
  · exact h

theorem foldl_clears {s : State} {c : Nat} {f : Fld} (F : Nat → Fld) (l : List Nat)
    (h : s.crd c f = 0 ∨ ∃ i ∈ l, F i = f) : (l.foldl (fun s i => s.cwr c (F i) 0) s).crd c f = 0 := by
  induction l generalizing s with
  | nil => exact h.resolve_right (by simp)
  | cons j r ih =>
    refine ih ?_
    rcases h with h | ⟨i, hi, rfl⟩
    · exact .inl (cwr_zero_keeps _ h)
    · rcases List.mem_cons.1 hi with rfl | hi
      · exact .inl (crd_cwr_zero _ _ _)
      · exact .inr ⟨i, hi, rfl⟩

theorem cellCntClr_clears (s : State) (c : Nat) : CountersClear c (s.cellCntClr c) := by
  unfold cellCntClr
  refine ⟨?fstart, cwr_zero_keeps _ (crd_cwr_zero _ _ _), crd_cwr_zero _ _ _, fun i hi => ?trips⟩
  case fstart => exact cwr_zero_keeps _ (cwr_zero_keeps _ (foldl_clears _ _ (.inl (crd_cwr_zero _ _ _))))
  case trips => exact cwr_zero_keeps _ (cwr_zero_keeps _ (foldl_clears _ _ (.inr ⟨i, List.mem_range.2 hi, rfl⟩)))

theorem cellClrcnt_clears (c : Nat) (s : State) :
    gives (exec (.cellClrcnt c) s) (fun t => s.cellUp c = true → CountersClear c t) := by
  refine ⟨_, rfl, fun hup => ?_⟩
  rw [if_pos hup]
  exact cellCntClr_clears s c

theorem bypfClr_keyed {s : State} {c : Nat} (v : Half) (hup : s.cellUp c = true) :
    gives (exec (.bypfClr c v) s) (fun t =>
      if v.toNat.testBit 1 = true ∧ v.toNat / 256 % 256 = 0xB5 then t.crd c Cell.CSTAT.BYPF = 0 else t = s) := by
  refine guarded_gives rfl hup ?_
  unfold bypfClear
  by_cases h : v.toNat.testBit 1 = true ∧ v.toNat / 256 % 256 = 0xB5
  · rw [if_pos h, if_pos (by rw [Bool.and_eq_true, beq_iff_eq]; exact h), syncOut_crd_other _ _ (by decide)]
    exact crd_cwr_same _ _ _ _ (by decide)
  · rw [if_neg h, if_neg (by rw [Bool.and_eq_true, beq_iff_eq]; exact h)]

/-- Settles O38: a word before its turn does nothing, a repeated one only leaves the buffer, and each other executes where
it is legal and is refused elsewhere. -/
theorem cellCommands : Obligations.CellCommands := by
  unfold Obligations.CellCommands
  intro c e s
  refine ⟨⟨fun h => ?early, fun hnext hlinked hdup hop => word_repeated rfl hnext hop hlinked hdup,
      fun hnext hlinked hfresh hidle => ?due⟩,
    bypassWindowExpiry_disarms c s, bypPulseEnd_lowers c s, cellClrcnt_clears c s, bypfClr_keyed⟩
  case early =>
    exact ⟨word_waits rfl h, word_waits rfl h, word_waits rfl h, word_waits rfl h, word_waits rfl h, word_waits rfl h,
      word_waits rfl h, word_waits rfl h, word_waits rfl h, word_waits rfl h⟩
  case due =>
    have hd : Due s c e := ⟨hnext, hlinked, hfresh, hidle⟩
    exact ⟨nop_due hd, setState_due hd, setPwm_due hd, force_due hd, clearTrip_due hd, readReg_due hd, nop_accepts hd,
      fun hop _ => writeReg_reserved hd hop, fun v => writeReg_fltMask hd, sleep_due hd, bistStart_due hd,
      armBypass_due hd, fireBypass_due hd⟩

end Sys2Proof.CellWords
end

section
/-!
The arm modulators (R153 to R179): where their registers lie, what an event leaves alone, the clears of the counters, of an
age flag and of an exclusion, and the reports of a stale reference, of an implausible cell and of a memory error.
-/
namespace Sys2Proof.Modulators

open Sys2Proof Sys2Proof.Machine Sys2Proof.Machine.State Sys2Proof.CellLink

/-! ## Where the registers of a modulator lie (R22, R174 to R176) -/

/-- The field lies inside the 4 KiB of global registers (R174). -/
abbrev GlobalFld (f : Fld) : Prop := f.off < 0x1000 ∧ f.lsb < 32

/-- The field lies inside the 256 bytes of one arm (R175). -/
abbrev ArmFld (f : Fld) : Prop := f.off < 0x100 ∧ f.lsb < 32

theorem key_ne_of_word_ne {f g : Fld} {b c : Nat} (hf : f.lsb < 32) (hg : g.lsb < 32) (h : b + f.off ≠ c + g.off) :
    f.key b ≠ g.key c := by
  unfold Fld.key
  omega

theorem arm_key_ne_global {f g : Fld} (hf : f.lsb < 32) (hg : GlobalFld g) (k a : Nat) : f.key (armB k a) ≠ g.key (modB k) :=
  key_ne_of_word_ne hf hg.2 (by unfold armB modB; omega)

theorem table_key_ne_global {f g : Fld} (hf : f.lsb < 32) (hg : GlobalFld g) (k c : Nat) : f.key (ctB k c) ≠ g.key (modB k) :=
  key_ne_of_word_ne hf hg.2 (by unfold ctB modB; omega)

theorem table_key_ne_arm {f g : Fld} {a : Nat} (hf : f.lsb < 32) (hg : ArmFld g) (ha : a < 6) (k c : Nat) :
    f.key (ctB k c) ≠ g.key (armB k a) :=
  key_ne_of_word_ne hf hg.2 (by unfold ctB armB; omega)

/-- The blocks of a K-die lie above the register of the power unit that says which dies are up (R22, R457). -/
theorem dieStat_key_ne {b : Nat} (hb : 0x30000000 ≤ b) (g : Fld) :
    Pwr.DIE_STAT.RDY.key pwrB ≠ g.key b ∧ Pwr.DIE_STAT.BUSY.key pwrB ≠ g.key b := by
  have hbound : Pwr.DIE_STAT.RDY.key pwrB < 0x30000000 * 32 ∧ Pwr.DIE_STAT.BUSY.key pwrB < 0x30000000 * 32 := by decide
  rw [show g.key b = (b + g.off) * 32 + g.lsb from rfl]
  omega

theorem modB_high (k : Nat) : 0x30000000 ≤ modB k := by
  unfold modB kB
  omega

theorem armB_high (k a : Nat) : 0x30000000 ≤ armB k a := by
  unfold armB kB
  omega

theorem ctB_high (k c : Nat) : 0x30000000 ≤ ctB k c := by
  unfold ctB kB
  omega

/-! ## Which sources can fire after a write or an event (R177, R351) -/

theorem wr_canFire (s : State) {b : Nat} (hb : 0x30000000 ≤ b) (f : Fld) (v n : Nat) :
    (s.wr b f v).canFire n = s.canFire n :=
  Laws.wr_canFire _ _ _ _ _ (dieStat_key_ne hb f).1 (dieStat_key_ne hb f).2

theorem modRaise_canFire (s : State) (k : Nat) {b : Nat} (hb : 0x30000000 ≤ b) (ev en : Fld) (i e n : Nat) :
    (s.modRaise k b ev en i e).canFire n = s.canFire n := by
  obtain ⟨hpwr, hpart⟩ := Laws.modRaise_same s k b ev en i e
  obtain ⟨hrdy, hbusy⟩ := dieStat_key_ne hb ev
  exact canFire_congr n hpwr hpart (Laws.modRaise_rd _ _ _ _ _ _ _ _ _ hrdy) (Laws.modRaise_rd _ _ _ _ _ _ _ _ _ hbusy)

theorem fireK_rd (s : State) (k n b : Nat) (f : Fld) : (s.fireK k n).rd b f = s.rd b f := rd_fire _ _ _ _

theorem fireK_arm (s : State) (j n k a : Nat) : (s.fireK j n).arm k a = s.arm k a := by
  unfold fireK fire
  split <;> rfl

/-! ## Commands of a modulator that is up (R156) -/

section
variable {i : Instr} {s : State} {k : Nat} {f : State → State} {P : State → Prop}

theorem onMod_gives (hexec : exec i s = .next (s.onMod k f)) (hk : k < 2) (hup : s.dieUp k = true) (hP : P (f s)) :
    gives (exec i s) P :=
  ⟨_, hexec, by rwa [Laws.onMod_up hk hup]⟩

/-- A register write to the modulator also ends the access of its master (R31). -/
theorem onMod_retire_gives {w : Wr} {addr : Nat} (hexec : exec i s = .next ((s.onMod k f).retire w addr)) (hk : k < 2)
    (hup : s.dieUp k = true) (hP : P ((f s).retire w addr)) : gives (exec i s) P :=
  ⟨_, hexec, by rwa [Laws.onMod_up hk hup]⟩

end

/-! ## The clears (R166, R174 to R176) -/

theorem ageClear_clears (s : State) (k : Nat) : (s.ageClear k).rd (modB k) Mod.CV_STAT.AGE = 0 ∧
    ((s.ageClear k).est k (s.rd (modB k) Mod.CV_STAT.SELD)).age = false := by
  unfold ageClear
  dsimp only
  rw [Laws.est_wr]
  split
  case isTrue =>
    refine ⟨?_, congrArg CellEst.age (Laws.est_setEst _ _ _ _)⟩
    rw [rd_wr_other _ _ _ _ _ (by decide), rd_modEst]
    exact rd_wr_same _ _ _ _ (by decide)
  case isFalse hage => exact ⟨rd_wr_same _ _ _ _ (by decide), Bool.eq_false_iff.2 hage⟩

theorem pfxClear_clears (s : State) (k c : Nat) : (s.pfxClear k c).rd (ctB k c) Ct.CMAP.PFX = 0 ∧
    (s.pfxClear k c).rd (ctB k c) Ct.CEST.PFCNT = 0 := by
  unfold pfxClear
  refine ⟨?_, rd_wr_same _ _ _ _ (by decide)⟩
  rw [rd_wr_other _ _ _ _ _ (by decide)]
  exact rd_wr_same _ _ _ _ (by decide)

/-! ## The reports (R156, R159, R166, R179) -/

/-- R179: a corrected error is noted and reported. -/
theorem modRam_corrected (s : State) (k c : Nat) : (s.modRam k c false).rd (modB k) Mod.MOD_STAT.RAMCE = 1 ∧
    s.fires (s.modRam k c false) (0x06C + 0x40 * k) :=
  ⟨(fireK_rd _ _ _ _ _).trans (rd_wr_same _ _ _ _ (by decide)), fires_of _ (wr_canFire _ (modB_high k) _ _ _)⟩

/-- A cell that is not mapped has no arm to block. -/
theorem modRam_unmapped {s : State} {k c : Nat} (hmap : s.mappedOn k c = false) : s.modRam k c true =
    ((s.wr (modB k) Mod.MOD_STAT.RAMUE 1).wr (ctB k c) Ct.CMAP.SEED 0).fireK k 0x06D := by
  have hmap' : ((s.wr (modB k) Mod.MOD_STAT.RAMUE 1).wr (ctB k c) Ct.CMAP.SEED 0).mappedOn k c = false := by
    rw [← hmap]
    unfold mappedOn on
    rw [rd_wr_other _ _ _ _ _ (by decide), rd_wr_ne _ _ _ _ _ _ (table_key_ne_global (by decide) (by decide) k c)]
  unfold modRam
  dsimp only
  rw [if_neg (by decide), hmap', if_neg (by decide)]

/-- R156, R179: an uncorrectable error is noted and reported, and the cell is no longer learned. -/
theorem modRam_uncorrectable {s : State} {k c : Nat} (hmap : s.mappedOn k c = false) :
    (s.modRam k c true).rd (modB k) Mod.MOD_STAT.RAMUE = 1 ∧ (s.modRam k c true).rd (ctB k c) Ct.CMAP.SEED = 0 ∧
      s.fires (s.modRam k c true) (0x06D + 0x40 * k) := by
  rw [modRam_unmapped hmap]
  refine ⟨?noted, ?unlearned, fires_of _ ?able⟩
  case noted =>
    rw [fireK_rd, rd_wr_ne _ _ _ _ _ _ (table_key_ne_global (by decide) (by decide) k c).symm]
    exact rd_wr_same _ _ _ _ (by decide)
  case unlearned =>
    rw [fireK_rd]
    exact rd_wr_same _ _ _ _ (by decide)
  case able => rw [wr_canFire _ (ctB_high k c), wr_canFire _ (modB_high k)]

/-- R166: the cell is excluded and its arm counts it. -/
theorem exclude_marks {s : State} {k a c : Nat} (ha : a < 6) (hpfx : s.rd (ctB k c) Ct.CMAP.PFX = 0) :
    (s.exclude k a c).rd (ctB k c) Ct.CMAP.PFX = 1 ∧ (s.exclude k a c).rd (armB k a) Arm.ARM_CNT1.PFXCNT =
      min (s.rd (armB k a) Arm.ARM_CNT1.PFXCNT + 1) 65535 := by
  have hoff : ¬s.on (ctB k c) Ct.CMAP.PFX = true := fun h => (Laws.on_iff _ _ _).1 h hpfx
  have hne : Ct.CMAP.PFX.key (ctB k c) ≠ Arm.ARM_CNT1.PFXCNT.key (armB k a) := table_key_ne_arm (by decide) (by decide) ha k c
  unfold exclude modEvt
  rw [if_neg hoff, inc_eq]
  refine ⟨?excluded, ?counted⟩
  case excluded =>
    rw [fireK_rd, Laws.modRaise_rd _ _ _ _ _ _ _ _ _ (table_key_ne_global (by decide) (by decide) k c),
      rd_wr_ne _ _ _ _ _ _ hne]
    exact rd_wr_same _ _ _ _ (by decide)
  case counted =>
    rw [fireK_rd, Laws.modRaise_rd _ _ _ _ _ _ _ _ _ (arm_key_ne_global (by decide) (by decide) k a),
      rd_wr_same _ _ _ _ (by decide), rd_wr_ne _ _ _ _ _ _ hne.symm]
    exact Laws.mod_min _ _ 16 (by decide)

theorem armEvt_rd_arm (s : State) (k a i : Nat) {f : Fld} (h : f.key 0 ≠ Arm.ARM_EVT.EVT.key 0) :
    (s.armEvt k a i).rd (armB k a) f = s.rd (armB k a) f :=
  Laws.modRaise_rd _ _ _ _ _ _ _ _ _ (key_ne h _)

/-- The arm has REFACT = 0, so it is not blocked. -/
theorem goStale_unacted {s : State} {k a : Nat} (hact : s.rd (armB k a) Arm.ARM_CTL.REFACT = 0) : s.goStale k a =
    (((s.modArm k a (fun x => { x with stale := true })).wr (armB k a) Arm.ARM_STAT.REFSTALE 1).armEvt k a 3).fireK k
      0x06A := by
  unfold goStale on
  dsimp only
  rw [fireK_rd, armEvt_rd_arm _ _ _ _ (by decide), rd_wr_other _ _ _ _ _ (by decide), rd_modArm, hact, bne_self_eq_false,
    Bool.false_and]
  exact if_neg Bool.false_ne_true

/-- R159: a stale reference is noted and reported. -/
theorem goStale_tells {s : State} {k a : Nat} (hact : s.rd (armB k a) Arm.ARM_CTL.REFACT = 0) :
    (s.goStale k a).rd (armB k a) Arm.ARM_STAT.REFSTALE = 1 ∧ ((s.goStale k a).arm k a).stale = true ∧
      s.fires (s.goStale k a) (0x06A + 0x40 * k) := by
  rw [goStale_unacted hact]
  refine ⟨?noted, ?kept, fires_of _ ?able⟩
  case noted =>
    rw [fireK_rd, armEvt_rd_arm _ _ _ _ (by decide)]
    exact rd_wr_same _ _ _ _ (by decide)
  case kept =>
    rw [fireK_arm, armEvt, Laws.modRaise_arm, Laws.arm_wr]
    exact congrArg ArmSt.stale (Laws.arm_setArm _ _ _ _)
  case able =>
    rw [armEvt, modRaise_canFire _ _ (armB_high k a), wr_canFire _ (armB_high k a)]
    rfl

/-! ## The pass (R152, R168, R169, R173) -/

/-- A command that writes no memory leaves all three of them, and the queue. -/
theorem gives_frame {i : Instr} {s : State} (hw : Laws.writes i = false) :
    gives (exec i s) (fun t => t.mem = s.mem ∧ t.nor = s.nor ∧ t.mram = s.mram ∧ t.pending = s.pending) := by
  obtain ⟨t, ht⟩ := Laws.complete i s
  exact ⟨t, ht, Laws.kx (Laws.execKeeps i s hw) ht⟩

/-- Settles O29: the clears and the reports act by the results of their operations, and no step of the pass writes memory. -/
theorem modulatorRows : Obligations.ModulatorRows := by
  unfold Obligations.ModulatorRows
  intro w k s hk hup
  refine ⟨fun a ha => ?counters, onMod_retire_gives rfl hk hup (ageClear_clears s k), fun c hc => ?exclusion,
    fun c hc => ?corrected, fun c hc hmap => ?uncorrectable, fun c _ hdue hpfx ha => ?implausible,
    fun a ha hdue hact => ?stale, fun i hi => gives_frame ?pass⟩
  case counters =>
    refine onMod_retire_gives rfl hk hup ?_
    rw [if_pos ha]
    exact Laws.armClr_facts s k a
  case exclusion =>
    refine onMod_retire_gives rfl hk hup ?_
    rw [if_pos hc]
    exact pfxClear_clears s k c
  case corrected =>
    refine onMod_gives rfl hk hup ?_
    rw [if_pos hc]
    exact modRam_corrected s k c
  case uncorrectable =>
    refine onMod_gives rfl hk hup ?_
    rw [if_pos hc]
    exact modRam_uncorrectable hmap
  case implausible =>
    refine onMod_gives rfl hk hup ?_
    rw [if_pos hdue]
    exact exclude_marks ha hpfx
  case stale =>
    refine onMod_gives rfl hk hup ?_
    rw [hdue, decide_eq_true ha, Bool.and_self, if_pos rfl]
    exact goStale_tells hact
  case pass =>
    rcases hi with rfl | ⟨g, rfl⟩ | rfl | rfl <;> rfl

end Sys2Proof.Modulators
end

section
/-!
The law engines (R181 to R204): where their registers lie, their events, and what a stale input, a plausibility report, a
clear, a lockstep difference, a memory error and the end of an export leave.
-/
namespace Sys2Proof.LawEngines

open Sys2Proof Sys2Proof.Machine Sys2Proof.Machine.State Sys2Proof.CellLink Sys2Proof.Modulators

/-! ## Where the registers of a law engine lie (R22, R199, R200, R203) -/

/-- The field lies inside the 64 bytes of one law channel (R200). -/
abbrev ChannelFld (f : Fld) : Prop := f.off < 0x40 ∧ f.lsb < 32

theorem lawB_high (k : Nat) : 0x30000000 ≤ lawB k := by
  unfold lawB kB
  omega

theorem lchB_high (k ch : Nat) : 0x30000000 ≤ lchB k ch := by
  unfold lchB kB
  omega

theorem law_not_aside {off : Nat} (hoff : off < 0x10000) (k l : Nat) : ¬asideKey (lawB k + off) l := by
  unfold asideKey lawB kB
  omega

theorem channel_not_aside {ch off : Nat} (hch : ch < 6) (hoff : off < 0x40) (k l : Nat) :
    ¬asideKey (lchB k ch + off) l := by
  unfold asideKey lchB kB
  omega

theorem state_key_ne_channel {f : Fld} (hf : ChannelFld f) {ch : Nat} (hch : ch < 6) (k j : Nat) :
    (Larr.STATE.X.at j).key (lawB k) ≠ f.key (lchB k ch) := by
  obtain ⟨hoff, hlsb⟩ := hf
  refine key_ne_of_word_ne (at_lsb (by decide)) hlsb ?_
  unfold Fld.at Larr.STATE.X lawB lchB
  dsimp only
  omega

theorem stale_off {i : Nat} (hi : i < 128) :
    0x20 ≤ (Law.IN_STALE.STALE.at (i / 32)).off ∧ (Law.IN_STALE.STALE.at (i / 32)).off < 0x30 := by
  unfold Fld.at Law.IN_STALE.STALE
  dsimp only
  omega

theorem stale_key_ne_evt {i : Nat} (hi : i < 128) (b : Nat) :
    (Law.IN_STALE.STALE.at (i / 32)).key b ≠ Law.LAW_EVT.EVT.key b := by
  obtain ⟨hlow, _⟩ := stale_off hi
  refine key_ne_of_word_ne (at_lsb (by decide)) (by decide) ?_
  have hevt : Law.LAW_EVT.EVT.off = 8 := rfl
  omega

/-! ## The events of an engine and of its channels (R204) -/

theorem some_lt {k : Nat} (hk : k < 2) : ∀ j, some k = some j → j < 2 := by
  rintro j ⟨⟩
  exact hk

theorem lawEvt_rd {s : State} {k : Nat} (i : Nat) (hk : k < 2) {f : Fld} (hoff : f.off < 0x10000) (hlsb : f.lsb < 32)
    (hne : f.key (lawB k) ≠ Law.LAW_EVT.EVT.key (lawB k)) : (s.lawEvt k i).rd (lawB k) f = s.rd (lawB k) f :=
  raiseBit_rd _ _ _ _ _ _ _ _ _ (some_lt hk) hne (law_not_aside hoff _ _) hlsb

theorem lawEvt_set (s : State) {k i : Nat} (hk : k < 2) (hi : i < 3) :
    ((s.lawEvt k i).rd (lawB k) Law.LAW_EVT.EVT).testBit i = true :=
  raiseBit_set _ _ _ _ _ _ _ (some_lt hk) (by decide) hi (law_not_aside (by decide) _ _) (by decide)

theorem chEvt_rd {s : State} {k ch : Nat} (i : Nat) (hk : k < 2) (hch : ch < 6) {f : Fld} (hf : ChannelFld f)
    (hne : f.key 0 ≠ Lch.CH_EVT.EVT.key 0) : (s.chEvt k ch i).rd (lchB k ch) f = s.rd (lchB k ch) f :=
  raiseBit_rd _ _ _ _ _ _ _ _ _ (some_lt hk) (key_ne hne _) (channel_not_aside hch hf.1 _ _) hf.2

theorem lawEvt_canFire (s : State) {k : Nat} (i n : Nat) (hk : k < 2) : (s.lawEvt k i).canFire n = s.canFire n :=
  have ⟨hrdy, hbusy⟩ := dieStat_key_ne (lawB_high k) Law.LAW_EVT.EVT
  Laws.raise_canFire _ _ _ _ _ _ _ _ (some_lt hk) hrdy hbusy

/-! ## Commands of an engine whose K-die is up -/

theorem onK_gives {i : Instr} {s : State} {k : Nat} {f : State → State} {P : State → Prop}
    (hexec : exec i s = .next (s.onK k f)) (hk : k < 2) (hup : s.dieUp k = true) (hP : P (f s)) : gives (exec i s) P :=
  ⟨_, hexec, by rwa [Laws.onK_up hk hup]⟩

theorem exec_mem {i : Instr} {s t : State} (ht : exec i s = .next t) (hw : Laws.writes i = false) : t.mem = s.mem :=
  (keep_mem (Laws.execKeeps i s hw t ht)).1

/-! ## Reports (R186, R192, R198, R205) -/

/-- A status bit that is set and reported reads 1, and its source is on its way. -/
theorem bit_noted_reported (s : State) (k n : Nat) {b : Nat} (hb : 0x30000000 ≤ b) {f : Fld} (hwid : f.wid = 1) :
    ((s.wr b f 1).fireK k n).rd b f = 1 ∧ s.fires ((s.wr b f 1).fireK k n) (n + 0x40 * k) := by
  refine ⟨?_, fires_of _ (wr_canFire _ hb _ _ _)⟩
  rw [fireK_rd, rd_wr_same _ _ _ _ (by omega), hwid]
  rfl

/-- R186: an entry that was not marked stale is marked and reported. -/
theorem svStale_reports {s : State} {k i : Nat} (hk : k < 2) (hi : i < 128) (hsrc : s.rd (lawB k) (Lmap.MAP.SRC.at i) = 2)
    (hfirst : (s.rd (lawB k) (Law.IN_STALE.STALE.at (i / 32))).testBit (i % 32) = false) :
    ((s.svStale k i).rd (lawB k) (Law.IN_STALE.STALE.at (i / 32))).testBit (i % 32) = true ∧
      s.fires (s.svStale k i) (0x067 + 0x40 * k) := by
  obtain ⟨_, hoff⟩ := stale_off hi
  unfold svStale
  dsimp only
  rw [if_neg (by simp [hi, hsrc, hfirst])]
  refine ⟨?marked, fires_of _ ?able⟩
  case marked =>
    rw [fireK_rd, lawEvt_rd _ hk (by omega) (at_lsb (by decide)) (stale_key_ne_evt hi _),
      rd_wr_same _ _ _ _ (Nat.le_refl 32)]
    exact Laws.setBit_test _ _ 32 (Nat.mod_lt _ (by decide))
  case able => rw [lawEvt_canFire _ _ _ hk, wr_canFire _ (lawB_high k)]

/-- R192: a section whose count has reached its limit is recorded in its channel. -/
theorem plausEvt_records {s : State} {k ch sec : Nat} (hk : k < 2) (hch : ch < 6)
    (hdue : (s.law k).due.contains (ch, sec) = true) :
    (s.plausEvt k ch sec).rd (lchB k ch) Lch.CH_STAT.PLAUS = 1 ∧
      (s.plausEvt k ch sec).rd (lchB k ch) Lch.CH_STAT.PSEC = sec % 256 ∧
      (s.plausEvt k ch sec).rd (lchB k ch) Lch.CH_CNT.PLAUSCNT =
        min (s.rd (lchB k ch) Lch.CH_CNT.PLAUSCNT + 1) 65535 := by
  unfold plausEvt
  dsimp only
  rw [hdue, if_neg (by decide), inc_eq]
  refine ⟨?plaus, ?index, ?count⟩
  case plaus =>
    rw [fireK_rd, chEvt_rd _ hk hch (by decide) (by decide), rd_wr_other _ _ _ _ _ (by decide),
      rd_wr_other _ _ _ _ _ (by decide)]
    exact rd_wr_same _ _ _ _ (by decide)
  case index =>
    rw [fireK_rd, chEvt_rd _ hk hch (by decide) (by decide), rd_wr_other _ _ _ _ _ (by decide)]
    exact rd_wr_same _ _ _ _ (by decide)
  case count =>
    rw [fireK_rd, chEvt_rd _ hk hch (by decide) (by decide), rd_wr_same _ _ _ _ (by decide),
      rd_wr_other _ _ _ _ _ (by decide), rd_wr_other _ _ _ _ _ (by decide), rd_setLaw]
    exact Laws.mod_min _ _ 16 (by decide)

theorem plausEvt_undue {s : State} {k ch sec : Nat} (hdue : ¬(s.law k).due.contains (ch, sec) = true) :
    s.plausEvt k ch sec = s := by
  unfold plausEvt
  exact if_pos (by simpa using hdue)

/-- R16, R200: CLRST of a running channel is noted and reported, and no state word clears. -/
theorem chClrst_held {s : State} {k ch : Nat} (hch : ch < 6) (hrun : s.rd (lchB k ch) Lch.CH_STAT.RUNNING ≠ 0) :
    (s.chClrst k ch).rd (lchB k ch) Lch.CH_STAT.HELD_WR = 1 ∧ s.fires (s.chClrst k ch) (0x065 + 0x40 * k) ∧
      ∀ j, (s.chClrst k ch).lawState k j = s.lawState k j := by
  have hheld : s.chClrst k ch = (s.wr (lchB k ch) Lch.CH_STAT.HELD_WR 1).fireK k 0x065 :=
    if_pos ((Laws.on_iff _ _ _).2 hrun)
  obtain ⟨hnoted, hfires⟩ := bit_noted_reported s k 0x065 (lchB_high k ch) (f := Lch.CH_STAT.HELD_WR) rfl
  rw [hheld]
  refine ⟨hnoted, hfires, fun j => ?_⟩
  unfold lawState
  rw [fireK_rd, rd_wr_ne _ _ _ _ _ _ (state_key_ne_channel (by decide) hch k j)]

/-! ## Freezing (R182, R198) -/

theorem lawFreeze_frozen (s : State) {k : Nat} (hk : k < 2) {r : FzRec} (hr : r.mid < 128) :
    (s.lawFreeze k r).rd (lawB k) Law.LAW_STAT.FROZEN = 1 := by
  unfold lawFreeze
  dsimp only
  rw [aside_rd (freeze_aside (aside_refl _) r hr) _ _ (law_not_aside (by decide) _ _) (by decide),
    lawEvt_rd _ hk (by decide) (by decide) (key_ne (by decide) _)]
  exact rd_wr_same _ _ _ _ (by decide)

theorem lawFault_frozen (s : State) {k : Nat} (hk : k < 2) : (s.lawFault k).rd (lawB k) Law.LAW_STAT.FROZEN = 1 :=
  lawFreeze_frozen _ hk (show 0x40 + k < 128 by omega)

theorem lawFrozen_of_ne {s : State} {k : Nat} (h : s.rd (lawB k) Law.LAW_STAT.FROZEN ≠ 0) : s.lawFrozen k = true :=
  (Laws.on_iff _ _ _).2 h

theorem not_lawFrozen {s : State} {k : Nat} (h : s.rd (lawB k) Law.LAW_STAT.FROZEN = 0) : ¬s.lawFrozen k = true :=
  fun hfrozen => (Laws.on_iff _ _ _).1 hfrozen h

/-- The note and the report of an uncorrectable error leave FROZEN as it was. -/
theorem ramError_lawFrozen (s : State) (k : Nat) :
    ((s.wr (lawB k) Law.LAW_STAT.RAMUE 1).fireK k 0x063).lawFrozen k = s.lawFrozen k := by
  unfold lawFrozen on
  rw [fireK_rd, rd_wr_other _ _ _ _ _ (by decide)]

/-! ## Export (R197) -/

/-- R197: the trailer is answered, so the export counts and its event is raised. -/
theorem exportDone_counts {s : State} {k x : Nat} {y : Word} (hk : k < 2) (hexp : (s.law k).exp = some (x, y, true))
    (hans : s.unanswered (lawMid k) = false) :
    (s.exportDone k).rd (lawB k) Law.EXP_CNT.DONE = min (s.rd (lawB k) Law.EXP_CNT.DONE + 1) 65535 ∧
      ((s.exportDone k).rd (lawB k) Law.LAW_EVT.EVT).testBit 0 = true := by
  unfold exportDone
  rw [hexp]
  dsimp only
  rw [hans, if_neg (by decide)]
  refine ⟨?counted, lawEvt_set _ hk (by decide)⟩
  rw [lawEvt_rd _ hk (by decide) (by decide) (key_ne (by decide) _), inc_eq, rd_wr_same _ _ _ _ (by decide), modLaw_eq,
    rd_setLaw]
  exact Laws.mod_min _ _ 16 (by decide)

/-! ## The rows -/

/-- Settles O31: the reports, the freezes and the end of an export act by the results of their operations; the fill and the
writes held back write no memory, and the ends of the passes keep the queue, the part and the form of every memory. -/
theorem lawRows : Obligations.LawRows := by
  unfold Obligations.LawRows
  intro w k s hk hup
  refine ⟨fun i hi hsrc hfirst => onK_gives rfl hk hup (svStale_reports hk hi hsrc hfirst), fun ch sec hch => ?plausible,
    fun ch hch hrun => ?clear, fun ch _ => ⟨_, rfl, exec_mem (i := .clrplaus w k ch) rfl rfl⟩, ?lockstep, ?corrected,
    ?uncorrectable, fun x y hexp hans => onK_gives rfl hk hup (exportDone_counts hk hexp hans),
    fun i hi => gives_frame ?frame, fun i _ => ?pass⟩
  case plausible =>
    refine onK_gives rfl hk hup ?_
    split
    case isTrue hdue => exact plausEvt_records hk hch hdue
    case isFalse hdue => exact plausEvt_undue hdue
  case clear =>
    refine ⟨_, rfl, ?_⟩
    rw [Laws.onK_up hk hup, if_pos hch]
    exact chClrst_held hch hrun
  case lockstep =>
    refine ⟨_, rfl, fun hfree => ⟨?frozen, exec_mem (i := .lawLockstepDiff k) rfl rfl⟩⟩
    rw [Laws.onK_up hk hup, if_neg (not_lawFrozen hfree), fireK_rd]
    exact lawFault_frozen _ hk
  case corrected =>
    exact onK_gives rfl hk hup (bit_noted_reported s k 0x062 (lawB_high k) rfl)
  case uncorrectable =>
    refine onK_gives rfl hk hup ?_
    rw [if_pos rfl]
    dsimp only
    rw [ramError_lawFrozen]
    refine ⟨fun hfree => ?freezes, fun hfrozen => ?stays⟩
    case freezes =>
      rw [if_neg (not_lawFrozen hfree)]
      exact lawFault_frozen _ hk
    case stays =>
      rw [if_pos (lawFrozen_of_ne hfrozen)]
      exact bit_noted_reported s k 0x063 (lawB_high k) rfl
  case frame => rcases hi with rfl | rfl <;> rfl
  case pass =>
    obtain ⟨t, ht⟩ := Laws.complete i s
    exact ⟨t, ht, fol_fixed s t (Scope.exec_fols i s t ht)⟩

end Sys2Proof.LawEngines
end

section
/-!
The system instructions of the cores: SYSCALL and BREAK, the instructions that are ILLEGAL or PRIV, TRET and NRET, and SRD and
SWR on the system registers.
-/
namespace Sys2Proof.SystemInstructions

open Sys2Proof Sys2Proof.Machine Sys2Proof.Machine.State

/-! ## Traps and jumps after a change of the core -/

/-- A trap of a core that was first given the registers of `c`. -/
theorem trap_trapped_setCore (s : State) (m : Nat) (c : Core) (cause epc eaddr : Word) :
    s.trapped m c cause epc eaddr ((s.setCore m c).trap m cause epc eaddr) := by
  have htrap := trap_trapped (s.setCore m c) m cause epc eaddr
  rw [core_setCore] at htrap
  obtain ⟨hdata, hothers, hmem, hnor, hmram, hdouble, hentry⟩ := htrap
  refine ⟨hdata, fun n hn => (hothers n hn).trans (core_setCore_ne s m n c hn), hmem, hnor, hmram, hdouble, fun hexl => ?_⟩
  have hpaired : (s.setCore m c).paired m = s.paired m := rfl
  rw [setCore_setCore, hpaired] at hentry
  exact hentry hexl

/-- With EXL = 1 a trap writes none of its registers, so they need not be named (R217). -/
theorem trapped_double {s t : State} {m : Nat} {c : Core} {cause epc eaddr : Word} (cause' epc' eaddr' : Word)
    (hexl : c.exl = true) (h : s.trapped m c cause epc eaddr t) : s.trapped m c cause' epc' eaddr' t := by
  obtain ⟨hdata, hothers, hmem, hnor, hmram, hdouble, -⟩ := h
  refine ⟨hdata, hothers, hmem, hnor, hmram, hdouble, fun hno => ?_⟩
  rw [hexl] at hno
  exact absurd hno (by decide)

theorem jumped_data (s : State) (m : Nat) (c : Core) : ((s.jumped m c).core m).data = c.data := by
  unfold jumped
  rw [(fetchAt_alike (s.setCore m c) m).1, core_setCore]

theorem jumped_ok {s : State} {m : Nat} {c : Core} (h : (s.setCore m c).fetchOk m c.pc = true) :
    s.jumped m c = s.setCore m c :=
  fetchAt_ok _ _ (by rw [core_setCore]; exact h)

/-! ## SYSCALL and BREAK (R215, R216, R254) -/

theorem syscall_trapped {s : State} {m : Nat} (hr : s.canRun m = true) (imm : BitVec 16) :
    gives (exec (.syscall m 0 imm) s)
      (s.trapped m (if (s.core m).exl then s.core m else { s.core m with icnt := (s.core m).icnt + 1 })
        (BitVec.ofNat 32 (imm.toNat * 65536 + 5)) ((s.core m).pc + 4) 0) := by
  refine ⟨_, rfl, ?_⟩
  dsimp only
  rw [hr]
  simp only [Bool.not_true, Bool.false_eq_true, if_false, beq_self_eq_true]
  cases hexl : (s.core m).exl with
  | true => exact trapped_double _ _ _ hexl (trap_trapped s m 0 0 0)
  | false => exact trap_trapped_setCore s m _ _ _ _

theorem brk_trapped {s : State} {m : Nat} (hr : s.canRun m = true) :
    gives (exec (.brk m ⟨0, 0, 0⟩) s) (s.trapped m (s.core m) 6 (s.core m).pc (s.core m).pc) := by
  refine ⟨_, rfl, ?_⟩
  dsimp only
  rw [hr]
  exact trap_trapped s m 6 _ _

/-- Settles O9: both instructions end in the trap entry of their core; SYSCALL with EXL = 0 has counted before. -/
theorem systemTraps : Obligations.SystemTraps := by
  unfold Obligations.SystemTraps
  exact fun m s hr => ⟨syscall_trapped hr, brk_trapped hr⟩

/-! ## ILLEGAL (R215, R245) -/

theorem gives_illegal {i : Instr} {s : State} {m : Nat} (h : exec i s = .next (s.illegal m)) :
    gives (exec i s) (s.trapped m (s.core m) 1 (s.core m).pc (s.core m).pc) := ⟨_, h, Laws.ill s m⟩

theorem gives_priv {i : Instr} {s : State} {m : Nat} (h : exec i s = .next (s.privTrap m)) :
    gives (exec i s) (s.trapped m (s.core m) 2 (s.core m).pc (s.core m).pc) := ⟨_, h, Laws.prvt s m⟩

theorem legalC_offset_modifier {o : OpC} (hmode : o.mode = 0) (hm : o.m ≠ 0) : legalC o = false := by
  unfold legalC
  rw [hmode]
  show ((o.m == 0) && _) = false
  rw [beq_eq_false_iff_ne.2 hm, Bool.false_and]

theorem load_illegal {s : State} {m : Nat} (hr : s.canRun m = true) (src addr size : Nat) (sext : Bool) (dst : Nat)
    (upd : Core → Core) : s.load m false src addr size sext dst upd = s.illegal m := by
  unfold State.load
  simp only [hr, Bool.not_true, Bool.not_false, Bool.false_eq_true, if_false, if_true]

theorem store_illegal {s : State} {m : Nat} (hr : s.canRun m = true) (srcs : List Nat) (addr size v : Nat)
    (upd : Core → Core) : s.store m false srcs addr size v upd = s.illegal m := by
  unfold State.store
  simp only [hr, Bool.not_true, Bool.not_false, Bool.false_eq_true, if_false, if_true]

section
variable {s : State} {m : Nat} (hr : s.canRun m = true)
include hr

theorem jr_illegal {o : OpA} (hd : o.d ≠ 0) : exec (.jr m o) s = .next (s.illegal m) := by
  show execJr m o s = _
  unfold execJr
  rw [beq_eq_false_iff_ne.2 hd, hr]
  rfl

theorem lui_illegal {o : OpB} (ha : o.a ≠ 0) : exec (.lui m o) s = .next (s.illegal m) :=
  congrArg _ (Laws.instr_ill s m _ _ _ _ hr (beq_eq_false_iff_ne.2 ha))

theorem ld_illegal {o : OpC} (hmode : o.mode = 0) (hm : o.m ≠ 0) : exec (.ld m o) s = .next (s.illegal m) := by
  show execLd m o s = _
  unfold execLd
  rw [legalC_offset_modifier hmode hm, load_illegal hr]

theorem st_illegal {o : OpC} (hmode : o.mode = 0) (hm : o.m ≠ 0) : exec (.st m o) s = .next (s.illegal m) := by
  show execSt m o s = _
  unfold execSt
  rw [legalC_offset_modifier hmode hm, store_illegal hr]

theorem rndc_illegal {o : OpE} (hb : o.b ≠ 0) : exec (.rndc m o) s = .next (s.illegal m) :=
  congrArg _ (Laws.instr_ill s m _ _ _ _ hr (beq_eq_false_iff_ne.2 hb))

theorem pwrHint_illegal {o : OpS} (himm : o.imm = 3) : exec (.pwrHint m o) s = .next (s.illegal m) := by
  show execPwrHint m o s = _
  unfold execPwrHint
  simp [hr, himm]

theorem tret_illegal (hexl : (s.core m).exl = false) : exec (.tret m ⟨0, 0, 0⟩) s = .next (s.illegal m) := by
  show execTret m _ s = _
  unfold execTret
  simp [hr, hexl]

theorem nret_illegal (hnmil : (s.core m).nmil = false) : exec (.nret m ⟨0, 0, 0⟩) s = .next (s.illegal m) := by
  show execNret m _ s = _
  unfold execNret
  simp [hr, hnmil]

/-! ## PRIV (R208, R215) -/

variable (hp : (s.core m).prv = false)
include hp

theorem tret_priv (hexl : (s.core m).exl = true) : exec (.tret m ⟨0, 0, 0⟩) s = .next (s.privTrap m) := by
  show execTret m _ s = _
  unfold execTret
  simp [hr, hp, hexl]

theorem nret_priv (hnmil : (s.core m).nmil = true) : exec (.nret m ⟨0, 0, 0⟩) s = .next (s.privTrap m) := by
  show execNret m _ s = _
  unfold execNret
  simp [hr, hp, hnmil]

theorem freezeQ_priv (r1 r2 : BitVec 5) : exec (.freezeQ m ⟨r1, r2, 0⟩) s = .next (s.privTrap m) := by
  show execFreezeQ m _ s = _
  unfold execFreezeQ
  simp [hr, hp]

theorem pwrHint_park_priv : exec (.pwrHint m ⟨0, 0, 2⟩) s = .next (s.privTrap m) := by
  show execPwrHint m _ s = _
  unfold execPwrHint
  simp [hr, hp]

theorem srd_priv (r1 : BitVec 5) {sr : BitVec 10} (hsr : sr.toNat < 18) (htask : srTask sr.toNat = false) :
    exec (.srd m ⟨r1, 0, sr⟩) s = .next (s.privTrap m) := by
  show execSrd m _ s = _
  unfold execSrd
  simp [hr, hp, htask, Nat.not_le.2 hsr]

theorem swr_priv (r1 : BitVec 5) {sr : BitVec 10} (hsr : sr.toNat < 18) (htask : srTask sr.toNat = false) :
    exec (.swr m ⟨r1, 0, sr⟩) s = .next (s.privTrap m) := by
  show execSwr m _ s = _
  unfold execSwr
  simp [hr, hp, htask, Nat.not_le.2 hsr]

end

/-- Below 0x0D a task may use FLAGS alone (R231). -/
theorem srTask_low {sr : BitVec 10} (hlow : sr.toNat < 13) (hflags : sr ≠ 1) : srTask sr.toNat = false := by
  have hne : sr.toNat ≠ 1 := fun h => hflags (BitVec.eq_of_toNat_eq h)
  unfold srTask
  simp only [beq_eq_false_iff_ne.2 hne, Bool.false_or, Bool.and_eq_false_iff, decide_eq_false_iff_not]
  exact .inl (by omega)

/-- Settles O10: each of the instructions ends in the ILLEGAL or the PRIV trap of its core. -/
theorem refusedInstructions : Obligations.RefusedInstructions := by
  unfold Obligations.RefusedInstructions
  intro m s hr
  refine ⟨fun o hd => gives_illegal (jr_illegal hr hd), fun o ha => gives_illegal (lui_illegal hr ha),
    fun o hmode hm => ⟨gives_illegal (ld_illegal hr hmode hm), gives_illegal (st_illegal hr hmode hm)⟩,
    fun o hb => gives_illegal (rndc_illegal hr hb), fun o himm => gives_illegal (pwrHint_illegal hr himm),
    fun hexl => gives_illegal (tret_illegal hr hexl), fun hnmil => gives_illegal (nret_illegal hr hnmil), fun hp => ?task⟩
  case task =>
    refine ⟨fun hexl => gives_priv (tret_priv hr hp hexl), fun hnmil => gives_priv (nret_priv hr hp hnmil),
      fun r1 r2 => gives_priv (freezeQ_priv hr hp r1 r2), gives_priv (pwrHint_park_priv hr hp), fun r1 sr hlow hflags => ?_⟩
    have hsr : sr.toNat < 18 := by omega
    have htask := srTask_low hlow hflags
    exact ⟨gives_priv (srd_priv hr hp r1 hsr htask), gives_priv (swr_priv hr hp r1 hsr htask)⟩

/-! ## TRET and NRET (R216, R218) -/

section
variable {s : State} {m : Nat} (hr : s.canRun m = true) (hp : (s.core m).prv = true)
include hr hp

theorem execTret_legal (hexl : (s.core m).exl = true) :
    exec (.tret m ⟨0, 0, 0⟩) s = .next (s.jumped m
      ({ (s.core m).setStatus (s.core m).estatus with pwr := (s.core m).pwr }.doneAt (s.core m).epc)) := by
  show execTret m _ s = _
  unfold execTret
  simp [hr, hp, hexl]

/-- NRET to a core that stays parked checks no fetch; without a pending NMI it goes to NEPC. -/
theorem execNret_legal (hnmil : (s.core m).nmil = true) (hnmi : (s.core m).nmi = []) :
    exec (.nret m ⟨0, 0, 0⟩) s = .next (
      let c' := ((s.core m).setStatus (s.core m).nstatus).doneAt (s.core m).nepc
      (if c'.pwr = 2 then s.setCore m c' else s.jumped m c').syncCore m) := by
  have hempty : (((s.core m).setStatus (s.core m).nstatus).doneAt (s.core m).nepc).nmi = [] := hnmi
  show execNret m _ s = _
  unfold execNret
  simp [hr, hp, hnmil, hempty]

end

/-- Whether it stays parked or goes on, the core has the registers and flags of `c` and, where its fetch meets nothing, is
`c`. -/
theorem parked_or_jumped_core (s : State) (m : Nat) (c : Core) :
    (((if c.pwr = 2 then s.setCore m c else s.jumped m c).syncCore m).core m).data = c.data ∧
    ((s.setCore m c).fetchOk m c.pc = true →
      ((if c.pwr = 2 then s.setCore m c else s.jumped m c).syncCore m).core m = c) := by
  rw [Laws.syncCore_core]
  split
  · rw [core_setCore]
    exact ⟨rfl, fun _ => rfl⟩
  · exact ⟨jumped_data s m c, fun hfetch => by rw [jumped_ok hfetch, core_setCore]⟩

/-- Settles O11: TRET jumps with the status of ESTATUS, NRET with that of NSTATUS. -/
theorem returns : Obligations.Returns := by
  unfold Obligations.Returns
  intro m s hr hp
  refine ⟨fun hexl => ⟨_, execTret_legal hr hp hexl, ?tret⟩,
    fun hnmil hnmi => ⟨_, execNret_legal hr hp hnmil hnmi, ?nret⟩⟩
  case tret => exact jumped_went s m _ _
  case nret => exact parked_or_jumped_core s m _

/-! ## SRD and SWR (R229, R231) -/

section
variable {s : State} {m : Nat} {r : BitVec 5} (h : s.ready m [r.toNat] = true) (hp : (s.core m).prv = true)
include h hp

theorem srd_ran_number {n : Nat} (hn : n < 18) (hne : n ≠ 14) :
    gives (exec (.srd m ⟨r, 0, BitVec.ofNat 10 n⟩) s) (s.ran m ((s.core m).wg r.toNat (s.srRead m n))) := by
  have hsr : (BitVec.ofNat 10 n).toNat = n := Nat.mod_eq_of_lt (by omega)
  have hran := Laws.srd_ran s m r (BitVec.ofNat 10 n) h hp (by omega) (by omega)
  rwa [hsr] at hran

theorem swr_ran_number {n : Nat} (hn : n < 18) (hne : n ≠ 0) :
    gives (exec (.swr m ⟨r, 0, BitVec.ofNat 10 n⟩) s)
      (s.ran m (srWrite (s.core m) n ((s.core m).rg r.toNat))) := by
  have hsr : (BitVec.ofNat 10 n).toNat = n := Nat.mod_eq_of_lt (by omega)
  have hran := Laws.swr_ran s m r (BitVec.ofNat 10 n) h hp (by omega) (by omega)
  rwa [hsr] at hran

/-- CCNT_LO counts the nanoseconds since the core left reset, and its read latches the upper half in CCNT_HI. -/
theorem srd_ccntLo_ran :
    gives (exec (.srd m ⟨r, 0, 0x0E⟩) s)
      (s.ran m ({ s.core m with ccntHi := BitVec.ofNat 32 ((s.clk.el - (s.core m).born) / 2 ^ 32) }.wg r.toNat
        (BitVec.ofNat 32 (s.clk.el - (s.core m).born)))) := by
  refine ⟨_, rfl, ?_⟩
  dsimp only
  simp only [ready_run h, hp, ready_awaits h (List.mem_singleton.2 rfl), Bool.not_true, Bool.false_and, Bool.false_eq_true,
    if_false]
  exact goOn_ran s m _

/-- A write of STATUS changes PRV and EXL, under which the next fetch is checked. -/
theorem swr_status_gives :
    gives (exec (.swr m ⟨r, 0, 0⟩) s) (fun t =>
      let c := s.core m
      let v := c.rg r.toNat
      let c' : Core := { c with prv := v.getLsbD 0, exl := v.getLsbD 1, pc := c.pc + 4, icnt := c.icnt + 1, stall := none }
      (t.core m).data = c.data ∧ ((s.setCore m c').fetchOk m (c.pc + 4) = true → t = s.setCore m c')) := by
  refine ⟨s.jumped m (srWrite (s.core m) 0 ((s.core m).rg r.toNat)).done, ?_, jumped_data s m _, jumped_ok⟩
  show execSwr m _ s = _
  unfold execSwr
  simp [ready_run h, hp, ready_awaits h (List.mem_singleton.2 rfl)]

end

/-- Settles O12: SRD gives the value of the register, SWR leaves the core that `srWrite` describes. -/
theorem systemRegisters : Obligations.SystemRegisters := by
  unfold Obligations.SystemRegisters
  intro m r s h hp
  refine ⟨fun e he => ?read, srd_ccntLo_ran h hp, ?write⟩
  case read =>
    obtain ⟨hn, hne, hval⟩ : e.1 < 18 ∧ e.1 ≠ 14 ∧ s.srRead m e.1 = e.2 := by
      simp only [List.mem_cons, List.not_mem_nil, or_false] at he
      rcases he with rfl | rfl | rfl | rfl | rfl | rfl | rfl | rfl | rfl | rfl | rfl | rfl | rfl | rfl | rfl | rfl | rfl <;>
        exact ⟨by simp, by simp, rfl⟩
    rw [← hval]
    exact srd_ran_number h hp hn hne
  case write =>
    have hwrite (n : Nat) (hn : 0 < n ∧ n < 18) := swr_ran_number h hp hn.2 (Nat.ne_of_gt hn.1)
    exact ⟨hwrite 1 (by decide), hwrite 2 (by decide), hwrite 3 (by decide), hwrite 4 (by decide), hwrite 5 (by decide),
      hwrite 6 (by decide), hwrite 7 (by decide), hwrite 8 (by decide), hwrite 9 (by decide), hwrite 10 (by decide),
      hwrite 11 (by decide), hwrite 12 (by decide), hwrite 13 (by decide), hwrite 14 (by decide), hwrite 15 (by decide),
      hwrite 16 (by decide), hwrite 17 (by decide), swr_status_gives h hp⟩

end Sys2Proof.SystemInstructions
end

section
/-!
The loads and stores of the cores: how an access is issued, how a datum returns, and where an access stops.
-/
namespace Sys2Proof.CoreAccesses

open Sys2Proof Sys2Proof.Machine Sys2Proof.Machine.State

/-! ## The forms of the commands (R249) -/

theorem exec_ld (m : Nat) (o : OpC) (s : State) : exec (.ld m o) s = .next
    (s.load m (legalC o) 0 (addrC (s.core m) o).toNat (2 ^ o.sz.toNat) true o.d.toNat (fun c => pointC c o)) := rfl

theorem exec_ldu (m : Nat) (o : OpC) (s : State) : exec (.ldu m o) s = .next
    (s.load m (legalC o) 0 (addrC (s.core m) o).toNat (2 ^ o.sz.toNat) false o.d.toNat (fun c => pointC c o)) := rfl

theorem exec_st (m : Nat) (o : OpC) (s : State) : exec (.st m o) s = .next
    (s.store m (legalC o) (if o.sz = 3 then [o.d.toNat, o.d.toNat + 1] else [o.d.toNat]) (addrC (s.core m) o).toNat
      (2 ^ o.sz.toNat) (storeVal (s.core m) o) (fun c => pointC c o)) := rfl

theorem awaits_zero (c : Core) : c.awaits 0 = false := rfl

/-! ## Loads are issued (R210 to R212, R243, R249) -/

/-- The source register of a load of format C is a pointer, so only its destination can await data. -/
theorem load_issued {s : State} {m d : Nat} (hr : s.ready m [d, d + 1] = true) {addr size k : Nat} (sext : Bool)
    (upd : Core → Core) (halign : addr % size = 0) (hram : addr < 0x20000000 ∨ 0x60000000 ≤ addr)
    (hkey : memKey (s.locate (some m) addr) addr = some k)
    (hwindow : s.violation (s.accMid m) (s.core m).prv (s.locate (some m) addr) addr size .rd = none)
    (hordered : s.isOrdered (s.accMid m) addr size = false) (hplaces : (s.core m).loads.length < 8) :
    s.ran m (upd { s.core m with loads := (s.core m).loads ++ [⟨.mem, addr, size, sext, d, (s.core m).prv,
        some (BitVec.ofNat 64 (Mem.readN (s.ramFor (s.accMid m)) k size)), false, (s.core m).pc.toNat⟩] })
      (s.load m true 0 addr size sext d upd) :=
  Laws.load_ran s m k addr size d 0 sext upd (ready_run hr) (awaits_zero _) (ready_awaits hr (by simp))
    (fun _ => ready_awaits hr (by simp)) halign hram hkey hwindow hordered hplaces

/-- Settles O14: LD, LDU and LDW take their outstanding place by the one rule of a load. -/
theorem loadsIssue : Obligations.LoadsIssue := by
  unfold Obligations.LoadsIssue
  intro m s k
  refine ⟨fun o hlegal => ⟨?ld, ?ldu⟩, ?ldw⟩
  case ld =>
    intro hr halign hram hkey hwindow hordered hplaces
    refine ⟨_, exec_ld m o s, ?_⟩
    rw [hlegal]
    exact load_issued hr true _ halign hram hkey hwindow hordered hplaces
  case ldu =>
    intro hr halign hram hkey hwindow hordered hplaces
    refine ⟨_, exec_ldu m o s, ?_⟩
    rw [hlegal]
    exact load_issued hr false _ halign hram hkey hwindow hordered hplaces
  case ldw =>
    intro o hr halign hram hkey hwindow hordered hplaces
    exact ⟨_, rfl, Laws.load_ran s m k _ 4 o.d.toNat o.a.toNat false id (ready_run hr) (ready_awaits hr (by simp))
      (ready_awaits hr (by simp)) (fun h8 => absurd h8 (by decide)) halign hram hkey hwindow hordered hplaces⟩

/-! ## Loads return (R210, R212) -/

/-- With its datum known, LOAD_DATA_RETURN completes the load. -/
theorem loadReturn_finishes {s : State} {m i : Nat} {l : Load} {v : BitVec 64} (hload : (s.core m).loads[i]? = some l)
    (hval : l.val = some v) : s.loadReturn m i false = s.finishLoad m i l v := by
  unfold loadReturn
  dsimp only
  rw [Laws.chanReach_some s m i l v hload hval, hload]
  simp only [Bool.false_and, Bool.false_eq_true, if_false, hval]

/-- The core of a completed load: the place is free and the extended datum is in the destination. -/
theorem finishLoad_core (s : State) (m i : Nat) (l : Load) (v : BitVec 64) :
    (s.finishLoad m i l v).core m =
      let c : Core := { s.core m with loads := (s.core m).loads.eraseIdx i }
      if l.size = 8 then
        (c.wg l.dst ((extended l v).setWidth 32)).wg (l.dst + 1) (BitVec.ofNat 32 ((extended l v).toNat / 2 ^ 32))
      else c.wg l.dst ((extended l v).setWidth 32) := by
  unfold finishLoad
  rw [modCore_eq, core_setCore]

theorem finishLoad_core_ne (s : State) (m i : Nat) (l : Load) (v : BitVec 64) {n : Nat} (hn : n ≠ m) :
    (s.finishLoad m i l v).core n = s.core n := core_setCore_ne s m n _ hn

theorem upper_word (v : BitVec 64) : BitVec.ofNat 32 (v.toNat / 2 ^ 32) = (v >>> 32).setWidth 32 := by
  apply BitVec.eq_of_toNat_eq
  simp [Nat.shiftRight_eq_div_pow]

theorem execLoadDataReturn_finishes {s : State} {m i : Nat} {l : Load} {v : BitVec 64} (hm : m < 32)
    (hload : (s.core m).loads[i]? = some l) (hval : l.val = some v) :
    exec (.loadDataReturn m i false) s = .next (s.finishLoad m i l v) := by
  show execLoadDataReturn m i false s = _
  unfold execLoadDataReturn
  rw [if_pos hm, loadReturn_finishes hload hval]

/-- Settles O16: the load finishes, and by its size the datum is whole, extended, or split over two registers. -/
theorem loadsReturn : Obligations.LoadsReturn := by
  unfold Obligations.LoadsReturn
  intro m i s l v hm hload hval
  refine ⟨_, execLoadDataReturn_finishes hm hload hval, ?_⟩
  dsimp only
  rw [finishLoad_core]
  dsimp only
  refine ⟨fun n hn => finishLoad_core_ne s m i l v hn, rfl, fun h4 => ?_, fun h2 => ?_, fun h1 => ?_, fun h8 => ?_⟩
  · rw [if_neg (by omega), Laws.ext4 l v h4]
  · rw [if_neg (by omega), Laws.extS l v 16 (by decide) (by decide) (by omega)]
  · rw [if_neg (by omega), Laws.extS l v 8 (by decide) (by decide) (by omega)]
  · rw [if_pos h8, Laws.ext8 l v h8, upper_word]

/-! ## Stores are issued (R210, R211, R23, R30, R31, R249) -/

/-- Settles O17: ST and STW reach RAM or travel to their register by the one rule of a store. -/
theorem storesIssue : Obligations.StoresIssue := by
  unfold Obligations.StoresIssue
  intro m s hmem
  refine ⟨fun o hlegal => ?st, fun o => ?stw⟩
  case st =>
    intro hready halign hwindow hordered
    have hr := Laws.stSrcs s m o hready
    refine ⟨fun hram hl hheld => ⟨_, exec_st m o s, ?_⟩, fun hl h4 hcyc hflight hpage => ⟨_, exec_st m o s, ?_⟩⟩
    · rw [hlegal]
      exact Laws.store_ram s m _ _ _ _ _ hmem hr halign hram hwindow hordered hl hheld
    · rw [hlegal]
      exact Laws.store_reg s m _ _ _ _ _ hr halign hwindow hordered hl h4 hcyc hflight (by rw [Laws.pointC_pc]; exact hpage)
  case stw =>
    intro hready halign hwindow hordered
    exact ⟨fun hram hl hheld => ⟨_, rfl, Laws.store_ram s m _ 4 _ _ id hmem hready halign hram hwindow hordered hl hheld⟩,
      fun hl h4 hcyc hflight hpage =>
        ⟨_, rfl, Laws.store_reg s m _ 4 _ _ id hready halign hwindow hordered hl h4 hcyc hflight hpage⟩⟩

/-! ## Accesses that stop (R210, R215, R221) -/

/-- An address that no access of the size may have (R210). -/
abbrev misplaced (addr size : Nat) : Prop := addr % size ≠ 0 ∨ (0x20000000 ≤ addr ∧ addr < 0x60000000 ∧ size ≠ 4)

theorem load_operands {s : State} {m d : Nat} (hr : s.ready m [d, d + 1] = true) (size : Nat) :
    ((s.core m).awaits 0 || (s.core m).awaits d || (size == 8 && (s.core m).awaits (d + 1))) = false := by
  rw [awaits_zero, ready_awaits hr (i := d) (by simp), ready_awaits hr (i := d + 1) (by simp), Bool.and_false]
  rfl

theorem store_operands {s : State} {m : Nat} {l : List Nat} (hr : s.ready m l = true) : l.any (s.core m).awaits = false :=
  List.any_eq_false.2 fun _ hx => by rw [ready_awaits hr hx]; decide

theorem load_misplaced {s : State} {m d addr size : Nat} (hr : s.ready m [d, d + 1] = true) (hbad : misplaced addr size)
    (sext : Bool) (upd : Core → Core) : s.load m true 0 addr size sext d upd = s.alignTrap m addr false := by
  unfold State.load
  dsimp only
  rw [ready_run hr, load_operands hr, if_pos hbad]
  rfl

theorem store_misplaced {s : State} {m addr size : Nat} {srcs : List Nat} (hr : s.ready m srcs = true)
    (hbad : misplaced addr size) (v : Nat) (upd : Core → Core) :
    s.store m true srcs addr size v upd = s.alignTrap m addr true := by
  unfold State.store
  dsimp only
  rw [ready_run hr, store_operands hr, if_pos hbad]
  rfl

/-- The state after a window violation of core `m`. -/
theorem freeze_stops (s : State) (m : Nat) (c : Core) (r : FzRec) (hmid : r.mid = m) :
    ((s.setCore m c).freeze r).isFrozen m = true ∧ ((s.setCore m c).freeze r).mem = s.mem := by
  subst hmid
  exact ⟨freeze_isFrozen _ r, (keep_mem (freeze_keep _ r)).1⟩

theorem load_violation {s : State} {m d addr size : Nat} (hr : s.ready m [d, d + 1] = true) (hgood : ¬misplaced addr size)
    (hviol : s.violation (s.accMid m) (s.core m).prv (s.locate (some m) addr) addr size .rd ≠ none)
    (sext : Bool) (upd : Core → Core) :
    (s.load m true 0 addr size sext d upd).isFrozen m = true ∧ (s.load m true 0 addr size sext d upd).mem = s.mem := by
  obtain ⟨cause, hcause⟩ := Option.ne_none_iff_exists'.1 hviol
  unfold State.load
  dsimp only
  rw [ready_run hr, load_operands hr, if_neg hgood, hcause]
  exact freeze_stops s m _ _ rfl

theorem store_violation {s : State} {m addr size : Nat} {srcs : List Nat} (hr : s.ready m srcs = true)
    (hgood : ¬misplaced addr size)
    (hviol : s.violation (s.accMid m) (s.core m).prv (s.locate (some m) addr) addr size .wr ≠ none) (v : Nat)
    (upd : Core → Core) :
    (s.store m true srcs addr size v upd).isFrozen m = true ∧ (s.store m true srcs addr size v upd).mem = s.mem := by
  obtain ⟨cause, hcause⟩ := Option.ne_none_iff_exists'.1 hviol
  unfold State.store
  dsimp only
  rw [ready_run hr, store_operands hr, if_neg hgood, hcause]
  exact freeze_stops s m _ _ rfl

/-- Settles O18: a misplaced access is ALIGN, another one that its window forbids freezes the core. -/
theorem badAccesses : Obligations.BadAccesses := by
  unfold Obligations.BadAccesses
  intro m s
  dsimp only
  intro o hlegal hr
  have hrs := Laws.stSrcs s m o hr
  rw [exec_ld, exec_ldu, exec_st, hlegal]
  refine ⟨fun hbad => ⟨⟨_, rfl, ?_⟩, ⟨_, rfl, ?_⟩, ⟨_, rfl, ?_⟩⟩,
    fun hgood hviol => ⟨⟨_, rfl, load_violation hr hgood hviol _ _⟩, ⟨_, rfl, load_violation hr hgood hviol _ _⟩⟩,
    fun hgood hviol => ⟨_, rfl, store_violation hrs hgood hviol _ _⟩⟩
  · rw [load_misplaced hr hbad]
    exact Laws.alignT s m _
  · rw [load_misplaced hr hbad]
    exact Laws.alignT s m _
  · rw [store_misplaced hrs hbad]
    exact Laws.alignW s m _

end Sys2Proof.CoreAccesses
end

section
/-!
What interrupts a core from outside: an NMI (R218, R219), a lockstep difference and memory errors (R221, R227, R234).
-/
namespace Sys2Proof.CoreEvents

open Sys2Proof Sys2Proof.Machine Sys2Proof.Machine.State Sys2Proof.SystemInstructions

/-! ## NMI (R218, R219) -/

/-- The source's NMI has arrived: it is no longer on its way. -/
abbrev nmiArrived (s : State) (m src : Nat) : State :=
  { s with fc := { s.fc with nmis := s.fc.nmis.eraseP (fun e => e.1 == m && e.2 == src) } }

/-- The core as NMI entry leaves it, but for the fetch at NVEC. -/
def nmiCore (s : State) (m src : Nat) : Core :=
  let c := s.core m
  { c with nepc := c.pc, nstatus := c.status (s.paired m), ncause := BitVec.ofNat 32 src, prv := true, nmil := true, pwr := 0,
           pc := c.nvec, blockedIn := none, stall := none, nmi := [] }

theorem execNmiEntry_reaches {s : State} {m src : Nat} (hm : m < 32) (hsrc : src < 512) (hup : s.dieUp (m / 16) = true)
    (hrst : s.inRst m = false) (heven : s.paired m = true → m % 2 = 0) (hnone : (s.core m).nmi = [])
    (hfrozen : s.isFrozen m = false) :
    exec (.nmiEntry m src) s = .next (
      let u := (nmiArrived s m src).setCore m { s.core m with nmi := [src] }
      if (s.core m).nmil then u else u.takeNmi m) := by
  have hup' : (nmiArrived s m src).dieUp (m / 16) = true := hup
  have hrst' : (nmiArrived s m src).inRst m = false := hrst
  have hodd : ((nmiArrived s m src).paired m && m % 2 == 1) = false := by
    show (s.paired m && m % 2 == 1) = false
    cases hp : s.paired m with
    | true => simp [heven hp]
    | false => rfl
  have hcore : (nmiArrived s m src).core m = s.core m := rfl
  have hfrozen' (c : Core) : ((nmiArrived s m src).setCore m c).isFrozen m = false := hfrozen
  have hpend : (if (s.core m).nmi.contains src then (s.core m).nmi else (s.core m).nmi ++ [src % 512]) = [src] := by
    rw [hnone, Nat.mod_eq_of_lt hsrc]
    rfl
  show execNmiEntry m src s = _
  unfold execNmiEntry
  simp only [hup', hrst', hodd, Nat.not_le.2 hm, modCore_eq, hcore, hpend, core_setCore, hfrozen', decide_false, Bool.not_true,
    Bool.or_false, Bool.false_eq_true, if_false]

theorem unblock_running {u : State} {m : Nat} (h : (u.core m).blockedIn = none) :
    u.unblock m = u.setCore m { u.core m with blockedIn := none, stall := none } := by
  unfold unblock
  rw [h]
  rfl

theorem jumped_alike {u : State} {m : Nat} {c : Core} (h : c.data = (u.core m).data) : alike u (u.jumped m c) m :=
  alike_trans (alike_setCore u m c h) (fetchAt_alike _ m)

/-- NMI entry leaves the registers and flags of its core, and every other core. -/
theorem takeNmi_alike (u : State) (m : Nat) : alike u (u.takeNmi m) m := by
  obtain ⟨hcore, hothers, -⟩ := Laws.unblock_core u m
  have hunblock : alike u (u.unblock m) m := ⟨by rw [hcore]; rfl, hothers⟩
  unfold takeNmi
  split
  · exact alike_of_cores m rfl
  · refine alike_trans (alike_trans hunblock ?_) (alike_of_cores m (syncCore_cores _ m))
    exact jumped_alike rfl

/-- A core that is not blocked enters NVEC for its one pending source, where its fetch meets nothing. -/
theorem takeNmi_core {u : State} {m src : Nat} (hpend : (u.core m).nmi = [src]) (hrun : (u.core m).blockedIn = none)
    (hfetch : (u.setCore m (nmiCore u m src)).fetchOk m (u.core m).nvec = true) :
    (u.takeNmi m).core m = nmiCore u m src := by
  have hpaired (c : Core) : (u.setCore m c).paired m = u.paired m := rfl
  have hgone : [src].filter (fun x => x != src) = [] := by simp
  unfold takeNmi
  rw [hpend]
  dsimp only [lowest, List.foldl_nil]
  rw [Laws.syncCore_core, unblock_running hrun, core_setCore, hpaired]
  dsimp only
  rw [hpend, hgone]
  unfold jumped
  rw [setCore_setCore, fetchAt_ok _ _ (by rw [core_setCore]; exact hfetch), core_setCore]
  rfl

/-- Settles O20: the source joins the pending ones; at NMIL = 0 the core enters NVEC at once. -/
theorem nmiTaken : Obligations.NmiTaken := by
  unfold Obligations.NmiTaken
  intro m src s hm hsrc hup hrst heven hnone hfrozen
  refine ⟨_, execNmiEntry_reaches hm hsrc hup hrst heven hnone hfrozen, ?_⟩
  have hpended : alike s ((nmiArrived s m src).setCore m { s.core m with nmi := [src] }) m :=
    alike_setCore (nmiArrived s m src) m _ rfl
  dsimp only
  by_cases hnmil : (s.core m).nmil = true
  · rw [if_pos hnmil]
    exact ⟨hpended.1, rfl, hpended.2, fun _ => core_setCore _ _ _, fun h => absurd (h.symm.trans hnmil) (by decide)⟩
  · rw [if_neg hnmil]
    obtain ⟨hdata, hothers⟩ := alike_trans hpended (takeNmi_alike _ m)
    refine ⟨hdata, (keep_mem (takeNmi_keep _ m)).1, hothers, fun h => absurd h hnmil, fun _ hrun hfetch => ?_⟩
    rw [takeNmi_core (src := src)]
    · unfold nmiCore
      rw [core_setCore]
      rfl
    · rw [core_setCore]
    · rw [core_setCore]
      exact hrun
    · unfold nmiCore
      rw [setCore_setCore, core_setCore]
      exact hfetch

/-! ## Lockstep differences and memory errors (R221, R227, R234) -/

/-- A core freezes and the source of the error fires. -/
theorem freeze_reported {s u : State} (haside : s.aside u) (hmem : u.mem = s.mem) (r : FzRec) (hmid : r.mid < 32) (n : Nat) :
    ((u.freeze r).fire n).isFrozen r.mid = true ∧ s.fires ((u.freeze r).fire n) n ∧ ((u.freeze r).fire n).mem = s.mem := by
  refine ⟨?_, fires_fire (freeze_aside haside r (by omega)) n, ?_⟩
  · rw [Laws.mem_frozen_fire]
    exact freeze_isFrozen u r
  · rw [Laws.fmem, (keep_mem (freeze_keep u r)).1, hmem]

theorem coreLockstepDiff_reported {k q : Nat} {s : State} (hk : k < 2) (hq : q < 8) (hup : s.dieUp k = true)
    (hpaired : s.paired (16 * k + 2 * q) = true) (hrst : s.inRst (16 * k + 2 * q) = false)
    (hfrozen : s.isFrozen (16 * k + 2 * q) = false) :
    gives (exec (.coreLockstepDiff k q) s) (fun t =>
      t.isFrozen (16 * k + 2 * q) = true ∧ s.fires t (0x040 + q + 0x40 * k) ∧ t.mem = s.mem) := by
  refine ⟨_, rfl, ?_⟩
  simp only [hk, hq, hup, hpaired, hrst, hfrozen, decide_true, Bool.not_false, Bool.and_self, if_true]
  exact freeze_reported (modCore_aside (aside_refl s) _ _) rfl ⟨_, 16 * k + 2 * q, _, _, _, _, _, _⟩
    (by show 16 * k + 2 * q < 32; omega) _

/-- TCMCE counts and saturates; the odd core of a paired pair shows the same count (R225, R234). -/
def tcmCounted (s : State) (m : Nat) : State :=
  let l := s.lead m
  let t := s.inc (coreB l) Cc.CORE_STAT.TCMCE
  if t.paired m then t.wr (coreB (l + 1)) Cc.CORE_STAT.TCMCE (t.rd (coreB l) Cc.CORE_STAT.TCMCE) else t

theorem tcmCounted_rd (s : State) (m : Nat) :
    (tcmCounted s m).rd (coreB (s.lead m)) Cc.CORE_STAT.TCMCE =
      min (s.rd (coreB (s.lead m)) Cc.CORE_STAT.TCMCE + 1) 255 := by
  have hcount : (s.inc (coreB (s.lead m)) Cc.CORE_STAT.TCMCE).rd (coreB (s.lead m)) Cc.CORE_STAT.TCMCE =
      min (s.rd (coreB (s.lead m)) Cc.CORE_STAT.TCMCE + 1) 255 := by
    rw [inc_eq, rd_wr_same _ _ _ _ (by decide)]
    exact Laws.mod_min _ 255 8 (by decide)
  have hother : Cc.CORE_STAT.TCMCE.key (coreB (s.lead m)) ≠ Cc.CORE_STAT.TCMCE.key (coreB (s.lead m + 1)) := by
    simp only [Fld.key, coreB]
    omega
  unfold tcmCounted
  dsimp only
  split
  · rw [rd_wr_ne _ _ _ _ _ _ hother, hcount]
  · exact hcount

/-- The cores' registers lie apart from DIE_STAT. -/
theorem dieStat_ne_tcmce {n : Nat} (hn : n ≤ 32) :
    Pwr.DIE_STAT.RDY.key pwrB ≠ Cc.CORE_STAT.TCMCE.key (coreB n) ∧
    Pwr.DIE_STAT.BUSY.key pwrB ≠ Cc.CORE_STAT.TCMCE.key (coreB n) := by
  simp only [Fld.key, Pwr.DIE_STAT.RDY, Pwr.DIE_STAT.BUSY, Cc.CORE_STAT.TCMCE, pwrB, coreB]
  constructor <;> omega

theorem tcmCounted_canFire (s : State) {m : Nat} (hm : m < 32) (n : Nat) : (tcmCounted s m).canFire n = s.canFire n := by
  have hlead := Laws.lead_lt s hm
  have hwr (u : State) {i : Nat} (hi : i ≤ 32) (v : Nat) : (u.wr (coreB i) Cc.CORE_STAT.TCMCE v).canFire n = u.canFire n :=
    Laws.wr_canFire u _ _ v n (dieStat_ne_tcmce hi).1 (dieStat_ne_tcmce hi).2
  unfold tcmCounted
  dsimp only
  split
  · rw [hwr _ (by omega), inc_eq, hwr _ (by omega)]
  · rw [inc_eq, hwr _ (by omega)]

theorem tcmCounted_cores (s : State) (m : Nat) : (tcmCounted s m).cores = s.cores ∧ (tcmCounted s m).mem = s.mem := by
  unfold tcmCounted
  dsimp only
  split <;> exact ⟨rfl, rfl⟩

theorem execTcmEccError_corrected {s : State} {m : Nat} (hm : m < 32) (hup : s.dieUp (m / 16) = true) :
    exec (.tcmEccError m false) s = .next ((tcmCounted s m).fireK (m / 16) (0x050 + m % 16 / 2)) := by
  show execTcmEccError m false s = _
  unfold execTcmEccError
  dsimp only
  rw [hup, decide_eq_false (by omega)]
  rfl

theorem tcmEccError_counted {s : State} {m : Nat} (hm : m < 32) (hup : s.dieUp (m / 16) = true) :
    gives (exec (.tcmEccError m false) s) (fun t =>
      t.rd (coreB (s.lead m)) Cc.CORE_STAT.TCMCE = min (s.rd (coreB (s.lead m)) Cc.CORE_STAT.TCMCE + 1) 255 ∧
      s.fires t (0x050 + m % 16 / 2 + 0x40 * (m / 16)) ∧ t.cores = s.cores ∧ t.mem = s.mem) := by
  obtain ⟨hcores, hmem⟩ := tcmCounted_cores s m
  refine ⟨_, execTcmEccError_corrected hm hup, ?_, fires_of _ (tcmCounted_canFire s hm _), ?_, ?_⟩
  · exact (rd_fire _ _ _ _).trans (tcmCounted_rd s m)
  · exact (fire_cores _ _).trans hcores
  · exact (Laws.fmem _ _).trans hmem

/-- Drawing free values changes nothing else. -/
theorem fresh_aside (s : State) (n : Nat) : s.aside { s with fresh := n } := ⟨rfl, fun _ h => h, fun _ _ _ _ => rfl⟩

theorem tcmEccError_frozen {s : State} {m : Nat} (hm : m < 32) (hup : s.dieUp (m / 16) = true)
    (hrst : s.inRst (s.lead m) = false) :
    gives (exec (.tcmEccError m true) s) (fun t =>
      t.isFrozen (s.lead m) = true ∧ s.fires t (0x058 + m % 16 / 2 + 0x40 * (m / 16)) ∧ t.mem = s.mem) := by
  have hdrawn (u : State) : u.freeWord.2.freeBit.2 = { u with fresh := u.fresh + 1 + 1 } := rfl
  have hrst' : ({ s with fresh := s.fresh + 1 + 1 } : State).inRst (s.lead m) = false := hrst
  refine ⟨_, rfl, ?_⟩
  dsimp only
  rw [hup, decide_eq_false (by omega), hdrawn, hrst']
  exact freeze_reported (modCore_aside (fresh_aside s _) _ _) rfl ⟨_, s.lead m, _, _, _, _, _, _⟩ (Laws.lead_lt s hm) _

theorem sramEccError_reported {s : State} {k : Nat} (hup : s.dieUp k = true) (ue : Bool) :
    gives (exec (.sramEccError k ue) s) (fun t =>
      s.fires t ((if ue then 0x049 else 0x048) + 0x40 * k) ∧ t.regs = s.regs ∧ t.cores = s.cores ∧ t.mem = s.mem) := by
  refine ⟨_, rfl, ?_⟩
  rw [if_pos hup]
  exact ⟨fires_fire (aside_refl s) _, fire_regs _ _, fire_cores _ _, Laws.fmem _ _⟩

/-- Settles O21: each event ends in its source's detection, after the freeze or the count it calls for. -/
theorem coreFaultReports : Obligations.CoreFaultReports := by
  unfold Obligations.CoreFaultReports
  exact ⟨fun k q s hk hq hup hpaired hrst hfrozen => coreLockstepDiff_reported hk hq hup hpaired hrst hfrozen,
    fun m s hm hup => tcmEccError_counted hm hup, fun m s hm hup hrst => tcmEccError_frozen hm hup hrst,
    fun k ue s hup => sramEccError_reported hup ue⟩

end Sys2Proof.CoreEvents
end

section
/-!
Who may write FREEZE_CTL, CORE_CTL and CORE_BOOT (R209), and what the commands that write a few register fields leave alone.
-/
namespace Sys2Proof.Privilege

open Sys2Proof Sys2Proof.Machine Sys2Proof.Machine.State

/-! ## FREEZE_CTL, CORE_CTL and CORE_BOOT (R209) -/

theorem privileged_iff (w : Wr) : privileged w = true ↔ w.mid = 0x7F ∨ w.mid < 32 ∧ w.sup = true := by
  unfold privileged
  rw [Bool.or_eq_true, Bool.and_eq_true, beq_iff_eq, decide_eq_true_iff]

section
variable {w : Wr} (hw : privileged w = false) (s : State)
include hw

/-- A write to FREEZE_CTL reaches the release of R224, whatever it names. -/
theorem land_freezeCtl_refused (v : Word) :
    s.land w (fzB + 0x10) v = (s.wr fzB Fz.FZ_RSTAT.NOPERM 1).retire w (fzB + 0x10) := by
  have hwaits : s.lawWaits (fzB + 0x10) = none := Laws.lawWaits_none s _ (by decide)
  have hwhere : s.locate none (fzB + 0x10) = .reg := rfl
  have hcyc : cycTarget (fzB + 0x10) = none := by decide
  unfold land
  rw [hwhere, hcyc, hwaits]
  exact Laws.release_no (s.retire w (fzB + 0x10)) w _ _ hw

theorem release_refused (m : Nat) (act : State → Nat → FzRec → Option State) :
    (s.release w m act).retire w (fzB + 0x10) = (s.wr fzB Fz.FZ_RSTAT.NOPERM 1).retire w (fzB + 0x10) := by
  rw [Laws.release_no s w m act hw]

theorem coreReset_refused (m : Nat) :
    exec (.coreReset w m) s = .next ((s.wr fzB Fz.FZ_RSTAT.NOPERM 1).retire w (coreB m)) := by
  show execCoreReset w m s = _
  unfold execCoreReset
  rw [hw]
  rfl

theorem coreRelease_refused (m : Nat) :
    exec (.coreRelease w m) s = .next ((s.wr fzB Fz.FZ_RSTAT.NOPERM 1).retire w (coreB m)) := by
  show execCoreRelease w m s = _
  unfold execCoreRelease
  rw [hw]
  rfl

end

/-- Settles O59: a write of another source ends in NOPERM, as a command of its own and as a write of the word. -/
theorem privilegeRule : Obligations.PrivilegeRule := by
  unfold Obligations.PrivilegeRule
  intro w s
  refine ⟨privileged_iff w, fun hw => ⟨fun v => ?freezeCtl, fun m => ⟨coreReset_refused hw s m, coreRelease_refused hw s m,
    ?retry, ?trap, ?reset, fun hm hk v => ⟨?coreCtl, ?coreBoot⟩⟩⟩⟩
  case freezeCtl => exact congrArg _ (land_freezeCtl_refused hw s v)
  case retry => exact congrArg _ (release_refused hw s m actRetry)
  case trap => exact congrArg _ (release_refused hw s m actTrap)
  case reset => exact congrArg _ (release_refused hw s m actReset)
  case coreCtl => exact congrArg _ (Laws.corePriv w s hw m 0 (.inl rfl) hm hk v)
  case coreBoot => exact congrArg _ (Laws.corePriv w s hw m 4 (.inr rfl) hm hk v)

/-! ## Commands that write a few fields -/

section
variable (s : State)

theorem wr_only {b : Nat} {f : Fld} {l : List (Nat × Fld)} (h : (b, f) ∈ l) (v : Nat) : s.only (s.wr b f v) l :=
  Laws.only_wr b f v h (Laws.only_refl s l)

/-- A refused privileged write changes NOPERM alone. -/
theorem noPerm_only {l : List (Nat × Fld)} (h : (fzB, Fz.FZ_RSTAT.NOPERM) ∈ l) : s.only s.noPerm l := wr_only s h 1

theorem secRej_only {l : List (Nat × Fld)} (h : (secB, Secu.SEC_STAT.REJ) ∈ l) : s.only s.secRej l :=
  Laws.only_fire _ (wr_only s h 1)

theorem dieBit_only {t : State} {l : List (Nat × Fld)} {f : Fld} (h : (pwrB, f) ∈ l) (ht : s.only t l) (d : Nat) (v : Bool) :
    s.only (t.dieBit f d v) l := Laws.only_wr _ _ _ h ht

theorem dieTurnOn_only {l : List (Nat × Fld)} (hon : (pwrB, Pwr.DIE_CTL.ON) ∈ l) (hbusy : (pwrB, Pwr.DIE_STAT.BUSY) ∈ l)
    (d : Nat) : s.only (s.dieTurnOn d) l := by
  unfold dieTurnOn
  exact Laws.only_ite (Laws.only_refl s l) (dieBit_only s hbusy (dieBit_only s hon (Laws.only_refl s l) d true) d true)

theorem svnRaise_only (w : Wr) (key : Byte) :
    s.only (s.svnRaise w key) [(secB, Secu.SEC_SVN.FLOOR), (secB, Secu.SEC_STAT.REJ), (fzB, Fz.FZ_RSTAT.NOPERM)] := by
  unfold svnRaise
  exact Laws.only_ite (noPerm_only s (by simp))
    (Laws.only_ite (secRej_only s (by simp)) (wr_only s (by simp) _))

theorem revoke_only (w : Wr) (key : Byte) :
    s.only (s.revoke w key) [(secB, Secu.SEC_OTP.REVOKED), (secB, Secu.SEC_STAT.REJ), (fzB, Fz.FZ_RSTAT.NOPERM)] := by
  unfold revoke
  exact Laws.only_ite (noPerm_only s (by simp))
    (Laws.only_ite (secRej_only s (by simp)) (wr_only s (by simp) _))

end

/-- Settles O60: each command writes fields of its list, fires sources or changes state outside the registers. -/
theorem registerFrames : Obligations.RegisterFrames := by
  unfold Obligations.RegisterFrames
  intro w s
  dsimp only
  refine ⟨⟨_, rfl, ?fcLock⟩, ⟨_, rfl, ?wden⟩, ⟨_, rfl, ?injectionTimeout⟩, fun k => ⟨_, rfl, ?bindLock⟩,
    ⟨_, rfl, ?peerAliveEdge⟩, ⟨_, rfl, ?paliveTimeout⟩, ⟨_, rfl, ?stopInDiscrepancy⟩, ⟨_, rfl, ?restore⟩,
    ⟨_, rfl, ?cycleTimerDis⟩, fun m => ⟨_, rfl, ?cycNumLoRead⟩,
    fun a => ⟨⟨_, rfl, ?refDiff⟩, ⟨_, rfl, ?refDiffEnd⟩, ⟨_, rfl, ?adiePllRelock⟩⟩, fun ln => ⟨_, rfl, ?wakeToneEnd⟩,
    ⟨_, rfl, ?refclkLoss⟩, ⟨_, rfl, ?xtalStop⟩, ⟨_, rfl, ?pwrfailRise⟩, fun d => ⟨_, rfl, ?dieOn⟩,
    fun k => ⟨⟨_, rfl, ?svnRaise⟩, ⟨_, rfl, ?revoke⟩⟩, ⟨_, rfl, ?railFault⟩, ⟨_, rfl, ?perstNAssert⟩,
    ⟨_, rfl, ?perstNRelease⟩, fun b => ⟨⟨_, rfl, ?conseqWindowEnd⟩, ⟨_, rfl, ?escalationWindowEnd⟩⟩⟩
  case fcLock => exact Laws.only_ret _ _ (Laws.only_wr _ _ _ (by simp) (wr_only s (by simp) 1))
  case wden => exact Laws.only_ret _ _ (Laws.only_ite (Laws.only_refl s _) (Laws.only_fc _ (wr_only s (by simp) 1)))
  case injectionTimeout =>
    exact Laws.only_ite (Laws.only_wr _ _ _ (by simp) (Laws.only_wr _ _ _ (by simp) (Laws.only_fc _ (Laws.only_refl s _))))
      (Laws.only_refl s _)
  case bindLock => exact Laws.only_ret _ _ (wr_only s (by simp) 1)
  case peerAliveEdge => exact wr_only s (by simp) 1
  case paliveTimeout => exact Laws.only_fireIf _ _ (wr_only s (by simp) 0)
  case stopInDiscrepancy =>
    exact Laws.only_ite (Laws.only_refl s _) (Laws.only_fire _ (Laws.only_saf _ (wr_only s (by simp) 1)))
  case restore => exact Laws.only_ret _ _ (Laws.only_ite (Laws.only_fire _ (wr_only s (by simp) 1)) (wr_only s (by simp) 1))
  case cycleTimerDis => exact Laws.only_ret _ _ (wr_only s (by simp) 0)
  case cycNumLoRead => exact Laws.only_ans _ _ _ (wr_only s (by simp) _)
  case refDiff => exact Laws.only_ad s a _ _ (wr_only s (by simp) 1)
  case refDiffEnd => exact Laws.only_ad s a _ _ (wr_only s (by simp) 0)
  case adiePllRelock => exact Laws.only_ite (dieBit_only s (by simp) (Laws.only_refl s _) _ _) (Laws.only_refl s _)
  case wakeToneEnd => exact Laws.only_lane s ln _ _ (wr_only s (by simp) 0)
  case refclkLoss => exact Laws.only_ite (Laws.only_refl s _) (Laws.only_fire _ (wr_only s (by simp) 0))
  case xtalStop => exact Laws.only_fire _ (Laws.only_wr _ _ _ (by simp) (Laws.only_pwr _ (Laws.only_refl s _)))
  case pwrfailRise => exact Laws.only_ite (Laws.only_fire _ (wr_only s (by simp) 0)) (Laws.only_refl s _)
  case dieOn => exact Laws.only_ret _ _ (Laws.only_ite (dieTurnOn_only s (by simp) (by simp) d) (noPerm_only s (by simp)))
  case svnRaise => exact Laws.only_ret _ _ (svnRaise_only s w k)
  case revoke => exact Laws.only_ret _ _ (revoke_only s w k)
  case railFault => exact Laws.only_fireIf _ _ (Laws.only_refl s [])
  case perstNAssert => exact Laws.only_pwr _ (Laws.only_refl s [])
  case perstNRelease => exact Laws.only_pwr _ (Laws.only_refl s [])
  case conseqWindowEnd => exact Laws.only_fc _ (Laws.only_refl s [])
  case escalationWindowEnd => exact Laws.only_fc _ (Laws.only_refl s [])

end Sys2Proof.Privilege
end

section
/-!
The integer instructions of the cores: the operations of opcode 0x00, the register-immediate ones, and the moves between the
register files.
-/
namespace Sys2Proof.IntegerInstructions

open Sys2Proof Sys2Proof.Machine Sys2Proof.Machine.State

/-! ## What the shared operations leave (R246) -/

/-- The core an operation of opcode 0x00 leaves, spelt by its result `r`. -/
def aluDone (c : Core) (d : Nat) (sf : Bool) (r : AluRes) : Core := aluCore c d sf r.val (r.c, r.v) r.sat

theorem aluDone_eq (c : Core) (d : Nat) (sf : Bool) (r : AluRes) :
    aluDone c d sf r = { c.wg d r.val with flags := (if sf then c.flags.ofRes r else c.flags).addSat r.sat } := by
  cases sf <;> rfl

theorem alu3_ran {s : State} {m : Nat} {o : OpA} (sf : Bool) {legal : Bool} (f : Word → Word → AluRes)
    (hr : s.ready m [o.d.toNat, o.a.toNat, o.b.toNat] = true) (hlegal : legal = true) :
    s.ran m (aluDone (s.core m) o.d.toNat sf (f ((s.core m).rg o.a.toNat) ((s.core m).rg o.b.toNat)))
      (s.alu3 m o sf legal f) := by
  rw [aluDone_eq]
  exact instr_ran s m [o.a.toNat, o.b.toNat] o.d.toNat legal _ hr hlegal

/-- A comparison is an operation on g0 that sets the flags whatever SF is and does not saturate. -/
theorem compare_ran {s : State} {m : Nat} {srcs : List Nat} {legal : Bool} (f : Core → AluRes)
    (hr : s.ready m (0 :: srcs) = true) (hlegal : legal = true) (hsat : (f (s.core m)).sat = false) :
    s.ran m (aluDone (s.core m) 0 true (f (s.core m))) (s.compare m srcs legal f) := by
  have hflags (g : Flags) : g.addSat false = g := by unfold Flags.addSat; rw [Bool.or_false]
  rw [aluDone_eq, hsat, hflags]
  exact instr_ran s m srcs 0 legal _ hr hlegal

/-- A row whose result sets neither C nor V and does not saturate. -/
theorem aluRow_plain {mk : Nat → OpA → Bool → Instr} {f : Word → Word → Word}
    (hexec : ∀ m o sf s, exec (mk m o sf) s = .next (s.alu3 m o sf true (fun a b => plain (f a b)))) :
    aluRow mk f (fun _ _ => (none, none)) (fun _ _ => false) :=
  Laws.aluRow_of _ _ _ _ _ hexec fun _ _ => rfl

/-! ## Carry, overflow and saturation (R246, R247) -/

theorem aluAdd_eq (a b : Word) : aluAdd a b =
    (let x := a.toInt + b.toInt
     ⟨a + b, some (decide (2 ^ 32 ≤ a.toNat + b.toNat)), some (decide (x < -2 ^ 31 ∨ 2 ^ 31 ≤ x)), false⟩) := by
  unfold aluAdd
  rw [Laws.ovf_eq]
  rfl

theorem aluSub_eq (a b : Word) : aluSub a b =
    (let x := a.toInt - b.toInt
     ⟨a - b, some (decide (b.toNat ≤ a.toNat)), some (decide (x < -2 ^ 31 ∨ 2 ^ 31 ≤ x)), false⟩) := by
  unfold aluSub
  rw [Laws.ovf_eq]
  rfl

/-- ADDS differs from ADD in that an overflow saturates. -/
theorem aluAdds_eq (a b : Word) : aluAdds a b =
    (let x := a.toInt + b.toInt
     let ovf := decide (x < -2 ^ 31 ∨ 2 ^ 31 ≤ x)
     ⟨sat32 x, some (decide (2 ^ 32 ≤ a.toNat + b.toNat)), some ovf, ovf⟩) := by
  unfold aluAdds
  dsimp only
  rw [Laws.ovf_eq]
  rfl

/-- SUBS differs from SUB in that an overflow saturates. -/
theorem aluSubs_eq (a b : Word) : aluSubs a b =
    (let x := a.toInt - b.toInt
     let ovf := decide (x < -2 ^ 31 ∨ 2 ^ 31 ≤ x)
     ⟨sat32 x, some (decide (b.toNat ≤ a.toNat)), some ovf, ovf⟩) := by
  unfold aluSubs
  dsimp only
  rw [Laws.ovf_eq]
  rfl

theorem aluAbss_eq (a : Word) : aluAbss a =
    (let x := if a.toInt < 0 then -a.toInt else a.toInt
     ⟨sat32 x, none, none, decide (x < -2 ^ 31 ∨ 2 ^ 31 ≤ x)⟩) := by
  unfold aluAbss
  dsimp only
  rw [Laws.ovf_eq]

theorem aluNegs_eq (a : Word) : aluNegs a =
    ⟨sat32 (-a.toInt), none, none, decide (-a.toInt < -2 ^ 31 ∨ 2 ^ 31 ≤ -a.toInt)⟩ := by
  unfold aluNegs
  rw [Laws.ovf_eq]

/-- Settles O1: the sums and differences by their carry and overflow, the other rows by their result alone. -/
theorem aluResults : Obligations.AluResults := by
  unfold Obligations.AluResults
  dsimp only
  refine ⟨?add, ?sub, ?and, ?or, ?xor, ?andn, ?mul, ?mulh, ?mulhu, ?slt, ?sltu, ?min, ?max, ?adds, ?subs⟩
  case add => exact Laws.aluRow_of _ _ _ _ _ (fun _ _ _ _ => rfl) aluAdd_eq
  case sub => exact Laws.aluRow_of _ _ _ _ _ (fun _ _ _ _ => rfl) aluSub_eq
  case and | or | xor | andn | mul | mulh | mulhu | slt | sltu | min | max => exact aluRow_plain fun _ _ _ _ => rfl
  case adds => exact Laws.aluRow_of _ _ _ _ _ (fun _ _ _ _ => rfl) aluAdds_eq
  case subs => exact Laws.aluRow_of _ _ _ _ _ (fun _ _ _ _ => rfl) aluSubs_eq

/-! ## Shifts and rotates (R247) -/

/-- A row that shifts ga by gb mod 32, where C takes `out` of ga and the amount, if that is not 0. -/
theorem aluRow_shift {mk : Nat → OpA → Bool → Instr} {f : Word → Nat → Word} {out : Word → Nat → Bool}
    (hexec : ∀ m o sf s, exec (mk m o sf) s = .next (s.alu3 m o sf true (fun a b =>
      ⟨f a (b.toNat % 32), if b.toNat % 32 = 0 then none else some (out a (b.toNat % 32)), none, false⟩))) :
    aluRow mk (fun a b => f a (b.toNat % 32))
      (fun a b => (if b.toNat % 32 = 0 then none else some (out a (b.toNat % 32)), none)) (fun _ _ => false) :=
  Laws.aluRow_of _ _ _ _ _ hexec fun _ _ => rfl

/-- Settles O2: the four rows differ only in their result and in the bit that C takes. -/
theorem shiftResults : Obligations.ShiftResults := by
  unfold Obligations.ShiftResults
  refine ⟨?shl, ?shr, ?sar, ?ror⟩
  case shl => exact aluRow_shift (f := fun a n => a <<< n) (out := fun a n => a.getLsbD (32 - n)) fun _ _ _ _ => rfl
  case shr => exact aluRow_shift (f := fun a n => a >>> n) (out := fun a n => a.getLsbD (n - 1)) fun _ _ _ _ => rfl
  case sar => exact aluRow_shift (f := fun a n => a.sshiftRight n) (out := fun a n => a.getLsbD (n - 1)) fun _ _ _ _ => rfl
  case ror => exact aluRow_shift (f := fun a n => a.rotateRight n) (out := fun a n => (a.rotateRight n).msb) fun _ _ _ _ => rfl

/-! ## ABSS, NEGS and CMP (R246, R247) -/

/-- Settles O3: ABSS and NEGS with field b zero are rows of opcode 0x00, CMP with field d zero is a comparison. -/
theorem absNegCompare : Obligations.AbsNegCompare := by
  unfold Obligations.AbsNegCompare
  refine ⟨fun m o sf s hr hb => ⟨⟨_, rfl, ?abss⟩, ⟨_, rfl, ?negs⟩⟩, fun m o sf s hr hd => ⟨_, rfl, ?cmp⟩⟩
  case abss =>
    have hran := alu3_ran sf (fun a _ => aluAbss a) hr (beq_iff_eq.2 hb)
    rw [aluAbss_eq] at hran
    exact hran
  case negs =>
    have hran := alu3_ran sf (fun a _ => aluNegs a) hr (beq_iff_eq.2 hb)
    rw [aluNegs_eq] at hran
    exact hran
  case cmp =>
    have hran := compare_ran (fun c => aluSub (c.rg o.a.toNat) (c.rg o.b.toNat)) hr (beq_iff_eq.2 hd) rfl
    rw [aluSub_eq] at hran
    exact hran

/-! ## The register-immediate operations (R248) -/

/-- A register-immediate row that every immediate and every field allows. -/
theorem immRow_free {mk : Nat → OpB → Instr} {f : Word → BitVec 16 → Word}
    (hexec : ∀ m o s, exec (mk m o) s = .next (s.immOp m o true (fun a => f a o.imm))) :
    immRow mk (fun _ => True) f :=
  Laws.immRow_of _ _ _ (fun _ => true) _ hexec (fun _ _ => rfl) fun _ _ _ => rfl

/-- With imm16[15:7] zero, imm16[6:5] is all that lies above the amount. -/
theorem shiKind_eq {i : BitVec 16} (hi : i.toNat < 128) (a : Word) : shiKind i a =
    if i.toNat / 32 = 0 then a <<< (i.toNat % 32)
    else if i.toNat / 32 = 1 then a >>> (i.toNat % 32)
    else if i.toNat / 32 = 2 then a.sshiftRight (i.toNat % 32)
    else a.rotateRight (i.toNat % 32) := by
  have hkind : i.toNat / 32 < 4 := by omega
  unfold shiKind
  rw [Nat.mod_eq_of_lt hkind]
  generalize i.toNat / 32 = k at hkind
  match k, hkind with
  | 0, _ => rfl
  | 1, _ => rfl
  | 2, _ => rfl
  | 3, _ => rfl

theorem cmpi_ran {m : Nat} {o : OpB} {s : State} (hr : s.ready m [0, o.a.toNat] = true) (hd : o.d = 0) :
    gives (exec (.cmpi m o) s)
      (s.ran m (aluDone (s.core m) 0 true (aluSub ((s.core m).rg o.a.toNat) (o.imm.signExtend 32)))) :=
  ⟨_, rfl, compare_ran (fun c => aluSub (c.rg o.a.toNat) (o.imm.signExtend 32)) hr (beq_iff_eq.2 hd) rfl⟩

/-- Settles O4: the rows by their result, SHI by the kind of its shift, CMPI by its comparison. -/
theorem immediateResults : Obligations.ImmediateResults := by
  unfold Obligations.ImmediateResults
  refine ⟨?addi, ?andi, ?ori, ?xori, ?lui, ?shi, fun m o s hr hd => ?cmpi⟩
  case addi | andi | ori | xori => exact immRow_free fun _ _ _ => rfl
  case lui =>
    exact Laws.immRow_of _ _ _ (fun o => o.a == 0) _ (fun _ _ _ => rfl) (fun _ ha => beq_iff_eq.2 ha) fun _ _ _ => rfl
  case shi =>
    exact Laws.immRow_of _ _ _ (fun o => decide (o.imm.toNat < 128)) _ (fun _ _ _ => rfl)
      (fun _ himm => decide_eq_true himm) fun _ a himm => shiKind_eq himm a
  case cmpi =>
    have hran := cmpi_ran hr hd
    rw [aluSub_eq] at hran
    exact hran

/-! ## Rows that only move registers -/

/-- A row without a general register as its destination. -/
theorem regRow_aside {α : Type} {mk : Nat → α → Instr} {legal : α → Prop} {srcs : α → List Nat} {f : α → Core → Core}
    (L : α → Bool) (hexec : ∀ m o s, exec (mk m o) s = .next (s.instr m (srcs o) 0 (L o) (f o)))
    (hlegal : ∀ o, legal o → L o = true) : regRow mk legal srcs f :=
  Laws.regRow_of mk legal srcs f L (fun _ => 0) srcs hexec hlegal fun _ s m hr => Laws.ready0 s m _ hr

/-- A row with the general register `d` as its destination. -/
theorem regRow_to {α : Type} {mk : Nat → α → Instr} {legal : α → Prop} {d : α → Nat} {srcs : α → List Nat}
    {f : α → Core → Core} (L : α → Bool)
    (hexec : ∀ m o s, exec (mk m o) s = .next (s.instr m (srcs o) (d o) (L o) (f o)))
    (hlegal : ∀ o, legal o → L o = true) : regRow mk legal (fun o => d o :: srcs o) f :=
  Laws.regRow_of mk legal _ f L d srcs hexec hlegal fun _ _ _ hr => hr

/-- A field that is zero and a register number of a smaller file. -/
theorem zero_and_below {b : BitVec 5} {n k : Nat} (h : b = 0 ∧ n < k) : (b == 0 && decide (n < k)) = true :=
  Bool.and_eq_true_iff.2 ⟨beq_iff_eq.2 h.1, decide_eq_true h.2⟩

theorem rg_wg_same (c : Core) (v : Word) {i : Nat} (hi : i ≠ 0) : (c.wg i v).rg i = v := by
  unfold Core.wg Core.rg
  rw [if_neg hi, if_neg hi, Tab.get_put_same]

/-- Settles O5: each move reads and writes its two register files. -/
theorem pointerMoves : Obligations.PointerMoves := by
  unfold Obligations.PointerMoves
  refine ⟨?toP, ?toM, ?fromP, ?fromM, ?setcb, ?getCb, ?getCl, fun c v i => ⟨⟨rfl, rfl⟩, rg_wg_same c v⟩⟩
  case toP | toM => exact regRow_aside _ (fun _ _ _ => rfl) fun _ => zero_and_below
  case fromP | fromM => exact regRow_to _ (fun _ _ _ => rfl) fun _ => zero_and_below
  case setcb => exact regRow_aside _ (fun _ _ _ => rfl) fun _ => decide_eq_true
  case getCb | getCl => exact regRow_to _ (fun _ _ _ => rfl) fun _ => zero_and_below

end Sys2Proof.IntegerInstructions
end

section
/-!
The accumulator instructions of the cores: products and sums that saturate to 72 bits, and what moves between accumulators
and general registers.
-/
namespace Sys2Proof.AccumulatorInstructions

open Sys2Proof Sys2Proof.Machine Sys2Proof.Machine.State Sys2Proof.IntegerInstructions

/-! ## The fields that are marked zero (R245, R251) -/

theorem two_zero {b sh : BitVec 5} (h : b = 0 ∧ sh = 0) : (b == 0 && sh == 0) = true :=
  Bool.and_eq_true_iff.2 ⟨beq_iff_eq.2 h.1, beq_iff_eq.2 h.2⟩

theorem three_zero {a b sh : BitVec 5} (h : a = 0 ∧ b = 0 ∧ sh = 0) : (a == 0 && b == 0 && sh == 0) = true := by
  obtain ⟨rfl, rfl, rfl⟩ := h
  rfl

theorem zero_below_zero {a sh : BitVec 5} {n k : Nat} (h : a = 0 ∧ n < k ∧ sh = 0) :
    (a == 0 && decide (n < k) && sh == 0) = true := by
  obtain ⟨rfl, hn, rfl⟩ := h
  rw [decide_eq_true hn]
  rfl

/-! ## The accumulator operations (R237, R238, R251) -/

/-- Settles O6: MAC, MSU and MPY by the exact product, which is the model's `product`, the others by their exact result; ACLR
and AMOV cannot saturate. -/
theorem accumulatorResults : Obligations.AccumulatorResults := by
  unfold Obligations.AccumulatorResults
  refine ⟨?mac, ?msu, ?mpy, ?aclr, ?amov, ?aneg, ?ash, ?ashr, ?aadd⟩
  case mac | msu | mpy => exact Laws.accRow _ _ _ _ _ _ (fun _ _ _ => rfl) fun _ => decide_eq_true
  case aclr => exact regRow_aside _ (fun _ _ _ => rfl) fun _ => three_zero
  case amov => exact regRow_aside _ (fun _ _ _ => rfl) fun _ => zero_below_zero
  case aneg => exact Laws.accRow _ _ _ _ _ _ (fun _ _ _ => rfl) fun _ => three_zero
  case ash | ashr => exact Laws.accRow _ _ _ _ _ _ (fun _ _ _ => rfl) fun _ => two_zero
  case aadd => exact Laws.accRow _ _ _ _ _ _ (fun _ _ _ => rfl) fun _ => beq_iff_eq.2

/-! ## Extraction, parts of accumulators and normalisation (R239, R240, R251) -/

/-- Settles O7: RNDC and EXTT by the integer they extract, `rndcInt` and `exttInt`, the others by the registers they move. -/
theorem extractionResults : Obligations.ExtractionResults := by
  unfold Obligations.ExtractionResults
  refine ⟨?rndc, ?extt, ?aldl, ?aldh, ?aldg, ?rdl, ?rdh, ?rdg, ?norm, ?expn, ?expnAcc⟩
  case rndc => exact Laws.extRow _ (fun o c => rndcInt (c.ra o.acc.toNat) o.sh) fun _ _ _ => rfl
  case extt => exact Laws.extRow _ (fun o c => exttInt (c.ra o.acc.toNat) o.sh) fun _ _ _ => rfl
  case aldl | aldh | aldg => exact regRow_aside _ (fun _ _ _ => rfl) fun _ => two_zero
  case rdl | rdh | rdg => exact regRow_to _ (fun _ _ _ => rfl) fun _ => two_zero
  case norm => exact regRow_to _ (fun _ _ _ => rfl) fun _ _ => rfl
  case expn => exact regRow_to _ (fun _ _ _ => rfl) fun _ => beq_iff_eq.2
  case expnAcc => exact regRow_to _ (fun _ _ _ => rfl) fun _ => zero_and_below

end Sys2Proof.AccumulatorInstructions
end

section
/-!
The branches of the cores, and the addresses and pointer updates of the accesses of format C.
-/
namespace Sys2Proof.BranchesAndAddresses

open Sys2Proof Sys2Proof.Machine Sys2Proof.Machine.State

/-! ## Branches, calls and jumps (R250) -/

section
variable {s : State} {m : Nat}

theorem bCond_taken {o : OpD} (hr : s.canRun m = true) (hcond : condHolds (s.core m).flags o.cond = true) :
    gives (exec (.bCond m o) s) (s.went m (s.core m) (branchTarget (s.core m).pc o)) := by
  refine ⟨_, rfl, ?_⟩
  simp only [hr, hcond, Bool.not_true, Bool.false_eq_true, if_false, if_true]
  exact jumped_went s m _ _

theorem bCond_passed {o : OpD} (hr : s.canRun m = true) (hcond : condHolds (s.core m).flags o.cond = false) :
    gives (exec (.bCond m o) s) (s.ran m (s.core m)) := by
  refine ⟨_, rfl, ?_⟩
  simp only [hr, hcond, Bool.not_true, Bool.false_eq_true, if_false]
  exact goOn_ran s m _

theorem callCond_taken {o : OpD} (hr : s.ready m [1] = true) (hcond : condHolds (s.core m).flags o.cond = true) :
    gives (exec (.callCond m o) s)
      (s.went m ((s.core m).wg 1 ((s.core m).pc + 4)) (branchTarget (s.core m).pc o)) := by
  have hlink := ready_awaits hr (List.mem_singleton.2 rfl)
  refine ⟨_, rfl, ?_⟩
  simp only [ready_run hr, hcond, hlink, Bool.not_true, Bool.false_eq_true, if_false, if_true]
  exact jumped_went s m _ _

theorem callCond_passed {o : OpD} (hr : s.canRun m = true) (hcond : condHolds (s.core m).flags o.cond = false) :
    gives (exec (.callCond m o) s) (s.ran m (s.core m)) := by
  refine ⟨_, rfl, ?_⟩
  simp only [hr, hcond, Bool.not_true, Bool.false_eq_true, if_false]
  exact goOn_ran s m _

theorem jr_went {o : OpA} (hr : s.canRun m = true) (ha : (s.core m).awaits o.a.toNat = false) (hd : o.d = 0)
    (hb : o.b = 0) : gives (exec (.jr m o) s) (s.went m (s.core m) ((s.core m).rg o.a.toNat)) := by
  refine ⟨_, rfl, ?_⟩
  simp only [hr, ha, hd, hb, beq_self_eq_true, Bool.and_self, Bool.not_true, Bool.false_eq_true, if_false]
  exact jumped_went s m _ _

theorem jrl_went {o : OpA} (hr : s.ready m [o.d.toNat, o.a.toNat] = true) (hb : o.b = 0) :
    gives (exec (.jrl m o) s)
      (s.went m ((s.core m).wg o.d.toNat ((s.core m).pc + 4)) ((s.core m).rg o.a.toNat)) := by
  have hd := ready_awaits hr (i := o.d.toNat) (by simp)
  have ha := ready_awaits hr (i := o.a.toNat) (by simp)
  refine ⟨_, rfl, ?_⟩
  simp only [ready_run hr, hd, ha, hb, beq_self_eq_true, Bool.or_self, Bool.not_true, Bool.false_eq_true, if_false]
  exact jumped_went s m _ _

end

/-- Settles O8: a branch or call goes to its target where the condition table holds and on in sequence where it does not. -/
theorem branchResults : Obligations.BranchResults := by
  unfold Obligations.BranchResults
  refine ⟨fun m o s hr => ?conditional, fun m o s hr hb => ⟨jrl_went hr hb, fun hd => ?jr⟩⟩
  case conditional =>
    have hrun := ready_run hr
    dsimp only
    rw [← Laws.condEq (s.core m).flags o.cond]
    exact ⟨fun hcond => ⟨bCond_taken hrun hcond, callCond_taken hr hcond⟩,
      fun hcond => ⟨bCond_passed hrun hcond, callCond_passed hrun hcond⟩⟩
  case jr => exact jr_went (ready_run hr) (ready_awaits hr (by simp)) hd hb

/-! ## Addressing modes (R241, R242) -/

theorem disp_step (o : OpC) : o.disp.toInt * (szBytes o.sz : Int) = o.disp.toInt * 2 ^ o.sz.toNat := by
  unfold szBytes
  rw [Nat.cast_pow]
  rfl

/-- Only mode 0 adds to the pointer before the access. -/
theorem addrC_pointer (c : Core) {o : OpC} (h : o.mode ≠ 0) : addrC c o = c.rp o.p.toNat := by
  unfold addrC
  exact if_neg h

theorem addrC_offset (c : Core) {o : OpC} (h : o.mode = 0) :
    addrC c o = c.rp o.p.toNat + BitVec.ofInt 32 (o.disp.toInt * 2 ^ o.sz.toNat) := by
  unfold addrC
  rw [← disp_step]
  exact if_pos h

/-- Settles O15: mode by mode, the address and the pointer after the access. -/
theorem addressModes : Obligations.AddressModes := by
  unfold Obligations.AddressModes
  intro c o
  refine ⟨fun hmode => ⟨addrC_offset c hmode, ?offset⟩, fun hmode => ⟨addrC_pointer c (by simp [hmode]), ?modifier⟩,
    fun hmode => ⟨addrC_pointer c (by simp [hmode]), ?circular⟩, fun hmode => ⟨addrC_pointer c (by simp [hmode]), ?step⟩⟩
  case offset | modifier | circular => unfold pointC; rw [hmode]; rfl
  case step => unfold pointC; rw [hmode, disp_step]; rfl

end Sys2Proof.BranchesAndAddresses
end

section
/-!
The task scheduler of a K-die (R255 to R260, R274, R276): where the copies of a register lie, how a slot is activated, taken
and ended, what disabling it and an event do, and what an error of the scheduler's memory costs.
-/
namespace Sys2Proof.Tasks

open Sys2Proof Sys2Proof.Machine Sys2Proof.Machine.State Sys2Proof.CellLink Sys2Proof.Modulators

/-! ## Registers with copies (R22, R274, R275) -/

section
variable {f g : Fld} (s : State) (b i v : Nat)

theorem copy_key_ne (hstp : f.stp = g.stp) (h : f.key 0 ≠ g.key 0) : (f.at i).key b ≠ (g.at i).key b := by
  unfold Fld.key at h ⊢
  unfold Fld.at
  dsimp only
  rw [hstp]
  omega

/-- A register with copies lies above the single registers of its block, whichever copy is meant. -/
theorem copy_key_ne_single (hf : f.lsb < 32) (hg : g.lsb < 32) (hoff : g.off < f.off) : (f.at i).key b ≠ g.key b :=
  key_ne_of_word_ne (at_lsb hf) hg (by unfold Fld.at; dsimp only; omega)

theorem rd_copy_wr_same (hwid : f.wid ≤ 32) : (s.wr b (f.at i) v).rd b (f.at i) = v % 2 ^ f.wid :=
  rd_wr_same _ _ _ _ hwid

theorem rd_copy_wr_copy (hstp : f.stp = g.stp) (h : f.key 0 ≠ g.key 0) :
    (s.wr b (g.at i) v).rd b (f.at i) = s.rd b (f.at i) :=
  rd_wr_ne _ _ _ _ _ _ (copy_key_ne b i hstp h)

theorem rd_copy_wr_single (hf : f.lsb < 32) (hg : g.lsb < 32) (hoff : g.off < f.off) :
    (s.wr b g v).rd b (f.at i) = s.rd b (f.at i) :=
  rd_wr_ne _ _ _ _ _ _ (copy_key_ne_single b i hf hg hoff)

theorem rd_single_wr_copy (hf : f.lsb < 32) (hg : g.lsb < 32) (hoff : g.off < f.off) :
    (s.wr b (f.at i) v).rd b g = s.rd b g :=
  rd_wr_ne _ _ _ _ _ _ (copy_key_ne_single b i hf hg hoff).symm

/-- A counter counts up by one and saturates. -/
theorem rd_inc_same (hwid : f.wid ≤ 32) : (s.inc b f).rd b f = min (s.rd b f + 1) f.top := by
  rw [inc_eq, rd_wr_same _ _ _ _ hwid]
  exact Laws.mod_min _ _ _ (Nat.sub_lt (Nat.two_pow_pos _) Nat.one_pos)

end

theorem fireK_cores (s : State) (k n : Nat) : (s.fireK k n).cores = s.cores := fire_cores _ _

theorem fireK_sch (s : State) (j n k : Nat) : (s.fireK j n).sch k = s.sch k := by
  unfold fireK fire
  split <;> rfl

theorem syncCore_sch (s : State) (m k : Nat) : (s.syncCore m).sch k = s.sch k := by
  unfold syncCore
  dsimp only
  split <;> rfl

/-! ## Activation and the end of a run (R256, R257) -/

section
variable {s : State} {k i : Nat}

theorem activate_disabled (hen : s.rd (schB k) (Sch.TASK_CFG.EN.at i) = 0) :
    (s.activate k i).regs = s.regs := by
  unfold activate
  dsimp only
  rw [Laws.on_false hen]
  rfl

theorem activate_idle (hk : k < 2) (hi : i < 256) (hblocked : (s.sch k).blocked = [])
    (hen : s.rd (schB k) (Sch.TASK_CFG.EN.at i) ≠ 0) (hst : s.rd (schB k) (Sch.TASK_STAT.STATE.at i) = 0) :
    (s.activate k i).rd (schB k) (Sch.TASK_STAT.STATE.at i) = 1 ∧
    ((s.activate k i).sch k).ready = (s.sch k).ready ++ [i] := by
  obtain ⟨hready, hqueue, -⟩ := Laws.enqueue_facts s k i hk hi hblocked
  unfold activate
  dsimp only
  rw [(Laws.on_iff _ _ _).2 hen, hst]
  exact ⟨hready, hqueue⟩

theorem activate_running (hen : s.rd (schB k) (Sch.TASK_CFG.EN.at i) ≠ 0)
    (hst : s.rd (schB k) (Sch.TASK_STAT.STATE.at i) = 2) :
    (s.activate k i).rd (schB k) (Sch.TASK_STAT.STATE.at i) = 3 := by
  unfold activate
  dsimp only
  rw [(Laws.on_iff _ _ _).2 hen, hst]
  exact rd_copy_wr_same _ _ _ _ (by decide)

theorem overrun_counted :
    (((s.inc (schB k) (Sch.TASK_STAT.OVR.at i)).inc (schB k) Sch.SCH_CNT.OVR).fireK k 0x070).rd (schB k)
      (Sch.TASK_STAT.OVR.at i) = min (s.rd (schB k) (Sch.TASK_STAT.OVR.at i) + 1) 255 := by
  rw [fireK_rd, inc_eq _ _ Sch.SCH_CNT.OVR, rd_copy_wr_single _ _ _ _ (by decide) (by decide) (by decide)]
  exact rd_inc_same s (schB k) (f := Sch.TASK_STAT.OVR.at i) (show 8 ≤ 32 by decide)

theorem activate_overruns (hen : s.rd (schB k) (Sch.TASK_CFG.EN.at i) ≠ 0)
    (hst : s.rd (schB k) (Sch.TASK_STAT.STATE.at i) = 1 ∨ s.rd (schB k) (Sch.TASK_STAT.STATE.at i) = 3) :
    (s.activate k i).rd (schB k) (Sch.TASK_STAT.STATE.at i) = s.rd (schB k) (Sch.TASK_STAT.STATE.at i) ∧
    (s.activate k i).rd (schB k) (Sch.TASK_STAT.OVR.at i) =
      min (s.rd (schB k) (Sch.TASK_STAT.OVR.at i) + 1) 255 := by
  have hcounts : s.activate k i =
      ((s.inc (schB k) (Sch.TASK_STAT.OVR.at i)).inc (schB k) Sch.SCH_CNT.OVR).fireK k 0x070 := by
    unfold activate
    dsimp only
    rw [(Laws.on_iff _ _ _).2 hen]
    rcases hst with hst | hst <;> rw [hst] <;> rfl
  rw [hcounts]
  refine ⟨?_, overrun_counted⟩
  rw [fireK_rd, inc_eq, inc_eq, rd_copy_wr_single _ _ _ _ (by decide) (by decide) (by decide),
    rd_copy_wr_copy _ _ _ _ (by decide) (by decide)]

/-- With no core blocked in TASK.GET an activation leaves every core alone. -/
theorem activate_cores (hk : k < 2) (hi : i < 256) (hblocked : (s.sch k).blocked = []) :
    (s.activate k i).cores = s.cores := by
  obtain ⟨-, -, hqueued⟩ := Laws.enqueue_facts s k i hk hi hblocked
  unfold activate
  dsimp only
  split
  case isTrue => rfl
  case isFalse =>
    split
    · exact hqueued
    · rfl
    · exact fireK_cores _ _ _

theorem endTask_running (hst : s.rd (schB k) (Sch.TASK_STAT.STATE.at i) = 2) :
    (s.endTask k i).rd (schB k) (Sch.TASK_STAT.STATE.at i) = 0 := by
  unfold endTask
  dsimp only
  rw [if_neg (by omega)]
  exact rd_copy_wr_same _ _ _ _ (by decide)

/-- A slot that was posted while it ran is READY again. -/
theorem endTask_posted (hk : k < 2) (hi : i < 256) (hblocked : (s.sch k).blocked = [])
    (hen : s.rd (schB k) (Sch.TASK_CFG.EN.at i) ≠ 0) (hst : s.rd (schB k) (Sch.TASK_STAT.STATE.at i) = 3) :
    (s.endTask k i).rd (schB k) (Sch.TASK_STAT.STATE.at i) = 1 ∧
    ((s.endTask k i).sch k).ready = (s.sch k).ready ++ [i] := by
  obtain ⟨hready, hqueue, -⟩ := Laws.enqueue_facts s k i hk hi hblocked
  unfold endTask
  dsimp only
  rw [if_pos hst, if_pos ((Laws.on_iff _ _ _).2 hen)]
  exact ⟨hready, hqueue⟩

/-- With no core blocked in TASK.GET the end of a run leaves every core alone. -/
theorem endTask_cores (hk : k < 2) (hi : i < 256) (hblocked : (s.sch k).blocked = []) :
    (s.endTask k i).cores = s.cores := by
  obtain ⟨-, -, hqueued⟩ := Laws.enqueue_facts s k i hk hi hblocked
  unfold endTask
  dsimp only
  split
  case isTrue =>
    split
    · exact hqueued
    · rfl
  case isFalse => rfl

end

/-! ## TASK.POST and TASK.DONE (R256, R257) -/

theorem canRun_lt {s : State} {m : Nat} (h : s.canRun m = true) : m < 32 := by
  unfold canRun at h
  simp only [Bool.and_eq_true, decide_eq_true_eq] at h
  omega

section
variable {s : State} {m : Nat} {o : OpA} (hd : o.d = 0) (hb : o.b = 0) (hr : s.ready m [o.a.toNat] = true)
  (hpage : ((s.core m).pc + 4).toNat % 4096 ≠ 0)
include hd hb hr hpage

theorem exec_taskPost : exec (.taskPost m o) s = .next
    ((s.setCore m (s.core m).done).activate (m / 16) (((s.core m).rg o.a.toNat).toNat % 256)) := by
  show execTaskPost m o s = _
  unfold execTaskPost
  simp only [ready_run hr, ready_awaits hr (List.mem_singleton.2 rfl), hd, hb, beq_self_eq_true, Bool.and_self, Bool.not_true,
    Bool.false_eq_true, if_false, Laws.goOn_seq s m (s.core m).done hpage]

theorem exec_taskDone : exec (.taskDone m o) s = .next (
    let i := ((s.core m).rg o.a.toNat).toNat % 256
    let u := s.setCore m (s.core m).done
    if 2 ≤ s.rd (schB (m / 16)) (Sch.TASK_STAT.STATE.at i) ∧ s.rd (schB (m / 16)) (Sch.TASK_STAT.HOLDER.at i) = m then
      u.endTask (m / 16) i
    else ((u.wr (schB (m / 16)) Sch.SCH_STAT.BADDONE 1).inc (schB (m / 16)) Sch.SCH_CNT.BADDONE).fireK (m / 16) 0x071) := by
  show execTaskDone m o s = _
  unfold execTaskDone
  simp only [ready_run hr, ready_awaits hr (List.mem_singleton.2 rfl), hd, hb, beq_self_eq_true, Bool.and_self, Bool.not_true,
    Bool.false_eq_true, if_false, Laws.goOn_seq s m (s.core m).done hpage, rd_setCore]

end

theorem badDone_noted (u : State) (k : Nat) :
    (((u.wr (schB k) Sch.SCH_STAT.BADDONE 1).inc (schB k) Sch.SCH_CNT.BADDONE).fireK k 0x071).rd (schB k)
      Sch.SCH_STAT.BADDONE = 1 := by
  rw [fireK_rd, inc_eq, rd_wr_other _ _ _ _ _ (by decide), rd_wr_same _ _ _ _ (by decide)]
  rfl

/-! ## TASK.GET (R259) -/

theorem wg_done_pc (c : Core) (d : Nat) (v : Word) : (c.wg d v).done.pc = c.pc + 4 := by
  unfold Core.done Core.wg
  split <;> rfl

/-- The core goes on in sequence with the slot's word. -/
theorem giveTask_seq {s : State} {m : Nat} (hpage : ((s.core m).pc + 4).toNat % 4096 ≠ 0) (k i d : Nat) :
    s.giveTask k i m d = (((s.dequeue k i).wr (schB k) (Sch.TASK_STAT.STATE.at i) 2).wr (schB k)
      (Sch.TASK_STAT.HOLDER.at i) m).setCore m ((s.core m).wg d (s.taskWord k i)).done :=
  Laws.goOn_seq _ _ _ (wg_done_pc _ _ _ ▸ hpage)

theorem dequeue_ready (s : State) (k i : Nat) :
    ((s.dequeue k i).sch k).ready = (s.sch k).ready.filter (fun j => j != i) :=
  congrArg Sched.ready (sch_setSch s k _)

/-- The slot is RUNNING and held by `m`, out of the ready queue, and `m` has its word. -/
theorem giveTask_gives {s : State} {m : Nat} (hm : m < 32) (hpage : ((s.core m).pc + 4).toNat % 4096 ≠ 0) (k i d : Nat) :
    let t := s.giveTask k i m d
    t.rd (schB k) (Sch.TASK_STAT.STATE.at i) = 2 ∧ t.rd (schB k) (Sch.TASK_STAT.HOLDER.at i) = m ∧
    (t.sch k).ready = (s.sch k).ready.filter (fun j => j != i) ∧
    (t.core m).data = ((s.core m).wg d (s.taskWord k i)).data := by
  dsimp only
  rw [giveTask_seq hpage, core_setCore, rd_setCore, rd_setCore]
  generalize hu : s.dequeue k i = u
  refine ⟨?state, ?holder, ?queue, rfl⟩
  case state =>
    rw [rd_copy_wr_copy _ _ _ _ (by decide) (by decide)]
    exact rd_copy_wr_same _ _ _ _ (by decide)
  case holder =>
    rw [rd_copy_wr_same _ _ _ _ (by decide)]
    exact Nat.mod_eq_of_lt (show m < 256 by omega)
  case queue =>
    rw [← dequeue_ready, hu]
    rfl

section
variable {s : State} {m : Nat} {o : OpA} (ha : o.a = 0) (hb : o.b = 0) (hr : s.ready m [o.d.toNat] = true)
include ha hb hr

theorem exec_taskGet_given {i : Nat} (hpick : s.pickTask m = some i) :
    exec (.taskGet m o) s = .next (s.giveTask (m / 16) i m o.d.toNat) := by
  show execTaskGet m o s = _
  unfold execTaskGet
  simp only [ready_run hr, ready_awaits hr (List.mem_singleton.2 rfl), ha, hb, hpick, beq_self_eq_true, Bool.and_self,
    Bool.not_true, Bool.false_eq_true, if_false]

/-- A core that finds no slot joins the blocked ones, which the scheduler shows in SCH_WAIT. -/
theorem taskGet_blocks (hpick : s.pickTask m = none) : gives (exec (.taskGet m o) s) (fun t =>
    t.core m = { s.core m with blockedIn := some (.taskGet o.d.toNat), stall := none } ∧
    (t.sch (m / 16)).blocked = (s.sch (m / 16)).blocked ++ [m]) := by
  refine ⟨_, rfl, ?_⟩
  simp only [ready_run hr, ready_awaits hr (List.mem_singleton.2 rfl), ha, hb, hpick, beq_self_eq_true, Bool.and_self,
    Bool.not_true, Bool.false_eq_true, if_false]
  constructor
  · rw [Laws.syncCore_core]
    exact core_setCore s m _
  · rw [syncCore_sch]
    exact congrArg Sched.blocked (sch_setSch _ _ _)

end

/-- Settles O23: TASK.POST by what an activation does, TASK.DONE by how a run ends, TASK.GET by the slot that is picked. -/
theorem tasksRun : Obligations.TasksRun := by
  unfold Obligations.TasksRun
  intro m s
  dsimp only
  intro hpage hblocked
  refine ⟨fun o hd hb hr => ?instructions, fun o ha hb hr => ?get⟩
  case instructions =>
    have hm := canRun_lt (ready_run hr)
    have hk : m / 16 < 2 := by omega
    rw [exec_taskPost hd hb hr hpage, exec_taskDone hd hb hr hpage]
    have hi : ((s.core m).rg o.a.toNat).toNat % 256 < 256 := Nat.mod_lt _ (by decide)
    have hcore : (s.setCore m (s.core m).done).core m = (s.core m).done := core_setCore s m _
    have hfree : ((s.setCore m (s.core m).done).sch (m / 16)).blocked = [] := hblocked
    generalize ((s.core m).rg o.a.toNat).toNat % 256 = i at hi
    refine ⟨⟨_, rfl, ?post⟩, ⟨_, rfl, ?done⟩⟩
    case post =>
      exact ⟨(core_of_cores (activate_cores hk hi hfree) m).trans hcore,
        fun hen => activate_disabled (Decidable.not_not.1 hen),
        fun hen hst => activate_idle hk hi hfree hen hst, fun hen hst => activate_running hen hst,
        fun hen hst => activate_overruns hen hst⟩
    case done =>
      dsimp only
      split
      case isTrue hholds =>
        obtain ⟨hgiven, hholder⟩ := hholds
        exact ⟨(core_of_cores (endTask_cores hk hi hfree) m).trans hcore,
          fun _ => ⟨fun hst => endTask_running hst, fun hen hst => endTask_posted hk hi hfree hen hst⟩,
          fun hbad => absurd hholder (hbad.resolve_left (Nat.not_lt.2 hgiven))⟩
      case isFalse hbad =>
        exact ⟨(core_of_cores (fireK_cores _ _ _) m).trans hcore,
          fun hholder => ⟨fun hst => absurd ⟨hst.ge, hholder⟩ hbad, fun _ hst => absurd ⟨by omega, hholder⟩ hbad⟩,
          fun _ => badDone_noted _ _⟩
  case get =>
    cases hpick : s.pickTask m with
    | some i =>
      refine ⟨_, exec_taskGet_given ha hb hr hpick, fun j hj => ?_, fun h => absurd h (Option.some_ne_none i)⟩
      obtain rfl := Option.some.inj hj
      exact giveTask_gives (canRun_lt (ready_run hr)) hpage _ _ _
    | none =>
      obtain ⟨t, hexec, hwaits, hqueue⟩ := taskGet_blocks ha hb hr hpick
      rw [hblocked] at hqueue
      exact ⟨t, hexec, fun j hj => absurd hj.symm (Option.some_ne_none j), fun _ => ⟨hwaits, hqueue⟩⟩

/-! ## Disabling a slot and events (R257, R258) -/

/-- Of the single registers of the scheduler only NREADY can change with a slot that is disabled. -/
theorem disableSlot_rd_single (s : State) (k i : Nat) {f : Fld} (hlsb : f.lsb < 32) (hoff : f.off < 0x1000)
    (hne : f.key 0 ≠ Sch.SCH_STAT.NREADY.key 0) : (s.disableSlot k i).rd (schB k) f = s.rd (schB k) f := by
  have hslot (u : State) {g : Fld} (v : Nat) (hg : 0x1000 ≤ g.off ∧ g.lsb < 32) :
      (u.wr (schB k) (g.at i) v).rd (schB k) f = u.rd (schB k) f :=
    rd_single_wr_copy u _ _ _ hg.2 hlsb (Nat.lt_of_lt_of_le hoff hg.1)
  unfold disableSlot dequeue
  dsimp only
  split
  · rw [hslot _ _ (by decide), hslot _ _ (by decide), rd_wr_other _ _ _ _ _ hne, rd_setSch, hslot _ _ (by decide)]
  · exact hslot _ _ (by decide)

theorem bound_enabled {s : State} {k e i : Nat} (h : i ∈ s.bound k e) : s.rd (schB k) (Sch.TASK_CFG.EN.at i) ≠ 0 := by
  unfold bound at h
  simp only [List.mem_filter, Bool.and_eq_true] at h
  obtain ⟨-, ⟨hen, -⟩, -⟩ := h
  exact (Laws.on_iff _ _ _).1 hen

theorem evtK_unbound {s : State} {k e : Nat} (h : s.bound k e = []) :
    (s.evtK k e).regs = s.regs ∧ (s.evtK k e).cores = s.cores := by
  unfold evtK
  rw [h]
  split
  · obtain ⟨hregs, hcores, -⟩ := Laws.acqOwe_facts s k 6 e
    exact ⟨hregs, hcores⟩
  · exact ⟨rfl, rfl⟩

/-- An event with one slot bound to it activates that slot. -/
theorem evtK_bound {s : State} {k e i : Nat} (hup : s.dieUp k = true) (h : s.bound k e = [i]) :
    (∀ b f, (s.evtK k e).rd b f = (s.activate k i).rd b f) ∧ (s.evtK k e).sch k = (s.activate k i).sch k := by
  unfold evtK
  rw [if_pos hup, h]
  obtain ⟨hregs, -, hsched⟩ := Laws.acqOwe_facts (s.activate k i) k 6 e
  exact ⟨fun b f => congrArg (·.get b f) hregs, congrArg (Tab.get · k Sched.reset) hsched⟩

/-! ## Errors of the scheduler's memory (R276) -/

theorem schedRamError_corrected (s : State) (k i : Nat) : gives (exec (.schedRamError k false false i) s) (fun t =>
    t.rd (schB k) Sch.SCH_STAT.RAMCE = 1 ∧
    t.rd (schB k) (Sch.TASK_STAT.STATE.at i) = s.rd (schB k) (Sch.TASK_STAT.STATE.at i)) := by
  refine ⟨(s.wr (schB k) Sch.SCH_STAT.RAMCE 1).fireK k 0x074, rfl, ?_, ?_⟩
  · exact (fireK_rd _ _ _ _ _).trans (rd_wr_same _ _ _ _ (by decide))
  · exact (fireK_rd _ _ _ _ _).trans (rd_copy_wr_single _ _ _ _ (by decide) (by decide) (by decide))

/-- An uncorrectable error disables the slot it hit, whose state it has not changed before. -/
theorem schedRamError_slot (s : State) {k i : Nat} (hk : k < 2) (hi : i < 256) :
    gives (exec (.schedRamError k true false i) s) (fun t =>
      t.rd (schB k) Sch.SCH_STAT.RAMUE = 1 ∧ t.rd (schB k) (Sch.TASK_CFG.EN.at i) = 0 ∧
      (s.rd (schB k) (Sch.TASK_STAT.STATE.at i) = 1 → t.rd (schB k) (Sch.TASK_STAT.STATE.at i) = 0 ∧
        t.rd (schB k) (Sch.TASK_STAT.DROPPED.at i) = 1 ∧
        (t.sch k).ready = (s.sch k).ready.filter (fun j => j != i)) ∧
      (s.rd (schB k) (Sch.TASK_STAT.STATE.at i) ≠ 1 →
        t.rd (schB k) (Sch.TASK_STAT.STATE.at i) = s.rd (schB k) (Sch.TASK_STAT.STATE.at i))) := by
  refine ⟨((s.wr (schB k) Sch.SCH_STAT.RAMUE 1).disableSlot k i).fireK k 0x075, rfl, ?_⟩
  have hst : (s.wr (schB k) Sch.SCH_STAT.RAMUE 1).rd (schB k) (Sch.TASK_STAT.STATE.at i) =
      s.rd (schB k) (Sch.TASK_STAT.STATE.at i) :=
    rd_copy_wr_single _ _ _ _ (by decide) (by decide) (by decide)
  have hdropped := Laws.dis_facts (s.wr (schB k) Sch.SCH_STAT.RAMUE 1) k i hk hi
  rw [hst] at hdropped
  simp only [fireK_rd, fireK_sch]
  refine ⟨?_, hdropped⟩
  rw [disableSlot_rd_single _ _ _ (by decide) (by decide) (by decide)]
  exact rd_wr_same _ _ _ _ (by decide)

/-- An uncorrectable error of the mailbox memory empties the channel it hit. -/
theorem schedRamError_channel (s : State) (k i : Nat) :
    gives (exec (.schedRamError k true true i) s) (fun t =>
      t.rd (schB k) Sch.SCH_STAT.RAMUE = 1 ∧ t.rd (mbxB k) (Mbx.CH_STAT.FULL.at i) = 0) := by
  refine ⟨((s.wr (schB k) Sch.SCH_STAT.RAMUE 1).wr (mbxB k) (Mbx.CH_STAT.FULL.at i) 0).fireK k 0x075, rfl, ?_, ?_⟩
  · rw [fireK_rd, rd_wr_ne _ _ _ _ _ _ (key_ne_of_word_ne (by decide) (at_lsb (by decide)) ?_)]
    · exact rd_wr_same _ _ _ _ (by decide)
    · unfold schB mbxB kB Fld.at Sch.SCH_STAT.RAMUE
      dsimp only
      omega
  · exact (fireK_rd _ _ _ _ _).trans (rd_copy_wr_same _ _ _ _ (by decide))

/-- Settles O24: the slot by the rule of its disabling, the event by its bound slots, the errors by what they write. -/
theorem slotsAndEvents : Obligations.SlotsAndEvents := by
  unfold Obligations.SlotsAndEvents
  intro w k i s hk hi
  refine ⟨⟨_, rfl, Laws.dis_facts s k i hk hi⟩, fun e hnone => ⟨_, rfl, evtK_unbound hnone⟩,
    fun e hone hup hblocked hst => ⟨_, rfl, ?event⟩, schedRamError_corrected s k i, schedRamError_slot s hk hi,
    fun _ => schedRamError_channel s k i⟩
  case event =>
    obtain ⟨hrd, hsch⟩ := evtK_bound hup hone
    obtain ⟨hready, hqueue⟩ := activate_idle hk hi hblocked (bound_enabled (hone ▸ List.mem_singleton.2 rfl)) hst
    exact ⟨(hrd _ _).trans hready, (congrArg Sched.ready hsch).trans hqueue⟩

end Sys2Proof.Tasks
end

section
/-!
The mailbox channels of a K-die (R261 to R267): what a put and a get do at the channel, how a register access and an
instruction of a core reach it, and its binding.
-/
namespace Sys2Proof.Mailboxes

open Sys2Proof Sys2Proof.Machine Sys2Proof.Machine.State Sys2Proof.CellLink Sys2Proof.Modulators Sys2Proof.Tasks

/-! ## A put at the channel (R262, R265) -/

/-- The channel after a put it takes. -/
def filled (s : State) (k c mid : Nat) (word : Word) (epoch : Nat) : State :=
  (((s.wr (mbxB k) (Mbx.CH_GET.WORD.at c) word.toNat).wr (mbxB k) (Mbx.CH_STAT.SMID.at c) mid).wr (mbxB k)
    (Mbx.CH_STAT.SEPOCH.at c) epoch).wr (mbxB k) (Mbx.CH_STAT.FULL.at c) 1

/-- The channel after an access it denies. -/
def denied (s : State) (k : Nat) : State := (s.inc (mbxB k) Mbx.MBX_CNT0.DENY).fireK k 0x072

section
variable {s : State} {k c mid : Nat} {sup : Bool}

theorem chanPut_denied (h : s.mayUse k c mid sup true = false) (word : Word) (epoch : Nat) :
    s.chanPut k c mid sup word epoch = (2, denied s k) := by
  unfold chanPut
  dsimp only
  rw [h]
  rfl

theorem chanPut_full (h : s.mayUse k c mid sup true = true) (hfull : s.rd (mbxB k) (Mbx.CH_STAT.FULL.at c) ≠ 0)
    (word : Word) (epoch : Nat) : s.chanPut k c mid sup word epoch = (1, s) := by
  unfold chanPut
  dsimp only
  rw [h, (Laws.on_iff _ _ _).2 hfull]
  rfl

theorem filled_dben (s : State) (k c mid : Nat) (word : Word) (epoch : Nat) :
    (filled s k c mid word epoch).rd (mbxB k) (Mbx.CH_BIND.DBEN.at c) = s.rd (mbxB k) (Mbx.CH_BIND.DBEN.at c) := by
  unfold filled
  simp (disch := decide) only [rd_copy_wr_copy]

theorem chanPut_taken (h : s.mayUse k c mid sup true = true) (hempty : s.rd (mbxB k) (Mbx.CH_STAT.FULL.at c) = 0)
    (hbell : s.rd (mbxB k) (Mbx.CH_BIND.DBEN.at c) = 0) (word : Word) (epoch : Nat) :
    s.chanPut k c mid sup word epoch = (0, filled s k c mid word epoch) := by
  have hquiet := Laws.on_false ((filled_dben s k c mid word epoch).trans hbell)
  unfold filled at hquiet
  unfold chanPut filled
  dsimp only
  rw [h, Laws.on_false hempty, hquiet]
  rfl

end

theorem filled_full (s : State) (k c mid : Nat) (word : Word) (epoch : Nat) :
    (filled s k c mid word epoch).rd (mbxB k) (Mbx.CH_STAT.FULL.at c) = 1 :=
  rd_copy_wr_same _ _ _ _ (by decide)

theorem filled_word (s : State) (k c mid : Nat) (word : Word) (epoch : Nat) :
    (filled s k c mid word epoch).rd (mbxB k) (Mbx.CH_GET.WORD.at c) = word.toNat := by
  unfold filled
  simp (disch := decide) only [rd_copy_wr_copy, rd_copy_wr_same]
  exact Nat.mod_eq_of_lt word.isLt

theorem filled_sender (s : State) (k c mid : Nat) (word : Word) (epoch : Nat) :
    (filled s k c mid word epoch).rd (mbxB k) (Mbx.CH_STAT.SMID.at c) = mid % 256 := by
  unfold filled
  simp (disch := decide) only [rd_copy_wr_copy, rd_copy_wr_same]
  rfl

/-- A denied access is counted and leaves the word in the channel. -/
theorem denied_counted (s : State) (k c : Nat) :
    (denied s k).rd (mbxB k) Mbx.MBX_CNT0.DENY = min (s.rd (mbxB k) Mbx.MBX_CNT0.DENY + 1) 65535 ∧
    (denied s k).rd (mbxB k) (Mbx.CH_STAT.FULL.at c) = s.rd (mbxB k) (Mbx.CH_STAT.FULL.at c) := by
  unfold denied
  rw [fireK_rd, fireK_rd]
  exact ⟨rd_inc_same s _ (by decide), rd_copy_wr_single _ _ _ _ (by decide) (by decide) (by decide)⟩

theorem denied_cores (s : State) (k : Nat) : (denied s k).cores = s.cores := fireK_cores _ _ _

/-! ## A get at the channel (R263, R265) -/

section
variable {s : State} {k c mid : Nat} {sup : Bool}

theorem chanGet_denied (h : s.mayUse k c mid sup false = false) : s.chanGet k c mid sup = (0, denied s k) := by
  unfold chanGet
  dsimp only
  rw [h]
  rfl

theorem chanGet_empty (h : s.mayUse k c mid sup false = true)
    (hempty : s.rd (mbxB k) (Mbx.CH_STAT.FULL.at c) = 0) :
    s.chanGet k c mid sup = (0, s.inc (mbxB k) Mbx.MBX_CNT1.EMPTYRD) := by
  unfold chanGet
  dsimp only
  rw [h, Laws.on_false hempty]
  rfl

theorem chanGet_taken (h : s.mayUse k c mid sup false = true) (hfull : s.rd (mbxB k) (Mbx.CH_STAT.FULL.at c) ≠ 0)
    (hbell : s.rd (mbxB k) (Mbx.CH_BIND.DBEN.at c) = 0) :
    s.chanGet k c mid sup =
      (BitVec.ofNat 32 (s.rd (mbxB k) (Mbx.CH_GET.WORD.at c)), s.wr (mbxB k) (Mbx.CH_STAT.FULL.at c) 0) := by
  have hquiet : (s.wr (mbxB k) (Mbx.CH_STAT.FULL.at c) 0).on (mbxB k) (Mbx.CH_BIND.DBEN.at c) = false :=
    Laws.on_false ((rd_copy_wr_copy _ _ _ _ (by decide) (by decide)).trans hbell)
  unfold chanGet
  dsimp only
  rw [h, (Laws.on_iff _ _ _).2 hfull, hquiet]
  rfl

end

/-- An empty channel is still empty after a get, which is counted. -/
theorem emptyRead_counted (s : State) (k c : Nat) :
    (s.inc (mbxB k) Mbx.MBX_CNT1.EMPTYRD).rd (mbxB k) Mbx.MBX_CNT1.EMPTYRD =
      min (s.rd (mbxB k) Mbx.MBX_CNT1.EMPTYRD + 1) 65535 ∧
    (s.inc (mbxB k) Mbx.MBX_CNT1.EMPTYRD).rd (mbxB k) (Mbx.CH_STAT.FULL.at c) =
      s.rd (mbxB k) (Mbx.CH_STAT.FULL.at c) :=
  ⟨rd_inc_same s _ (by decide), rd_copy_wr_single _ _ _ _ (by decide) (by decide) (by decide)⟩

/-! ## The registers of a channel (R265, R267, R275) -/

theorem channel_number {c : Nat} (hc : c < 64) (k : Nat) : (64 * k + c) / 64 = k ∧ (64 * k + c) % 64 = c := by
  omega

/-- The binding of a channel after a write of `x` (R275). -/
def rebound (s : State) (k c x : Nat) : State :=
  (((((s.wr (mbxB k) (Mbx.CH_BIND.TXMID.at c) (bits x 7 0)).wr (mbxB k) (Mbx.CH_BIND.RXMID.at c) (bits x 15 8)).wr (mbxB k)
    (Mbx.CH_BIND.RXBIT.at c) (bits x 20 16)).wr (mbxB k) (Mbx.CH_BIND.TXBIT.at c) (bits x 28 24)).wr (mbxB k)
    (Mbx.CH_BIND.DBEN.at c) (bits x 30 30)).wr (mbxB k) (Mbx.CH_BIND.V.at c) (bits x 31 31)

theorem rebound_fields (s : State) (k c : Nat) (v : Word) :
    (rebound s k c v.toNat).rd (mbxB k) (Mbx.CH_BIND.TXMID.at c) = v.toNat % 256 ∧
    (rebound s k c v.toNat).rd (mbxB k) (Mbx.CH_BIND.RXMID.at c) = v.toNat / 256 % 256 ∧
    (rebound s k c v.toNat).rd (mbxB k) (Mbx.CH_BIND.V.at c) = v.toNat / 2 ^ 31 := by
  have hword := v.isLt
  unfold rebound
  simp (disch := decide) only [rd_copy_wr_copy, rd_copy_wr_same]
  simp only [bits, Mbx.CH_BIND.TXMID, Mbx.CH_BIND.RXMID, Mbx.CH_BIND.V]
  omega

section
variable (w : Wr) {c : Nat} (hc : c < 64) (k : Nat) (s : State)
include hc

theorem exec_chPutWrite (v : Word) : exec (.chPutWrite w (64 * k + c) v) s = .next (
    let r := s.chanPut k c w.mid w.sup v (s.epochOf w.mid)
    (if r.1 = 1 then r.2.inc (mbxB k) Mbx.MBX_CNT1.PUTBUSY else r.2).retire w (mbxB k + 0x108 + 16 * c)) := by
  obtain ⟨hdie, hchan⟩ := channel_number hc k
  show execChPutWrite w (64 * k + c) v s = _
  unfold execChPutWrite
  rw [hdie, hchan]

theorem exec_chGetRead : exec (.chGetRead w (64 * k + c)) s = .next (
    let r := s.chanGet k c w.mid w.sup
    r.2.answer w.mid (mbxB k + 0x10C + 16 * c) r.1) := by
  obtain ⟨hdie, hchan⟩ := channel_number hc k
  show execChGetRead w (64 * k + c) s = _
  unfold execChGetRead
  rw [hdie, hchan]

theorem chPutWrite_gives (v : Word) : gives (exec (.chPutWrite w (64 * k + c) v) s) (fun t =>
    let full (t : State) : Nat := t.rd (mbxB k) (Mbx.CH_STAT.FULL.at c)
    (s.mayUse k c w.mid w.sup true = false →
      t.rd (mbxB k) Mbx.MBX_CNT0.DENY = min (s.rd (mbxB k) Mbx.MBX_CNT0.DENY + 1) 65535 ∧ full t = full s) ∧
    (s.mayUse k c w.mid w.sup true = true → full s ≠ 0 →
      t.rd (mbxB k) Mbx.MBX_CNT1.PUTBUSY = min (s.rd (mbxB k) Mbx.MBX_CNT1.PUTBUSY + 1) 65535 ∧ full t = full s) ∧
    (s.mayUse k c w.mid w.sup true = true → full s = 0 → s.rd (mbxB k) (Mbx.CH_BIND.DBEN.at c) = 0 →
      full t = 1 ∧ t.rd (mbxB k) (Mbx.CH_GET.WORD.at c) = v.toNat ∧
      t.rd (mbxB k) (Mbx.CH_STAT.SMID.at c) = w.mid % 256)) := by
  refine ⟨_, exec_chPutWrite w hc k s v, ?_⟩
  simp only [rd_retire]
  refine ⟨fun hmay => ?denied, fun hmay hfull => ?full, fun hmay hempty hbell => ?taken⟩
  case denied =>
    rw [chanPut_denied hmay]
    exact denied_counted s k c
  case full =>
    rw [chanPut_full hmay hfull]
    exact ⟨rd_inc_same s _ (by decide), rd_copy_wr_single _ _ _ _ (by decide) (by decide) (by decide)⟩
  case taken =>
    rw [chanPut_taken hmay hempty hbell]
    exact ⟨filled_full _ _ _ _ _ _, filled_word _ _ _ _ _ _, filled_sender _ _ _ _ _ _⟩

theorem chGetRead_gives : gives (exec (.chGetRead w (64 * k + c)) s) (fun t =>
    let full (t : State) : Nat := t.rd (mbxB k) (Mbx.CH_STAT.FULL.at c)
    let answer (v : Word) : Prop := t.fab.reads = s.fab.reads ++ [(w.mid, mbxB k + 0x10C + 16 * c, v)]
    (s.mayUse k c w.mid w.sup false = false →
      t.rd (mbxB k) Mbx.MBX_CNT0.DENY = min (s.rd (mbxB k) Mbx.MBX_CNT0.DENY + 1) 65535 ∧ answer 0) ∧
    (s.mayUse k c w.mid w.sup false = true → full s = 0 →
      t.rd (mbxB k) Mbx.MBX_CNT1.EMPTYRD = min (s.rd (mbxB k) Mbx.MBX_CNT1.EMPTYRD + 1) 65535 ∧ answer 0) ∧
    (s.mayUse k c w.mid w.sup false = true → full s ≠ 0 → s.rd (mbxB k) (Mbx.CH_BIND.DBEN.at c) = 0 →
      full t = 0 ∧ answer (BitVec.ofNat 32 (s.rd (mbxB k) (Mbx.CH_GET.WORD.at c))))) := by
  refine ⟨_, exec_chGetRead w hc k s, ?_⟩
  simp only [rd_answer]
  refine ⟨fun hmay => ?denied, fun hmay hempty => ?empty, fun hmay hfull hbell => ?taken⟩
  case denied =>
    rw [chanGet_denied hmay]
    obtain ⟨hcount, -⟩ := denied_counted s k c
    refine ⟨hcount, congrArg (·.reads ++ _) (?_ : (denied s k).fab = s.fab)⟩
    exact Laws.fire_fab _ _
  case empty =>
    rw [chanGet_empty hmay hempty]
    obtain ⟨hcount, -⟩ := emptyRead_counted s k c
    exact ⟨hcount, rfl⟩
  case taken =>
    rw [chanGet_taken hmay hfull hbell]
    exact ⟨rd_copy_wr_same _ _ _ _ (by decide), rfl⟩

theorem exec_chBindWrite (v : Word) : exec (.chBindWrite w (64 * k + c) v) s = .next (
    (if privileged w && !s.on (mbxB k) Mbx.MBX_CTL.BIND_LOCK then rebound s k c v.toNat else s).retire w
      (mbxB k + 0x100 + 16 * c)) := by
  obtain ⟨hdie, hchan⟩ := channel_number hc k
  show execChBindWrite w (64 * k + c) v s = _
  unfold execChBindWrite
  rw [hdie, hchan]
  rfl

/-- A binding changes by a privileged write while it is not locked. -/
theorem chBindWrite_gives (v : Word) : gives (exec (.chBindWrite w (64 * k + c) v) s) (fun t =>
    if privileged w = true ∧ s.rd (mbxB k) Mbx.MBX_CTL.BIND_LOCK = 0 then
      t.rd (mbxB k) (Mbx.CH_BIND.TXMID.at c) = v.toNat % 256 ∧
      t.rd (mbxB k) (Mbx.CH_BIND.RXMID.at c) = v.toNat / 256 % 256 ∧
      t.rd (mbxB k) (Mbx.CH_BIND.V.at c) = v.toNat / 2 ^ 31
    else t.regs = s.regs) := by
  have hopen : (privileged w && !s.on (mbxB k) Mbx.MBX_CTL.BIND_LOCK) = true ↔
      privileged w = true ∧ s.rd (mbxB k) Mbx.MBX_CTL.BIND_LOCK = 0 := by
    rw [Bool.and_eq_true, Bool.not_eq_true', ← Bool.not_eq_true, Laws.on_iff, Decidable.not_not]
  refine ⟨_, exec_chBindWrite w hc k s v, ?_⟩
  beta_reduce
  split
  case isTrue hfree =>
    rw [if_pos (hopen.2 hfree)]
    exact rebound_fields s k c v
  case isFalse hshut =>
    rw [if_neg (mt hopen.1 hshut)]
    rfl

end

theorem bindLock_locks (w : Wr) (k : Nat) (s : State) :
    gives (exec (.bindLock w k) s) (fun t => t.rd (mbxB k) Mbx.MBX_CTL.BIND_LOCK = 1) :=
  ⟨_, rfl, rd_wr_same s _ _ _ (by decide)⟩

/-! ## MBX.PUT and MBX.GET (R262, R263) -/

/-- An instruction whose operands are there takes an outstanding place for the channel that `ga` names. -/
theorem mbxIssue_ran {s : State} {m d a : Nat} {srcs : List Nat} (hr : s.ready m (d :: srcs) = true)
    (hk : s.hasK (((s.core m).rg a).toNat / 64 % 2) = true) (hup : s.dieUp (((s.core m).rg a).toNat / 64 % 2) = true)
    (hplaces : (s.core m).loads.length < 8) (kind : Nat → Nat → LoadKind) :
    let c := s.core m
    let k := (c.rg a).toNat / 64 % 2
    let ch := (c.rg a).toNat % 64
    s.ran m { c with loads := c.loads ++
      [⟨kind k ch, mbxB k + 0x100 + 16 * ch, 4, false, d, c.prv, none, false, c.pc.toNat⟩] }
      (s.mbxIssue m srcs d true a kind) := by
  have hsrcs : srcs.any (s.core m).awaits = false :=
    List.any_eq_false.2 fun x hx => by rw [ready_awaits hr (List.mem_cons_of_mem _ hx)]; decide
  have hdst : (s.core m).awaits d = false := ready_awaits hr List.mem_cons_self
  unfold mbxIssue
  simp only [ready_run hr, hsrcs, hdst, hk, hup, Bool.not_true, Bool.or_self, Bool.false_eq_true, if_false,
    if_neg (Nat.not_le.2 hplaces)]
  exact goOn_ran s m _

/-! ## An instruction's access at the channel (R262, R263) -/

/-- The answer of the channel is in the outstanding place. -/
abbrev answered (t : State) (m i : Nat) (l : Load) (v : BitVec 64) : Prop :=
  (t.core m).loads[i]? = some { l with val := some v }

section
variable {s : State} {m i k c : Nat} {l : Load} (hload : (s.core m).loads[i]? = some l)
include hload

/-- The channel leaves the cores alone, so the answer goes to the load that asked; its registers stay as the channel left
them. -/
theorem answerLoad_answered {u : State} (hcores : u.cores = s.cores) (v : BitVec 64) :
    answered (u.answerLoad m i v) m i l v ∧ ∀ b f, (u.answerLoad m i v).rd b f = u.rd b f := by
  rw [← core_of_cores hcores m] at hload
  obtain ⟨hdatum, hregs⟩ := Laws.answerLoad_facts u m i v l hload
  exact ⟨hdatum, fun b f => congrArg (·.get b f) hregs⟩

variable (hwaits : l.val = none) (hbell : s.rd (mbxB k) (Mbx.CH_BIND.DBEN.at c) = 0)
include hwaits hbell

theorem mbxChannelPut_gives {v : Word} {e : Nat} (hkind : l.kind = .put k c v e) :
    gives (exec (.mbxChannelPut m i) s) (fun t =>
      let full (t : State) : Nat := t.rd (mbxB k) (Mbx.CH_STAT.FULL.at c)
      if s.mayUse k c (s.accMid m) l.sup true = false then answered t m i l (BitVec.ofNat 64 2) ∧ full t = full s
      else if full s ≠ 0 then answered t m i l (BitVec.ofNat 64 1) ∧ full t = full s
      else answered t m i l (BitVec.ofNat 64 0) ∧ full t = 1 ∧
        t.rd (mbxB k) (Mbx.CH_GET.WORD.at c) = v.toNat) := by
  refine ⟨_, congrArg Host.Outcome.next (Laws.reach_put s m i l k c v e hload hwaits hkind), ?_⟩
  dsimp only
  split
  case isTrue hmay =>
    rw [chanPut_denied hmay]
    obtain ⟨hdatum, hrd⟩ := answerLoad_answered hload (denied_cores s k) (BitVec.ofNat 64 2)
    obtain ⟨-, hfull⟩ := denied_counted s k c
    exact ⟨hdatum, (hrd _ _).trans hfull⟩
  case isFalse hmay =>
    rw [Bool.not_eq_false] at hmay
    split
    case isTrue hfull =>
      rw [chanPut_full hmay hfull]
      obtain ⟨hdatum, hrd⟩ := answerLoad_answered hload rfl (BitVec.ofNat 64 1)
      exact ⟨hdatum, hrd _ _⟩
    case isFalse hempty =>
      rw [chanPut_taken hmay (Decidable.not_not.1 hempty) hbell]
      obtain ⟨hdatum, hrd⟩ := answerLoad_answered (u := filled s k c (s.accMid m) v e) hload rfl (BitVec.ofNat 64 0)
      exact ⟨hdatum, (hrd _ _).trans (filled_full _ _ _ _ _ _), (hrd _ _).trans (filled_word _ _ _ _ _ _)⟩

theorem mbxChannelGet_gives (hkind : l.kind = .get k c) :
    gives (exec (.mbxChannelGet m i) s) (fun t =>
      let full (t : State) : Nat := t.rd (mbxB k) (Mbx.CH_STAT.FULL.at c)
      if s.mayUse k c (s.accMid m) l.sup false = false ∨ full s = 0 then
        answered t m i l (BitVec.ofNat 64 0) ∧ full t = full s
      else answered t m i l (BitVec.ofNat 64 (s.rd (mbxB k) (Mbx.CH_GET.WORD.at c) % 2 ^ 32)) ∧ full t = 0) := by
  refine ⟨_, congrArg Host.Outcome.next (Laws.reach_get s m i l k c hload hwaits hkind), ?_⟩
  dsimp only
  cases hmay : s.mayUse k c (s.accMid m) l.sup false with
  | false =>
    rw [if_pos (.inl rfl), chanGet_denied hmay]
    obtain ⟨hdatum, hrd⟩ := answerLoad_answered hload (denied_cores s k) (BitVec.ofNat 64 0)
    obtain ⟨-, hfull⟩ := denied_counted s k c
    exact ⟨hdatum, (hrd _ _).trans hfull⟩
  | true =>
    split
    case isTrue hempty =>
      rw [chanGet_empty hmay (hempty.resolve_left Bool.true_eq_false_eq_False)]
      obtain ⟨hdatum, hrd⟩ := answerLoad_answered (u := s.inc (mbxB k) Mbx.MBX_CNT1.EMPTYRD) hload rfl (BitVec.ofNat 64 0)
      obtain ⟨-, hfull⟩ := emptyRead_counted s k c
      exact ⟨hdatum, (hrd _ _).trans hfull⟩
    case isFalse hword =>
      rw [chanGet_taken hmay (fun h => hword (.inr h)) hbell]
      have hwide : (BitVec.ofNat 32 (s.rd (mbxB k) (Mbx.CH_GET.WORD.at c))).setWidth 64 =
          BitVec.ofNat 64 (s.rd (mbxB k) (Mbx.CH_GET.WORD.at c) % 2 ^ 32) :=
        BitVec.eq_of_toNat_eq (by simp)
      rw [hwide]
      obtain ⟨hdatum, hrd⟩ := answerLoad_answered (u := s.wr (mbxB k) (Mbx.CH_STAT.FULL.at c) 0) hload rfl
        (BitVec.ofNat 64 (s.rd (mbxB k) (Mbx.CH_GET.WORD.at c) % 2 ^ 32))
      exact ⟨hdatum, (hrd _ _).trans (rd_copy_wr_same _ _ _ _ (by decide))⟩

end

/-- Settles O25: the registers of a channel and an instruction's access act by the one rule of a put and of a get. -/
theorem mailboxChannels : Obligations.MailboxChannels := by
  unfold Obligations.MailboxChannels
  refine ⟨fun w k c s hk hc => ⟨fun v => chPutWrite_gives w hc k s v, chGetRead_gives w hc k s,
    fun v => chBindWrite_gives w hc k s v, bindLock_locks w k s⟩, fun m s => ⟨fun o hr hhas hup hplaces => ?issue,
    fun i l hload hwaits k ch hk hch hbell => ?arrive⟩⟩
  case issue =>
    refine ⟨⟨_, rfl, ?put⟩, fun hb => ⟨_, rfl, ?get⟩⟩
    case put =>
      have hready : s.ready m [o.d.toNat, o.a.toNat, o.b.toNat] = true := Laws.ready_sub hr (by simp)
      exact mbxIssue_ran hready hhas hup hplaces _
    case get =>
      have hready : s.ready m [o.d.toNat, o.a.toNat] = true := Laws.ready_sub hr (by simp)
      rw [hb]
      exact mbxIssue_ran hready hhas hup hplaces _
  case arrive =>
    exact ⟨fun v e hkind => mbxChannelPut_gives hload hwaits hbell hkind,
      fun hkind => mbxChannelGet_gives hload hwaits hbell hkind⟩

end Sys2Proof.Mailboxes
end

section
/-!
The doorbells of the cores (R268 to R270, R275): the instructions DB.RING and DB.WAIT, the arrival of a ring, and the
registers by which software sets, clears and masks pending bits.
-/
namespace Sys2Proof.DoorbellBits

open Sys2Proof Sys2Proof.Machine Sys2Proof.Machine.State Sys2Proof.Modulators Sys2Proof.Tasks

/-! ## The pending bits of a core (R268, R269) -/

/-- DB_PEND of core `m`. -/
abbrev pendOf (s : State) (m : Nat) : Nat := s.rd (mbxB (m / 16)) (Mbx.DB_PEND.PEND.at (m % 16))

theorem setPend_pend (s : State) (m : Nat) (v : Word) : pendOf (s.setPend m v) m = v.toNat :=
  (rd_copy_wr_same _ _ _ _ (by decide)).trans (Nat.mod_eq_of_lt v.isLt)

/-- A ring sets the bits at the core that runs for `m`, where that core waits at no doorbell. -/
theorem ring_pends {s : State} {m : Nat} (hk : s.hasK (s.lead m / 16) = true)
    (hruns : (s.core (s.lead m)).blockedIn = none) (mask : Word) :
    pendOf (s.ring m mask) (s.lead m) = (s.dbPend (s.lead m) ||| mask).toNat := by
  unfold ring
  dsimp only
  rw [if_pos hk, Laws.wake_none (s.setPend _ _) _ hruns]
  exact setPend_pend _ _ _

/-- Only the odd core of a paired pair leaves its doorbells to another core. -/
theorem lead_self {s : State} {m : Nat} (h : ¬(s.paired m = true ∧ m % 2 = 1)) : s.lead m = m := by
  unfold lead
  split
  case isTrue hpaired =>
    have heven : m % 2 ≠ 1 := fun hodd => h ⟨hpaired, hodd⟩
    omega
  case isFalse => rfl

/-- The blocks of the K-dies lie above the registers that show the state of the cores (R22). -/
theorem syncCore_rd (s : State) {m b : Nat} (hm : m < 32) (hb : 0x30000000 ≤ b) {f : Fld} (hlsb : f.lsb < 32) :
    (s.syncCore m).rd b f = s.rd b f := by
  have hkey {n : Nat} (hn : n ≤ 32) : f.key b ≠ Cc.CORE_STAT.STATE.key (coreB n) :=
    key_ne_of_word_ne hlsb (by decide) (by unfold coreB Cc.CORE_STAT.STATE; dsimp only; omega)
  unfold syncCore
  dsimp only
  split
  · rw [rd_wr_ne _ _ _ _ _ _ (hkey (by omega)), rd_wr_ne _ _ _ _ _ _ (hkey (by omega))]
  · exact rd_wr_ne _ _ _ _ _ _ (hkey (by omega))

theorem mbxB_high (k : Nat) : 0x30000000 ≤ mbxB k := by
  unfold mbxB kB
  omega

/-! ## DB.RING (R268) -/

section
variable {s : State} {m : Nat} {o : OpA} (hd : o.d = 0) (hr : s.ready m [o.a.toNat, o.b.toNat] = true)
include hd hr

/-- A ring that names no core. -/
theorem exec_dbRing_dropped (h32 : 32 ≤ ((s.core m).rg o.a.toNat).toNat % 256) :
    exec (.dbRing m o) s = .next ((s.dropRing (m / 16)).goOn m (s.core m).done) := by
  show execDbRing m o s = _
  unfold execDbRing
  simp only [ready_run hr, ready_awaits hr (i := o.a.toNat) (by simp), ready_awaits hr (i := o.b.toNat) (by simp), hd, h32,
    beq_self_eq_true, Bool.not_true, Bool.or_self, Bool.false_eq_true, if_false, if_true]

/-- A ring of a core is a register write on its way. -/
theorem exec_dbRing_sent (h32 : ((s.core m).rg o.a.toNat).toNat % 256 < 32)
    (hk : s.hasK (((s.core m).rg o.a.toNat).toNat % 256 / 16) = true)
    (hroom : (s.fab.flight.filter (fun f => f.mid == s.accMid m)).length < 8) :
    exec (.dbRing m o) s = .next (
      let r := ((s.core m).rg o.a.toNat).toNat % 256
      let f : Flight := ⟨s.accMid m, (s.core m).prv, mbxB (r / 16) + 0x800 + 16 * (r % 16), (s.core m).rg o.b.toNat, 4, false⟩
      ({ s with fab := { s.fab with flight := s.fab.flight ++ [f] } }).goOn m (s.core m).done) := by
  show execDbRing m o s = _
  unfold execDbRing
  simp only [ready_run hr, ready_awaits hr (i := o.a.toNat) (by simp), ready_awaits hr (i := o.b.toNat) (by simp), hd, hk,
    if_neg (Nat.not_le.2 h32), if_neg (Nat.not_le.2 hroom), beq_self_eq_true, Bool.not_true, Bool.or_self,
    Bool.false_eq_true, if_false]

end

theorem dropRing_counts (s : State) (k : Nat) : (s.dropRing k).rd (mbxB k) Mbx.MBX_CNT0.DBDROP =
    min (s.rd (mbxB k) Mbx.MBX_CNT0.DBDROP + 1) 65535 :=
  (fireK_rd _ _ _ _ _).trans (rd_inc_same s _ (by decide))

theorem dbRing_gives {s : State} {m : Nat} {o : OpA} (hd : o.d = 0) (hr : s.ready m [o.a.toNat, o.b.toNat] = true)
    (hpage : ((s.core m).pc + 4).toNat % 4096 ≠ 0) :
    let c := s.core m
    let r := (c.rg o.a.toNat).toNat % 256
    gives (exec (.dbRing m o) s) (fun t =>
      (32 ≤ r → t.rd (mbxB (m / 16)) Mbx.MBX_CNT0.DBDROP = min (s.rd (mbxB (m / 16)) Mbx.MBX_CNT0.DBDROP + 1) 65535) ∧
      (r < 32 → s.hasK (r / 16) = true → (s.fab.flight.filter (fun f => f.mid == s.accMid m)).length < 8 →
        t.fab.flight = s.fab.flight ++
          [⟨s.accMid m, c.prv, mbxB (r / 16) + 0x800 + 16 * (r % 16), c.rg o.b.toNat, 4, false⟩] ∧
        t.core m = c.done)) := by
  obtain ⟨t, hexec⟩ := Laws.complete (.dbRing m o) s
  refine ⟨t, hexec, fun h32 => ?dropped, fun h32 hk hroom => ?sent⟩
  case dropped =>
    rw [exec_dbRing_dropped hd hr h32, Laws.goOn_seq _ _ _ hpage] at hexec
    cases hexec
    exact dropRing_counts s (m / 16)
  case sent =>
    rw [exec_dbRing_sent hd hr h32 hk hroom, Laws.goOn_seq _ _ _ hpage] at hexec
    cases hexec
    exact ⟨rfl, core_setCore _ _ _⟩

/-! ## DB.WAIT (R269) -/

section
variable {s : State} {m : Nat} {o : OpA} (ha : o.a = 0) (hb : o.b = 0) (hr : s.ready m [o.d.toNat] = true)
include ha hb hr

theorem exec_dbWait_takes (hhit : s.dbPend m &&& ~~~(s.dbMask m) ≠ 0) : exec (.dbWait m o) s = .next (
    let hit := s.dbPend m &&& ~~~(s.dbMask m)
    (s.setPend m (s.dbPend m &&& ~~~hit)).goOn m ((s.core m).wg o.d.toNat hit).done) := by
  show execDbWait m o s = _
  unfold execDbWait
  simp only [ready_run hr, ready_awaits hr (List.mem_singleton.2 rfl), ha, hb, hhit, beq_self_eq_true, Bool.and_self,
    Bool.not_true, Bool.false_eq_true, if_false, ne_eq, not_false_eq_true, if_true]

/-- With no unmasked bit pending the core blocks, and DB_STAT shows that it waits. -/
theorem dbWait_blocks (hm : m < 32) (hhit : s.dbPend m &&& ~~~(s.dbMask m) = 0) : gives (exec (.dbWait m o) s) (fun t =>
    t.core m = { s.core m with blockedIn := some (.dbWait o.d.toNat), stall := none } ∧
    t.rd (mbxB (m / 16)) (Mbx.DB_STAT.WAITING.at (m % 16)) = 1) := by
  refine ⟨_, rfl, ?_⟩
  simp only [ready_run hr, ready_awaits hr (List.mem_singleton.2 rfl), ha, hb, hhit, beq_self_eq_true, Bool.and_self,
    Bool.not_true, Bool.false_eq_true, if_false, ne_eq, not_true_eq_false]
  rw [Laws.syncCore_core, syncCore_rd _ hm (mbxB_high _) (at_lsb (by decide))]
  split
  case isTrue =>
    rw [fireK_rd, rd_copy_wr_copy _ _ _ _ (by decide) (by decide), core_of_cores (fireK_cores _ _ _)]
    exact ⟨core_setCore s m _, rd_copy_wr_same _ _ _ _ (by decide)⟩
  case isFalse => exact ⟨core_setCore s m _, rd_copy_wr_same _ _ _ _ (by decide)⟩

end

theorem dbWait_gives {s : State} {m : Nat} {o : OpA} (hm : m < 32) (ha : o.a = 0) (hb : o.b = 0)
    (hr : s.ready m [o.d.toNat] = true) (hpage : ((s.core m).pc + 4).toNat % 4096 ≠ 0) :
    let hit := s.dbPend m &&& ~~~(s.dbMask m)
    gives (exec (.dbWait m o) s) (fun t =>
      if hit = 0 then t.core m = { s.core m with blockedIn := some (.dbWait o.d.toNat), stall := none } ∧
        t.rd (mbxB (m / 16)) (Mbx.DB_STAT.WAITING.at (m % 16)) = 1
      else (t.core m).data = ((s.core m).wg o.d.toNat hit).data ∧ pendOf t m = (s.dbPend m &&& ~~~hit).toNat) := by
  dsimp only
  by_cases hhit : s.dbPend m &&& ~~~(s.dbMask m) = 0
  · simp only [if_pos hhit]
    exact dbWait_blocks ha hb hr hm hhit
  · simp only [if_neg hhit]
    refine ⟨_, exec_dbWait_takes ha hb hr hhit, ?_⟩
    dsimp only
    rw [Laws.goOn_seq _ _ _ (wg_done_pc _ _ _ ▸ hpage), core_setCore]
    exact ⟨rfl, setPend_pend s m _⟩

/-! ## The registers of a doorbell (R268, R275) -/

section
variable {s : State} {m : Nat} (w : Wr) (mask : Word)

/-- The odd core of a paired pair ignores the writes of its doorbell's registers. -/
theorem doorbell_ignored (hodd : (s.paired m && m % 2 == 1) = true) :
    gives (exec (.dbPendWrite w m mask) s) (fun t => t.regs = s.regs) ∧
    gives (exec (.dbClr w m mask) s) (fun t => t.regs = s.regs) ∧
    gives (exec (.dbMaskWrite w m mask) s) (fun t => t.regs = s.regs) := by
  refine ⟨⟨_, rfl, ?_⟩, ⟨_, rfl, ?_⟩, ⟨_, rfl, ?_⟩⟩ <;> rw [hodd] <;> rfl

variable (hown : ¬(s.paired m = true ∧ m % 2 = 1))
include hown

theorem not_ignored : (s.paired m && m % 2 == 1) = false := by
  rw [← Bool.not_eq_true, Bool.and_eq_true, beq_iff_eq]
  exact hown

theorem dbPendWrite_sets (hk : s.hasK (m / 16) = true) (hruns : (s.core m).blockedIn = none) :
    gives (exec (.dbPendWrite w m mask) s) (fun t => pendOf t m = (s.dbPend m ||| mask).toNat) := by
  have hlead := lead_self hown
  have hpend := ring_pends (by rwa [hlead]) (by rwa [hlead]) mask
  rw [hlead] at hpend
  refine ⟨_, rfl, ?_⟩
  rw [not_ignored hown]
  exact hpend

theorem dbClr_clears : gives (exec (.dbClr w m mask) s) (fun t => pendOf t m = (s.dbPend m &&& ~~~mask).toNat) := by
  refine ⟨_, rfl, ?_⟩
  rw [not_ignored hown]
  exact setPend_pend s m _

theorem dbMaskWrite_masks (hruns : (s.core m).blockedIn = none) : gives (exec (.dbMaskWrite w m mask) s) (fun t =>
    t.rd (mbxB (m / 16)) (Mbx.DB_MASK.MASK.at (m % 16)) = mask.toNat) := by
  refine ⟨_, rfl, ?_⟩
  rw [not_ignored hown, Laws.wake_none (s.wr _ _ _) _ hruns]
  exact (rd_copy_wr_same _ _ _ _ (by decide)).trans (Nat.mod_eq_of_lt mask.isLt)

end

/-- The bits of a ring have arrived: they are no longer on their way. -/
abbrev bellArrived (s : State) (m : Nat) (mask : Word) : State :=
  { s with fab := { s.fab with flight := s.fab.flight.eraseP (fun f =>
      f.addr == mbxB (m / 16) + 0x800 + 16 * (m % 16) && f.val == mask) } }

theorem doorbellSet_sets {s : State} {m : Nat} (hm : m < 32) (hruns : (s.core (s.lead m)).blockedIn = none) (mask : Word) :
    gives (exec (.doorbellSet m mask) s) (fun t => s.hasK (s.lead m / 16) = true →
      pendOf t (s.lead m) = (s.dbPend (s.lead m) ||| mask).toNat) := by
  have hlead : (bellArrived s m mask).lead m = s.lead m := rfl
  have hexec : exec (.doorbellSet m mask) s = .next ((bellArrived s m mask).ring m mask) := by
    show execDoorbellSet m mask s = _
    unfold execDoorbellSet
    dsimp only
    rw [if_pos hm]
  refine ⟨_, hexec, fun hk => ?_⟩
  have hpend := ring_pends (s := bellArrived s m mask) (m := m) (hlead ▸ hk) (hlead ▸ hruns) mask
  rw [hlead] at hpend
  exact hpend

/-- Settles O26: the instructions by their branches, the registers by what a ring, a clear and a mask write. -/
theorem doorbells : Obligations.Doorbells := by
  unfold Obligations.Doorbells
  intro w m s hm hk
  refine ⟨fun hpage => ⟨fun o hd hr => dbRing_gives hd hr hpage, fun o ha hb hr => dbWait_gives hm ha hb hr hpage⟩,
    fun mask hlead hruns => ⟨doorbellSet_sets hm hlead mask, ?registers⟩⟩
  case registers =>
    split
    case isTrue hodd =>
      obtain ⟨hpaired, hodd⟩ := hodd
      exact doorbell_ignored w mask (by rw [hpaired, hodd]; rfl)
    case isFalse hown =>
      exact ⟨dbPendWrite_sets w mask hown hk hruns, dbClr_clears w mask hown, dbMaskWrite_masks w mask hown hruns⟩

end Sys2Proof.DoorbellBits
end

section
/-!
The station converters of the A-dies (R278 to R297): where their registers lie, their events and fault sources, and what a
reference check, an urgent request, the end of a calibration phase, a pair mismatch and a memory error leave.
-/
namespace Sys2Proof.StationConverters

open Sys2Proof Sys2Proof.Machine Sys2Proof.Machine.State Sys2Proof.CellLink Sys2Proof.Modulators

/-! ## Where the registers of an A-die lie (R22, R292, R293) -/

/-- The field lies inside the registers of the whole die, below those of its sequencers (R292). -/
abbrev DieFld (f : Fld) : Prop := f.off < 0x100 ∧ f.lsb < 32

theorem adB_high (a : Nat) : 0x30000000 ≤ adB a := by
  unfold adB
  omega

theorem adie_not_aside (a off l : Nat) : ¬asideKey (adB a + off) l := by
  unfold asideKey adB
  omega

theorem seq_key_ne_die {f g : Fld} (hf : f.lsb < 32) (hg : DieFld g) (a n : Nat) : f.key (seqB a n) ≠ g.key (adB a) :=
  key_ne_of_word_ne hf hg.2 (by unfold seqB; omega)

/-- A write to a sequencer leaves the registers of the die. -/
theorem rd_die_wr_seq (s : State) (a n v : Nat) {f g : Fld} (hf : DieFld f) (hg : g.lsb < 32) :
    (s.wr (seqB a n) g v).rd (adB a) f = s.rd (adB a) f :=
  rd_wr_ne _ _ _ _ _ _ (seq_key_ne_die hg hf a n).symm

/-- A write to a register of the die leaves its sequencers. -/
theorem rd_seq_wr_die (s : State) (a n v : Nat) {f g : Fld} (hf : f.lsb < 32) (hg : DieFld g) :
    (s.wr (adB a) g v).rd (seqB a n) f = s.rd (seqB a n) f :=
  rd_wr_ne _ _ _ _ _ _ (seq_key_ne_die hf hg a n)

/-! ## Events and fault sources (R296, R297) -/

theorem fireAd_rd (s : State) (a i b : Nat) (f : Fld) : (s.fireAd a i).rd b f = s.rd b f := rd_fire _ _ _ _

theorem adEvt_rd (s : State) (a i : Nat) {f : Fld} (hlsb : f.lsb < 32) (hne : f.key 0 ≠ Ad.AD_EVT.EVT.key 0) :
    (s.adEvt a i).rd (adB a) f = s.rd (adB a) f :=
  raiseBit_rd _ _ _ _ _ _ _ _ _ nofun (key_ne hne _) (adie_not_aside _ _ _) hlsb

theorem adEvt_canFire (s : State) (a i n : Nat) : (s.adEvt a i).canFire n = s.canFire n :=
  have ⟨hrdy, hbusy⟩ := dieStat_key_ne (adB_high a) Ad.AD_EVT.EVT
  Laws.raise_canFire _ _ _ _ _ _ _ _ nofun hrdy hbusy

/-- Event `i` and then source B + `j`, after writes that leave what can fire. -/
theorem event_reported {s u : State} {a i : Nat} (j : Nat) (ha : a < 2) (hi : i < 7) (hable : ∀ n, u.canFire n = s.canFire n) :
    (((u.adEvt a i).fireAd a j).rd (adB a) Ad.AD_EVT.EVT).testBit i = true ∧
      s.fires ((u.adEvt a i).fireAd a j) (0x140 + 16 * a + j) := by
  refine ⟨?_, fires_of _ ((adEvt_canFire _ _ _ _).trans (hable _))⟩
  rw [fireAd_rd]
  exact Laws.adEvt_set _ _ _ ha hi

theorem fireAd_adEvt_rd (s : State) (a i j : Nat) {f : Fld} (hlsb : f.lsb < 32) (hne : f.key 0 ≠ Ad.AD_EVT.EVT.key 0) :
    ((s.adEvt a i).fireAd a j).rd (adB a) f = s.rd (adB a) f := by
  rw [fireAd_rd, adEvt_rd _ _ _ hlsb hne]

/-- Bit `p` of a map of mismatches is set, event `i` is raised and source B + `j` fires. -/
theorem mark_reported {s u : State} {a i j p v : Nat} {f : Fld} (ha : a < 2) (hi : i < 7) (hp : p < f.wid) (hwid : f.wid ≤ 32)
    (hlsb : f.lsb < 32) (hne : f.key 0 ≠ Ad.AD_EVT.EVT.key 0) (hable : ∀ n, u.canFire n = s.canFire n) :
    ((((u.wr (adB a) f (setBit v p)).adEvt a i).fireAd a j).rd (adB a) f).testBit p = true ∧
      ((((u.wr (adB a) f (setBit v p)).adEvt a i).fireAd a j).rd (adB a) Ad.AD_EVT.EVT).testBit i = true ∧
      s.fires (((u.wr (adB a) f (setBit v p)).adEvt a i).fireAd a j) (0x140 + 16 * a + j) := by
  refine ⟨?_, event_reported j ha hi fun n => (wr_canFire _ (adB_high a) _ _ n).trans (hable n)⟩
  rw [fireAd_adEvt_rd _ _ _ _ hlsb hne, rd_wr_same _ _ _ _ hwid]
  exact Laws.setBit_test _ _ _ hp

/-- A status bit that is set and reported reads 1, and source B + `j` is on its way. -/
theorem bit_noted_reported (s : State) (a j : Nat) {f : Fld} (hwid : f.wid = 1) :
    ((s.wr (adB a) f 1).fireAd a j).rd (adB a) f = 1 ∧ s.fires ((s.wr (adB a) f 1).fireAd a j) (0x140 + 16 * a + j) := by
  refine ⟨?_, fires_of _ (wr_canFire _ (adB_high a) _ _ _)⟩
  rw [fireAd_rd, rd_wr_same _ _ _ _ (by omega), hwid]
  rfl

/-! ## Commands of an A-die that is up -/

section
variable {i : Instr} {s : State} {a : Nat} {f : State → State} {P : State → Prop}

theorem onAd_gives (hexec : exec i s = .next (s.onAd a f)) (hup : s.adUp a = true) (hP : P (f s)) : gives (exec i s) P :=
  ⟨_, hexec, by rwa [Laws.onAd_up hup]⟩

/-- A register write to the A-die also ends the access of its master (R31). -/
theorem onAd_retire_gives {w : Wr} {addr : Nat} (hexec : exec i s = .next ((s.onAd a f).retire w addr))
    (hup : s.adUp a = true) (hP : P ((f s).retire w addr)) : gives (exec i s) P :=
  ⟨_, hexec, by rwa [Laws.onAd_up hup]⟩

end

/-! ## Reference and counters (R283, R292) -/

theorem referr_reports {s : State} {a : Nat} (ha : a < 2) (hup : s.adUp a = true)
    (hbad : s.rd (adB a) Ad.AD_STAT.REFBAD ≠ 0) : gives (exec (.referr a) s) (fun t =>
      t.rd (adB a) Ad.AD_STAT.REFERR = 1 ∧ (t.rd (adB a) Ad.AD_EVT.EVT).testBit 5 = true ∧ s.fires t (0x140 + 16 * a + 0)) := by
  refine onAd_gives rfl hup ?_
  rw [if_pos ((Laws.on_iff _ _ _).2 hbad)]
  refine ⟨?_, event_reported 0 ha (by decide) fun _ => wr_canFire _ (adB_high a) _ _ _⟩
  rw [fireAd_adEvt_rd _ _ _ _ (by decide) (by decide)]
  exact rd_wr_same _ _ _ _ (by decide)

theorem adCntclr_clears (w : Wr) {s : State} {a : Nat} (hup : s.adUp a = true) : gives (exec (.adCntclr w a) s) (fun t =>
    t.rd (adB a) Ad.AD_CNT0.URGDROP = 0 ∧ t.rd (adB a) Ad.AD_CNT0.SKIPPED = 0 ∧ t.rd (adB a) Ad.AD_CNT1.PFAIL = 0 ∧
      t.rd (adB a) Ad.AD_CNT1.ROTCNT = 0) := by
  refine onAd_retire_gives rfl hup ⟨?urgdrop, ?skipped, ?pfail, rd_wr_same _ _ _ _ (by decide)⟩
  case urgdrop =>
    rw [rd_retire, rd_wr_other _ _ _ _ _ (by decide), rd_wr_other _ _ _ _ _ (by decide), rd_wr_other _ _ _ _ _ (by decide)]
    exact rd_wr_same _ _ _ _ (by decide)
  case skipped =>
    rw [rd_retire, rd_wr_other _ _ _ _ _ (by decide), rd_wr_other _ _ _ _ _ (by decide)]
    exact rd_wr_same _ _ _ _ (by decide)
  case pfail =>
    rw [rd_retire, rd_wr_other _ _ _ _ _ (by decide)]
    exact rd_wr_same _ _ _ _ (by decide)

/-! ## Urgent requests (R287, R293) -/

section
variable {s : State} {n : Nat} {v : Word} (hn : n < 24) (a : Nat)
include hn

/-- What a write of URG does, with the fields of the word as R293 places them. -/
theorem urgWrite_eq : s.urgWrite a n v =
    if v.toNat % 8 = 7 ∨ 47 < v.toNat / 65536 % 64 then (s.wr (adB a) Ad.AD_STAT.CFG_REJ 1).fireAd a 6
    else if s.rd (seqB a n) Seq.SEQ_STAT.URGPEND ≠ 0 then s.inc (adB a) Ad.AD_CNT0.URGDROP
    else (s.wr (seqB a n) Seq.SEQ_STAT.URGPEND 1).modAd a (fun x =>
      { x with urg := Tab.put x.urg n ⟨v.toNat % 8, v.toNat / 256 % 2, v.toNat / 65536 % 64, s.clk.pt⟩ }) := by
  have hsel : bits v.toNat 2 0 = v.toNat % 8 := by
    show v.toNat / 1 % 8 = _
    rw [Nat.div_one]
  unfold urgWrite
  dsimp only
  rw [if_neg (Nat.not_le.2 hn), hsel]
  simp only [Laws.on_iff]
  rfl

theorem urgWrite_refused (hbad : v.toNat % 8 = 7 ∨ 47 < v.toNat / 65536 % 64) :
    (s.urgWrite a n v).rd (adB a) Ad.AD_STAT.CFG_REJ = 1 ∧ s.fires (s.urgWrite a n v) (0x140 + 16 * a + 6) ∧
      (s.urgWrite a n v).rd (seqB a n) Seq.SEQ_STAT.URGPEND = s.rd (seqB a n) Seq.SEQ_STAT.URGPEND := by
  obtain ⟨hnoted, hfires⟩ := bit_noted_reported s a 6 (f := Ad.AD_STAT.CFG_REJ) rfl
  rw [urgWrite_eq hn, if_pos hbad]
  exact ⟨hnoted, hfires, by rw [fireAd_rd, rd_seq_wr_die _ _ _ _ (by decide) (by decide)]⟩

theorem urgWrite_dropped (hgood : ¬(v.toNat % 8 = 7 ∨ 47 < v.toNat / 65536 % 64))
    (hpend : s.rd (seqB a n) Seq.SEQ_STAT.URGPEND ≠ 0) :
    (s.urgWrite a n v).rd (adB a) Ad.AD_CNT0.URGDROP = min (s.rd (adB a) Ad.AD_CNT0.URGDROP + 1) 65535 := by
  rw [urgWrite_eq hn, if_neg hgood, if_pos hpend]
  exact Tasks.rd_inc_same _ _ (by decide)

theorem urgWrite_taken (hgood : ¬(v.toNat % 8 = 7 ∨ 47 < v.toNat / 65536 % 64))
    (hfree : s.rd (seqB a n) Seq.SEQ_STAT.URGPEND = 0) :
    (s.urgWrite a n v).rd (seqB a n) Seq.SEQ_STAT.URGPEND = 1 ∧
      Tab.get ((s.urgWrite a n v).ad a).urg n ⟨0, 0, 0, 0⟩ =
        ⟨v.toNat % 8, v.toNat / 256 % 2, v.toNat / 65536 % 64, s.clk.pt⟩ := by
  rw [urgWrite_eq hn, if_neg hgood, if_neg (not_not.2 hfree), modAd_eq, rd_setAd, ad_setAd, Tab.get_put_same]
  exact ⟨rd_wr_same _ _ _ _ (by decide), rfl⟩

end

/-! ## Calibration (R290, R291) -/

section
variable {s : State} {a : Nat} {sum : Int} (hsel : s.rd (adB a) Ad.AD_STAT.CALSEL < 24)
  (hph : s.rd (adB a) Ad.AD_STAT.CALPH = 0) (hfirst : (s.ad a).noMatch = false)
include hsel hph hfirst

/-- R290: while a dwell has not left its MATCH phase, the sum decides between a mismatch and the STAND-IN phase. -/
theorem calMatch_eq : s.calMatch a sum =
    if 64 * s.rd (adB a) Ad.AD_CTL.SPTOL < sum.natAbs then
      (((s.modAd a (fun x => { x with noMatch := true })).wr (adB a) Ad.SPMIS.MIS
        (setBit (s.rd (adB a) Ad.SPMIS.MIS) (s.rd (adB a) Ad.AD_STAT.CALSEL))).adEvt a 4).fireAd a 3
    else (s.wr (adB a) Ad.AD_STAT.CALPH 1).wr (seqB a (s.rd (adB a) Ad.AD_STAT.CALSEL)) Seq.SEQ_STAT.SPARE 1 :=
  if_neg (by
    rw [hfirst, Laws.on_iff, hph]
    simp only [ne_eq, not_true_eq_false, Bool.false_eq_true, or_false]
    omega)

theorem calMatch_mismatch (ha : a < 2) (hbig : 64 * s.rd (adB a) Ad.AD_CTL.SPTOL < sum.natAbs) :
    ((s.calMatch a sum).rd (adB a) Ad.SPMIS.MIS).testBit (s.rd (adB a) Ad.AD_STAT.CALSEL) = true ∧
      ((s.calMatch a sum).rd (adB a) Ad.AD_EVT.EVT).testBit 4 = true ∧ s.fires (s.calMatch a sum) (0x140 + 16 * a + 3) := by
  rw [calMatch_eq hsel hph hfirst, if_pos hbig]
  exact mark_reported ha (by decide) hsel (by decide) (by decide) (by decide) fun _ => rfl

theorem calMatch_standIn (hsmall : ¬64 * s.rd (adB a) Ad.AD_CTL.SPTOL < sum.natAbs) :
    (s.calMatch a sum).rd (adB a) Ad.AD_STAT.CALPH = 1 ∧
      (s.calMatch a sum).rd (seqB a (s.rd (adB a) Ad.AD_STAT.CALSEL)) Seq.SEQ_STAT.SPARE = 1 := by
  rw [calMatch_eq hsel hph hfirst, if_neg hsmall]
  refine ⟨?_, rd_wr_same _ _ _ _ (by decide)⟩
  rw [rd_die_wr_seq _ _ _ _ (by decide) (by decide)]
  exact rd_wr_same _ _ _ _ (by decide)

end

theorem dwellEnd_idle {s : State} {a : Nat} (ofs gain : Int) (hidle : s.rd (adB a) Ad.AD_STAT.CALSEL = 0x1F) :
    s.dwellEnd a ofs gain = s := by
  unfold dwellEnd calDwell
  dsimp only
  rw [if_pos hidle, if_pos hidle]

/-! ## Pairs and results (R285, R289) -/

/-- R289: a pair of which PLIM comparisons in a row have failed is marked and reported, the first time it is so. -/
theorem pairMis_reports {s : State} {a p : Nat} (ha : a < 2) (hp : p < 12)
    (hfirst : (Tab.get (s.ad a).runs p ⟨0, false⟩).told = false)
    (hlim : max 1 (s.rd (adB a) Ad.PAIR_CTL.PLIM) ≤ (Tab.get (s.ad a).runs p ⟨0, false⟩).fails) :
    ((s.pairMis a p).rd (adB a) Ad.PAIRMIS.MIS).testBit p = true ∧
      ((s.pairMis a p).rd (adB a) Ad.AD_EVT.EVT).testBit 2 = true ∧ s.fires (s.pairMis a p) (0x140 + 16 * a + 1) := by
  unfold pairMis
  dsimp only
  rw [hfirst, Bool.false_or, if_neg (by rw [decide_eq_true_iff]; exact Nat.not_lt.2 hlim)]
  exact mark_reported ha (by decide) hp (by decide) (by decide) (by decide) fun _ => rfl

theorem adcResult_idle {s : State} {a n : Nat} (vin : Int) (hidle : (s.ad a).conv.find? (fun c => c.n == n) = none) :
    s.adcResult a n vin = s := by
  unfold adcResult
  rw [hidle]

/-! ## Memory errors (R297) -/

/-- An uncorrectable error in a list stops its sequencer. -/
theorem adRamError_stops (s : State) (a : Nat) {n : Nat} (hn : n < 24) :
    (s.adRamError a true n none).rd (adB a) Ad.AD_STAT.RAMUE = 1 ∧
      (s.adRamError a true n none).rd (seqB a n) Seq.SEQ_CTL.EN = 0 ∧
      (s.adRamError a true n none).rd (seqB a n) Seq.SEQ_STAT.RUN = 0 := by
  unfold adRamError
  dsimp only
  rw [if_neg (by decide), if_pos hn, fireAd_rd, fireAd_rd, fireAd_rd]
  refine ⟨rd_wr_same _ _ _ _ (by decide), ?disabled, ?stopped⟩
  case disabled =>
    rw [rd_seq_wr_die _ _ _ _ (by decide) (by decide), modAd_eq, rd_setAd, rd_wr_other _ _ _ _ _ (by decide)]
    exact RegFile.get_set_same _ _ _ _ (by decide)
  case stopped =>
    rw [rd_seq_wr_die _ _ _ _ (by decide) (by decide), modAd_eq, rd_setAd]
    exact rd_wr_same _ _ _ _ (by decide)

/-! ## The rows -/

/-- Settles O30: each command acts by the result of its operation on its A-die; the ends of a conversion and of a dwell write
no memory. -/
theorem converterRows : Obligations.ConverterRows := by
  unfold Obligations.ConverterRows
  intro w a s ha hup
  refine ⟨onAd_gives rfl hup (rd_wr_same _ _ _ _ (by decide)), onAd_gives rfl hup (rd_wr_same _ _ _ _ (by decide)),
    referr_reports ha hup, adCntclr_clears w hup, fun n v hn => ?urgent, fun sum hsel hph hfirst => ?calibration,
    fun p r hp hr hfirst hlim => ?pair, onAd_gives rfl hup ⟨fires_of _ rfl, fire_regs _ _⟩,
    fun n r => onAd_gives rfl hup (bit_noted_reported s a 4 rfl),
    fun n hn => onAd_gives rfl hup (adRamError_stops s a hn), fun n vin => ?result, fun ofs gain => ?dwell⟩
  case urgent =>
    refine onAd_retire_gives rfl hup ?_
    split
    case isTrue hbad => exact urgWrite_refused hn a hbad
    case isFalse hgood =>
      split
      case isTrue hpend => exact urgWrite_dropped hn a hgood hpend
      case isFalse hfree => exact urgWrite_taken hn a hgood (not_not.1 hfree)
  case calibration =>
    refine onAd_gives rfl hup ?_
    split
    case isTrue hbig => exact calMatch_mismatch hsel hph hfirst ha hbig
    case isFalse hsmall => exact calMatch_standIn hsel hph hfirst hsmall
  case pair =>
    subst hr
    exact onAd_gives rfl hup (pairMis_reports ha hp hfirst hlim)
  case result =>
    refine ⟨_, rfl, LawEngines.exec_mem (i := .adcResult a n vin) rfl rfl, fun hidle => ?_⟩
    rw [Laws.onAd_up hup]
    exact adcResult_idle vin hidle
  case dwell =>
    refine ⟨_, rfl, LawEngines.exec_mem (i := .calDwellEnd a ofs gain) rfl rfl, fun hidle => ?_⟩
    rw [Laws.onAd_up hup]
    exact dwellEnd_idle ofs gain hidle

end Sys2Proof.StationConverters
end

section
/-!
The DMA channels (R299 to R311): where their registers lie, what a change of state and an event leave alone, and what a start,
a pause, a resume, an abort, an append, a link and an error do to a channel.
-/
namespace Sys2Proof.DmaChannels

open Sys2Proof Sys2Proof.Machine Sys2Proof.Machine.State Sys2Proof.CellLink Sys2Proof.Modulators Sys2Proof.LawEngines

/-! ## Where the registers of a DMA engine lie (R299, R307, R308)

A channel takes 64 bytes, as a channel of a law engine does, so `ChannelFld` says which fields lie inside it. -/

theorem dmaB_high (k : Nat) : 0x30000000 ≤ dmaB k := by
  unfold dmaB kB
  omega

theorem dchB_high (k c : Nat) : 0x30000000 ≤ dchB k c := by
  unfold dchB kB
  omega

theorem dch_not_aside {c off : Nat} (hc : c < 16) (hoff : off < 0x40) (k l : Nat) : ¬asideKey (dchB k c + off) l := by
  unfold asideKey dchB kB
  omega

theorem dch_key_ne_act {f : Fld} (hf : f.lsb < 32) (k c : Nat) : f.key (dchB k c) ≠ Dma.DMA_ACT.RUN.key (dmaB k) := by
  refine key_ne_of_word_ne hf (by decide) ?_
  have hact : Dma.DMA_ACT.RUN.off = 0 := rfl
  unfold dchB dmaB
  omega

/-! ## Commands of a channel whose K-die is up -/

section
variable {i : Instr} {s : State} {k c : Nat} {f : State → State} {P : State → Prop}

theorem onDch_gives (hexec : exec i s = .next (s.onDch k c f)) (hk : k < 2) (hc : c < 16) (hup : s.dieUp k = true)
    (hP : P (f s)) : gives (exec i s) P :=
  ⟨_, hexec, by rwa [Laws.onDch_up hk hc hup]⟩

/-- A write to CH_CTL also ends the access of its master (R31). -/
theorem onDch_retire_gives {w : Wr} {addr : Nat} (hexec : exec i s = .next ((s.onDch k c f).retire w addr)) (hk : k < 2)
    (hc : c < 16) (hup : s.dieUp k = true) (hP : P ((f s).retire w addr)) : gives (exec i s) P :=
  ⟨_, hexec, by rwa [Laws.onDch_up hk hc hup]⟩

end

/-- The end of an access changes no register. -/
theorem retire_regs_unchanged {s t : State} (w : Wr) (addr : Nat) (h : t = s) : (t.retire w addr).regs = s.regs := by
  subst h
  rfl

/-! ## Clearing a list of fields -/

theorem wr_zero_reads_zero {s : State} {b : Nat} {f : Fld} (g : Fld) (h : s.rd b f = 0) : (s.wr b g 0).rd b f = 0 := by
  rw [rd_wr]
  split
  case isTrue => rw [Nat.zero_mod, Nat.zero_mod]
  case isFalse => exact h

theorem foldl_wr_zero_clears {s : State} {b : Nat} {f : Fld} (l : List Fld) (h : s.rd b f = 0 ∨ f ∈ l) :
    (l.foldl (fun s g => s.wr b g 0) s).rd b f = 0 := by
  induction l generalizing s with
  | nil => exact h.resolve_right List.not_mem_nil
  | cons g r ih =>
    refine ih ?_
    rcases h with h | h
    · exact .inl (wr_zero_reads_zero g h)
    · rcases List.mem_cons.1 h with rfl | h
      · exact .inl (by rw [rd_wr, if_pos rfl, Nat.zero_mod, Nat.zero_mod])
      · exact .inr h

theorem foldl_wr_zero_keeps (s : State) (b : Nat) {f : Fld} (l : List Fld) (h : ∀ g ∈ l, f.key 0 ≠ g.key 0) :
    (l.foldl (fun s g => s.wr b g 0) s).rd b f = s.rd b f := by
  induction l generalizing s with
  | nil => rfl
  | cons g r ih =>
    exact (ih _ fun g' hg' => h g' (List.mem_cons_of_mem _ hg')).trans (rd_wr_other _ _ _ _ _ (h g List.mem_cons_self))

/-! ## What a change of state and an event leave alone (R303, R309) -/

theorem dSet_rd_other (s : State) (k c v : Nat) {f : Fld} (hlsb : f.lsb < 32)
    (hne : f.key 0 ≠ Dch.CH_STAT.STATE.key 0) : (s.dSet k c v).rd (dchB k c) f = s.rd (dchB k c) f :=
  Laws.dSet_rd _ _ _ _ _ _ (key_ne hne _) (dch_key_ne_act hlsb k c)

/-- The fields that loading a new descriptor leaves alone (R303). -/
theorem dAim_rd_other (s : State) (k c a : Nat) {f : Fld} (hlsb : f.lsb < 32) (hstate : f.key 0 ≠ Dch.CH_STAT.STATE.key 0)
    (hdesc : f.key 0 ≠ Dch.CH_DESC.DESC.key 0) : (s.dAim k c a).rd (dchB k c) f = s.rd (dchB k c) f := by
  unfold dAim
  rw [dSet_rd_other _ _ _ _ hlsb hstate, rd_modDma, rd_wr_other _ _ _ _ _ hdesc]

/-! ## Where a command does nothing or comes down to one change of the channel (R303) -/

section
variable {s : State} {k c : Nat}

theorem dStart_running (hrun : s.dRuns k c = true) : s.dStart k c = s :=
  if_pos hrun

/-- The fields that a start clears (R303, R308). -/
def startClears : List Fld :=
  [Dch.CH_STAT.RECHECK, Dch.CH_STAT.BADDESC, Dch.CH_STAT.OVERLAP, Dch.CH_STAT.IDXRANGE, Dch.CH_STAT.MEMUE,
    Dch.CH_STAT.ABSENT, Dch.CH_STAT.TMO, Dch.CH_CNT.DONE]

/-- A channel whose error flags, RECHECK and count a start has cleared. -/
def startCleared (s : State) (k c : Nat) : State := startClears.foldl (fun s g => s.wr (dchB k c) g 0) s

/-- A channel that does not run and is not held paused goes to its head descriptor. -/
theorem dStart_idle (hidle : ¬s.dRuns k c = true) (hpause : s.rd (dchB k c) Dch.CH_CTL.PAUSE = 0) :
    s.dStart k c = (startCleared s k c).dAim k c (s.rd (dchB k c) Dch.CH_HEAD.HEAD * 32) := by
  have hhead : (startCleared s k c).rd (dchB k c) Dch.CH_HEAD.HEAD = s.rd (dchB k c) Dch.CH_HEAD.HEAD :=
    foldl_wr_zero_keeps s _ startClears (by decide)
  have hopen : (startCleared s k c).rd (dchB k c) Dch.CH_CTL.PAUSE = 0 :=
    (foldl_wr_zero_keeps s _ startClears (by decide)).trans hpause
  have haimed : ¬((startCleared s k c).dAim k c ((startCleared s k c).rd (dchB k c) Dch.CH_HEAD.HEAD * 32)).on (dchB k c)
      Dch.CH_CTL.PAUSE = true := by
    rw [Laws.on_iff, dAim_rd_other _ _ _ _ (by decide) (by decide) (by decide)]
    exact not_not.2 hopen
  calc s.dStart k c
      = (startCleared s k c).dAim k c ((startCleared s k c).rd (dchB k c) Dch.CH_HEAD.HEAD * 32) :=
        (if_neg hidle).trans (if_neg haimed)
    _ = _ := by rw [hhead]

/-- A channel that was paused in RUN or DRAIN goes back to that state. -/
theorem dResume_moving (hst : s.rd (dchB k c) Dch.CH_STAT.STATE = 5) (hfrz : s.rd (dchB k c) Dch.CH_STAT.FRZ = 0)
    (hleft : (s.dma k c).left = 1 ∨ (s.dma k c).left = 2) : s.dResume k c = s.dSet k c (s.dma k c).left := by
  have hthawed : s.on (dchB k c) Dch.CH_STAT.FRZ = false := Bool.eq_false_iff.2 fun h => (Laws.on_iff _ _ _).1 h hfrz
  have hgo : ¬(s.dState k c != 5 || s.on (dchB k c) Dch.CH_STAT.FRZ) = true := by
    rw [hthawed, show s.dState k c = 5 from hst]
    decide
  unfold dResume
  dsimp only
  rw [if_neg hgo, if_neg (by omega), if_neg (by omega)]

theorem dAbort_stopped (hidle : ¬s.dRuns k c = true) : s.dAbort k c = s :=
  if_neg hidle

theorem dAppend_rechecks (hst : s.dState k c = 1 ∨ s.dState k c = 2 ∨ s.dState k c = 3 ∨ s.dState k c = 5) :
    (s.dAppend k c).rd (dchB k c) Dch.CH_STAT.RECHECK = 1 ∧ (s.dAppend k c).dState k c = s.dState k c := by
  have happend : s.dAppend k c = s.wr (dchB k c) Dch.CH_STAT.RECHECK 1 := by
    unfold dAppend
    rcases hst with h | h | h | h <;> rw [h] <;> rfl
  rw [happend]
  exact ⟨rd_wr_same _ _ _ _ (by decide), rd_wr_other _ _ _ _ _ (by decide)⟩

theorem dAppend_stopped (hst : s.dState k c = 0 ∨ s.dState k c = 6) : s.dAppend k c = s := by
  unfold dAppend
  rcases hst with h | h <;> rw [h] <;> rfl

/-- A return to a channel that awaits no data does nothing. -/
theorem dReturn_unawaited (ue : Bool) (h : ¬(s.dState k c = 1 ∧ (s.dma k c).load = false)) : s.dReturn k c ue = s :=
  if_pos (by simpa [Classical.or_iff_not_imp_left] using h)

/-- The link word decides: the next descriptor, one more look, or the tail. -/
theorem dLink_eq {v : Word} (hst : s.dState k c = 3) (hlink : (s.dma k c).link = some v) :
    s.dLink k c =
      if v.getLsbD 0 = false then s.dAim k c (v.toNat / 32 * 32)
      else if s.rd (dchB k c) Dch.CH_STAT.RECHECK ≠ 0 then (s.wr (dchB k c) Dch.CH_STAT.RECHECK 0).dLinkRead k c
      else ((s.modDma k c (fun x => { x with link := none })).dSet k c 4).dchEvt k c 1 := by
  unfold dLink
  dsimp only
  rw [hst, hlink, if_neg (by decide)]
  simp only [Bool.not_eq_true', Laws.on_iff]

theorem dLoaded_unawaited (hst : s.dState k c ≠ 1) : s.dLoaded k c = s :=
  if_pos (by simp [hst])

theorem dDrained_unawaited (hst : s.dState k c ≠ 2) : s.dDrained k c = s :=
  if_pos (by simp [hst])

end

/-! ## What a change of state and an event leave readable -/

section
variable {s : State} {k c : Nat} (hk : k < 2) (hc : c < 16)
include hk hc

theorem dchEvt_rd_other (s : State) (i : Nat) {f : Fld} (hf : ChannelFld f) (hne : f.key 0 ≠ Dch.CH_EVT.EVT.key 0) :
    (s.dchEvt k c i).rd (dchB k c) f = s.rd (dchB k c) f :=
  raiseBit_rd _ _ _ _ _ _ _ _ _ (some_lt hk) (key_ne hne _) (dch_not_aside hc hf.1 _ _) hf.2

/-- Entering state `v` and raising event `i` leaves both readable. -/
theorem dSet_dchEvt_entered (s : State) {v i : Nat} (hv : v < 8) (hi : i < 4) :
    ((s.dSet k c v).dchEvt k c i).rd (dchB k c) Dch.CH_STAT.STATE = v ∧
      (((s.dSet k c v).dchEvt k c i).rd (dchB k c) Dch.CH_EVT.EVT).testBit i = true := by
  refine ⟨?_, Laws.dchEvt_set _ _ _ _ hk hc hi⟩
  rw [dchEvt_rd_other hk hc _ _ (by decide) (by decide)]
  exact Laws.dSet_st _ _ _ _ hk hc hv

/-! ## Start and the next descriptor (R303) -/

theorem dAim_aimed (s : State) (a : Nat) : (s.dAim k c a).rd (dchB k c) Dch.CH_STAT.STATE = 1 ∧
    (s.dAim k c a).rd (dchB k c) Dch.CH_DESC.DESC = a % 2 ^ 32 := by
  refine ⟨Laws.dSet_st _ _ _ _ hk hc (by decide), ?_⟩
  unfold dAim
  rw [dSet_rd_other _ _ _ _ (by decide) (by decide), rd_modDma]
  exact rd_wr_same _ _ _ _ (by decide)

theorem dStart_starts (hidle : ¬s.dRuns k c = true) (hpause : s.rd (dchB k c) Dch.CH_CTL.PAUSE = 0) :
    (s.dStart k c).rd (dchB k c) Dch.CH_STAT.STATE = 1 ∧
      (s.dStart k c).rd (dchB k c) Dch.CH_DESC.DESC = s.rd (dchB k c) Dch.CH_HEAD.HEAD * 32 % 2 ^ 32 ∧
      (s.dStart k c).rd (dchB k c) Dch.CH_CNT.DONE = 0 ∧ (s.dStart k c).rd (dchB k c) Dch.CH_STAT.BADDESC = 0 := by
  rw [dStart_idle hidle hpause]
  obtain ⟨hstate, hdesc⟩ := dAim_aimed hk hc (startCleared s k c) (s.rd (dchB k c) Dch.CH_HEAD.HEAD * 32)
  refine ⟨hstate, hdesc, ?count, ?flag⟩
  case count =>
    rw [dAim_rd_other _ _ _ _ (by decide) (by decide) (by decide)]
    exact foldl_wr_zero_clears startClears (.inr (by decide))
  case flag =>
    rw [dAim_rd_other _ _ _ _ (by decide) (by decide) (by decide)]
    exact foldl_wr_zero_clears startClears (.inr (by decide))

/-! ## Pause, resume, abort and append (R303, R304) -/

theorem dPause_rd_pause (s : State) :
    (s.dPause k c).rd (dchB k c) Dch.CH_CTL.PAUSE = s.rd (dchB k c) Dch.CH_CTL.PAUSE := by
  unfold dPause
  split
  case isTrue => rw [dchEvt_rd_other hk hc _ _ (by decide) (by decide), dSet_rd_other _ _ _ _ (by decide) (by decide), rd_modDma]
  case isFalse => rfl

theorem dPause_pauses (hrun : s.dRuns k c = true) (hst : s.dState k c ≠ 5) :
    (s.dPause k c).rd (dchB k c) Dch.CH_STAT.STATE = 5 ∧ ((s.dPause k c).rd (dchB k c) Dch.CH_EVT.EVT).testBit 3 = true := by
  unfold dPause
  rw [if_pos (Bool.and_eq_true_iff.2 ⟨hrun, bne_iff_ne.2 hst⟩)]
  exact dSet_dchEvt_entered hk hc _ (by decide) (by decide)

theorem dResume_resumes (hst : s.rd (dchB k c) Dch.CH_STAT.STATE = 5) (hfrz : s.rd (dchB k c) Dch.CH_STAT.FRZ = 0)
    (hleft : (s.dma k c).left = 1 ∨ (s.dma k c).left = 2) :
    (s.dResume k c).rd (dchB k c) Dch.CH_CTL.PAUSE = s.rd (dchB k c) Dch.CH_CTL.PAUSE ∧
      (s.dResume k c).rd (dchB k c) Dch.CH_STAT.STATE = (s.dma k c).left := by
  rw [dResume_moving hst hfrz hleft]
  exact ⟨dSet_rd_other _ _ _ _ (by decide) (by decide), Laws.dSet_st _ _ _ _ hk hc (by omega)⟩

theorem dAbort_abandons (hrun : s.dRuns k c = true) :
    (s.dAbort k c).rd (dchB k c) Dch.CH_STAT.STATE = 0 ∧ (s.dAbort k c).dma k c = DmaCh.reset := by
  unfold dAbort
  rw [if_pos hrun]
  exact ⟨Laws.dSet_st _ _ _ _ hk hc (by decide), Laws.dma_modDma s k c fun _ => DmaCh.reset⟩

/-! ## Errors (R303, R306, R310) -/

/-- A channel that stops in ERROR shows the flag and reports its source. -/
theorem dError_stops (s : State) {f : Fld} (n : Nat) (hf : ChannelFld f) (hwid : f.wid = 1)
    (hstate : f.key 0 ≠ Dch.CH_STAT.STATE.key 0) (hevt : f.key 0 ≠ Dch.CH_EVT.EVT.key 0) :
    (s.dError k c f n).rd (dchB k c) Dch.CH_STAT.STATE = 6 ∧ (s.dError k c f n).rd (dchB k c) f = 1 ∧
      s.fires (s.dError k c f n) (n + 0x40 * k) := by
  unfold dError
  refine ⟨?stopped, ?flagged, fires_of _ ?able⟩
  case stopped =>
    rw [fireK_rd]
    exact (dSet_dchEvt_entered hk hc _ (by decide) (by decide)).1
  case flagged =>
    rw [fireK_rd, dchEvt_rd_other hk hc _ _ hf hevt, dSet_rd_other _ _ _ _ hf.2 hstate, rd_wr_same _ _ _ _ (by omega), hwid]
    rfl
  case able => rw [Laws.dchEvt_canFire _ _ _ _ _ hk hc, Laws.dSet_canFire _ _ _ _ _ hk hc, wr_canFire _ (dchB_high k c)]

theorem dReturn_uncorrectable (hst : s.dState k c = 1) (hload : (s.dma k c).load = false) :
    (s.dReturn k c true).rd (dchB k c) Dch.CH_STAT.STATE = 6 ∧ (s.dReturn k c true).rd (dchB k c) Dch.CH_STAT.MEMUE = 1 ∧
      s.fires (s.dReturn k c true) (0x07A + 0x40 * k) := by
  have herror : s.dReturn k c true = s.dError k c Dch.CH_STAT.MEMUE 0x07A := by
    unfold dReturn
    rw [hst, hload, if_neg (by decide), if_pos rfl]
  rw [herror]
  exact dError_stops hk hc s 0x07A (by decide) rfl (by decide) (by decide)

/-! ## Links and the steps of a descriptor (R303) -/

theorem dLink_next {v : Word} (hst : s.dState k c = 3) (hlink : (s.dma k c).link = some v) (hmore : v.getLsbD 0 = false) :
    (s.dLink k c).rd (dchB k c) Dch.CH_STAT.STATE = 1 ∧
      (s.dLink k c).rd (dchB k c) Dch.CH_DESC.DESC = v.toNat / 32 * 32 := by
  rw [dLink_eq hst hlink, if_pos hmore]
  obtain ⟨hstate, hdesc⟩ := dAim_aimed hk hc s (v.toNat / 32 * 32)
  have hword : v.toNat / 32 * 32 < 2 ^ 32 := Nat.lt_of_le_of_lt (Nat.div_mul_le_self _ _) v.isLt
  exact ⟨hstate, hdesc.trans (Nat.mod_eq_of_lt hword)⟩

theorem dLink_tail {v : Word} (hst : s.dState k c = 3) (hlink : (s.dma k c).link = some v) (hend : v.getLsbD 0 = true)
    (hseen : s.rd (dchB k c) Dch.CH_STAT.RECHECK = 0) : (s.dLink k c).rd (dchB k c) Dch.CH_STAT.STATE = 4 ∧
      ((s.dLink k c).rd (dchB k c) Dch.CH_EVT.EVT).testBit 1 = true := by
  rw [dLink_eq hst hlink, if_neg (by rw [hend]; decide), if_neg (not_not.2 hseen)]
  exact dSet_dchEvt_entered hk hc _ (by decide) (by decide)

end

/-! ## The rows -/

/-- Settles O32: each command acts by the result of its operation on its channel; a read that returns keeps the queue, the
part and the form of every memory, and a loaded descriptor and the end of a drain write no memory. -/
theorem dmaRows : Obligations.DmaRows := by
  unfold Obligations.DmaRows
  intro w k c s hk hc hup
  refine ⟨onDch_retire_gives rfl hk hc hup ?start, onDch_retire_gives rfl hk hc hup ⟨?asks, fun hrun hst => ?pauses⟩,
    onDch_retire_gives rfl hk hc hup fun hst hfrz hleft => ?resume, onDch_retire_gives rfl hk hc hup ?abort,
    onDch_retire_gives rfl hk hc hup ⟨dAppend_rechecks, fun hst => ?ignored⟩,
    onK_gives rfl hk hup (bit_noted_reported s k 0x07B (dmaB_high k) rfl),
    onK_gives rfl hk hup (bit_noted_reported s k 0x07C (dmaB_high k) rfl), onDch_gives rfl hk hc hup ?uncorrectable, ?returned,
    fun v hst hlink => onDch_gives rfl hk hc hup
      ⟨dLink_next hk hc hst hlink, dLink_tail hk hc hst hlink⟩, ?loaded, ?drained⟩
  case start =>
    split
    case isTrue hrun => exact retire_regs_unchanged w _ (dStart_running hrun)
    case isFalse hidle => exact dStart_starts hk hc hidle
  case asks =>
    exact (dPause_rd_pause hk hc _).trans (rd_wr_same _ _ _ _ (by decide))
  case pauses =>
    have hstate : (s.wr (dchB k c) Dch.CH_CTL.PAUSE 1).dState k c = s.dState k c := rd_wr_other _ _ _ _ _ (by decide)
    refine dPause_pauses hk hc ?_ (hstate.trans_ne hst)
    rw [Laws.dRuns_eq, hstate]
    exact hrun
  case resume =>
    have hstate := rd_wr_other s (dchB k c) Dch.CH_STAT.STATE Dch.CH_CTL.PAUSE 0 (by decide)
    have hthawed := rd_wr_other s (dchB k c) Dch.CH_STAT.FRZ Dch.CH_CTL.PAUSE 0 (by decide)
    obtain ⟨hpause, hresumed⟩ := dResume_resumes hk hc (hstate.trans hst) (hthawed.trans hfrz) hleft
    exact ⟨hpause.trans (rd_wr_same _ _ _ _ (by decide)), hresumed⟩
  case abort =>
    split
    case isTrue hrun => exact dAbort_abandons hk hc hrun
    case isFalse hidle => exact retire_regs_unchanged w _ (dAbort_stopped hidle)
  case ignored => exact retire_regs_unchanged w _ (dAppend_stopped hst)
  case uncorrectable =>
    split
    case isTrue hwait => exact dReturn_uncorrectable hk hc hwait.1 hwait.2
    case isFalse hidle => exact dReturn_unawaited true hidle
  case returned =>
    obtain ⟨t, ht⟩ := Laws.complete (.dmaReadReturn k c false) s
    exact ⟨t, ht, fol_fixed s t (Scope.exec_fols _ s t ht)⟩
  case loaded =>
    refine ⟨_, rfl, exec_mem (i := .dmaDescLoaded k c) rfl rfl, fun hst => ?_⟩
    rw [Laws.onDch_up hk hc hup]
    exact dLoaded_unawaited hst
  case drained =>
    refine ⟨_, rfl, exec_mem (i := .dmaDrainDone k c) rfl rfl, fun hst => ?_⟩
    rw [Laws.onDch_up hk hc hup]
    exact dDrained_unawaited hst

end Sys2Proof.DmaChannels
end

section
/-!
The whole block: what a step runs, what it leaves with no command waiting, the canonical form of the memories, and the
commands that reach none of them.
-/
namespace Sys2Proof.WholeBlock

open Sys2Proof Sys2Proof.Machine Sys2Proof.Machine.State

/-! ## The step (R1) -/

theorem step_cons {s : State} {c : Instr} {q : List Instr} (h : s.pending = c :: q) :
    step s = exec c { s with pending := q } := by
  unfold step
  rw [h]

theorem step_nil {s : State} (h : s.pending = []) : step s = .next s.nsTick := by
  unfold step
  rw [h]

/-- Settles O52: with a command waiting the step is the run of that command. -/
theorem stepRunsFront : Obligations.StepRunsFront := by
  unfold Obligations.StepRunsFront
  intro s c q h
  exact step_cons h

/-- Settles O53: with an empty queue the step is one tick of the clock. -/
theorem stepIdle : Obligations.StepIdle := by
  unfold Obligations.StepIdle
  intro s h
  obtain ⟨hpending, hsame⟩ := Laws.tick_same s
  exact ⟨_, step_nil h, hpending.trans h, hsame⟩

/-! ## The canonical form of the memories -/

/-- Settles O55: the memories of the reset state are empty. -/
theorem resetMemOk : Obligations.ResetMemOk := by
  unfold Obligations.ResetMemOk
  have hempty : Memory.wf [] = true := rfl
  exact Bool.and_eq_true_iff.2 ⟨Bool.and_eq_true_iff.2 ⟨hempty, hempty⟩, hempty⟩

theorem exec_keeps_memOk {i : Instr} {s : State} (hok : s.memOk = true) : gives (exec i s) (fun t => t.memOk = true) := by
  obtain ⟨t, ht⟩ := Laws.complete i s
  obtain ⟨-, hmem⟩ := fol_fixed s t (Scope.exec_fols i s t ht)
  exact ⟨t, ht, hmem hok⟩

theorem nsTick_memOk (s : State) : s.nsTick.memOk = s.memOk := by
  obtain ⟨-, -, -, hmem, hnor, hmram, -⟩ := Laws.tick_same s
  unfold memOk
  rw [hmem, hnor, hmram]

/-- Settles O58: the tick of an idle step reaches no memory, and every command keeps the form of those it writes; taking
the command off the queue changes none. -/
theorem memoryStaysCanonical : Obligations.MemoryStaysCanonical := by
  unfold Obligations.MemoryStaysCanonical
  intro s hok
  cases hq : s.pending with
  | nil => exact ⟨_, step_nil hq, (nsTick_memOk s).trans hok⟩
  | cons c q =>
    rw [step_cons hq]
    exact exec_keeps_memOk (s := { s with pending := q }) hok

/-! ## The commands that reach no memory -/

theorem exec_reads_same {i : Instr} {s : State} (hw : Laws.writes i = false) :
    gives (exec i s) (fun t => (∀ a, Mem.read t.mem a = Mem.read s.mem a) ∧ (∀ a, Mem.read t.nor a = Mem.read s.nor a) ∧
      ∀ a, Mem.read t.mram a = Mem.read s.mram a) := by
  obtain ⟨t, ht, hmem, hnor, hmram, -⟩ := Modulators.gives_frame (s := s) hw
  exact ⟨t, ht, fun a => by rw [hmem], fun a => by rw [hnor], fun a => by rw [hmram]⟩

/-- Settles O57: the commands the statement leaves out are those that `Laws.writes` names; every other one keeps each
memory as a whole. -/
theorem memoryFrame : Obligations.MemoryFrame := by
  unfold Obligations.MemoryFrame
  intro i s
  cases hw : Laws.writes i with
  | true =>
    unfold Laws.writes at hw
    split at hw <;> trivial
  | false =>
    split
    case h_33 => exact exec_reads_same hw
    all_goals trivial

end Sys2Proof.WholeBlock
end

section
/-!
The xSPI controllers (R463, R466, R467): how a transfer ends.
-/
namespace Sys2Proof.XspiControllers

open Sys2Proof Sys2Proof.Machine Sys2Proof.Machine.State Sys2Proof.CellLink Sys2Proof.DmaChannels

section
variable {s : State} {u : Nat} {err : Bool}

theorem xsDone_idle (h : s.pwr.xs.find? (fun e => e.1 == u) = none) : s.xsDone u err = s := by
  unfold xsDone
  rw [h]

/-- The state in which the data of an ended transfer are put where they belong: the job has left, and the controller shows
neither BUSY nor an owner. -/
def xsReleased (s : State) (u : Nat) : State :=
  ((s.modPwr (fun p => { p with xs := p.xs.filter (fun e => e.1 != u) })).wr pwrB (Pwr.XS_STAT.BUSY.at u) 0).wr pwrB
    (Pwr.XS_STAT.OWNER.at u) 0

theorem xsReleased_busy (s : State) (u : Nat) : (xsReleased s u).rd pwrB (Pwr.XS_STAT.BUSY.at u) = 0 := by
  unfold xsReleased
  exact wr_zero_reads_zero _ ((rd_wr_same _ _ _ _ (show 1 ≤ 32 by decide)).trans (Nat.zero_mod _))

/-- The free bytes that an error, an erase and the status register take (log 38), and the state after taking them. -/
def xsOpened (s : State) (u : Nat) (err : Bool) (j : XsJob) : List Byte × State :=
  if err || decide (j.op ≥ 2) then (xsReleased s u).freeBytes (if j.op = 2 then 0x10000 else if j.op = 3 then 4 else j.len)
  else ([], xsReleased s u)

theorem xsOpened_same (s : State) (u : Nat) (err : Bool) (j : XsJob) :
    (xsOpened s u err j).2.mem = s.mem ∧ (xsOpened s u err j).2.nor = s.nor ∧ (xsOpened s u err j).2.mram = s.mram ∧
      (xsOpened s u err j).2.rd pwrB (Pwr.XS_STAT.BUSY.at u) = 0 := by
  unfold xsOpened
  split <;> exact ⟨rfl, rfl, rfl, xsReleased_busy s u⟩

/-- Some bytes go to the buffer or to the device, and ERR or DONE is set. -/
theorem xsDone_ends {j : Nat × XsJob} (h : s.pwr.xs.find? (fun e => e.1 == u) = some j) :
    ∃ l, s.xsDone u err =
      let u0 := (xsOpened s u err j.2).2
      let v := if j.2.op = 0 || j.2.op = 3 then u0.xsBufPut u l else u0.xsDevPut u j.2.addr l
      if err then (v.wr pwrB (Pwr.XS_STAT.ERR.at u) 1).fire (if u = 1 then 0x1CC else 0x1CD)
      else v.wr pwrB (Pwr.XS_STAT.DONE.at u) 1 := by
  unfold xsDone
  rw [h]
  exact ⟨_, rfl⟩

end

/-- Settles O49: GO begins or is refused as `Laws.goGives` says for every operation, and the end of a transfer keeps the form
of the memories, does nothing to an idle controller, and shows itself on a busy one. -/
theorem xspiRows : Obligations.XspiRows := by
  unfold Obligations.XspiRows
  intro w s u hu
  refine ⟨Laws.goGives w s u 0 _ hu (Laws.execKeeps (.xsRead w u) s rfl),
    Laws.goGives w s u 1 _ hu (Laws.execKeeps (.xsWrite w u) s rfl),
    Laws.goGives w s u 2 _ hu (Laws.execKeeps (.xsErase w u) s rfl),
    Laws.goGives w s u 3 _ hu (Laws.execKeeps (.xsStatus w u) s rfl), fun err => ?ended⟩
  obtain ⟨hfixed, hok⟩ := fol_fixed s _ (Scope.exec_fols (.xsTransferDone u err) s _ rfl)
  refine ⟨_, rfl, hfixed, hok, xsDone_idle, fun j hjob => ?job⟩
  obtain ⟨hmem, hnor, hmram, hbusy⟩ := xsOpened_same s u err j.2
  obtain ⟨l, hdone⟩ := xsDone_ends (err := err) hjob
  rw [hdone]
  exact Laws.doneFacts s _ u j.2.op j.2.addr l err _ hu hmem hnor hmram hbusy

end Sys2Proof.XspiControllers
end

section
/-!
Attestation, the irreversible commands and the boot ROM (R443, R445, R447).
-/
namespace Sys2Proof.SecurityUnit

open Sys2Proof Sys2Proof.Machine Sys2Proof.Machine.State

/-! ## The queue of the signing engine (R436, R447) -/

theorem sigQueue_length (s : State) (j : SigJob) : (s.sigQueue j).sec.queue.length = s.sec.queue.length + 1 :=
  (Laws.queue_len s j).1

theorem attest_result (s : State) :
    if 4 ≤ s.sec.queue.length then s.attest.rd secB Secu.ATT_STAT.REJ = 1 ∧ s.attest.sec.queue = s.sec.queue
    else s.attest.rd secB Secu.ATT_STAT.BUSY = 1 ∧ s.attest.sec.queue.length = s.sec.queue.length + 1 := by
  unfold attest
  split
  case isTrue => exact ⟨rd_wr_same _ _ _ _ (by decide), rfl⟩
  case isFalse => exact ⟨rd_wr_same _ _ _ _ (by decide), sigQueue_length _ _⟩

/-! ## SVN_RAISE and REVOKE (R209, R445) -/

/-- What a refused security command shows: REJ and its source, with the field it was to change as it was. -/
theorem secRej_refuses (w : Wr) (s : State) (a : Nat) {f : Fld} (hf : f.key 0 ≠ Secu.SEC_STAT.REJ.key 0) :
    (s.secRej.retire w a).rd secB Secu.SEC_STAT.REJ = 1 ∧ s.fires (s.secRej.retire w a) 0x1BC ∧
      (s.secRej.retire w a).rd secB f = s.rd secB f := by
  obtain ⟨hrej, hfires, hkept⟩ := Laws.secRej_facts s w a
  exact ⟨hrej, hfires, hkept f (CellLink.key_ne hf _)⟩

/-- What a command without the privilege of R209 shows. -/
theorem noPerm_refuses (w : Wr) (s : State) (a : Nat) {f : Fld} (hf : f.key secB ≠ Fz.FZ_RSTAT.NOPERM.key fzB) :
    (s.noPerm.retire w a).rd fzB Fz.FZ_RSTAT.NOPERM = 1 ∧ (s.noPerm.retire w a).rd secB f = s.rd secB f :=
  ⟨(Laws.noPermFacts s).1, rd_wr_ne _ _ _ _ _ _ hf⟩

section
variable {w : Wr} (s : State) {k : Byte}

theorem svnRaise_unprivileged (hpriv : privileged w = false) : s.svnRaise w k = s.noPerm := by
  unfold svnRaise
  exact if_pos (by rw [hpriv]; rfl)

theorem revoke_unprivileged (hpriv : privileged w = false) : s.revoke w k = s.noPerm := by
  unfold revoke
  exact if_pos (by rw [hpriv]; rfl)

theorem svnRaise_privileged (hpriv : privileged w = true) : s.svnRaise w k =
    if k ≠ 0x6B ∨ s.rd secB Secu.SEC_ARG.ARG ≤ s.rd secB Secu.SEC_SVN.FLOOR then s.secRej
    else s.wr secB Secu.SEC_SVN.FLOOR (s.rd secB Secu.SEC_ARG.ARG) := by
  unfold svnRaise
  exact if_neg (by rw [hpriv]; decide)

/-- REVOKE of key slot `n` leaves an unrevoked slot, and the running image's key is not the one revoked (R445). -/
def revokeAllowed (s : State) (n : Nat) : Prop :=
  (∃ i, i < 4 ∧ (s.rd secB Secu.SEC_OTP.PROG).testBit i = true ∧
    (setBit (s.rd secB Secu.SEC_OTP.REVOKED) n).testBit i = false) ∧
  (s.rd secB Secu.SEC_STAT.BOOTSLOT = 0 ∨ s.rd secB Secu.SEC_STAT.KEYSLOT ≠ n)

theorem revokeAllowed_iff (n : Nat) :
    (!(List.range 4).any (fun i => (s.rd secB Secu.SEC_OTP.PROG).testBit i &&
        !(setBit (s.rd secB Secu.SEC_OTP.REVOKED) n).testBit i)) = true ∨
      (s.on secB Secu.SEC_STAT.BOOTSLOT && s.rd secB Secu.SEC_STAT.KEYSLOT == n) = true ↔ ¬revokeAllowed s n := by
  have hused : (s.on secB Secu.SEC_STAT.BOOTSLOT && s.rd secB Secu.SEC_STAT.KEYSLOT == n) = true ↔
      ¬(s.rd secB Secu.SEC_STAT.BOOTSLOT = 0 ∨ s.rd secB Secu.SEC_STAT.KEYSLOT ≠ n) := by
    rw [Bool.and_eq_true, Laws.on_iff, beq_iff_eq, not_or, not_not]
  unfold revokeAllowed
  rw [hused, ← Laws.rev_allowed, Bool.not_eq_true', not_and_or, Bool.not_eq_true]

theorem revoke_privileged (hpriv : privileged w = true) :
    (k ≠ 0x6B ∨ ¬revokeAllowed s (s.rd secB Secu.SEC_ARG.ARG % 4) → s.revoke w k = s.secRej) ∧
    (k = 0x6B → revokeAllowed s (s.rd secB Secu.SEC_ARG.ARG % 4) → s.revoke w k =
      s.wr secB Secu.SEC_OTP.REVOKED (setBit (s.rd secB Secu.SEC_OTP.REVOKED) (s.rd secB Secu.SEC_ARG.ARG % 4))) := by
  have hgo : ¬(!privileged w) = true := by rw [hpriv]; decide
  have hbarred := revokeAllowed_iff s (s.rd secB Secu.SEC_ARG.ARG % 4)
  unfold revoke
  dsimp only
  rw [if_neg hgo]
  refine ⟨fun h => if_pos (h.imp_right hbarred.2), fun hk hallowed => if_neg ?_⟩
  rintro (h | h)
  · exact h hk
  · exact hbarred.1 h hallowed

end

/-! ## The boot ROM (R443) -/

section
variable {s : State}

theorem romRecover_left (h : s.rom = false) : s.romRecover = s := by
  unfold romRecover
  rw [h]
  rfl

theorem bootRom_done (h : s.pwr.held = true ∨ s.rom = false ∨ s.sec.ran = true) : s.bootRom = s := by
  unfold bootRom
  rcases h with h | h | h <;> simp [h]

/-- The dies as the ROM turns them on, before it looks at the images. -/
def diesTurnedOn (s : State) : State :=
  let mask := ((List.range 8).filter (fun d => s.hasDie d && !s.pwr.bad.contains d)).foldl setBit 0
  let s := ((s.wr pwrB Pwr.DIE_CTL.ON mask).wr pwrB Pwr.DIE_STAT.RDY mask).wr pwrB Pwr.DIE_STAT.LOCK mask
  ((s.wr pwrB Pwr.DIE_STAT.REFOK 1).wrB pwrB Pwr.DIE_STAT.XTALOK s.pwr.xtal).syncLinks.modSec (fun x => { x with ran := true })

theorem diesTurnedOn_flatch (s : State) : (diesTurnedOn s).flatch = s.flatch := by
  refine Laws.on_congr ?_
  unfold diesTurnedOn
  dsimp only
  refine (Laws.syncLinks_rd _ _ _ (by decide)).trans ?_
  rw [wrB_eq]
  simp (disch := decide) only [rd_wr_ne]

/-- With FLATCH set the ROM starts no image and waits with BOOTERR 1. -/
theorem bootRom_latched (hheld : s.pwr.held = false) (hrom : s.rom = true) (hran : s.sec.ran = false)
    (hpf : s.rd pwrB Pwr.PWR_STAT.PFACT = 0) (hbist : s.rd pwrB Pwr.AO_CTL.BOOTBIST = 0) (hlatch : s.flatch = true) :
    s.bootRom = (diesTurnedOn s).romStays 1 := by
  have hgo : ¬(s.pwr.held || !s.rom || s.sec.ran || s.on pwrB Pwr.PWR_STAT.PFACT || s.on pwrB Pwr.AO_CTL.BOOTBIST) = true := by
    rw [hheld, hrom, hran, Laws.on_false hpf, Laws.on_false hbist]
    decide
  unfold bootRom
  rw [if_neg hgo]
  exact if_pos ((diesTurnedOn_flatch s).trans hlatch)

end

/-- Settles O50: attestation, the irreversible commands and the ROM act by the results of their operations. -/
theorem securityRows : Obligations.SecurityRows := by
  unfold Obligations.SecurityRows
  intro w s
  refine ⟨⟨_, rfl, attest_result s⟩, fun hpriv k => ⟨⟨_, rfl, ?svnNoPerm⟩, ⟨_, rfl, ?revokeNoPerm⟩⟩,
    fun hpriv k hk => ⟨⟨_, rfl, ?svnKey⟩, ⟨_, rfl, ?revokeKey⟩⟩, fun hpriv => ⟨_, rfl, ?svn⟩, fun hpriv => ⟨_, rfl, ?revoke⟩,
    ?recover, ?rom⟩
  case svnNoPerm =>
    rw [svnRaise_unprivileged s hpriv]
    exact noPerm_refuses w s _ (by decide)
  case revokeNoPerm =>
    rw [revoke_unprivileged s hpriv]
    exact noPerm_refuses w s _ (by decide)
  case svnKey =>
    rw [svnRaise_privileged s hpriv, if_pos (.inl hk)]
    exact secRej_refuses w s _ (by decide)
  case revokeKey =>
    rw [(revoke_privileged s hpriv).1 (.inl hk)]
    exact secRej_refuses w s _ (by decide)
  case svn =>
    rw [svnRaise_privileged s hpriv]
    by_cases hlow : s.rd secB Secu.SEC_SVN.FLOOR < s.rd secB Secu.SEC_ARG.ARG
    · rw [if_neg (not_or.2 ⟨not_not.2 rfl, Nat.not_le.2 hlow⟩)]
      exact (if_pos hlow).mpr (rd_wr_same _ _ _ _ (by decide))
    · rw [if_pos (.inr (Nat.not_lt.1 hlow))]
      exact (if_neg hlow).mpr (secRej_refuses w s _ (by decide))
  case revoke =>
    obtain ⟨hbarred, hdone⟩ := revoke_privileged (k := 0x6B) s hpriv
    refine ⟨fun hallowed => ?revokes, fun hallowed => ?refused⟩
    case revokes =>
      rw [hdone rfl hallowed]
      exact rd_wr_same _ _ _ _ (by decide)
    case refused =>
      rw [hbarred (.inr hallowed)]
      exact secRej_refuses w s _ (by decide)
  case recover =>
    obtain ⟨hfixed, hok⟩ := fol_fixed s _ (Scope.exec_fols (.recover w) s _ rfl)
    exact ⟨_, rfl, hfixed, hok, fun hrom => DmaChannels.retire_regs_unchanged w _ (romRecover_left hrom)⟩
  case rom =>
    obtain ⟨hfixed, hok⟩ := fol_fixed s _ (Scope.exec_fols .bootRomRun s _ rfl)
    refine ⟨_, rfl, hfixed, hok, bootRom_done, fun hheld hrom hran hpf hbist hlatch => ?_⟩
    rw [bootRom_latched hheld hrom hran hpf hbist hlatch]
    obtain ⟨hsec, hstays, herr⟩ := Laws.stays1 (diesTurnedOn s)
    exact ⟨congrArg SecSt.ran hsec, hstays.trans hrom, herr⟩

end Sys2Proof.SecurityUnit
end

section
/-!
The acquisition engines (R312 to R324): where their registers lie, what an event leaves alone, and what arming, a stop, a
trigger, the end of the post-trigger part and the capture memory do.
-/
namespace Sys2Proof.AcquisitionEngines

open Sys2Proof Sys2Proof.Machine Sys2Proof.Machine.State Sys2Proof.CellLink Sys2Proof.Modulators Sys2Proof.LawEngines

/-! ## Where the registers of an engine lie (R325) -/

theorem acqB_high (k : Nat) : 0x30000000 ≤ acqB k := by
  unfold acqB kB
  omega

theorem acq_not_aside {off : Nat} (hoff : off < 0x10000) (k l : Nat) : ¬asideKey (acqB k + off) l := by
  unfold asideKey acqB kB
  omega

/-- The field lies inside the 64 KiB of an engine. -/
abbrev EngineFld (f : Fld) : Prop := f.off < 0x10000 ∧ f.lsb < 32

section
variable {s : State} {k : Nat}

theorem acqEvt_rd_other (hk : k < 2) (i : Nat) {f : Fld} (hf : EngineFld f) (hne : f.key 0 ≠ Acq.ACQ_EVT.EVT.key 0) :
    (s.acqEvt k i).rd (acqB k) f = s.rd (acqB k) f :=
  raiseBit_rd _ _ _ _ _ _ _ _ _ (some_lt hk) (key_ne hne _) (acq_not_aside hf.1 _ _) hf.2

/-! ## Commands of an engine that is there (R312, R327) -/

variable {i : Instr} {f : State → State} {P : State → Prop}

theorem onAcq_gives (hexec : exec i s = .next (s.onAcq k f)) (hk : k < 2) (hq : s.part.q = true) (hup : s.dieUp k = true)
    (hP : P (f s)) : gives (exec i s) P :=
  ⟨_, hexec, by rwa [Laws.onAcq_up hk hq hup]⟩

/-- A register write to the engine also ends the access of its master (R31). -/
theorem onAcq_retire_gives {w : Wr} {addr : Nat} (hexec : exec i s = .next ((s.onAcq k f).retire w addr)) (hk : k < 2)
    (hq : s.part.q = true) (hup : s.dieUp k = true) (hP : P ((f s).retire w addr)) : gives (exec i s) P :=
  ⟨_, hexec, by rwa [Laws.onAcq_up hk hq hup]⟩

theorem onAcq_unchanged (h : f s = s) : s.onAcq k f = s := by
  unfold onAcq
  rw [h, ite_self]

end

/-! ## Arming, the end of a capture and a stop (R317) -/

section
variable {s : State} {k : Nat}

theorem acqArm_running (hrun : s.acqRuns k = true) : s.acqArm k = s :=
  if_pos hrun

theorem acqArm_armed (hidle : ¬s.acqRuns k = true) : (s.acqArm k).rd (acqB k) Acq.ACQ_STAT.STATE = 1 := by
  unfold acqArm
  dsimp only
  rw [if_neg hidle]
  exact rd_wr_same _ _ _ _ (by decide)

theorem acqOver_complete (s : State) (k : Nat) : (s.acqOver k).rd (acqB k) Acq.ACQ_STAT.STATE = 3 :=
  rd_wr_same _ _ _ _ (by decide)

theorem acqOver_stopped (s : State) (k : Nat) : (s.acqOver k).acqRuns k = false := by
  unfold acqRuns
  rw [acqOver_complete]
  exact Bool.and_false _

theorem acqStop_stopped (s : State) (k : Nat) : (s.acqStop k).acqRuns k = false := by
  unfold acqStop
  split
  case isTrue hidle => exact (Bool.not_eq_true' _).mp hidle
  case isFalse =>
    dsimp only
    split
    case isTrue => exact acqOver_stopped _ _
    case isFalse hover => exact Bool.eq_false_iff.2 hover

/-- The end of the post-trigger part with nothing left to store. -/
theorem acqPostEnd_complete (hk : k < 2) (hst : s.rd (acqB k) Acq.ACQ_STAT.STATE = 2) (hqueue : (s.acqs k).queue = []) :
    (s.acqPostEnd k).rd (acqB k) Acq.ACQ_STAT.STATE = 3 ∧
      ((s.acqPostEnd k).rd (acqB k) Acq.ACQ_EVT.EVT).testBit 1 = true := by
  have hdone : ¬(s.rd (acqB k) Acq.ACQ_STAT.STATE ≠ 2 ∨
      ((s.acqs k).queue.any (fun r => decide (r.tick ≤ s.acqEndTick k))) = true) := by
    rw [hst, hqueue]
    simp
  unfold acqPostEnd
  dsimp only
  rw [if_neg hdone]
  refine ⟨?_, Laws.acqEvt_set _ _ _ hk (by decide)⟩
  rw [acqEvt_rd_other hk _ (by decide) (by decide)]
  exact acqOver_complete _ _

theorem acqTime_stopped (h : s.acqRuns k = false) : s.acqTime k = s := by
  unfold acqTime
  simp [h]

theorem acqWrite_stopped (h : s.acqRuns k = false) : s.acqWrite k = s := by
  unfold acqWrite
  simp [h]

end

/-! ## Triggers (R317, R318) -/

theorem acqAssert_triggers {s : State} {k b : Nat} (t : Nat) (hk : k < 2) (hb : b ≠ 4) (hq : s.part.q = true)
    (hst : s.rd (acqB k) Acq.ACQ_STAT.STATE = 1) (hen : (s.rd (acqB k) Acq.TRIG_CFG.TRIG_EN).testBit b = true) :
    (s.acqAssert k b t).rd (acqB k) Acq.ACQ_STAT.STATE = 2 ∧ (s.acqAssert k b t).rd (acqB k) Acq.ACQ_STAT.TV = 1 ∧
      ((s.acqAssert k b t).rd (acqB k) Acq.ACQ_EVT.EVT).testBit 0 = true := by
  have hrun : s.acqRuns k = true := (Laws.acqRuns_iff hq).2 (.inl hst)
  have hb4 : (b == 4) = false := beq_eq_false_iff_ne.2 hb
  unfold acqAssert
  simp only [hrun, Bool.not_true, Bool.false_eq_true, if_false, rd_setAcq, hst, hen, hb4, Bool.false_and, Bool.not_false,
    Bool.and_self, if_true]
  refine ⟨?state, ?valid, Laws.acqEvt_set _ _ _ hk (by decide)⟩
  case state =>
    rw [acqEvt_rd_other hk _ (by decide) (by decide)]
    simp (disch := decide) only [rd_wr_other, rd_wr_same]
    rfl
  case valid =>
    rw [acqEvt_rd_other hk _ (by decide) (by decide)]
    exact rd_wr_same _ _ _ _ (by decide)

/-- An edge seen by no running engine does nothing. -/
theorem trigInEdge_ignored {s : State} (i : Nat) (f : Bool) (h0 : s.acqRuns 0 = false) (h1 : s.acqRuns 1 = false) :
    execTrigInEdge i f s = .next s := by
  have hnone : ∀ {k}, s.acqRuns k = false → s.onAcq k (fun s => if decide (i < 4) &&
      (s.rd (acqB k) Acq.TRIG_CFG.TRIG_POL).testBit i == f then s.acqAssert k i (s.tick + 3) else s) = s := fun h =>
    onAcq_unchanged (by rw [Laws.assert_off h, ite_self])
  unfold execTrigInEdge
  rw [show List.range 2 = [0, 1] from rfl, List.foldl_cons, List.foldl_cons, List.foldl_nil, hnone h0, hnone h1]

theorem xtrigFall_ignored {s : State} (h0 : s.acqRuns 0 = false) (h1 : s.acqRuns 1 = false) :
    execXtrigFall s = .next s := by
  have hnone : ∀ {k}, s.acqRuns k = false → s.onAcq k (fun s =>
      if (s.acqs k).drives then s else s.acqAssert k 4 (s.tick + 3)) = s := fun h =>
    onAcq_unchanged (by rw [Laws.assert_off h, ite_self])
  unfold execXtrigFall
  rw [show List.range 2 = [0, 1] from rfl, List.foldl_cons, List.foldl_cons, List.foldl_nil, hnone h0, hnone h1]

/-! ## Capture memory and the tick counter (R321, R322) -/

/-- What the SECDED check finds is noted in the engine and reported. -/
theorem bit_noted_reported (s : State) (k n : Nat) {f : Fld} (hwid : f.wid = 1) :
    ((s.wr (acqB k) f 1).fire n).rd (acqB k) f = 1 ∧ s.fires ((s.wr (acqB k) f 1).fire n) n := by
  refine ⟨?_, fires_of _ (wr_canFire _ (acqB_high k) _ _ _)⟩
  rw [rd_fire, rd_wr_same _ _ _ _ (by omega), hwid]
  rfl

theorem tcntRead_latches (s : State) (m k : Nat) :
    (s.tcntRead m k 0x50).fab.reads = s.fab.reads ++ [(m, acqB k + 0x50, BitVec.ofNat 32 s.tick)] ∧
      (s.tcntRead m k 0x50).rd (acqB k) (Acq.TCNT.CNT.at 1) = s.tick / 2 ^ 32 % 2 ^ 32 :=
  ⟨rfl, rd_wr_same _ _ _ _ (by decide)⟩

/-- Settles O33: each command acts by the result of its operation on an engine that is there. -/
theorem acquisitionRows : Obligations.AcquisitionRows := by
  unfold Obligations.AcquisitionRows
  intro w k s hk hq hup
  refine ⟨onAcq_retire_gives rfl hk hq hup ?arm, ?stop, onAcq_retire_gives rfl hk hq hup fun hst hen => ?swtrig,
    fun i f h0 h1 => ⟨⟨_, trigInEdge_ignored i f h0 h1, rfl⟩, ⟨_, xtrigFall_ignored h0 h1, rfl⟩⟩,
    fun i f => ⟨_, rfl, exec_mem (i := .trigInEdge i f) rfl rfl⟩, ⟨_, rfl, exec_mem (i := .xtrigFall) rfl rfl⟩,
    onAcq_gives rfl hk hq hup ⟨?released, rfl⟩,
    onAcq_gives rfl hk hq hup fun hst hqueue => acqPostEnd_complete hk hst hqueue,
    ⟨_, rfl, exec_mem (i := .acqTimeRecord k) rfl rfl, fun hidle => onAcq_unchanged (acqTime_stopped hidle)⟩,
    ⟨_, rfl, fun hidle => onAcq_unchanged (acqWrite_stopped hidle),
      (fol_fixed s _ (Scope.exec_fols (.acqRecordWrite k) s _ rfl)).2⟩,
    fun addr hcap => ?written, fun m addr hcap => ⟨?corrected, ?uncorrectable⟩,
    fun m => onAcq_gives rfl hk hq hup (tcntRead_latches s m k)⟩
  case arm =>
    split
    case isTrue hrun => exact DmaChannels.retire_regs_unchanged w _ (acqArm_running ((Laws.acqRuns_iff hq).2 hrun))
    case isFalse hidle => exact acqArm_armed fun hrun => hidle ((Laws.acqRuns_iff hq).1 hrun)
  case stop =>
    obtain ⟨hfixed, -⟩ := fol_fixed s _ (Scope.exec_fols (.acqStop w k) s _ rfl)
    refine ⟨_, rfl, Laws.acqRuns_false ?part ?stopped⟩
    case part => exact (congrArg (fun e => e.2.q) hfixed).trans hq
    case stopped =>
      rw [Laws.onAcq_up hk hq hup]
      exact acqStop_stopped s k
  case swtrig => exact acqAssert_triggers _ hk (by decide) hq hst hen
  case released =>
    rw [acqs_setAcq]
  case written =>
    refine ⟨_, rfl, ?_⟩
    rw [hcap]
    exact ⟨rd_wr_same _ _ _ _ (by decide), rfl⟩
  case corrected =>
    refine ⟨_, rfl, ?_⟩
    rw [hcap]
    exact bit_noted_reported s k _ rfl
  case uncorrectable =>
    refine ⟨_, rfl, ?_⟩
    rw [hcap]
    exact bit_noted_reported s k _ rfl

end Sys2Proof.AcquisitionEngines
end

section
/-!
Package time, the Vernier servo, the sync balls and the Ethernet ports (R328 to R350).
-/
namespace Sys2Proof.EthernetUnit

open Sys2Proof Sys2Proof.Machine Sys2Proof.Machine.State Sys2Proof.CellLink Sys2Proof.Modulators Sys2Proof.LawEngines

/-! ## Where the registers of the unit and of its ports lie (R346 to R349) -/

/-- The field lies inside the 256 bytes of one port. -/
abbrev PortFld (f : Fld) : Prop := f.off < 0x100 ∧ f.lsb < 32

theorem ethB_high : 0x30000000 ≤ ethB := by decide

theorem portB_high (e : Nat) : 0x30000000 ≤ portB e := by
  unfold portB
  omega

theorem port_not_aside {e off : Nat} (he : e < 4) (hoff : off < 0x100) (l : Nat) : ¬asideKey (portB e + off) l := by
  unfold asideKey portB
  omega

/-! ## Events (R347, R349) -/

theorem vnEvt_rd_other (s : State) (i : Nat) {f : Fld} (hne : f.key 0 ≠ Eth.VN_EVT.EVT.key 0)
    (ha : ¬asideKey (ethB + f.off) f.lsb) (hlsb : f.lsb < 32) : (s.vnEvt i).rd ethB f = s.rd ethB f :=
  raiseBit_rd _ _ _ _ _ _ _ _ _ (some_lt (by decide)) (key_ne hne _) ha hlsb

theorem vnEvt_canFire (s : State) (i n : Nat) : (s.vnEvt i).canFire n = s.canFire n :=
  Laws.raise_canFire _ _ _ _ _ _ _ _ (some_lt (by decide)) (by decide) (by decide)

theorem vnEvt_clk (s : State) (i : Nat) : (s.vnEvt i).clk = s.clk :=
  Laws.raise_clk _ _ _ _ _ _ _ (some_lt (by decide))

theorem portEvt_rd_other (s : State) {e : Nat} (i : Nat) (he : e < 4) {f : Fld} (hf : PortFld f)
    (hne : f.key 0 ≠ Port.PORT_EVT.EVT.key 0) : (s.portEvt e i).rd (portB e) f = s.rd (portB e) f :=
  raiseBit_rd _ _ _ _ _ _ _ _ _ (some_lt (by decide)) (key_ne hne _) (port_not_aside he hf.1 _) hf.2

theorem portEvt_canFire (s : State) (e i n : Nat) : (s.portEvt e i).canFire n = s.canFire n :=
  have ⟨hrdy, hbusy⟩ := dieStat_key_ne (portB_high e) Port.PORT_EVT.EVT
  Laws.raise_canFire _ _ _ _ _ _ _ _ (some_lt (by decide)) hrdy hbusy

/-! ## Package time (R329, R346) -/

theorem timeRead_latches (s : State) (m : Nat) :
    (s.timeRead m).fab.reads = s.fab.reads ++ [(m, ethB, BitVec.ofNat 32 s.nowNs)] ∧
      (s.timeRead m).rd ethB Eth.TIME_SEC.SEC = s.nowSec % 2 ^ 32 ∧
      (s.timeRead m).rd ethB Eth.TIME_FRAC.FRAC = s.nowFrac ∧ (s.timeRead m).clk = s.clk := by
  have hfrac : s.nowFrac < 65536 := Nat.mod_lt _ (by decide)
  unfold timeRead
  refine ⟨rfl, ?seconds, ?fraction, rfl⟩
  case seconds =>
    rw [rd_answer, rd_wr_other _ _ _ _ _ (by decide), rd_wr_other _ _ _ _ _ (by decide)]
    exact rd_wr_same _ _ _ _ (by decide)
  case fraction =>
    rw [rd_answer, rd_wr_same _ _ _ _ (by decide)]
    exact Nat.mod_eq_of_lt hfrac

/-- A step of package time is refused while the cycle timer runs. -/
theorem timeStepped_refused {s : State} (set adj : Bool) (hrun : s.running = true) :
    (s.timeStepped set adj).rd ethB Eth.TIME_STAT.STEP_REJ = 1 ∧ s.fires (s.timeStepped set adj) 0x166 ∧
      (s.timeStepped set adj).clk = s.clk := by
  unfold timeStepped timeCmd
  dsimp only
  rw [if_pos hrun, if_pos hrun]
  refine ⟨?_, fires_of _ ((vnEvt_canFire _ _ _).trans (wr_canFire _ ethB_high _ _ _)), ?_⟩
  · rw [rd_fire, vnEvt_rd_other _ _ (by decide) (by unfold asideKey; decide) (by decide)]
    exact rd_wr_same _ _ _ _ (by decide)
  · rw [Laws.fire_clk, vnEvt_clk]
    rfl

theorem siTsNsRead_latches (s : State) (m : Nat) : gives (exec (.siTsNsRead m) s) (fun t =>
    t.fab.reads = s.fab.reads ++ [(m, ethB + 0x208, BitVec.ofNat 32 (s.rd ethB Eth.SI_TS_NS.NS))] ∧
      t.rd ethB Eth.SI_TS_SEC.SEC = s.eth.siTs / 65536000000000 % 2 ^ 32) := by
  refine ⟨_, rfl, rfl, ?_⟩
  rw [rd_answer, rd_wr_other _ _ _ _ _ (by decide), rd_wr_other _ _ _ _ _ (by decide)]
  exact rd_wr_same _ _ _ _ (by decide)

/-! ## The Vernier (R339, R340) -/

section
variable {s : State}

theorem vnPrimary_disabled {e : Int} {p : Option Nat} (h : s.rd ethB Eth.VN_CTL.EN = 0) : s.vnPrimary e p = s := by
  unfold vnPrimary
  rw [Laws.on_false h]
  rfl

theorem vnSecondary_disabled {e : Int} (h : s.rd ethB Eth.VN_CTL.EN = 0) : s.vnSecondary e = s := by
  unfold vnSecondary
  rw [Laws.on_false h]
  rfl

/-- The servo is enabled and in state `n`. -/
theorem vnIn_iff (s : State) (n : Nat) : (s.on ethB Eth.VN_CTL.EN && s.vnState == n) = true ↔
    s.rd ethB Eth.VN_CTL.EN ≠ 0 ∧ s.rd ethB Eth.VN_STAT.STATE = n := by
  rw [Bool.and_eq_true, Laws.on_iff, beq_iff_eq]
  rfl

theorem vnDisable_disables (w : Wr) (s : State) : gives (exec (.vnDisable w) s) (fun t =>
    t.rd ethB Eth.VN_CTL.EN = 0 ∧ t.rd ethB Eth.VN_STAT.STATE = 0) := by
  refine ⟨_, rfl, ?_, rd_wr_same _ _ _ _ (by decide)⟩
  exact (rd_wr_other _ _ _ _ _ (by decide)).trans (rd_wr_same _ _ _ _ (by decide))

theorem vnRearm_tracks (w : Wr) (s : State) : gives (exec (.vnRearm w) s) (fun t =>
    if s.rd ethB Eth.VN_CTL.EN ≠ 0 ∧ s.rd ethB Eth.VN_STAT.STATE = 4 then
      t.rd ethB Eth.VN_STAT.STATE = 1 ∧ t.eth.vnRef = true
    else t.regs = s.regs) := by
  refine ⟨_, rfl, ?_⟩
  simp only [vnIn_iff]
  split
  · exact ⟨rd_wr_same _ _ _ _ (by decide), rfl⟩
  · rfl

theorem vernierHoldover_holds (s : State) : gives (exec .vernierHoldover s) (fun t =>
    if s.rd ethB Eth.VN_CTL.EN ≠ 0 ∧ s.rd ethB Eth.VN_STAT.STATE = 1 then
      t.rd ethB Eth.VN_STAT.STATE = 2 ∧ s.fires t 0x167 ∧ (t.rd ethB Eth.VN_EVT.EVT).testBit 0 = true
    else t = s) := by
  refine ⟨_, rfl, ?_⟩
  simp only [vnIn_iff]
  split
  case isFalse => rfl
  case isTrue =>
    refine ⟨?state, fires_of _ ?able, ?event⟩
    case state =>
      rw [rd_fire, vnEvt_rd_other _ _ (by decide) (by unfold asideKey; decide) (by decide)]
      exact rd_wr_same _ _ _ _ (by decide)
    case able => exact (vnEvt_canFire _ _ _).trans ((wr_canFire _ ethB_high _ _ _).trans (wr_canFire _ ethB_high _ _ _))
    case event =>
      rw [rd_fire]
      exact Laws.vn_raise _ _ (by decide)

end

/-! ## SYNC_IN and SYNC_OUT (R342, R343) -/

theorem syncIn_disabled {s : State} (ts : Nat) (f : Bool) (h : s.rd ethB Eth.SYNC_CTL.SIEN = 0) : s.syncIn ts f = s := by
  unfold syncIn
  rw [Laws.on_false h]
  rfl

theorem syncOutPulse_rises (s : State) : gives (exec .syncOutPulse s) (fun t => t.regs = s.regs ∧
    (s.rd ethB Eth.SYNC_CTL.SOEN ≠ 0 → s.rd ethB Eth.SYNC_CTL.SOSEL = 0 →
      t.eth.soHigh = some (s.clk.pt + max 1 (s.rd ethB Eth.SYNC_CTL.SOW) * 6553600))) := by
  refine ⟨_, rfl, ?_, fun hen hsel => ?_⟩
  · split <;> rfl
  · rw [(Laws.on_iff _ _ _).2 hen, Laws.on_false hsel]
    rfl

/-! ## The ports (R330, R332, R347, R350) -/

section
variable {i : Instr} {s : State} {e : Nat} {f : State → State} {P : State → Prop}

theorem onPort_gives (hexec : exec i s = .next (s.onPort e f)) (he : e < 4) (hP : P (f s)) : gives (exec i s) P :=
  ⟨_, hexec, by rwa [Laws.onPort_up s e he]⟩

/-- A register write to a port also ends the access of its master (R31). -/
theorem onPort_retire_gives {w : Wr} {addr : Nat} (hexec : exec i s = .next ((s.onPort e f).retire w addr)) (he : e < 4)
    (hP : P ((f s).retire w addr)) : gives (exec i s) P :=
  ⟨_, hexec, by rwa [Laws.onPort_up s e he]⟩

theorem portEnable_enables (w : Wr) (s : State) (he : e < 4) : gives (exec (.portEnable w e) s) (fun t =>
    t.rd (portB e) Port.PORT_CTL.EN ≠ 0 ∧
      (s.rd (portB e) Port.PORT_CTL.EN = 0 → t.rd (portB e) Port.RING_IDX.RX = 0 ∧ t.rd (portB e) Port.RING_IDX.TX = 0)) := by
  refine onPort_retire_gives rfl he ?_
  by_cases hon : s.rd (portB e) Port.PORT_CTL.EN = 0
  · rw [Laws.on_false hon, if_neg (by decide)]
    refine ⟨?enabled, fun _ => ⟨?rx, rd_wr_same _ _ _ _ (by decide)⟩⟩
    case enabled =>
      rw [rd_retire, Laws.rd_modEth, rd_wr_other _ _ _ _ _ (by decide), rd_wr_other _ _ _ _ _ (by decide),
        rd_wr_same _ _ _ _ (by decide)]
      decide
    case rx => exact (rd_wr_other _ _ _ _ _ (by decide)).trans (rd_wr_same _ _ _ _ (by decide))
  · rw [if_pos ((Laws.on_iff _ _ _).2 hon)]
    exact ⟨hon, fun h => absurd h hon⟩

/-- The counters of a port (R347). -/
def portCounters : List Fld := [Port.RXOK.COUNT, Port.RXDROP.COUNT, Port.RXFRZ.COUNT, Port.RXERR.COUNT, Port.TXOK.COUNT]

theorem portCntClr_clears (w : Wr) (s : State) (he : e < 4) {f : Fld} (hf : f ∈ portCounters) :
    ((s.onPort e (fun s => portCounters.foldl (fun s f => s.wr (portB e) f 0) s)).retire w (portB e + 0x54)).rd (portB e) f =
      0 := by
  rw [rd_retire, Laws.onPort_up s e he]
  exact DmaChannels.foldl_wr_zero_clears portCounters (.inr hf)

theorem ethLinkLoss_reports (s : State) (he : e < 4) : gives (exec (.ethLinkLoss e) s) (fun t =>
    t.rd (portB e) Port.PORT_STAT.LINK = 0 ∧ (s.rd (portB e) Port.PORT_STAT.LINK ≠ 0 →
      (t.rd (portB e) Port.PORT_EVT.EVT).testBit 0 = true ∧
        (s.rd (portB e) Port.PORT_CTL.EN ≠ 0 → s.fires t (0x160 + e)))) := by
  refine onPort_gives rfl he ?_
  by_cases hlink : s.rd (portB e) Port.PORT_STAT.LINK = 0
  · rw [Laws.on_false hlink, if_neg (by decide)]
    exact ⟨hlink, fun h => absurd hlink h⟩
  · rw [if_pos ((Laws.on_iff _ _ _).2 hlink)]
    refine ⟨?down, fun _ => ⟨?event, fun hen => ?fires⟩⟩
    case down =>
      rw [Laws.fireIf_rd, portEvt_rd_other _ _ he (by decide) (by decide)]
      exact rd_wr_same _ _ _ _ (by decide)
    case event =>
      rw [Laws.fireIf_rd]
      exact Laws.port_raise _ _ _ he (by decide)
    case fires =>
      rw [(Laws.on_iff _ _ _).2 hen]
      exact fires_of _ ((portEvt_canFire _ _ _ _).trans (wr_canFire _ (portB_high e) _ _ _))

theorem ethLinkUp_reports (s : State) (he : e < 4) : gives (exec (.ethLinkUp e) s) (fun t =>
    t.rd (portB e) Port.PORT_STAT.LINK ≠ 0 ∧ (s.rd (portB e) Port.PORT_STAT.LINK = 0 →
      (t.rd (portB e) Port.PORT_EVT.EVT).testBit 0 = true)) := by
  refine onPort_gives rfl he ?_
  by_cases hlink : s.rd (portB e) Port.PORT_STAT.LINK = 0
  · rw [Laws.on_false hlink, if_neg (by decide)]
    refine ⟨?_, fun _ => Laws.port_raise _ _ _ he (by decide)⟩
    rw [portEvt_rd_other _ _ he (by decide) (by decide), rd_wr_same _ _ _ _ (by decide)]
    decide
  · rw [if_pos ((Laws.on_iff _ _ _).2 hlink)]
    exact ⟨hlink, fun h => absurd h hlink⟩

end

theorem svFrame_disabled {s : State} (i : Nat) (fr : SvFrame) (h : s.rd (svB i) Sv.SV_CTL.EN = 0) : s.svFrame i fr = s := by
  unfold svFrame
  simp [Laws.on_false h]

/-- Settles O34: each command acts by the result of its operation, and what a frame writes keeps the form of the memories. -/
theorem ethernetRows : Obligations.EthernetRows := by
  unfold Obligations.EthernetRows
  intro w s
  refine ⟨fun m => ⟨_, rfl, timeRead_latches s m⟩, fun hrun => ⟨fun adj => ⟨_, rfl, timeStepped_refused _ _ hrun⟩,
    ⟨_, rfl, timeStepped_refused _ _ hrun⟩⟩, ⟨vnDisable_disables w s, vnRearm_tracks w s, vernierHoldover_holds s,
    fun ofs hoff => ⟨⟨_, rfl, ?primary⟩, ⟨_, rfl, ?secondary⟩⟩⟩,
    fun ts f => ⟨_, rfl, exec_mem (i := .syncInCapture ts f) rfl rfl, syncIn_disabled ts f⟩, siTsNsRead_latches s,
    syncOutPulse_rises s, fun e he => ⟨portEnable_enables w s he, onPort_retire_gives rfl he ⟨?kicked, rfl⟩, ?counters,
      ethLinkLoss_reports s he, ethLinkUp_reports s he, fun ue => onPort_gives rfl he ⟨fires_of _ rfl, fire_regs _ _⟩,
      fun fr => ⟨_, rfl, fol_fixed s _ (Scope.exec_fols (.frameReceived e fr) s _ rfl)⟩,
      fun ts => ⟨_, rfl, fol_fixed s _ (Scope.exec_fols (.frameTransmitted e ts) s _ rfl)⟩⟩,
    fun i fr => ⟨_, rfl, exec_mem (i := .svFrameReceived i fr) rfl rfl, svFrame_disabled i fr⟩⟩
  case primary =>
    rw [vnPrimary_disabled hoff, ite_self]
    rfl
  case secondary =>
    rw [vnSecondary_disabled hoff, ite_self]
    rfl
  case kicked =>
    intro hmem
    exact absurd (List.mem_filter.1 hmem).2 (by simp)
  case counters =>
    exact ⟨_, rfl, portCntClr_clears w s he (by decide), portCntClr_clears w s he (by decide),
      portCntClr_clears w s he (by decide), portCntClr_clears w s he (by decide), portCntClr_clears w s he (by decide)⟩

end Sys2Proof.EthernetUnit
end

section
/-!
The registers of the package's own blocks below those of the power unit (R22): what a write to one leaves able to fire, and
how a bit is noted and reported.
-/
namespace Sys2Proof.PackageBlocks

open Sys2Proof Sys2Proof.Machine Sys2Proof.Machine.State

/-- The field of the block at `b` lies below the registers of the power unit, which say which dies are up. -/
abbrev LowFld (b : Nat) (f : Fld) : Prop := b + f.off < pwrB ∧ f.lsb < 32

theorem low_key_ne_dieStat {b : Nat} {f : Fld} (hf : LowFld b f) :
    Pwr.DIE_STAT.RDY.key pwrB ≠ f.key b ∧ Pwr.DIE_STAT.BUSY.key pwrB ≠ f.key b := by
  have hrdy : pwrB * 32 ≤ Pwr.DIE_STAT.RDY.key pwrB := by decide
  have hbusy : pwrB * 32 ≤ Pwr.DIE_STAT.BUSY.key pwrB := by decide
  obtain ⟨hoff, hlsb⟩ := hf
  have hkey : f.key b < pwrB * 32 := by
    unfold Fld.key
    omega
  omega

theorem wr_canFire {b : Nat} {f : Fld} (hf : LowFld b f) (s : State) (v n : Nat) : (s.wr b f v).canFire n = s.canFire n :=
  Laws.wr_canFire _ _ _ _ _ (low_key_ne_dieStat hf).1 (low_key_ne_dieStat hf).2

/-- A status bit that is set and reported reads 1, and the source is on its way. -/
theorem bit_noted_reported {b : Nat} {f : Fld} (hf : LowFld b f) (hwid : f.wid = 1) (s : State) (n : Nat) :
    ((s.wr b f 1).fire n).rd b f = 1 ∧ s.fires ((s.wr b f 1).fire n) n := by
  refine ⟨?_, fires_of _ (wr_canFire hf _ _ _)⟩
  rw [rd_fire, rd_wr_same _ _ _ _ (by omega), hwid]
  rfl

end Sys2Proof.PackageBlocks
end

section
/-!
The redundant pair (R394 to R415): what the judged conditions leave alone, the states and who may change them, the records
that are taken, handover, drill and takeback, and liveness.
-/
namespace Sys2Proof.RedundantPair

open Sys2Proof Sys2Proof.Machine Sys2Proof.Machine.State Sys2Proof.CellLink Sys2Proof.PackageBlocks

/-! ## What STBY_OK and the judged conditions leave alone (R408, R414) -/

theorem pairEdge_detect (s : State) (key src : Nat) (b : Bool) : ∀ n ∈ s.fc.detect, n ∈ (s.pairEdge key src b).fc.detect := by
  intro n hn
  unfold pairEdge
  split
  case isTrue => exact hn
  case isFalse =>
    split
    case isTrue => exact hn
    case isFalse => exact Laws.fire_fc _ _ _ hn

theorem syncPair_detect (s : State) : ∀ n ∈ s.fc.detect, n ∈ s.syncPair.fc.detect := by
  intro n hn
  unfold syncPair
  refine pairEdge_detect _ _ _ _ _ (pairEdge_detect _ _ _ _ _ (pairEdge_detect _ _ _ _ _ (pairEdge_detect _ _ _ _ _ ?_)))
  split <;> exact hn

theorem fires_syncPair {s u : State} {n : Nat} (h : s.fires u n) : s.fires u.syncPair n :=
  fun hcan => syncPair_detect u n (h hcan)

theorem syncPair_pstate (s : State) : s.syncPair.pstate = s.pstate := Laws.syncPair_rd _ _ _ (by decide)

/-! ## PAIR_EN, the peer's line and the start-up claim (R394, R397) -/

theorem pairEn_result (w : Wr) (s : State) : gives (exec (.pairEn w) s) (fun t =>
    if s.pstate = 0 then t.pstate = 1 ∧ t.pair.actOut = false else t.regs = s.regs) := by
  refine ⟨_, rfl, ?_⟩
  by_cases hsolo : s.pstate = 0
  · rw [if_neg (not_not.2 hsolo)]
    exact (if_pos hsolo).mpr (Laws.standby_ret _ w _)
  · rw [if_pos hsolo]
    exact (if_neg hsolo).mpr rfl

theorem syncAllTx_pstate (s : State) : s.syncAllTx.pstate = s.pstate := Laws.syncAllTx_far (by unfold Laws.far; decide) s

theorem actIn_shown (s : State) (v : Nat) : ((s.wr pairB Pair.PAIR_STAT.ACTIN v).syncAllTx).rd pairB Pair.PAIR_STAT.ACTIN = v % 2 :=
  (Laws.syncAllTx_far (by unfold Laws.far; decide) _).trans (rd_wr_same _ _ _ _ (by decide))

theorem actIn_mayLeave (s : State) (v : Nat) : ((s.wr pairB Pair.PAIR_STAT.ACTIN v).syncAllTx).mayLeave = s.mayLeave := by
  have hrun : ((s.wr pairB Pair.PAIR_STAT.ACTIN v).syncAllTx).running = s.running :=
    Laws.on_congr ((Laws.syncAllTx_far (by unfold Laws.far; decide) _).trans (rd_wr_ne _ _ _ _ _ _ (by decide)))
  have hlatch : ((s.wr pairB Pair.PAIR_STAT.ACTIN v).syncAllTx).flatch = s.flatch :=
    Laws.on_congr ((Laws.syncAllTx_far (by unfold Laws.far; decide) _).trans (rd_wr_ne _ _ _ _ _ _ (by decide)))
  unfold mayLeave
  rw [hrun, hlatch, Laws.syncAllTx_pair, wr_pair]

/-- The fall of the peer's line is only shown where no row may leave STANDBY or TAKING. -/
theorem actInFall_shown {s : State} (hstay : s.mayLeave = false) :
    s.actInFall.rd pairB Pair.PAIR_STAT.ACTIN = 0 ∧ s.actInFall.pstate = s.pstate := by
  have hno : (!((s.wr pairB Pair.PAIR_STAT.ACTIN 0).syncAllTx).mayLeave) = true := by
    rw [actIn_mayLeave, hstay]
    rfl
  unfold actInFall
  rw [if_pos hno]
  exact ⟨actIn_shown s 0, (syncAllTx_pstate _).trans (Laws.wrP _ _ _ (by decide))⟩

theorem claim_refused {s : State} (h : s.pstate ≠ 1 ∨ s.rd pairB Pair.PAIR_STAT.ACTIN ≠ 0) : s.claim = s := by
  unfold claim
  rcases h with h | h
  · simp [h]
  · simp [(Laws.on_iff _ _ _).2 h]

/-! ## The records (R400, R402, R404) -/

theorem passIn_dropped {s : State} {r : PassRec} (h : s.pstate = 0 ∨ r.crc ≠ passCrc r) : s.passIn r = s :=
  if_pos h

theorem passGone_ignored {s : State} (h1 : s.pstate ≠ 1) (h2 : s.pstate ≠ 2) : s.passGone = s :=
  if_neg (not_or.2 ⟨h1, h2⟩)

theorem statusRecordTx_result (s : State) : gives (exec .statusRecordTx s) (fun t =>
    if s.pstate = 1 ∨ s.pstate = 2 then t.pair.sentStatus = some s.syncPair.statusRec else t = s) := by
  refine ⟨_, rfl, ?_⟩
  split <;> rfl

theorem statusIn_dropped {s : State} {r : StatusRec} (ofs : Int) (h : s.pstate = 0 ∨ r.good = false) : s.statusIn r ofs = s := by
  refine if_pos (h.imp_right fun hbad => ?_)
  rw [hbad]
  rfl

theorem epochIn_ignored {s : State} (e : EpochRec) (h1 : s.pstate ≠ 1) (h2 : s.pstate ≠ 2) : s.epochIn e = s := by
  unfold epochIn
  simp [h1, h2]

/-- An epoch that is not good is counted and reported, and the last one stays valid or not. -/
theorem epochIn_bad {s : State} {e : EpochRec} (hst : s.pstate = 1) (hbad : e.good = false) :
    (s.epochIn e).rd pairB Pair.PAIR_CNT0.EPBAD = min (s.rd pairB Pair.PAIR_CNT0.EPBAD + 1) 65535 ∧
      s.fires (s.epochIn e) 0x1A2 ∧ (s.epochIn e).rd pairB Pair.PAIR_STAT.EPV = s.rd pairB Pair.PAIR_STAT.EPV := by
  have hcounted : s.epochIn e = (s.inc pairB Pair.PAIR_CNT0.EPBAD).fire 0x1A2 := by
    unfold epochIn
    simp only [hst, hbad, beq_self_eq_true, Bool.true_or, Bool.not_true, Bool.not_false, Bool.false_eq_true, if_false, if_true]
  rw [hcounted, inc_eq]
  refine ⟨?_, fires_of _ (wr_canFire (by decide) _ _ _), ?_⟩
  · rw [rd_fire, rd_wr_same _ _ _ _ (by decide)]
    exact Nat.mod_eq_of_lt (Nat.lt_of_le_of_lt (Nat.min_le_right _ _) (by decide))
  · rw [rd_fire]
    exact rd_wr_other _ _ _ _ _ (by decide)

theorem mirrorLaneDown_result (s : State) (i : Nat) : gives (exec (.mirrorLaneDown i) s) (fun t =>
    if i < 2 ∧ (s.rd pairB Pair.PAIR_STAT.MIRUP).testBit i = true then
      (t.rd pairB Pair.PAIR_STAT.MIRUP).testBit i = false ∧ s.fires t 0x1A4
    else t = s) := by
  refine ⟨_, rfl, ?_⟩
  dsimp only
  split
  case isFalse => rfl
  case isTrue =>
    refine ⟨?_, fires_syncPair (fires_of _ (wr_canFire (by decide) _ _ _))⟩
    rw [Laws.syncPair_rd _ _ _ (by decide), rd_fire, rd_wr_same _ _ _ _ (by decide), Nat.testBit_mod_two_pow, Laws.clr_test,
      Bool.and_false]

/-! ## Handover and drill (R394, R409, R412) -/

theorem announce_handing (s : State) (c : Nat) : (s.announce c).pstate = 4 ∧ (s.announce c).pair.hcause = c :=
  ⟨rd_wr_same _ _ _ _ (by decide), rfl⟩

theorem handover_result (w : Wr) (s : State) : gives (exec (.handover w) s) (fun t =>
    if s.pstate = 3 then t.pstate = 4 ∧ t.pair.hcause = 2 else t.regs = s.regs) := by
  refine ⟨_, rfl, ?_⟩
  split
  · exact announce_handing s 2
  · rfl

theorem drill_result (w : Wr) (s : State) : gives (exec (.drill w) s) (fun t =>
    if s.pstate = 3 then t.pstate = 4 ∧ t.rd pairB Pair.PAIR_STAT.DRBUSY = 1 ∧ t.pair.hcause = 4 else t.regs = s.regs) := by
  obtain ⟨hstate, hcause⟩ := announce_handing s 4
  refine ⟨_, rfl, ?_⟩
  split
  · exact ⟨(Laws.wrP _ _ _ (by decide)).trans hstate, rd_wr_same _ _ _ _ (by decide), hcause⟩
  · rfl

theorem cycSync_running {s : State} (h : s.running = true) : s.cycSync = s := by
  unfold cycSync
  rw [h]

theorem rd_wrBoth (s : State) (b : Nat) (f : Fld) (v c : Nat) (g : Fld) : (s.wrBoth b f v).rd c g = (s.wr b f v).rd c g := rfl

/-- CYCSYNC takes NSUB and ALIGN from the last epoch and enables the timer (R398). -/
theorem cycSync_taken {s : State} {e : EpochRec} (hstop : s.running = false) (hepoch : s.pair.epoch = some e) :
    s.cycSync.rd pwrB Cyc.CYC_CTL.EN = 1 ∧ s.cycSync.rd pwrB Cyc.CYC_CTL.NSUB = e.nsub % 64 ∧
      s.cycSync.rd pwrB Cyc.CYC_CTL.ALIGN = e.align % 256 := by
  unfold cycSync
  rw [hstop, hepoch]
  refine ⟨rd_wr_same _ _ _ _ (by decide), ?nsub, ?align⟩
  case nsub =>
    refine (rd_wr_other _ _ _ _ _ (by decide)).trans ?_
    simp (disch := decide) only [rd_wr_other, rd_wr_same, rd_wrBoth]
    rfl
  case align =>
    refine (rd_wr_other _ _ _ _ _ (by decide)).trans ?_
    simp (disch := decide) only [rd_wr_other, rd_wr_same, rd_wrBoth]
    rfl

theorem handRelease_result (s : State) : gives (exec .handoverRelease s) (fun t =>
    if s.pstate = 4 then t.pstate = 1 ∧ t.pair.actOut = false else t = s) := by
  refine ⟨_, rfl, ?_⟩
  unfold handRelease
  by_cases h : s.pstate = 4
  · rw [if_neg (not_not.2 h)]
    exact (if_pos h).mpr (Laws.standby _)
  · rw [if_pos h]
    exact (if_neg h).mpr rfl

theorem handCheck_elsewhere {s : State} (h : s.pstate ≠ 4) : s.handCheck = s :=
  if_pos (.inl h)

theorem hoAbort_reports (s : State) : s.hoAbort.rd pairB Pair.PAIR_STAT.HOABORT = 1 ∧ s.fires s.hoAbort 0x1A9 ∧
    s.hoAbort.pstate = s.pstate := by
  obtain ⟨hnoted, hfires⟩ := bit_noted_reported (b := pairB) (f := Pair.PAIR_STAT.HOABORT) (by decide) rfl s 0x1A9
  exact ⟨hnoted, hfires, (rd_fire _ _ _ _).trans (Laws.wrP _ _ _ (by decide))⟩

/-- With no status record of the peer the handover is abandoned. -/
theorem handCheck_aborts {s : State} (hst : s.pstate = 4) (hpeer : s.pair.status = none) :
    s.handCheck.pstate = 3 ∧ s.handCheck.rd pairB Pair.PAIR_STAT.HOABORT = 1 ∧ s.fires s.handCheck 0x1A9 := by
  obtain ⟨hnoted, hfires, hstate⟩ := hoAbort_reports (s.wr pairB Pair.PAIR_STAT.PSTATE 3)
  unfold handCheck
  rw [hpeer]
  dsimp only
  rw [if_neg (by simp [hst])]
  refine ⟨(Laws.wrP _ _ _ (by decide)).trans (hstate.trans (rd_wr_same _ _ _ _ (by decide))),
    (rd_wr_other _ _ _ _ _ (by decide)).trans hnoted, Laws.fires_congr hfires (wr_canFire (by decide) _ _ _)⟩

theorem takingTimeout_result (s : State) : gives (exec .takingTimeout s) (fun t =>
    if s.pstate = 2 ∧ s.mayLeave ∧ s.rd pairB Pair.PAIR_STAT.ACTIN ≠ 0 then
      t.pstate = 1 ∧ t.rd pairB Pair.PAIR_STAT.HOABORT = 1 ∧ s.fires t 0x1A9
    else t = s) := by
  obtain ⟨hnoted, hfires, hstate⟩ := hoAbort_reports (s.wr pairB Pair.PAIR_STAT.PSTATE 1)
  refine ⟨_, rfl, ?_⟩
  simp only [Laws.on_iff]
  split
  case isFalse => rfl
  case isTrue =>
    exact ⟨(syncPair_pstate _).trans (hstate.trans (rd_wr_same _ _ _ _ (by decide))),
      (Laws.syncPair_rd _ _ _ (by decide)).trans hnoted,
      fires_syncPair (Laws.fires_congr hfires (wr_canFire (by decide) _ _ _))⟩

theorem takebackRequest_result (s : State) : gives (exec .takebackRequest s) (fun t => t.regs = s.regs ∧
    (s.pstate = 1 → s.rd pairB Pair.PAIR_CTL.TBEN ≠ 0 → s.rd pairB Pair.PAIR_STAT.PREF ≠ 0 → s.stbyOk = true →
      t.pair.tbreq = true)) := by
  refine ⟨_, rfl, ?_, fun hst hen hpref hok => ?_⟩
  · split <;> rfl
  · rw [hst, (Laws.on_iff _ _ _).2 hen, (Laws.on_iff _ _ _).2 hpref, hok]
    rfl

theorem drillReturn_result (s : State) : gives (exec .drillReturn s) (fun t =>
    if s.pair.drill = true ∧ s.pstate = 1 then t.pair.drreq = true else t = s) := by
  refine ⟨_, rfl, ?_⟩
  simp only [Bool.and_eq_true, beq_iff_eq]
  split <;> rfl

theorem drillFail_undrilled {s : State} (h : s.pair.drill = false) : s.drillFail = s := by
  unfold drillFail
  rw [h]
  rfl

/-- A drill that fails outside STANDBY is reported and asks for its return. -/
theorem drillFail_reports {s : State} (hdrill : s.pair.drill = true) (hst : s.pstate ≠ 1) :
    s.drillFail.rd pairB Pair.PAIR_STAT.DRFAIL = 1 ∧ s.fires s.drillFail 0x1AE ∧ s.drillFail.pair.drreq = true := by
  obtain ⟨hnoted, hfires⟩ := bit_noted_reported (b := pairB) (f := Pair.PAIR_STAT.DRFAIL) (by decide) rfl s 0x1AE
  have hstate : ((s.wr pairB Pair.PAIR_STAT.DRFAIL 1).fire 0x1AE).pstate = s.pstate :=
    (rd_fire _ _ _ _).trans (Laws.wrP _ _ _ (by decide))
  unfold drillFail
  rw [hdrill, if_neg (by decide)]
  dsimp only
  rw [if_neg (fun h => hst (hstate.symm.trans h.1))]
  exact ⟨hnoted, hfires, rfl⟩

/-! ## Liveness (R413, R414) -/

theorem paliveTimeout_result (s : State) : gives (exec .paliveTimeout s) (fun t =>
    t.rd pairB Pair.PAIR_STAT.PALIVE = 0 ∧ (s.pstate = 1 → s.rd pairB Pair.PAIR_STAT.ACTIN ≠ 0 → s.fires t 0x1AB)) := by
  refine ⟨_, rfl, ?_, fun hst hact => ?_⟩
  · rw [Laws.fireIf_rd]
    exact rd_wr_same _ _ _ _ (by decide)
  · rw [hst, (Laws.on_iff _ _ _).2 hact]
    exact fires_of _ (wr_canFire (by decide) _ _ _)

/-- Settles O44: each command acts by the result of its operation, and the rows that could end elsewhere write no memory. -/
theorem pairRows : Obligations.PairRows := by
  unfold Obligations.PairRows
  intro w s
  exact ⟨pairEn_result w s, ⟨_, rfl, actIn_shown s 1⟩,
    ⟨_, rfl, LawEngines.exec_mem (i := .pairActInFall) rfl rfl, actInFall_shown⟩,
    ⟨_, rfl, LawEngines.exec_mem (i := .startupClaim) rfl rfl, claim_refused⟩,
    fun r => ⟨_, rfl, LawEngines.exec_mem (i := .passRecordReceived r) rfl rfl, passIn_dropped⟩,
    ⟨_, rfl, LawEngines.exec_mem (i := .passRecordMissing) rfl rfl, passGone_ignored⟩,
    statusRecordTx_result s,
    fun r ofs => ⟨_, rfl, LawEngines.exec_mem (i := .statusRecordReceived r ofs) rfl rfl, statusIn_dropped ofs⟩,
    fun e => ⟨_, rfl, LawEngines.exec_mem (i := .epochReceived e) rfl rfl, epochIn_ignored e, epochIn_bad⟩,
    mirrorLaneDown_result s, handover_result w s, drill_result w s,
    ⟨_, rfl, fun hrun => DmaChannels.retire_regs_unchanged w _ (cycSync_running hrun), fun e => cycSync_taken⟩,
    handRelease_result s, ⟨_, rfl, handCheck_elsewhere, handCheck_aborts⟩, takingTimeout_result s, takebackRequest_result s,
    drillReturn_result s, ⟨_, rfl, drillFail_undrilled, drillFail_reports⟩, ⟨_, rfl, rd_wr_same _ _ _ _ (by decide)⟩,
    paliveTimeout_result s, ⟨_, rfl, fires_of _ rfl, fire_regs _ _⟩⟩

end Sys2Proof.RedundantPair
end

section
/-!
The safety unit (R373 to R393): requests and releases of Safe-Power, Safe-Ramp, arming, the stop inputs and outputs, and the
safety network.
-/
namespace Sys2Proof.SafetyUnit

open Sys2Proof Sys2Proof.Machine Sys2Proof.Machine.State Sys2Proof.CellLink Sys2Proof.PackageBlocks

/-- SPR is read from one register: a step that keeps it keeps `sprOn`. -/
theorem sprOn_congr {u s : State} (h : u.rd safB Saf.SAFE_STAT.SPR = s.rd safB Saf.SAFE_STAT.SPR) : u.sprOn = s.sprOn :=
  Laws.on_congr h

/-! ## Safe-Power (R373 to R375) -/

theorem sprReq_unprivileged {w : Wr} (s : State) (hpriv : privileged w = false) : gives (exec (.sprReq w) s) (fun t =>
    t.rd safB Saf.SAFE_STAT.NOPERM = 1 ∧ t.sprOn = s.sprOn ∧ s.fires t 0x18F) := by
  refine ⟨_, rfl, ?_⟩
  rw [hpriv]
  exact Laws.noperm w s

theorem srsReq_unprivileged {w : Wr} (s : State) (hpriv : privileged w = false) : gives (exec (.srsReq w) s) (fun t =>
    t.rd safB Saf.SAFE_STAT.NOPERM = 1 ∧ t.sprOn = s.sprOn ∧ s.fires t 0x18F) := by
  refine ⟨_, rfl, ?_⟩
  rw [hpriv]
  exact Laws.noperm w s

theorem sprRel_unprivileged {w : Wr} (s : State) (same : Bool) (hpriv : privileged w = false) :
    gives (exec (.sprRel w same) s) (fun t =>
      t.rd safB Saf.SAFE_STAT.NOPERM = 1 ∧ t.sprOn = s.sprOn ∧ s.fires t 0x18F) := by
  refine ⟨_, rfl, ?_⟩
  rw [hpriv]
  exact Laws.noperm w s

theorem sprReq_privileged {w : Wr} (s : State) (hpriv : privileged w = true) : gives (exec (.sprReq w) s) (fun t =>
    t.sprOn = true ∧ (s.sprOn = false → t.rd safB Saf.SAFE_STAT.SPRCAUSE = 9 ∧ t.rd safB Saf.SAFE_STAT.SRS = 0 ∧
      t.saf.stopDue = true ∧ t.saf.brkDue = true ∧ s.fires t 0x180)) := by
  refine ⟨_, rfl, ?_⟩
  rw [hpriv]
  exact ⟨Laws.spr_on s 9, fun hoff => Laws.spr_off s 9 (by decide) hoff⟩

theorem srsReq_privileged {w : Wr} {s : State} (hpriv : privileged w = true) (hoff : s.sprOn = false)
    (hsrs : s.rd safB Saf.SAFE_STAT.SRS = 0) : gives (exec (.srsReq w) s) (fun t =>
      t.rd safB Saf.SAFE_STAT.SRS = 1 ∧ t.rd safB Saf.SAFE_STAT.SRSCAUSE = 1 ∧ s.fires t 0x181) := by
  refine ⟨_, rfl, ?_⟩
  rw [hpriv]
  exact Laws.srs_off s 1 (by decide) hoff hsrs

/-- A refused release says why and leaves SPR as it was. -/
theorem sprRelease_refused {s : State} {same : Bool} (hwhy : s.relCause same ≠ 0) :
    (s.sprRelease same).rd safB Saf.SAFE_STAT.REL_REJ = 1 ∧
    (s.sprRelease same).rd safB Saf.REL_CAUSE.CAUSE = s.relCause same % 256 ∧
    (s.sprRelease same).sprOn = s.sprOn ∧ s.fires (s.sprRelease same) 0x18E := by
  have heq : s.sprRelease same =
      ((s.wr safB Saf.SAFE_STAT.REL_REJ 1).wr safB Saf.REL_CAUSE.CAUSE (s.relCause same)).fire 0x18E := if_pos hwhy
  rw [heq]
  refine ⟨?_, ?_, sprOn_congr ?_, fires_of _ ((wr_canFire (by decide) _ _ _).trans (wr_canFire (by decide) _ _ _))⟩
  · simp (disch := decide) only [rd_fire, rd_wr_other, rd_wr_same]
    rfl
  · simp (disch := decide) only [rd_fire, rd_wr_same]
    rfl
  · simp (disch := decide) only [rd_fire, rd_wr_other]

/-- A release that nothing refuses ends SPR and puts both outputs back. -/
theorem sprRelease_granted {s : State} {same : Bool} (hnone : s.relCause same = 0) (hon : s.sprOn = true) :
    (s.sprRelease same).sprOn = false ∧ (s.sprRelease same).rd safB Saf.SAFE_STAT.STOUT = 3 ∧
    (s.sprRelease same).rd safB Saf.SAFE_STAT.BRK = 0 := by
  have heq : s.sprRelease same =
      (((((s.wr safB Saf.SAFE_STAT.SPR 0).wr safB Saf.SAFE_STAT.STOUT 3).wr safB Saf.SAFE_STAT.BRK 0).modSaf
        (fun x => { x with stopDue := false, brkDue := false, brkAt := none })).syncPair) :=
    (if_neg (not_not.2 hnone)).trans (if_neg (by rw [hon]; decide))
  rw [heq]
  refine ⟨Laws.on_false ?_, ?_, ?_⟩ <;> rw [Laws.syncPair_rd _ _ _ (by decide), Laws.rd_modSaf]
  · simp (disch := decide) only [rd_wr_other, rd_wr_same]
    rfl
  · simp (disch := decide) only [rd_wr_other, rd_wr_same]
    rfl
  · simp (disch := decide) only [rd_wr_same]
    rfl

theorem sprRel_refused {w : Wr} {s : State} {same : Bool} (hpriv : privileged w = true) (hwhy : s.relCause same ≠ 0) :
    gives (exec (.sprRel w same) s) (fun t => t.rd safB Saf.SAFE_STAT.REL_REJ = 1 ∧
      t.rd safB Saf.REL_CAUSE.CAUSE = s.relCause same % 256 ∧ t.sprOn = s.sprOn ∧ s.fires t 0x18E) := by
  have hrel := sprRelease_refused hwhy
  refine ⟨_, rfl, ?_⟩
  rw [hpriv, if_pos rfl]
  generalize s.sprRelease same = u at hrel ⊢
  exact hrel

theorem sprRel_granted {w : Wr} {s : State} {same : Bool} (hpriv : privileged w = true) (hnone : s.relCause same = 0)
    (hon : s.sprOn = true) : gives (exec (.sprRel w same) s) (fun t => t.sprOn = false ∧
      t.rd safB Saf.SAFE_STAT.STOUT = 3 ∧ t.rd safB Saf.SAFE_STAT.BRK = 0) := by
  have hrel := sprRelease_granted hnone hon
  refine ⟨_, rfl, ?_⟩
  rw [hpriv, if_pos rfl]
  generalize s.sprRelease same = u at hrel ⊢
  exact hrel

/-! ## Arming (R383, R392) -/

theorem safetyArm_refused {w : Wr} {s : State} (harm : s.rd safB Saf.SAFE_CTL.ARM = 0)
    (hsfen : s.rd safB Saf.SAFE_CTL.SFEN ≠ 0) (hconn : s.rd safB Saf.SF_CONN.CONN = 0) :
    gives (exec (.safetyArm w) s) (fun t => t.rd safB Saf.SAFE_STAT.CFG_REJ = 1 ∧ t.rd safB Saf.SAFE_CTL.ARM = 0 ∧
      s.fires t 0x18F) := by
  refine ⟨_, rfl, ?_⟩
  have heq : s.safArm = (s.wr safB Saf.SAFE_STAT.CFG_REJ 1).fire 0x18F := by
    unfold safArm
    rw [Laws.on_false harm, (Laws.on_iff _ _ _).2 hsfen, hconn]
    rfl
  rw [heq]
  obtain ⟨hrej, hfire⟩ := bit_noted_reported (b := safB) (f := Saf.SAFE_STAT.CFG_REJ) (by decide) rfl s 0x18F
  refine ⟨hrej, ?_, hfire⟩
  rw [rd_retire, rd_fire, CellLink.rd_wr_other _ _ _ _ _ (by decide), harm]

theorem safetyArm_accepted {w : Wr} {s : State} (harm : s.rd safB Saf.SAFE_CTL.ARM = 0)
    (hsfen : s.rd safB Saf.SAFE_CTL.SFEN = 0) : gives (exec (.safetyArm w) s) (fun t =>
      t.rd safB Saf.SAFE_CTL.ARM = 1 ∧ t.rd safB Saf.SAFE_STAT.ARMED = 1 ∧ t.rd safB Saf.SAFE_STAT.NET = 0) := by
  refine ⟨_, rfl, ?_⟩
  have hsf : ((s.wr safB Saf.SAFE_CTL.ARM 1).wr safB Saf.SAFE_STAT.ARMED 1).on safB Saf.SAFE_CTL.SFEN = false :=
    Laws.on_false (by simp (disch := decide) only [rd_wr_other, hsfen])
  have heq : s.safArm = (((s.wr safB Saf.SAFE_CTL.ARM 1).wr safB Saf.SAFE_STAT.ARMED 1).wr safB Saf.SAFE_STAT.NET 0).syncPair := by
    unfold safArm
    rw [Laws.on_false harm, Laws.on_false hsfen]
    simp only [hsf, Bool.false_and, Bool.false_eq_true, if_false]
  rw [heq]
  refine ⟨?_, ?_, ?_⟩ <;> rw [rd_retire, Laws.syncPair_rd _ _ _ (by decide)]
  · simp (disch := decide) only [rd_wr_other, rd_wr_same]
    rfl
  · simp (disch := decide) only [rd_wr_other, rd_wr_same]
    rfl
  · simp (disch := decide) only [rd_wr_same]
    rfl

/-! ## The Safe-Ramp monitor (R377, R378) -/

theorem srsViolation_result (s : State) : gives (exec .srsViolation s) (fun t =>
    (s.rd safB Saf.SAFE_STAT.SRS = 0 → t = s) ∧ (∀ i k, s.rd safB Saf.SAFE_STAT.SRS ≠ 0 → s.saf.violDue = some (i, k) →
      t.sprOn = true ∧ t.rd safB Saf.SRS_VIOL.ENTRY = i % 16 ∧ t.rd safB Saf.SRS_VIOL.FILL = k % 2 ^ 28)) := by
  refine ⟨_, rfl, fun hoff => ?_, fun i k hon hdue => ?_⟩
  · rw [Laws.on_false hoff]
  · rw [(Laws.on_iff _ _ _).2 hon, hdue]
    refine ⟨Laws.spr_on _ _, ?_, ?_⟩ <;> rw [Laws.spr_rd _ _ _ _ (by decide) (by decide) (by decide), rd_fire]
    · rw [CellLink.rd_wr_other _ _ _ _ _ (by decide), rd_wr_same _ _ _ _ (by decide)]
      rfl
    · rw [rd_wr_same _ _ _ _ (by decide)]
      rfl

theorem srsRampEnd_result (s : State) : gives (exec .srsRampEnd s) (fun t =>
    (s.rd safB Saf.SAFE_STAT.SRS ≠ 0 → s.saf.rampDue = true → s.saf.violDue = none → t.sprOn = true) ∧
    (s.saf.rampDue = false → t = s)) := by
  refine ⟨_, rfl, fun hon hramp hviol => ?_, fun hramp => ?_⟩
  · rw [(Laws.on_iff _ _ _).2 hon, hramp, hviol]
    exact Laws.spr_on s 5
  · exact if_neg (by simp [hramp])

theorem srsInputTimeout_result (s : State) : gives (exec .srsInputTimeout s) (fun t =>
    (s.rd safB Saf.SAFE_STAT.SRS ≠ 0 → s.saf.timeDue = true → t.sprOn = true ∧ s.fires t 0x18D) ∧
    (s.saf.timeDue = false → t = s)) := by
  refine ⟨_, rfl, fun hon htime => ?_, fun htime => ?_⟩
  · rw [(Laws.on_iff _ _ _).2 hon, htime]
    exact ⟨(sprOn_congr (rd_fire _ _ _ _)).trans (Laws.spr_on s 6), fires_of _ (Laws.spr_canFire s 6 _)⟩
  · exact if_neg (by simp [htime])

/-! ## The stop inputs and outputs (R385 to R387) -/

/-- Whether DISC waits for both channels low is not in the registers. -/
theorem rd_bothLow (s : State) (c : Prop) [Decidable c] (b : Nat) (f : Fld) :
    (if c then s.modSaf (fun x => { x with bothLow := true }) else s).rd b f = s.rd b f := by
  split <;> rfl

theorem bothLow_canFire (s : State) (c : Prop) [Decidable c] (n : Nat) :
    (if c then s.modSaf (fun x => { x with bothLow := true }) else s).canFire n = s.canFire n := by
  split
  case isTrue => exact Laws.modSaf_canFire _ _ _
  case isFalse => rfl

theorem stopLow_result (s : State) (b : Bool) : (s.stopLow b).sprOn = true ∧ s.fires (s.stopLow b) 0x187 ∧
    ((s.stopLow b).rd safB Saf.SAFE_STAT.STIN).testBit b.toNat = false ∧
    (s.sprOn = false → (s.stopLow b).rd safB Saf.SAFE_STAT.SPRCAUSE = 2) := by
  unfold stopLow
  refine ⟨(sprOn_congr (rd_fire _ _ _ _)).trans (Laws.spr_on _ _), fires_of _ ?_, ?_, fun hoff => ?_⟩
  · rw [Laws.spr_canFire, bothLow_canFire]
    exact wr_canFire (by decide) _ _ _
  · rw [rd_fire, Laws.spr_rd _ _ _ _ (by decide) (by decide) (by decide), rd_bothLow, rd_wr_same _ _ _ _ (by decide),
      Nat.testBit_mod_two_pow, Laws.clr_test, Bool.and_false]
  · rw [rd_fire]
    refine (Laws.spr_off _ 2 (by decide) ((sprOn_congr ?_).trans hoff)).1
    rw [rd_bothLow, CellLink.rd_wr_other _ _ _ _ _ (by decide)]

theorem stopHigh_stin (s : State) (b : Bool) : ((s.stopHigh b).rd safB Saf.SAFE_STAT.STIN).testBit b.toNat = true := by
  have hbit : ((s.wr safB Saf.SAFE_STAT.STIN (setBit (s.rd safB Saf.SAFE_STAT.STIN) b.toNat)).rd safB
      Saf.SAFE_STAT.STIN).testBit b.toNat = true := by
    rw [rd_wr_same _ _ _ _ (by decide)]
    exact Laws.setBit_test _ _ _ (Bool.toNat_lt b)
  unfold stopHigh
  dsimp only
  split
  case isTrue => rwa [Laws.rd_modSaf, CellLink.rd_wr_other _ _ _ _ _ (by decide)]
  case isFalse => exact hbit

theorem stopInDiscrepancy_result (s : State) : gives (exec .stopInDiscrepancy s) (fun t =>
    if s.rd safB Saf.SAFE_STAT.DISC = 0 then t.rd safB Saf.SAFE_STAT.DISC = 1 ∧ s.fires t 0x188 else t = s) := by
  refine ⟨_, rfl, ?_⟩
  by_cases hdisc : s.rd safB Saf.SAFE_STAT.DISC = 0
  · refine (if_pos hdisc).mpr ?_
    rw [Laws.on_false hdisc]
    refine ⟨?_, fires_of _ ((Laws.modSaf_canFire _ _ _).trans (wr_canFire (by decide) _ _ _))⟩
    rw [if_neg (by decide), rd_fire, Laws.rd_modSaf, rd_wr_same _ _ _ _ (by decide)]
    rfl
  · exact (if_neg hdisc).mpr (if_pos ((Laws.on_iff _ _ _).2 hdisc))

theorem stopOutDrop_result (s : State) : gives (exec .stopOutDrop s) (fun t =>
    if s.saf.stopDue then t.rd safB Saf.SAFE_STAT.STOUT = 0 else t = s) := by
  refine ⟨_, rfl, ?_⟩
  unfold stopDrop
  split
  case isTrue => exact rd_wr_same _ _ _ _ (by decide)
  case isFalse => rfl

theorem brkTripRise_result (s : State) : gives (exec .brkTripRise s) (fun t =>
    if s.saf.brkDue then t.rd safB Saf.SAFE_STAT.BRK = 1 ∧ t.saf.brkAt = some s.clk.el else t = s) := by
  refine ⟨_, rfl, ?_⟩
  unfold brkRise
  split
  case isTrue => exact ⟨rd_wr_same _ _ _ _ (by decide), rfl⟩
  case isFalse => rfl

/-! ## The safety network (R379 to R384) -/

theorem safetyFrameReceived_result (lan : Nat) (bytes : List Byte) (s : State) :
    gives (exec (.safetyFrameReceived lan bytes) s) (fun t => t.mem = s.mem ∧ (s.framesOn = false → t = s)) :=
  ⟨_, rfl, LawEngines.exec_mem (i := .safetyFrameReceived lan bytes) rfl rfl, fun hoff => if_pos (by rw [hoff]; rfl)⟩

theorem safetyCopyMissing_result (lan : Nat) (s : State) :
    gives (exec (.safetyCopyMissing lan) s) (fun t => t.mem = s.mem ∧ (s.framesOn = false → t = s)) :=
  ⟨_, rfl, LawEngines.exec_mem (i := .safetyCopyMissing lan) rfl rfl, fun hoff => if_pos (by rw [hoff]; rfl)⟩

theorem safetyNetWatchdog_result (lanA lanB : Bool) (s : State) :
    gives (exec (.safetyNetWatchdog lanA lanB) s) (fun t => t.mem = s.mem ∧ (s.framesOn = false → t = s)) :=
  ⟨_, rfl, LawEngines.exec_mem (i := .safetyNetWatchdog lanA lanB) rfl rfl, fun hoff => if_pos (by rw [hoff]; rfl)⟩

theorem safetyNetWatchdog_silent (s : State) : gives (exec (.safetyNetWatchdog false false) s) (fun t => t = s) := by
  refine ⟨_, rfl, ?_⟩
  unfold netWatchdog
  split <;> rfl

/-- The DEG limit is reported once, and asks for SRS. -/
theorem degLimit_reported {s : State} (hon : s.framesOn = true) (hdeg : s.netState = 1) (htold : s.saf.degTold = false) :
    s.fires s.degLimit 0x186 ∧ (s.sprOn = false → s.rd safB Saf.SAFE_STAT.SRS = 0 →
      s.degLimit.rd safB Saf.SAFE_STAT.SRS = 1 ∧ s.degLimit.rd safB Saf.SAFE_STAT.SRSCAUSE = 3) := by
  have heq : s.degLimit = ((s.modSaf (fun x => { x with degTold := true })).fire 0x186).srsRequest 3 :=
    if_pos (by rw [hon, hdeg, htold]; rfl)
  rw [heq]
  refine ⟨fun hcan => Laws.srs_mono _ _ _ (fires_of _ (Laws.modSaf_canFire s _ _) hcan), fun hspr hsrs => ?_⟩
  obtain ⟨hset, hcause, -⟩ := Laws.srs_off ((s.modSaf (fun x => { x with degTold := true })).fire 0x186) 3 (by decide)
    ((sprOn_congr (rd_fire _ _ _ _)).trans hspr) ((rd_fire _ _ _ _).trans hsrs)
  exact ⟨hset, hcause⟩

theorem degLimitReached_result (s : State) : gives (exec .degLimitReached s) (fun t => (s.framesOn = false → t = s) ∧
    (s.framesOn = true → s.netState = 1 → s.saf.degTold = false → s.fires t 0x186 ∧
      (s.sprOn = false → s.rd safB Saf.SAFE_STAT.SRS = 0 → t.rd safB Saf.SAFE_STAT.SRS = 1 ∧
        t.rd safB Saf.SAFE_STAT.SRSCAUSE = 3))) :=
  ⟨_, rfl, fun hoff => if_neg (by rw [hoff]; exact Bool.false_ne_true), degLimit_reported⟩

theorem safetyStatusTx_result (s : State) : gives (exec .safetyStatusTx s) (fun t => t.regs = s.regs ∧
    (s.framesOn = true → t.saf.txSeq = (s.saf.txSeq + 1) % 2 ^ 32)) := by
  refine ⟨_, rfl, ?_⟩
  unfold statusTx
  split
  case isTrue hoff => exact ⟨rfl, fun hon => by simp [hon] at hoff⟩
  case isFalse =>
    refine ⟨Laws.foldl_proj State.regs _ _ _ fun _ _ => rfl, fun _ => ?_⟩
    refine congrArg (fun x : SafSt => (x.txSeq + 1) % 2 ^ 32) ?_
    exact Laws.foldl_proj State.saf _ _ _ fun _ _ => rfl

/-- Settles O43: command by command, Safe-Power first. -/
theorem safetyRows : Obligations.SafetyRows := by
  unfold Obligations.SafetyRows
  intro w s
  exact ⟨fun hpriv =>
      ⟨sprReq_unprivileged s hpriv, srsReq_unprivileged s hpriv, fun same => sprRel_unprivileged s same hpriv⟩,
    fun hpriv => ⟨sprReq_privileged s hpriv, srsReq_privileged hpriv, fun _ => sprRel_refused hpriv,
      fun _ => sprRel_granted hpriv⟩,
    safetyArm_refused, safetyArm_accepted, srsViolation_result s, srsRampEnd_result s, srsInputTimeout_result s,
    fun b => ⟨⟨_, rfl, stopLow_result s b⟩, ⟨_, rfl, stopHigh_stin s b⟩⟩,
    stopInDiscrepancy_result s, stopOutDrop_result s, brkTripRise_result s,
    fun _ => ⟨_, rfl, fires_of _ rfl, fire_regs _ _⟩,
    fun lan bytes => safetyFrameReceived_result lan bytes s, fun lan => safetyCopyMissing_result lan s,
    fun lanA lanB => safetyNetWatchdog_result lanA lanB s, safetyNetWatchdog_silent s, degLimitReached_result s,
    safetyStatusTx_result s⟩

end Sys2Proof.SafetyUnit
end

section
/-!
The Almanac (R417 to R429): the bits freezing and thawing show, the records a clear leaves, restore, passes and flushes,
counters and RAM errors.
-/
namespace Sys2Proof.AlmanacRecords

open Sys2Proof Sys2Proof.Machine Sys2Proof.Machine.State Sys2Proof.CellLink Sys2Proof.PackageBlocks

/-! ## Observations (R417, R421) -/

theorem almanacApply_empty {s : State} (hnone : s.alm.obs = []) : s.almApply = s := by
  unfold almApply
  rw [hnone]

theorem almDirect_obs (s : State) (o : AlmObs) : (s.almDirect o).alm.obs = s.alm.obs :=
  (Laws.earlyAlm _ _).1

/-- The oldest observation is taken from the queue, whether its record or the delta buffer takes it. -/
theorem almApply_takes {s : State} {o : AlmObs} {rest : List AlmObs} (hfront : s.alm.obs = o :: rest) :
    s.almApply.alm.obs = rest := by
  unfold almApply
  rw [hfront]
  exact Laws.ite_obs (Laws.bufferObs _ _) (almDirect_obs _ _)

/-! ## Freezing, thawing and merging (R421, R422) -/

theorem almanacFreeze_result (w : Wr) (s : State) : gives (exec (.almanacFreeze w) s) (fun t =>
    t.rd almB Alm.ALM_CTL.FREEZE = 1 ∧ (s.alm.merging = false → t.alm.frozen = true) ∧
    (s.alm.merging = true → t.alm.again = true)) := by
  have hctl : (s.wr almB Alm.ALM_CTL.FREEZE 1).rd almB Alm.ALM_CTL.FREEZE = 1 := rd_wr_same _ _ _ _ (by decide)
  refine ⟨_, rfl, ?_⟩
  dsimp only
  by_cases hmerge : (s.wr almB Alm.ALM_CTL.FREEZE 1).alm.merging = true
  · rw [if_pos hmerge]
    exact ⟨hctl, fun hno => absurd (hmerge.symm.trans hno) (by decide), fun _ => rfl⟩
  · rw [if_neg hmerge]
    by_cases hfrozen : (s.wr almB Alm.ALM_CTL.FREEZE 1).alm.frozen = true
    · rw [if_pos hfrozen]
      exact ⟨hctl, fun _ => hfrozen, fun hyes => absurd hyes hmerge⟩
    · rw [if_neg hfrozen]
      exact ⟨(CellLink.rd_wr_other _ _ _ _ _ (by decide)).trans hctl, fun _ => rfl, fun hyes => absurd hyes hmerge⟩

theorem almanacUnfreeze_result (w : Wr) (s : State) : gives (exec (.almanacUnfreeze w) s) (fun t =>
    t.rd almB Alm.ALM_CTL.FREEZE = 0 ∧ (s.alm.merging = false → s.alm.frozen = true → t.alm.frozen = false ∧
      t.alm.merging = true ∧ t.rd almB Alm.ALM_STAT.FRZ = 1)) := by
  have hctl : (s.wr almB Alm.ALM_CTL.FREEZE 0).rd almB Alm.ALM_CTL.FREEZE = 0 := rd_wr_same _ _ _ _ (by decide)
  refine ⟨_, rfl, ?_⟩
  dsimp only
  by_cases hmerge : (s.wr almB Alm.ALM_CTL.FREEZE 0).alm.merging = true
  · rw [if_pos hmerge]
    exact ⟨hctl, fun hno => absurd (hmerge.symm.trans hno) (by decide)⟩
  · rw [if_neg hmerge]
    by_cases hfrozen : (s.wr almB Alm.ALM_CTL.FREEZE 0).alm.frozen = true
    · rw [if_pos hfrozen]
      exact ⟨(CellLink.rd_wr_other _ _ _ _ _ (by decide)).trans hctl, fun _ _ => ⟨rfl, rfl, rd_wr_same _ _ _ _ (by decide)⟩⟩
    · rw [if_neg hfrozen]
      exact ⟨hctl, fun _ hyes => absurd hyes hfrozen⟩

theorem almanacMergeDone_result (s : State) : gives (exec .almanacMergeDone s) (fun t =>
    t.mem = s.mem ∧ (s.alm.merging = false → t = s)) :=
  ⟨_, rfl, LawEngines.exec_mem (i := .almanacMergeDone) rfl rfl, fun hno => if_neg (by rw [hno]; decide)⟩

theorem almanacMergeDone_merged {s : State} (hmerge : s.alm.merging = true) (hagain : s.alm.again = false) :
    gives (exec .almanacMergeDone s) (fun t => t.alm.merging = false ∧ t.alm.frozen = false ∧ t.alm.bufBins = [] ∧
      t.rd almB Alm.ALM_STAT.FRZ = 0) := by
  refine ⟨_, rfl, ?_⟩
  rw [hmerge, hagain]
  exact Laws.mergeAlm s

/-! ## Clears (R419) -/

theorem almClear_same (s : State) (r : Nat) : ((s.almClear r).almRec r).total = 0 ∧
    ((s.almClear r).almRec r).wcnt = (s.almRec r).wcnt := by
  rw [Laws.almClear_rec, if_pos rfl]
  exact ⟨rfl, rfl⟩

theorem clrrec_result (w : Wr) (s : State) : gives (exec (.clrrec w) s) (fun t =>
    (t.almRec (s.rd almB Alm.ALM_CUR.REC)).total = 0 ∧
    (t.almRec (s.rd almB Alm.ALM_CUR.REC)).wcnt = (s.almRec (s.rd almB Alm.ALM_CUR.REC)).wcnt ∧
    ∀ r, r ≠ s.rd almB Alm.ALM_CUR.REC → t.almRec r = s.almRec r) := by
  obtain ⟨htotal, hwcnt⟩ := almClear_same s (s.rd almB Alm.ALM_CUR.REC)
  exact ⟨_, rfl, htotal, hwcnt, fun r hne => (Laws.almClear_rec s _ r).trans (if_neg hne)⟩

/-- A record that is cleared with the others keeps how often its image was written, and what it leaves out. -/
def clearedRec (x : AlmRec) : AlmRec := { AlmRec.reset with wcnt := x.wcnt, skip := x.skip, changed := true, flushed := false }

/-- The state in which the records of a list are cleared at once. -/
def clearedAll (w : Wr) (s : State) (l : List Nat) : State :=
  ((s.modAlm (fun a => { a with
    recs := l.map (fun r => (r, clearedRec (Tab.get a.recs r AlmRec.reset))), bufBins := [], bufExt := []
    })).almSyncBuf).retire w almB

theorem clearedAll_rec (w : Wr) (s : State) {l : List Nat} {r : Nat} (hr : r ∈ l) :
    (clearedAll w s l).almRec r = clearedRec (s.almRec r) :=
  Laws.get_map (fun r => clearedRec (s.almRec r)) l r hr

theorem clrall_result (w : Wr) (s : State) : gives (exec (.clrall w) s) (fun t =>
    ∀ r, r < 2048 → (t.almRec r).total = 0 ∧ (t.almRec r).wcnt = (s.almRec r).wcnt) := by
  refine ⟨clearedAll w s (List.range 2048), rfl, fun r hr => ?_⟩
  rw [clearedAll_rec w s (List.mem_range.2 hr)]
  exact ⟨rfl, rfl⟩

/-! ## Restore (R426) -/

theorem restore_result (w : Wr) (s : State) : gives (exec (.restore w) s) (fun t =>
    if s.rd almB Alm.ALM_CTL.EN = 0 then t.rd almB Alm.ALM_STAT.RSTBUSY = 1
    else t.rd almB Alm.ALM_STAT.CFG_REJ = 1 ∧ s.fires t 0x02D ∧
      t.rd almB Alm.ALM_STAT.RSTBUSY = s.rd almB Alm.ALM_STAT.RSTBUSY) := by
  refine ⟨_, rfl, ?_⟩
  by_cases hen : s.rd almB Alm.ALM_CTL.EN = 0
  · refine (if_pos hen).mpr ?_
    rw [Laws.on_false hen]
    exact rd_wr_same _ _ _ _ (by decide)
  · refine (if_neg hen).mpr ?_
    rw [(Laws.on_iff _ _ _).2 hen]
    obtain ⟨hrej, hfire⟩ := bit_noted_reported (b := almB) (f := Alm.ALM_STAT.CFG_REJ) (by decide) rfl s 0x02D
    exact ⟨hrej, hfire, (rd_fire _ _ _ _).trans (CellLink.rd_wr_other _ _ _ _ _ (by decide))⟩

theorem almanacRestoreDone_result (s : State) : gives (exec .almanacRestoreDone s) (fun t =>
    t.mem = s.mem ∧ (s.rd almB Alm.ALM_STAT.RSTBUSY = 0 → t = s)) :=
  ⟨_, rfl, LawEngines.exec_mem (i := .almanacRestoreDone) rfl rfl, fun hidle => if_neg (by rw [Laws.on_false hidle]; decide)⟩

theorem almanacRestoreDone_done {s : State} (hbusy : s.rd almB Alm.ALM_STAT.RSTBUSY ≠ 0) :
    gives (exec .almanacRestoreDone s) (fun t =>
      t.rd almB Alm.ALM_STAT.RSTBUSY = 0 ∧ t.rd almB Alm.ALM_STAT.RSTDONE = 1) := by
  refine ⟨_, rfl, ?_⟩
  rw [(Laws.on_iff _ _ _).2 hbusy]
  exact ⟨(CellLink.rd_wr_other _ _ _ _ _ (by decide)).trans (rd_wr_same _ _ _ _ (by decide)), rd_wr_same _ _ _ _ (by decide)⟩

/-! ## Passes and flushes (R424, R425) -/

theorem flushnow_result (w : Wr) (s : State) : gives (exec (.flushnow w) s) (fun t =>
    t.mem = s.mem ∧ (s.rd almB Alm.ALM_STAT.BGBUSY ≠ 0 → t.regs = s.regs)) := by
  refine ⟨_, rfl, LawEngines.exec_mem (i := .flushnow w) rfl rfl, fun hbusy => ?_⟩
  refine DmaChannels.retire_regs_unchanged w _ ?_
  exact if_pos ((Laws.on_iff _ _ _).2 hbusy)

theorem almanacBgPass_result (s : State) : gives (exec .almanacBgPass s) (fun t =>
    t.mem = s.mem ∧ (s.rd almB Alm.ALM_CTL.EN = 0 → t = s)) :=
  ⟨_, rfl, LawEngines.exec_mem (i := .almanacBgPass) rfl rfl, fun hoff => if_neg (by rw [Laws.on_false hoff]; decide)⟩

theorem almanacBgPass_starts {s : State} (hidle : s.rd almB Alm.ALM_STAT.BGBUSY = 0) (hchanged : s.almChanged ≠ [])
    (hen : s.rd almB Alm.ALM_CTL.EN ≠ 0) : gives (exec .almanacBgPass s) (fun t =>
      t.rd almB Alm.ALM_STAT.BGBUSY = 1 ∧ t.alm.pass = s.almChanged) := by
  refine ⟨_, rfl, ?_⟩
  rw [(Laws.on_iff _ _ _).2 hen]
  exact Laws.passGo s hidle hchanged

theorem almWritten_idle {s : State} (ok : Bool) (hflush : s.alm.flush = []) (hearly : s.alm.early = [])
    (hpass : s.alm.pass = []) : s.almWritten ok = s := by
  unfold almWritten
  rw [hflush, hearly, hpass]

theorem almanacImageWritten_result (ok : Bool) (s : State) : gives (exec (.almanacImageWritten ok) s) (fun t =>
    t.fixed = s.fixed ∧ (s.memOk = true → t.memOk = true) ∧
    (s.alm.flush = [] → s.alm.early = [] → s.alm.pass = [] → t = s)) := by
  obtain ⟨hfixed, hmem⟩ := fol_fixed s _ (Scope.exec_fols (.almanacImageWritten ok) s _ rfl)
  exact ⟨_, rfl, hfixed, hmem, almWritten_idle ok⟩

theorem almanacFullFlushDone_result (s : State) : gives (exec .almanacFullFlushDone s) (fun t =>
    if s.rd almB Alm.ALM_STAT.FFBUSY ≠ 0 ∧ s.alm.flush = [] then
      t.rd almB Alm.ALM_STAT.FFBUSY = 0 ∧ t.rd almB Alm.ALM_STAT.FFDONE = 1 else t = s) := by
  refine ⟨_, rfl, ?_⟩
  have hcond : (s.on almB Alm.ALM_STAT.FFBUSY && s.alm.flush.isEmpty) = true ↔
      s.rd almB Alm.ALM_STAT.FFBUSY ≠ 0 ∧ s.alm.flush = [] := by
    rw [Bool.and_eq_true, Laws.on_iff, List.isEmpty_iff]
  by_cases hdone : s.rd almB Alm.ALM_STAT.FFBUSY ≠ 0 ∧ s.alm.flush = []
  · refine (if_pos hdone).mpr ?_
    rw [if_pos (hcond.2 hdone)]
    refine ⟨?_, ?_⟩ <;> rw [wrB_eq, rd_wr_ne _ _ _ _ _ _ (by decide)]
    · rw [CellLink.rd_wr_other _ _ _ _ _ (by decide), rd_wr_same _ _ _ _ (by decide)]
      rfl
    · rw [rd_wr_same _ _ _ _ (by decide)]
      rfl
  · exact (if_neg hdone).mpr (if_neg (hcond.not.2 hdone))

/-! ## Totals, counters and RAM errors (R420, R428, R429) -/

theorem almanacTotalRead_result (m : Nat) (s : State) : gives (exec (.almanacTotalRead m) s) (fun t =>
    t.fab.reads = s.fab.reads ++ [(m, almB + 0x21C, BitVec.ofNat 32 (s.almRec (s.rd almB Alm.ALM_CUR.REC)).total)] ∧
    t.rd almB Alm.ALM_CUR.REC = if s.rd almB Alm.ALM_CTL.AUTOINC = 0 then s.rd almB Alm.ALM_CUR.REC
      else (s.rd almB Alm.ALM_CUR.REC + 1) % 2048) := by
  refine ⟨_, rfl, ?_⟩
  dsimp only
  split
  case isTrue hinc =>
    have hauto : s.rd almB Alm.ALM_CTL.AUTOINC ≠ 0 := (Laws.on_iff _ _ _).1 hinc
    refine ⟨rfl, ?_⟩
    rw [if_neg hauto, rd_wr_same _ _ _ _ (by decide)]
    exact Nat.mod_mod _ _
  case isFalse hstay => exact ⟨rfl, (if_pos (not_not.1 ((Laws.on_iff _ _ _).not.1 hstay))).symm⟩

theorem almCntclr_result (w : Wr) (s : State) : gives (exec (.almCntclr w) s) (fun t =>
    t.rd almB Alm.ALM_CNT0.QLOST = 0 ∧ t.rd almB Alm.ALM_CNT0.LOSTINC = 0 ∧
    t.rd almB Alm.ALM_CNT1.PASSES = 0 ∧ t.rd almB Alm.ALM_CNT1.EARLY = 0) := by
  refine ⟨_, rfl, ?_⟩
  exact ⟨DmaChannels.foldl_wr_zero_clears _ (.inr (by decide)), DmaChannels.foldl_wr_zero_clears _ (.inr (by decide)),
    DmaChannels.foldl_wr_zero_clears _ (.inr (by decide)), DmaChannels.foldl_wr_zero_clears _ (.inr (by decide))⟩

theorem almanacRamError_corrected (r : Nat) (s : State) : gives (exec (.almanacRamError r false) s) (fun t =>
    s.fires t 0x02B ∧ t.regs = s.regs) :=
  ⟨_, rfl, fires_of _ rfl, fire_regs _ _⟩

theorem fire_almRec (s : State) (n r : Nat) : (s.fire n).almRec r = s.almRec r :=
  congrArg (fun a : Almanac => Tab.get a.recs r AlmRec.reset) (Laws.fireIf_alm s true n)

theorem clearIfRecord_canFire (s : State) (r n : Nat) : (if r < 2048 then s.almClear r else s).canFire n = s.canFire n := by
  split
  case isTrue => exact wr_canFire (by decide) _ _ _
  case isFalse => rfl

theorem almanacRamError_uncorrected (r : Nat) (s : State) : gives (exec (.almanacRamError r true) s) (fun t =>
    t.rd almB Alm.ALM_STAT.RAMUE = 1 ∧ s.fires t 0x02C ∧ (r < 2048 → (t.almRec r).total = 0)) := by
  obtain ⟨hbit, hfire⟩ := bit_noted_reported (b := almB) (f := Alm.ALM_STAT.RAMUE) (by decide) rfl
    (if r < 2048 then s.almClear r else s) 0x02C
  refine ⟨_, rfl, hbit, Laws.fires_congr hfire (clearIfRecord_canFire s r _), fun hr => ?_⟩
  rw [if_pos rfl, fire_almRec, if_pos hr]
  exact (almClear_same s r).1

/-- Settles O45: command by command, first what each shows and then what it does where it does something. -/
theorem almanacRows : Obligations.AlmanacRows := by
  unfold Obligations.AlmanacRows
  refine ⟨fun w s => ?_, fun w s => ?_⟩
  · exact ⟨⟨_, rfl, LawEngines.exec_mem (i := .almanacApply) rfl rfl, almanacApply_empty⟩,
      almanacFreeze_result w s, almanacUnfreeze_result w s, almanacMergeDone_result s, clrrec_result w s,
      clrall_result w s, restore_result w s, almanacRestoreDone_result s, flushnow_result w s, almanacBgPass_result s,
      fun ok => almanacImageWritten_result ok s, almanacFullFlushDone_result s, fun m => almanacTotalRead_result m s,
      almCntclr_result w s, fun r => ⟨almanacRamError_corrected r s, almanacRamError_uncorrected r s⟩⟩
  · exact ⟨fun _ _ hfront => ⟨_, rfl, almApply_takes hfront⟩, almanacMergeDone_merged, almanacRestoreDone_done,
      fun hidle hchanged => ⟨⟨_, rfl, Laws.passGo s hidle hchanged⟩, almanacBgPass_starts hidle hchanged⟩⟩

end Sys2Proof.AlmanacRecords
end

section
/-!
Power, clocks and self-test (R453 to R464, R469 to R471, R486): the chip resets, supply and clocks, power failure, the dies
and their tests, and the temperatures.
-/
namespace Sys2Proof.PowerUnit

open Sys2Proof Sys2Proof.Machine Sys2Proof.Machine.State Sys2Proof.CellLink Sys2Proof.PackageBlocks

/-! ## The chip resets (R18, R454, R458, R459) -/

/-- The package is held in reset, by the pin or not, and its cause is recorded. -/
def HeldFor (s : State) (porst : Bool) (rc : Nat) (t : State) : Prop :=
  t.fixed = s.fixed ∧ t.pwr.held = true ∧ t.pwr.porst = porst ∧ t.rd pwrB Pwr.PWR_STAT.RSTCAUSE = rc ∧
    t.rd fcB Fc.FC_STAT.SPRREQ = t.rd fcB Fc.FC_STAT.FLATCH

theorem porstAssert_result (s : State) : if s.pwr.aoOff then gives (exec .porstAssert s) (fun t => t = s)
    else gives (exec .porstAssert s) (HeldFor s true 1) := by
  split
  case isTrue hoff => exact ⟨_, rfl, if_pos hoff⟩
  case isFalse hon =>
    exact ⟨_, Scope.execPorstAssert_powered s (Bool.eq_false_of_not_eq_true hon), Laws.cr_facts s 1 (by decide)⟩

theorem porstRelease_result (pref : Bool) (s : State) : gives (exec (.porstRelease pref) s) (fun t =>
    if s.pwr.held ∧ s.pwr.porst ∧ s.pwr.aoOff = false then
      t.pwr.held = false ∧ t.rd pairB Pair.PAIR_STAT.PREF = pref.toNat else t = s) := by
  refine ⟨_, rfl, ?_⟩
  have hcond : (s.pwr.held && s.pwr.porst && !s.pwr.aoOff) = true ↔ s.pwr.held ∧ s.pwr.porst ∧ s.pwr.aoOff = false := by
    simp only [Bool.and_eq_true, Bool.not_eq_true', and_assoc]
  by_cases hrel : s.pwr.held ∧ s.pwr.porst ∧ s.pwr.aoOff = false
  · refine (if_pos hrel).mpr ?_
    rw [if_pos (hcond.2 hrel)]
    refine ⟨Laws.resetEnd_held _, ?_⟩
    rw [Laws.resetEnd_pref, wrB_eq, rd_wr_same _ _ _ _ (by decide)]
    cases pref <;> rfl
  · exact (if_neg hrel).mpr (if_neg (hcond.not.2 hrel))

theorem chipRst_keyed {w : Wr} {s : State} (hpriv : privileged w = true) (hpf : s.rd pwrB Pwr.PWR_STAT.PFACT = 0) :
    gives (exec (.chipRst w 0xC3) s) (HeldFor s false 3) := by
  have hheld : HeldFor s false 3 (s.chipReset 3 none) := Laws.cr_facts s 3 (by decide)
  have hexec := Scope.execChipRst_keyed w s hpriv hpf
  generalize s.chipReset 3 none = t at hheld hexec
  exact ⟨_, hexec, hheld⟩

theorem chipRst_unkeyed {w : Wr} (s : State) (k : Byte) (hpriv : privileged w = true) (hk : k ≠ 0xC3) :
    gives (exec (.chipRst w k) s) (fun t => t.regs = s.regs) := by
  refine ⟨_, rfl, DmaChannels.retire_regs_unchanged w _ ?_⟩
  unfold chipRst
  rw [hpriv, if_neg (by decide), if_pos hk]

theorem internalResetEnd_result (s : State) : gives (exec .internalResetEnd s) (fun t =>
    if s.pwr.held ∧ s.pwr.porst = false then t.pwr.held = false else t = s) := by
  refine ⟨_, rfl, ?_⟩
  have hcond : (s.pwr.held && !s.pwr.porst) = true ↔ s.pwr.held ∧ s.pwr.porst = false := by
    simp only [Bool.and_eq_true, Bool.not_eq_true']
  by_cases hend : s.pwr.held ∧ s.pwr.porst = false
  · refine (if_pos hend).mpr ?_
    rw [if_pos (hcond.2 hend)]
    exact Laws.resetEnd_held s
  · exact (if_neg hend).mpr (if_neg (hcond.not.2 hend))

/-! ## The boot BIST (R470) -/

/-- What the boot BIST leaves before it looks at K-die 0: which dies failed, and that it ran. -/
def bistRan (s : State) (failed : List Nat) : State :=
  ((((s.wr bistB Bist.BIST_BOOTRES.PASS
      ((((List.range 8).filter s.hasDie).filter (fun d => !failed.contains d)).foldl setBit 0)).wr bistB Bist.BIST_BOOTRES.FAIL
      ((((List.range 8).filter s.hasDie).filter failed.contains).foldl setBit 0)).wr bistB Bist.BIST_BOOTRES.RAN 1).wr pwrB
      Pwr.AO_CTL.BOOTBIST 0).modPwr
    (fun p => { p with bad := ((List.range 8).filter s.hasDie).filter (fun d => d != 0 && failed.contains d) })

theorem bistRan_shown (s : State) (failed : List Nat) : (bistRan s failed).rd bistB Bist.BIST_BOOTRES.RAN = 1 ∧
    (bistRan s failed).rd pwrB Pwr.AO_CTL.BOOTBIST = 0 := by
  unfold bistRan
  rw [Laws.rd_modPwr', Laws.rd_modPwr', rd_wr_ne _ _ _ _ _ _ (by decide), rd_wr_same _ _ _ _ (by decide),
    rd_wr_same _ _ _ _ (by decide)]
  exact ⟨rfl, rfl⟩

theorem bistRan_flatch (s : State) (failed : List Nat) : (bistRan s failed).flatch = s.flatch :=
  Laws.on_congr (by
    unfold bistRan
    rw [Laws.rd_modPwr']
    simp (disch := decide) only [rd_wr_ne])

theorem bistRan_canFire (s : State) (failed : List Nat) (n : Nat) : (bistRan s failed).canFire n = s.canFire n := by
  unfold bistRan
  rw [Laws.modPwr_canFire _ _ _ rfl]
  simp (disch := decide) only [Laws.wr_canFire]

theorem bootBist_result (failed : List Nat) (s : State) : gives (exec (.bootBist failed) s) (fun t =>
    if s.pwr.held = false ∧ s.rom = true ∧ s.sec.ran = false ∧ s.rd pwrB Pwr.AO_CTL.BOOTBIST ≠ 0 then
      (0 ∉ failed → t.rd bistB Bist.BIST_BOOTRES.RAN = 1 ∧ t.rd pwrB Pwr.AO_CTL.BOOTBIST = 0) ∧
      (0 ∈ failed → s.flatch = true → s.fires t 0x1CB) else t = s) := by
  refine ⟨_, rfl, ?_⟩
  have hcond : ¬(s.pwr.held || !s.rom || s.sec.ran || !s.on pwrB Pwr.AO_CTL.BOOTBIST) = true ↔
      s.pwr.held = false ∧ s.rom = true ∧ s.sec.ran = false ∧ s.rd pwrB Pwr.AO_CTL.BOOTBIST ≠ 0 := by
    simp only [Bool.or_eq_true, not_or, Bool.not_eq_true, Bool.not_eq_false', Laws.on_iff, and_assoc]
  by_cases hruns : s.pwr.held = false ∧ s.rom = true ∧ s.sec.ran = false ∧ s.rd pwrB Pwr.AO_CTL.BOOTBIST ≠ 0
  · refine (if_pos hruns).mpr ?_
    have heq : s.bootBist failed =
        if failed.contains 0 then ((bistRan s failed).safeState 0x1CB).fire 0x1CB else bistRan s failed :=
      if_neg (hcond.2 hruns)
    rw [heq]
    refine ⟨fun hgood => ?_, fun hbad hlatch => ?_⟩
    · rw [if_neg (by simpa using hgood)]
      exact bistRan_shown s failed
    · have hsafe : (bistRan s failed).safeState 0x1CB = bistRan s failed := if_pos ((bistRan_flatch s failed).trans hlatch)
      rw [if_pos (by simpa using hbad), hsafe]
      exact fires_of _ (bistRan_canFire s failed _)
  · exact (if_neg hruns).mpr (if_pos (not_not.1 (hcond.not.2 hruns)))

/-! ## The always-on domain, the rails and the clocks (R453 to R455) -/

theorem railFault_result (s : State) : gives (exec .railFault s) (fun t => t.regs = s.regs ∧
    (s.rd pwrB Pwr.PWR_STAT.PFSEEN = 0 → s.fires t 0x1C4) ∧ (s.rd pwrB Pwr.PWR_STAT.PFSEEN ≠ 0 → t = s)) := by
  refine ⟨_, rfl, ?_, fun hnew => ?_, fun hseen => ?_⟩
  · unfold fireIf
    split
    case isTrue => exact fire_regs _ _
    case isFalse => rfl
  · rw [Laws.on_false hnew]
    exact fires_of _ rfl
  · rw [(Laws.on_iff _ _ _).2 hseen]
    rfl

theorem refclkLoss_result (s : State) : gives (exec .refclkLoss s) (fun t =>
    if s.pwr.held then t = s else t.rd pwrB Pwr.DIE_STAT.REFOK = 0 ∧ s.fires t 0x1C0) := by
  refine ⟨_, rfl, ?_⟩
  dsimp only
  split
  case isTrue => rfl
  case isFalse =>
    refine ⟨?_, fires_of _ (Laws.wr_canFire _ _ _ _ _ (by decide) (by decide))⟩
    rw [rd_fire, rd_wr_same _ _ _ _ (by decide)]
    rfl

theorem pllUnlock_adie {a : Nat} (ha : a < 2) (s : State) : gives (exec (.pllUnlock (some a)) s) (fun t =>
    if s.adUp a then (t.rd pwrB Pwr.DIE_STAT.LOCK).testBit (6 + a) = false ∧ s.fires t 0x1C2 else t = s) := by
  have hbit : 6 + a < Pwr.DIE_STAT.LOCK.wid := by
    have : Pwr.DIE_STAT.LOCK.wid = 8 := rfl
    omega
  refine ⟨_, rfl, ?_⟩
  unfold pllUnlock
  dsimp only
  split
  case isTrue =>
    refine ⟨?_, fires_of _ (Laws.lock_canFire _ _ _ _)⟩
    rw [rd_fire]
    exact Laws.dieBit_set _ _ _ _ hbit (by decide)
  case isFalse => rfl

theorem adiePllRelock_result {a : Nat} (ha : a < 2) (s : State) : gives (exec (.adiePllRelock a) s) (fun t =>
    if s.adUp a then (t.rd pwrB Pwr.DIE_STAT.LOCK).testBit (6 + a) = true else t = s) := by
  have hbit : 6 + a < Pwr.DIE_STAT.LOCK.wid := by
    have : Pwr.DIE_STAT.LOCK.wid = 8 := rfl
    omega
  refine ⟨_, rfl, ?_⟩
  dsimp only
  split
  case isTrue => exact Laws.dieBit_set _ _ _ _ hbit (by decide)
  case isFalse => rfl

theorem freeBit_canFire (s : State) (c : Bool) (n : Nat) : (if c then s.freeBit else (false, s)).2.canFire n = s.canFire n := by
  split <;> rfl

theorem pllUnlock_kdie (s : State) : gives (exec (.pllUnlock none) s) (fun t => if s.pwr.held then t = s else s.fires t 0x1C1) := by
  refine ⟨_, rfl, ?_⟩
  unfold pllUnlock
  dsimp only
  split
  case isTrue => rfl
  case isFalse => exact fires_of _ ((Laws.lock_canFire _ _ _ _).trans (freeBit_canFire s _ _))

theorem xtalStop_result (s : State) : gives (exec .xtalStop s) (fun t =>
    t.rd pwrB Pwr.DIE_STAT.XTALOK = 0 ∧ t.pwr.xtal = false ∧ s.fires t 0x1C3) := by
  refine ⟨_, rfl, ?_, ?_, fires_of _ ((Laws.wr_canFire _ _ _ _ _ (by decide) (by decide)).trans
    (Laws.modPwr_canFire _ _ _ rfl))⟩
  · rw [rd_fire, rd_wr_same _ _ _ _ (by decide)]
    rfl
  · exact congrArg PwrSt.xtal (Laws.fire_pwr _ _)

/-! ## Power failure (R462, R464) -/

/-- PWRFAIL_N is recognised again: it is shown and reported, and nothing more is begun. -/
theorem powerFail_again {s : State} (hup : s.pwr.held = false) (hidle : s.rd pwrB Pwr.PWR_STAT.PFACT = 0)
    (hseen : s.rd pwrB Pwr.PWR_STAT.PFSEEN ≠ 0) :
    s.powerFail = ((s.wr pwrB Pwr.PWR_STAT.PFACT 1).wr pwrB Pwr.PWR_STAT.PFSEEN 1).fire 0x1C8 := by
  unfold powerFail
  rw [if_neg (by rw [hup, Laws.on_false hidle]; decide), (Laws.on_iff _ _ _).2 hseen]
  rfl

theorem pwrfailRecognised_result (s : State) : gives (exec .pwrfailRecognised s) (fun t => t.fixed = s.fixed ∧
    (s.rd pwrB Pwr.PWR_STAT.PFACT ≠ 0 → t = s) ∧
    (s.pwr.held = false → s.rd pwrB Pwr.PWR_STAT.PFACT = 0 → s.rd pwrB Pwr.PWR_STAT.PFSEEN ≠ 0 →
      t.rd pwrB Pwr.PWR_STAT.PFACT = 1 ∧ s.fires t 0x1C8)) := by
  obtain ⟨hfixed, -⟩ := fol_fixed s _ (Scope.exec_fols .pwrfailRecognised s _ rfl)
  refine ⟨_, rfl, hfixed, fun hact => if_pos ?_, fun hup hidle hseen => ?_⟩
  · rw [(Laws.on_iff _ _ _).2 hact, Bool.or_true]
  · rw [powerFail_again hup hidle hseen]
    refine ⟨?_, fires_of _ ((Laws.wr_canFire _ _ _ _ _ (by decide) (by decide)).trans
      (Laws.wr_canFire _ _ _ _ _ (by decide) (by decide)))⟩
    rw [rd_fire, CellLink.rd_wr_other _ _ _ _ _ (by decide), rd_wr_same _ _ _ _ (by decide)]
    rfl

theorem pwrfailRise_result (s : State) : gives (exec .pwrfailRise s) (fun t =>
    if s.rd pwrB Pwr.PWR_STAT.PFACT = 0 then t = s else t.rd pwrB Pwr.PWR_STAT.PFACT = 0 ∧ s.fires t 0x1C9) := by
  refine ⟨_, rfl, ?_⟩
  by_cases hidle : s.rd pwrB Pwr.PWR_STAT.PFACT = 0
  · exact (if_pos hidle).mpr (if_neg (by rw [Laws.on_false hidle]; decide))
  · refine (if_neg hidle).mpr ?_
    rw [(Laws.on_iff _ _ _).2 hidle]
    refine ⟨?_, fires_of _ (Laws.wr_canFire _ _ _ _ _ (by decide) (by decide))⟩
    rw [if_pos rfl, rd_fire, rd_wr_same _ _ _ _ (by decide)]
    rfl

/-! ## Dies on and off (R456, R457) -/

/-- A refusal of the power block is shown and reported. -/
theorem pwrRej_noted (s : State) : (s.pwrRej Pwr.PWR_STAT.PWR_REJ).rd pwrB Pwr.PWR_STAT.PWR_REJ = 1 ∧
    s.fires (s.pwrRej Pwr.PWR_STAT.PWR_REJ) 0x1CE := by
  refine ⟨?_, fires_of _ (Laws.wr_canFire _ _ _ _ _ (by decide) (by decide))⟩
  unfold pwrRej
  rw [rd_fire, rd_wr_same _ _ _ _ (by decide)]
  rfl

section
variable {s : State} {d : Nat} (hpos : 0 < d) (hlt : d < 8) (hdie : s.hasDie d = true)
include hpos hlt hdie

theorem dieTurnOn_off (hoff : s.dieOf Pwr.DIE_CTL.ON d = false) :
    s.dieTurnOn d = (s.dieBit Pwr.DIE_CTL.ON d true).dieBit Pwr.DIE_STAT.BUSY d true :=
  if_neg (by simp [hdie, hoff, hpos.ne', hlt.not_ge])

theorem dieTurnOff_refused (hon : s.dieOf Pwr.DIE_CTL.ON d = true) (hbusy : s.quiescent d = false) :
    s.dieTurnOff d = s.pwrRej Pwr.PWR_STAT.PWR_REJ :=
  (if_neg (by simp [hdie, hon, hpos.ne', hlt.not_ge])).trans (if_pos (by rw [hbusy]; rfl))

theorem dieTurnOff_quiet (hon : s.dieOf Pwr.DIE_CTL.ON d = true) (hquiet : s.quiescent d = true)
    (hidle : s.dieOf Pwr.DIE_STAT.BUSY d = false) :
    s.dieTurnOff d = (((s.dieStop d).dieBit Pwr.DIE_CTL.ON d false).dieBit Pwr.DIE_STAT.LOCK d false).syncLinks :=
  (if_neg (by simp [hdie, hon, hpos.ne', hlt.not_ge])).trans (if_neg (by rw [hquiet, hidle]; decide))

omit hlt in
theorem dieIsReady_turnedOn (hup : s.pwr.held = false) (hbusy : s.dieOf Pwr.DIE_STAT.BUSY d = true)
    (hon : s.dieOf Pwr.DIE_CTL.ON d = true)
    (hfree : ¬(s.rd bistB Bist.BIST_STAT.BUSY ≠ 0 ∧ s.rd bistB Bist.BIST_STAT.DIE = d)) :
    s.dieIsReady d = ((((s.dieReset d).dieBit Pwr.DIE_STAT.RDY d true).dieBit Pwr.DIE_STAT.LOCK d true).dieBit
      Pwr.DIE_STAT.BUSY d false).syncLinks := by
  have htest : (s.on bistB Bist.BIST_STAT.BUSY && s.rd bistB Bist.BIST_STAT.DIE == d) = false :=
    Bool.eq_false_of_not_eq_true fun h => hfree (by simpa only [Bool.and_eq_true, Laws.on_iff, beq_iff_eq] using h)
  exact if_neg (by simp [htest, hup, hbusy, hon, hdie, hpos.ne'])

theorem dieOn_result {w : Wr} (hpriv : privileged w = true) (hoff : s.dieOf Pwr.DIE_CTL.ON d = false) :
    gives (exec (.dieOn w d) s) (fun t => t.dieOf Pwr.DIE_CTL.ON d = true ∧ t.dieOf Pwr.DIE_STAT.BUSY d = true) := by
  refine ⟨_, rfl, ?_⟩
  rw [hpriv, if_pos rfl, dieTurnOn_off hpos hlt hdie hoff]
  exact ⟨(Laws.dieBit_of _ _ _ _ _ _ (by decide)).trans (Laws.dieBit_set _ _ _ _ hlt (by decide)),
    Laws.dieBit_set _ _ _ _ hlt (by decide)⟩

theorem dieOff_refused {w : Wr} (hpriv : privileged w = true) (hon : s.dieOf Pwr.DIE_CTL.ON d = true)
    (hbusy : s.quiescent d = false) : gives (exec (.dieOff w d) s) (fun t =>
      t.rd pwrB Pwr.PWR_STAT.PWR_REJ = 1 ∧ t.dieOf Pwr.DIE_CTL.ON d = true ∧ s.fires t 0x1CE) := by
  obtain ⟨hrej, hfire⟩ := pwrRej_noted s
  refine ⟨_, rfl, ?_⟩
  rw [hpriv, if_pos rfl, dieTurnOff_refused hpos hlt hdie hon hbusy]
  exact ⟨hrej, (Laws.fire_of _ _ _ _).trans ((Laws.wr_of _ _ _ _ _ _ (by decide)).trans hon), hfire⟩

theorem dieOff_result {w : Wr} (hpriv : privileged w = true) (hon : s.dieOf Pwr.DIE_CTL.ON d = true)
    (hquiet : s.quiescent d = true) (hidle : s.dieOf Pwr.DIE_STAT.BUSY d = false) :
    gives (exec (.dieOff w d) s) (fun t => t.dieOf Pwr.DIE_CTL.ON d = false) := by
  refine ⟨_, rfl, ?_⟩
  rw [hpriv, if_pos rfl, dieTurnOff_quiet hpos hlt hdie hon hquiet hidle]
  exact (Laws.syncLinks_of _ _ _ (by decide)).trans ((Laws.dieBit_of _ _ _ _ _ _ (by decide)).trans
    (Laws.dieBit_set _ _ _ _ hlt (by decide)))

theorem dieReady_result (hup : s.pwr.held = false) (hbusy : s.dieOf Pwr.DIE_STAT.BUSY d = true)
    (hon : s.dieOf Pwr.DIE_CTL.ON d = true)
    (hfree : ¬(s.rd bistB Bist.BIST_STAT.BUSY ≠ 0 ∧ s.rd bistB Bist.BIST_STAT.DIE = d)) :
    gives (exec (.dieReady d) s) (fun t => t.dieOf Pwr.DIE_STAT.RDY d = true ∧ t.dieOf Pwr.DIE_STAT.BUSY d = false) := by
  refine ⟨_, rfl, ?_⟩
  rw [dieIsReady_turnedOn hpos hdie hup hbusy hon hfree]
  refine ⟨?_, ?_⟩ <;> rw [Laws.syncLinks_of _ _ _ (by decide)]
  · rw [Laws.dieBit_of _ _ _ _ _ _ (by decide), Laws.dieBit_of _ _ _ _ _ _ (by decide)]
    exact Laws.dieBit_set _ _ _ _ hlt (by decide)
  · exact Laws.dieBit_set _ _ _ _ hlt (by decide)

end

/-- K-die 0 is always on: no command turns it on or off. -/
theorem dieTurnOn_zero (s : State) : s.dieTurnOn 0 = s := rfl
theorem dieTurnOff_zero (s : State) : s.dieTurnOff 0 = s := rfl
theorem dieIsReady_zero (s : State) : s.dieIsReady 0 = s := if_pos (by simp)

theorem dieOn_frame (w : Wr) (d : Nat) (s : State) : gives (exec (.dieOn w d) s) (fun t =>
    t.mem = s.mem ∧ (d = 0 → privileged w = true → t.regs = s.regs)) := by
  refine ⟨_, rfl, LawEngines.exec_mem (i := .dieOn w d) rfl rfl, fun hzero hpriv => ?_⟩
  rw [hpriv, hzero]
  exact DmaChannels.retire_regs_unchanged w _ (dieTurnOn_zero s)

theorem dieOff_frame (w : Wr) (d : Nat) (s : State) : gives (exec (.dieOff w d) s) (fun t =>
    t.fixed = s.fixed ∧ (d = 0 → privileged w = true → t.regs = s.regs)) := by
  obtain ⟨hfixed, -⟩ := fol_fixed s _ (Scope.exec_fols (.dieOff w d) s _ rfl)
  refine ⟨_, rfl, hfixed, fun hzero hpriv => ?_⟩
  rw [hpriv, hzero]
  exact DmaChannels.retire_regs_unchanged w _ (dieTurnOff_zero s)

theorem dieReady_frame (d : Nat) (s : State) : gives (exec (.dieReady d) s) (fun t => t.fixed = s.fixed ∧ (d = 0 → t = s)) := by
  obtain ⟨hfixed, -⟩ := fol_fixed s _ (Scope.exec_fols (.dieReady d) s _ rfl)
  refine ⟨_, rfl, hfixed, ?_⟩
  rintro rfl
  exact dieIsReady_zero s

/-! ## Self-test (R469) -/

/-- A test is refused while another runs, and of a die that is not there to be tested. -/
theorem bistStart_refused {s : State} (hwhy : s.rd bistB Bist.BIST_STAT.BUSY ≠ 0 ∨ s.rd bistB Bist.BIST_CTL.DIE = 0 ∨
    s.quiescent (s.rd bistB Bist.BIST_CTL.DIE) = false) : s.bistStart = (s.wr bistB Bist.BIST_STAT.REJ 1).fire 0x1CE := by
  refine if_pos ?_
  rcases hwhy with hbusy | hzero | hactive
  · rw [(Laws.on_iff _ _ _).2 hbusy]
    rfl
  · simp [hzero]
  · simp [hactive]

theorem dieBistStart_refused {w : Wr} {s : State} (hwhy : s.rd bistB Bist.BIST_STAT.BUSY ≠ 0 ∨
    s.rd bistB Bist.BIST_CTL.DIE = 0 ∨ s.quiescent (s.rd bistB Bist.BIST_CTL.DIE) = false) :
    gives (exec (.dieBistStart w) s) (fun t => t.rd bistB Bist.BIST_STAT.REJ = 1 ∧ s.fires t 0x1CE ∧
      t.rd bistB Bist.BIST_STAT.BUSY = s.rd bistB Bist.BIST_STAT.BUSY) := by
  refine ⟨_, rfl, ?_⟩
  rw [bistStart_refused hwhy]
  refine ⟨?_, fires_of _ (Laws.wr_canFire _ _ _ _ _ (by decide) (by decide)), ?_⟩
  · rw [rd_retire, rd_fire, rd_wr_same _ _ _ _ (by decide)]
    rfl
  · rw [rd_retire, rd_fire, CellLink.rd_wr_other _ _ _ _ _ (by decide)]

theorem dieBistStart_fixed (w : Wr) (s : State) : gives (exec (.dieBistStart w) s) (fun t => t.fixed = s.fixed) := by
  obtain ⟨hfixed, -⟩ := fol_fixed s _ (Scope.exec_fols (.dieBistStart w) s _ rfl)
  exact ⟨_, rfl, hfixed⟩

/-- What the end of a test leaves before it is judged: the signature, its time, and BUSY clear. -/
def bistEnded (s : State) (misr : BitVec 64) (us : Nat) : State :=
  (((s.wr bistB Bist.BIST_SIG.SIG (misr.toNat % 2 ^ 32)).wr bistB (Bist.BIST_SIG.SIG.at 1) (misr.toNat / 2 ^ 32)).wr bistB
    Bist.BIST_TIME.US us).wr bistB Bist.BIST_STAT.BUSY 0

/-- What a failed test leaves: FAIL, and the die off. -/
def bistFailed (s : State) (d : Nat) : State :=
  ((((s.wr bistB Bist.BIST_STAT.FAIL 1).dieBit Pwr.DIE_CTL.ON d false).dieBit Pwr.DIE_STAT.BUSY d false).dieBit
    Pwr.DIE_STAT.LOCK d false).syncLinks.fire 0x1CA

theorem bistDone_running {s : State} (misr golden : BitVec 64) (us : Nat) (hbusy : s.rd bistB Bist.BIST_STAT.BUSY ≠ 0) :
    s.bistDone misr golden us = if misr = golden then (bistEnded s misr us).wr bistB Bist.BIST_STAT.PASS 1
      else bistFailed (bistEnded s misr us) (s.rd bistB Bist.BIST_STAT.DIE) :=
  if_neg (by rw [(Laws.on_iff _ _ _).2 hbusy]; decide)

theorem bistEnded_shown (s : State) (misr : BitVec 64) (us : Nat) : (bistEnded s misr us).rd bistB Bist.BIST_STAT.BUSY = 0 ∧
    (bistEnded s misr us).rd bistB Bist.BIST_SIG.SIG = misr.toNat % 2 ^ 32 := by
  unfold bistEnded
  refine ⟨rd_wr_same _ _ _ _ (by decide), ?_⟩
  simp (disch := decide) only [rd_wr_ne, rd_wr_same]
  exact Nat.mod_mod _ _

theorem bistFailed_rd (s : State) (d : Nat) (f : Fld) (hoff : f.off < 0x1000) (hlsb : f.lsb < 32) :
    (bistFailed s d).rd bistB f = (s.wr bistB Bist.BIST_STAT.FAIL 1).rd bistB f := by
  have hkey : ∀ (g : Fld) (b : Nat), b + g.off + 1 ≤ bistB ∨ bistB + 0x1000 ≤ b + g.off → g.lsb < 32 → f.key bistB ≠ g.key b :=
    fun g b hg hgl => by
      unfold Fld.key
      omega
  unfold bistFailed
  rw [rd_fire, Laws.syncLinks_rd _ _ _ (hkey _ _ (by decide) (by decide)),
    Laws.dieBit_rd _ _ _ _ _ _ (hkey _ _ (by decide) (by decide)),
    Laws.dieBit_rd _ _ _ _ _ _ (hkey _ _ (by decide) (by decide)), Laws.dieBit_rd _ _ _ _ _ _ (hkey _ _ (by decide) (by decide))]

theorem bistEnded_pwr (s : State) (misr : BitVec 64) (us : Nat) : (bistEnded s misr us).pwr = s.pwr := by
  unfold bistEnded
  simp only [wr_pwr]

theorem bistFailed_fires {s u : State} (d : Nat) (hpwr : u.pwr = s.pwr) : s.fires (bistFailed u d) 0x1CA := by
  refine fires_of _ (Laws.canFire_1CA ?_)
  unfold syncLinks dieBit
  simp only [wr_pwr, hpwr]

theorem dieBistDone_result (misr golden : BitVec 64) (us : Nat) (s : State) :
    gives (exec (.dieBistDone misr golden us) s) (fun t => t.mem = s.mem ∧
      (s.rd bistB Bist.BIST_STAT.BUSY = 0 → t = s) ∧
      (s.rd bistB Bist.BIST_STAT.BUSY ≠ 0 → t.rd bistB Bist.BIST_STAT.BUSY = 0 ∧
        t.rd bistB Bist.BIST_SIG.SIG = misr.toNat % 2 ^ 32 ∧ (misr = golden → t.rd bistB Bist.BIST_STAT.PASS = 1) ∧
        (misr ≠ golden → t.rd bistB Bist.BIST_STAT.FAIL = 1 ∧ s.fires t 0x1CA))) := by
  refine ⟨_, rfl, LawEngines.exec_mem (i := .dieBistDone misr golden us) rfl rfl,
    fun hidle => if_pos (by rw [Laws.on_false hidle]; rfl), fun hbusy => ?_⟩
  obtain ⟨hend, hsig⟩ := bistEnded_shown s misr us
  rw [bistDone_running misr golden us hbusy]
  by_cases hpass : misr = golden
  · rw [if_pos hpass]
    refine ⟨(CellLink.rd_wr_other _ _ _ _ _ (by decide)).trans hend, (CellLink.rd_wr_other _ _ _ _ _ (by decide)).trans hsig,
      fun _ => rd_wr_same _ _ _ _ (by decide), fun hfail => absurd hpass hfail⟩
  · rw [if_neg hpass, bistFailed_rd _ _ _ (by decide) (by decide), bistFailed_rd _ _ _ (by decide) (by decide),
      bistFailed_rd _ _ _ (by decide) (by decide), bistFailed_rd _ _ _ (by decide) (by decide)]
    refine ⟨(CellLink.rd_wr_other _ _ _ _ _ (by decide)).trans hend, (CellLink.rd_wr_other _ _ _ _ _ (by decide)).trans hsig,
      fun heq => absurd heq hpass, fun _ => ⟨rd_wr_same _ _ _ _ (by decide), bistFailed_fires _ (bistEnded_pwr s misr us)⟩⟩

/-! ## Temperatures (R471) -/

theorem tempJudge_rd (s : State) (d : Nat) (t : Int) (lim src : Nat) (told : List Nat) (b : Nat) (f : Fld) :
    (s.tempJudge d t lim src told).2.rd b f = s.rd b f := by
  unfold tempJudge
  split
  case isTrue => exact rd_fire _ _ _ _
  case isFalse => split <;> rfl

theorem tempJudge_detect (s : State) (d : Nat) (t : Int) (lim src : Nat) (told : List Nat) :
    ∀ n ∈ s.fc.detect, n ∈ (s.tempJudge d t lim src told).2.fc.detect := by
  intro n hn
  unfold tempJudge
  split
  case isTrue => exact Laws.fire_fc _ _ _ hn
  case isFalse => split <;> exact hn

/-- Above its limit, a die that has not been told of is reported. -/
theorem tempJudge_fires {s : State} {d : Nat} {t : Int} {lim : Nat} (src : Nat) {told : List Nat} (hhot : (4 * lim : Int) < t)
    (hnew : d ∉ told) : s.fires (s.tempJudge d t lim src told).2 src := by
  unfold tempJudge
  rw [if_pos (by simp [hhot, hnew])]
  exact fires_of _ rfl

/-- The temperature a die reports is shown. -/
def tempShown (s : State) (d : Nat) (t : Int) : State :=
  (s.wr pwrB (Pwr.DIE_TEMP.T.at d) (ofSigned t 16)).wr pwrB (Pwr.DIE_TEMP.VALID.at d) 1

theorem dieTempUpdate_result (temps : List Int) (s : State) : gives (exec (.dieTempUpdate temps) s) (fun t =>
    t.mem = s.mem ∧ (temps = [] → t = s)) := by
  refine ⟨_, rfl, LawEngines.exec_mem (i := .dieTempUpdate temps) rfl rfl, ?_⟩
  rintro rfl
  rfl

theorem dieTemp_shown {s : State} (x : Int) (hup : s.dieUp 0 = true) :
    (s.dieTemp 0 x).rd pwrB (Pwr.DIE_TEMP.T.at 0) = ofSigned x 16 ∧ (s.dieTemp 0 x).rd pwrB (Pwr.DIE_TEMP.VALID.at 0) = 1 := by
  unfold dieTemp
  rw [if_neg (by rw [hup]; decide)]
  dsimp only
  refine ⟨?_, ?_⟩ <;> rw [Laws.rd_modPwr', tempJudge_rd, tempJudge_rd]
  · rw [CellLink.rd_wr_other _ _ _ _ _ (by decide), rd_wr_same _ _ _ _ (by decide)]
    exact Laws.ofSigned_lt x 16
  · rw [rd_wr_same _ _ _ _ (by decide)]
    rfl

theorem dieTemp_warns {s : State} {x : Int} (hup : s.dieUp 0 = true) (hwarm : 4 * (s.rd pwrB Pwr.TEMP_CTL.TWARN : Int) < x)
    (hnew : 0 ∉ s.pwr.warm) : s.fires (s.dieTemp 0 x) 0x1C6 := by
  have hlim : (tempShown s 0 x).rd pwrB Pwr.TEMP_CTL.TWARN = s.rd pwrB Pwr.TEMP_CTL.TWARN := by
    unfold tempShown
    simp (disch := decide) only [rd_wr_ne]
  have hcan : (tempShown s 0 x).canFire 0x1C6 = s.canFire 0x1C6 := by
    unfold tempShown
    simp (disch := decide) only [Laws.wr_canFire]
  have hfire : (tempShown s 0 x).fires ((tempShown s 0 x).tempJudge 0 x ((tempShown s 0 x).rd pwrB Pwr.TEMP_CTL.TWARN) 0x1C6
      (tempShown s 0 x).pwr.warm).2 0x1C6 := tempJudge_fires 0x1C6 (by rw [hlim]; exact hwarm) hnew
  unfold dieTemp
  rw [if_neg (by rw [hup]; decide)]
  exact fun hc => tempJudge_detect _ _ _ _ _ _ _ (hfire (hcan.trans hc))

theorem dieTempUpdate_one {s : State} (x : Int) (hup : s.dieUp 0 = true) : gives (exec (.dieTempUpdate [x]) s) (fun t =>
    t.rd pwrB (Pwr.DIE_TEMP.T.at 0) = ofSigned x 16 ∧ t.rd pwrB (Pwr.DIE_TEMP.VALID.at 0) = 1 ∧
    (4 * (s.rd pwrB Pwr.TEMP_CTL.TWARN : Int) < x → 0 ∉ s.pwr.warm → s.fires t 0x1C6)) := by
  obtain ⟨htemp, hvalid⟩ := dieTemp_shown x hup
  exact ⟨_, rfl, htemp, hvalid, dieTemp_warns hup⟩

/-- Settles O47: command by command, the chip resets first. -/
theorem powerRows : Obligations.PowerRows := by
  unfold Obligations.PowerRows
  intro w s
  exact ⟨porstAssert_result s, fun p => porstRelease_result p s, chipRst_keyed, chipRst_unkeyed s, internalResetEnd_result s,
    fun l => bootBist_result l s, ⟨_, rfl, rfl, rfl, rfl⟩, ⟨_, rfl, rfl, rfl, rfl⟩, railFault_result s, refclkLoss_result s,
    fun _ ha => ⟨pllUnlock_adie ha s, adiePllRelock_result ha s⟩, pllUnlock_kdie s, xtalStop_result s,
    pwrfailRecognised_result s, pwrfailRise_result s,
    fun _ hpos hlt hdie => ⟨dieOn_result hpos hlt hdie, dieOff_refused hpos hlt hdie, dieOff_result hpos hlt hdie,
      dieReady_result hpos hlt hdie⟩,
    fun d => ⟨dieOn_frame w d s, dieOff_frame w d s, dieReady_frame d s⟩,
    dieBistStart_refused, dieBistStart_fixed w s, fun x y us => dieBistDone_result x y us s,
    fun l => dieTempUpdate_result l s, dieTempUpdate_one, ⟨_, rfl, rfl⟩, ⟨_, rfl, rfl⟩⟩

end Sys2Proof.PowerUnit
end
